-- ==== Sys2Proof/Word.lean ====
section
/-!
DEFINITION. The octet and the octet string: the units in which every register, object value, message and frame of the
FL96 is held in this model (R6, R66 of spec/00_scope.md and spec/04_object_dictionary.md).
-/

namespace Sys2Proof

/-- One octet. -/
abbrev Byte := BitVec 8

/-- An octet string, first octet first. -/
abbrev Octets := List Byte

/-- `n` zero octets. -/
abbrev zeros (n : Nat) : Octets := List.replicate n 0

end Sys2Proof
end

