-- ==== Sys2Proof/Syntax.lean ====
section
/-!
DEFINITION. The commands the block takes: one constructor of `Instr` per row of spec/opcode_table.json, with the operands
the rules of spec/ give each, and the types of those operands.
-/

namespace Sys2Proof

/-- An object address, the ADDR of Table 04-8: INDEX, SUBINDEX and ROW (R64). -/
structure Addr where
  idx : Nat
  sub : Nat
  row : Nat
  deriving DecidableEq, Repr

/-- What stands round the body of one ODAP request (Table 04-7): the session it arrives in, the length of the whole
message in octets, the header's VERSION, FLAGS, REQUEST_ID, TXN_ID and BODY_LEN, whether the server's input queue was
full when it arrived (R82), how many requests of the session were outstanding before it (Table 04-10, row 2), and for a
BLOCK_SEG how many segments of its transfer were (row 6). -/
structure OdapReq where
  session : Nat
  len : Nat
  version : Nat := 1
  flags : Nat := 0
  rid : Nat
  txn : Nat := 0
  bodyLen : Nat
  queueFull : Bool := false
  outstanding : Nat := 0
  segsOut : Nat := 0
  deriving DecidableEq, Repr

/-- What a DTLS 1.3 ClientHello offers (R75), with the transport it arrives on (Table 04-5: 0 field network,
1 service UART), the UDP port it is sent to and the Ethernet port it comes by on the field network, its PSK identity, and the environment's verdict on the PSK binder, which Gesso checks by handle. -/
structure ClientHello where
  transport : Nat
  port : Nat := 61020
  eth : Nat := 0
  /-- Ethernet and IPv6 address and UDP port of the client. -/
  mac : Nat := 0
  ip : Nat := 0
  udp : Nat := 0
  dtls13 : Bool := true
  pskDheKe : Bool := true
  x25519 : Bool := true
  secp256r1 : Bool := true
  aes128gcm : Bool := true
  aes256gcm : Bool := true
  identity : Octets
  binderOk : Bool := true
  deriving DecidableEq, Repr

/-- The ASN epoch record of Table 05-5, as a write carries it. -/
structure Epoch where
  asn0 : Nat := 0
  secs : Nat := 0
  nanos : Nat := 0
  code : Nat := 0
  deriving DecidableEq, Repr

/-- One aerial's correlator at one sample (R159): the last N channel samples, oldest first, and the template of the preamble as modulated in
the same order, of unit magnitude 2^14, which IEEE 802.15.4 gives (log entry 159). -/
structure Corr where
  samples : List (Int × Int)
  template : List (Int × Int)
  deriving DecidableEq, Repr

/-- An IPv6 packet as far as the FL96 reads it (R304 to R307): addresses as numbers of 128 bits, traffic class, flow label, next header, hop
limit, UDP ports and checksum where next header is 17, and the payload after those headers. -/
structure Packet where
  src : Nat := 0
  dst : Nat := 0
  tclass : Nat := 0
  flow : Nat := 0
  nextHeader : Nat := 59
  hopLimit : Nat := 64
  srcPort : Nat := 0
  dstPort : Nat := 0
  checksum : Nat := 0
  payload : Octets := []
  /-- Whether the octets are a packet that the fast path reads; of others `payload` holds them all. -/
  wellFormed : Bool := true
  deriving DecidableEq, Repr

/-- What a search sees of a preamble (R160): the correlators of aerials A and B, and when, in ns from the slot's start. -/
structure PreambleSeen where
  a : Corr
  b : Corr
  offsetNs : Nat
  deriving DecidableEq, Repr

/-- The correlators of aerials A and B at each sample of a hold, from the one after the detection on (R161). -/
structure HoldSeen where
  hold : List (Corr × Corr)
  deriving DecidableEq, Repr

/-- What an engine sees of a hunt span (R163): the kept aerial's correlator at each bit position, and the mean powers of aerials A and B since
the last event. -/
structure HuntSeen where
  eng : Nat
  span : List Corr
  powers : List (Int × Int) := []
  deriving DecidableEq, Repr

/-- What a watch correlator sees of a second frame (R167): either aerial's correlator at its detection and when that is, the hold that
follows sample by sample, and whether both O-QPSK symbols correlate. -/
structure WatchSeen where
  a : Corr
  b : Corr
  detNs : Nat
  hold : List (Corr × Corr)
  oqpskOk : Bool := true
  deriving DecidableEq, Repr

/-- What an engine measured of a reception (R169, R170): mean power over the SFD after the digital gain, dBFS Q8; mean symbol energy to
decision error power over the PSDU, dB Q8; and the mean carrier offset in Hz. -/
structure RxMeas where
  power : Int := 0
  snr : Int := 0
  offset : Int := 0
  deriving DecidableEq, Repr

/-- What an abandoned reception leaves (R171): what the engine measured of it so far, and its soft values. -/
structure SoftSeen where
  meas : RxMeas := {}
  soft : List Int := []
  deriving DecidableEq, Repr

/-- The outcome of a calibration item (R142, R189): whether its result lies within the limits that the part sets, and of an FB_CAL the coupled
level at the feedback input with a composite at COMPOSITE_MAX, dBm Q8. -/
structure ItemSeen where
  ok : Bool := true
  level : Int := -5120
  deriving DecidableEq, Repr

/-- A received sample of a bin and the bin's feedback sample of the same instant (R172), real and imaginary parts. -/
structure KnifeSample where
  y : Int × Int
  f : Int × Int
  deriving DecidableEq, Repr

/-- One frame as an engine hands it to the MAC path (R168): the report's RSSI, FOFF and LQ (which FRAME_END computes, and a GLAZE_FRAME
carries), and its PSDU as received, the FCS included. What the CCM* cipher makes of it is the environment's (R373, log entry 6): the key and the
nonce under which it was sealed, whether its octets are as they were sealed, and the body that opens. -/
structure RxFrame where
  rssi : Int := 0
  foff : Int := 0
  lq : Nat := 0
  psdu : Octets := []
  sealKey : Octets := []
  sealNonce : Octets := []
  intact : Bool := true
  body : Octets := []
  /-- Soft values of a reception that kept them (R171), one per coded bit, -127 to 127. -/
  soft : List Int := []
  deriving DecidableEq, Repr

/-- A reception at its end: what the engine measured of it, and the frame. -/
structure Reception where
  meas : RxMeas := {}
  frame : RxFrame := {}
  deriving DecidableEq, Repr

/-- What a 1 ms block brings of its bins (R166, R172): their mean powers where nothing is transmitted, and their samples with the feedback
where the band transmits. -/
structure BlockSeen where
  powers : List (Nat × Int) := []
  knife : List (Nat × List KnifeSample) := []
  deriving DecidableEq, Repr

/-- One IEEE 1588 message as received (R102): `unsupported` says that it needs an option Table 05-3 does not support;
`origin` is the time it carries and `corr` its correction, in 2^-16 ns; `jitter` is the error of the stamp in ns, within 4
(R104); `forUs` that a response names this port; `ds` what an Announce says of its sender. -/
structure PtpMsg where
  port : Nat
  transport : Nat := 0
  sdoId : Nat := 0
  domain : Nat := 0
  seq : Nat := 0
  unsupported : Bool := false
  origin : Int := 0
  corr : Int := 0
  twoStep : Bool := false
  jitter : Int := 0
  forUs : Bool := true
  source : Nat := 0
  priority1 : Nat := 128
  clockClass : Nat := 248
  accuracy : Nat := 254
  variance : Nat := 65535
  priority2 : Nat := 128
  identity : Nat := 0
  steps : Nat := 0
  deriving DecidableEq, Repr


/-- A request that a peer carries (R355, Table 04-8): its opcode, with the operands its body holds. -/
inductive PeerOp
  | read (a : Addr)
  | write (a : Addr) (ty : Nat) (v : Octets)
  | blockStart (a : Addr) (dir size : Nat)
  | blockSeg (block seg : Nat) (data : Octets)
  | blockEnd (block : Nat) (authOk : Bool)
  | blockAbort (block : Nat)
  | txnBegin
  | txnCommit (authOk : Bool)
  | txnAbort
  | subscribe (kind periodMs minGapMs evtLo evtHi : Nat) (a : Addr)
  | unsubscribe (sub : Nat)
  | notifyAck (sub seq : Nat)
  deriving DecidableEq, Repr

/-- The envelope of a Hedgerow message (Table 14-1), whether LEN agrees with the datagram, the environment's verdict on the GCM
tag, the Ethernet port and source address it came by, and the encrypted body and tag, which a forwarder passes on. -/
structure Env where
  version : Nat := 1
  hops : Nat := 15
  keyId : Nat := 0
  domain : Nat := 0
  src : Nat
  dst : Nat := 0xFFFF
  region : Nat := 0xFFFF
  epoch : Nat := 0
  unit : Octets
  seq : Nat
  lenOk : Bool := true
  tagOk : Bool := true
  port : Nat := 0
  mac : Nat := 0
  sealed : Octets := []
  deriving DecidableEq, Repr

/-- A HEARTBEAT body (Table 14-3), with the round trip the exchange measured in units of 100 us (Table 14-4). -/
structure Heartbeat where
  mode : Nat
  flags : Nat
  lsaSeq : Nat := 0
  held : List (Nat × Nat) := []
  adj : List Nat := []
  suspects : List Nat := []
  rtt : Nat := 1
  deriving DecidableEq, Repr

/-- An LSA body (Table 14-4). -/
structure LsaBody where
  origin : Nat
  serial : Octets
  seq : Nat
  variant : Octets := []
  stepping : Nat := 0
  mode : Nat := 0
  flags : Nat := 0
  ipv6 : Nat := 0
  held : List (Nat × Nat) := []
  adj : List (Nat × Nat) := []
  suspects : List Nat := []
  cand : List Nat := []
  spares : List Nat := []
  takeoverS : Nat := 0
  isolateS : Nat := 0
  deriving DecidableEq, Repr

/-- A TAKEOVER or HANDOVER body (Table 14-5). -/
structure MoveBody where
  region : Nat
  newEpoch : Nat
  newHolder : Octets
  eff : Nat
  mode : Nat
  digest : Octets := []
  deriving DecidableEq, Repr

/-- A node record of a MIRROR_DELTA (Table 14-6). -/
structure DeltaNode where
  node : Nat
  st : Nat
  flags : Nat := 0
  lastSeq : Nat := 0
  dlSeq : Nat := 0
  dlAcked : Nat := 0
  highFc : Nat := 0
  joinFc : Nat := 0
  outFc : Nat := 0
  lastRx : Nat := 0
  syncAsn : Nat := 0
  res : Nat := 0
  deriving DecidableEq, Repr

/-- A MIRROR_DELTA body. -/
structure DeltaBody where
  sf : Nat
  mode : Nat
  final : Bool := false
  beaconFc : List Nat := [0, 0, 0, 0]
  recs : List DeltaNode := []
  gackTail : List (Nat × Nat) := []
  deriving DecidableEq, Repr

/-- One part of a GLAZE_LIST (Tables 11-1, 11-2): its entries as OFFSET, CHANNEL, PROFILE and W. -/
structure ListPart where
  sf : Nat
  epoch : Epoch
  retain : Nat
  part : Nat := 0
  parts : Nat := 1
  base : Nat := 0
  profiles : List Octets := []
  entries : List (Nat × Nat × Nat × Nat) := []
  deriving DecidableEq, Repr

/-- A GLAZE_FRAME body (Table 11-3), with what the cipher makes of its PSDU. -/
structure GlazeFrame where
  asn : Nat
  entry : Nat
  stamp : Nat := 0
  rssi : Int := 0
  lq : Nat := 0
  aerialB : Bool := false
  psdu : Octets := []
  rx : RxFrame := {}
  deriving DecidableEq, Repr

/-- One Ethernet frame at a port: `kind` is 0 other, 1 IPv6, 2 IEEE 1588 on IEEE 802.3, 3 IEEE 1588 over UDP, 4 flow control;
`tci` the tag of IEEE 802.1Q; `len` counts from the destination address to the FCS; `joined` that the unit has joined the
multicast group. -/
structure EthFrame where
  dst : Nat
  src : Nat
  tci : Option Nat := none
  kind : Nat := 1
  packet : Packet := {}
  len : Nat := 64
  fcsOk : Bool := true
  joined : Bool := false
  deriving DecidableEq, Repr

/-- A Gesso service request as its three words carry it (Table 16-1). Callers carry the mailbox codes of R441. -/
structure GessoReq where
  caller : Nat
  tag : Nat := 0
  handle : Nat := 0xFFFF
  inOff : Nat := 0
  inLen : Nat := 0
  outOff : Nat := 0
  outCap : Nat := 0
  deriving DecidableEq, Repr

/-- What the boot ROM's cryptography finds of one bank: whether the signature of its manifest verifies under SIGNER. -/
structure BankVerdict where
  sigOk : Bool := false
  deriving DecidableEq, Repr

/-- The commands, in the order of spec/opcode_table.json. Verdicts of cryptographic and physical checks that the model does not
compute are operands (assumption log entry 6). -/
inductive Instr
  -- ODAP (spec/04)
  | read (q : OdapReq) (a : Addr)
  | write (q : OdapReq) (a : Addr) (ty : Nat) (v : Octets)
  | blockStart (q : OdapReq) (a : Addr) (dir size : Nat)
  | blockSeg (q : OdapReq) (block seg : Nat) (data : Octets)
  | blockEnd (q : OdapReq) (block : Nat) (authOk : Bool)
  | blockAbort (q : OdapReq) (block : Nat)
  | txnBegin (q : OdapReq)
  | txnCommit (q : OdapReq) (authOk : Bool)
  | txnAbort (q : OdapReq)
  | subscribe (q : OdapReq) (kind periodMs minGapMs evtLo evtHi : Nat) (a : Addr)
  | unsubscribe (q : OdapReq) (sub : Nat)
  | notifyAck (q : OdapReq) (sub seq : Nat)
  | odapRuntMessage (session len : Nat)
  | dtlsHandshake (hello : ClientHello)
  | subscriptionPeriodTimer (sub : Nat)
  | subscriptionGapExpiry (sub : Nat)
  | notifyRetransmitTimer (sub : Nat)
  | sessionIdleExpiry (session : Nat)
  | txnIdleExpiry (txn : Nat)
  | blockIdleExpiry (session block : Nat)
  | replayCacheExpiry (session rid : Nat)
  -- operating modes (spec/02)
  | modeRequestWrite (q : OdapReq) (target : Nat)
  | modeChangeCancel (q : OdapReq)
  | modeChangeEffective
  | modeChangeAbandon
  | endOfServiceComplete
  | m1PowerDown
  | rebootWrite (q : OdapReq) (value : Nat)
  | rebootAssert
  -- timebase (spec/05)
  | stepApplyRequest (q : OdapReq)
  | stepApplyAbort (q : OdapReq)
  | clockStepApply
  | timeSetWrite (q : OdapReq) (seconds : Nat)
  | timeSourceWrite (q : OdapReq) (source : Nat)
  | asnEpochWrite (q : OdapReq) (epoch : Epoch)
  -- object writes with rows of their own (spec/06 to spec/19)
  | chMapWrite (q : OdapReq) (pan : Nat) (map : Octets)
  | mapChangeEffective (pan : Nat)
  | nodeRegWrite (q : OdapReq) (row : Nat) (reg : Octets)
  | nodeDeregister (q : OdapReq) (row : Nat)
  | nodeRejoinWrite (q : OdapReq) (node : Nat)
  | keyDestroyWrite (q : OdapReq) (handle : Nat)
  | fwActivateMark (q : OdapReq)
  | fwActivateReset (q : OdapReq)
  | fwActivateCancel (q : OdapReq)
  | fwConfirm (q : OdapReq)
  | fwReject (q : OdapReq)
  | fwTrialTimer
  | attestChallengeWrite (q : OdapReq) (challenge : Octets)
  | calibRequestWrite (q : OdapReq) (item target : Nat)
  | calibRequestForce (q : OdapReq) (item target : Nat)
  | calibCancelWrite (q : OdapReq) (row : Nat)
  | recoverRequestWrite (q : OdapReq) (fn inst step : Nat)
  | recoverRequestAssert
  | recoveryReleaseWrite (q : OdapReq)
  | feedSwitchWrite (q : OdapReq) (train : Nat)
  | feedClearWrite (q : OdapReq) (train : Nat)
  | tamperCfgWrite (q : OdapReq) (input : Nat) (cfg : Octets)
  | tamperClearWrite (q : OdapReq)
  | hrHandoverWrite (q : OdapReq) (region : Nat)
  | hrHandoverCancel (q : OdapReq)
  | captureCfgWrite (q : OdapReq) (cfg : Octets)
  | captureStart
  | captureStop
  | sgCentreWrite (q : OdapReq) (tx : Bool) (hz : Nat)
  | gateListSwitch (port : Nat)
  | dlProfileWrite (q : OdapReq) (row : Nat) (rec : Octets)
  | nodeDlProfileWrite (q : OdapReq) (node profile : Nat)
  | meterWrite (q : OdapReq) (row : Nat) (rec : Octets)
  | shaperWrite (q : OdapReq) (row : Nat) (rec : Octets)
  | dwellRuleWrite (q : OdapReq) (row : Nat) (rec : Octets)
  | staticTableWrite (q : OdapReq) (ip6 : Bool) (row : Nat) (rec : Octets)
  -- Easel and Palette (spec/01, spec/07, spec/09)
  | slotStart
  | preparationWindowOpen (prepUs : Nat) (overrun : Bool) (bad : List Nat)
  | easelOverrunLimit
  | receiveWindowOpen (eng : Nat)
  | preambleDetect (eng : Nat) (seen : PreambleSeen) (powers : List (Int × Int))
  | aerialHoldEnd (eng : Nat) (hold : HoldSeen) (powers : List (Int × Int))
  | sfdFound (eng bits : Nat) (oqpskOk : Bool) (offsetNs : Nat) (powers : List (Int × Int))
  | huntSpanEnd (hunt : HuntSeen)
  | phrDecoded (eng len : Nat) (modeSwitch fcs2 : Bool) (soft : SoftSeen)
  | fadeAbandon (eng : Nat) (powers : List Int) (soft : SoftSeen)
  | watchTakeover (eng : Nat) (w : WatchSeen) (bits offsetNs : Nat) (powers : List (Int × Int))
  | frameEnd (eng : Nat) (r : Reception)
  | receiveWindowClose (eng : Nat)
  | engineSelfTestComplete (eng : Nat) (pass : Bool)
  | engineInternalFault (eng : Nat)
  | measurementBlockEnd (path : Nat) (peak : Int) (clipped : Bool) (block : BlockSeen)
  | carrierRampStart (idx : Nat)
  | burstEnd (idx : Nat)
  | synthLockLoss (syn : Nat)
  | synthRelockAttemptEnd (syn : Nat) (locked : Bool)
  | calItemComplete (item path : Nat) (seen : ItemSeen)
  | dpdUpdate (set : Nat) (err : Int) (re im : List Int)
  | dwellBucketAdvance
  | ccmLaneFrame (lane : Nat)
  | uplinkRelease (node : Nat)
  | wakeFollowupMissed (node : Nat)
  | joinDirectiveExpiry (node : Nat)
  | nodeSupervisionExpiry (node : Nat)
  | quarantineEnd (node : Nat)
  -- IEEE 1588, PPS and the clock (spec/05)
  | sync (m : PtpMsg)
  | followUp (m : PtpMsg)
  | delayReq (m : PtpMsg)
  | delayResp (m : PtpMsg)
  | announce (m : PtpMsg)
  | pdelayReq (m : PtpMsg)
  | pdelayResp (m : PtpMsg)
  | pdelayRespFollowUp (m : PtpMsg)
  | ptpMessageTimer (port kind : Nat)
  | announceReceiptTimeout (port : Nat)
  | ppsInEdge (jitter : Int)
  | ppsOutSecond
  | sourceTimeout
  -- registers, the cipher engine and mailboxes (spec/01, spec/15, spec/18)
  | registerWriteGeneric (master addr value : Nat)
  | cipherLockRead (master : Nat)
  | cipherLockRelease (master : Nat)
  | cipherKeyWrite (master handle : Nat)
  | cipherCmdStart (master cmd : Nat)
  | cipherCmdAbort (master : Nat)
  | cipherCommandComplete (authOk : Bool)
  | cipherLockIdleExpiry
  | mailboxPush (snd rcv : Nat) (wide : Bool) (value : Nat)
  | mailboxPushEnd (snd rcv : Nat) (wide : Bool) (value : Nat)
  | dbRingWrite (snd rcv value : Nat)
  | mailboxPop (rcv snd : Nat)
  | rxLevelWrite (rcv snd value : Nat)
  | doorbellWrite (rcv : Nat) (toMask : Bool) (value : Nat)
  -- Overwinter registers (spec/19)
  | owSetWrite (master : Nat)
  | owTrimWrite (master value : Nat)
  | owFeedWrite (master value : Nat)
  | makeSealWrite (master : Nat)
  | kekNonceWrite (master : Nat) (nonce : Octets)
  | countdownArm (master ch value : Nat)
  | owClockShadowRead (master reg : Nat)
  | owShadowTimeout (master : Nat)
  -- Gesso services (spec/16)
  | gessoKeyOp (g : GessoReq) (tagOk : Bool)
  | gessoLaneBind (g : GessoReq) (pan : Nat)
  | gessoKeyProvision (g : GessoReq) (toNode : Bool) (row : Nat) (tagOk : Bool)
  | gessoSign (g : GessoReq) (pre : String) (fits : Bool)
  | gessoAttest (g : GessoReq)
  | gessoLifeCycle (g : GessoReq) (sigOk : Bool)
  | gessoFwControl (g : GessoReq) (op : Nat)
  -- Glaze (spec/11)
  | glazeListSend
  | glazeList (e : Env) (p : ListPart)
  | glazeListDeadline (owner sf : Nat)
  | glazeFrame (e : Env) (f : GlazeFrame)
  | glazeReqSend (asn : Nat)
  | glazeReq (e : Env) (asn reqSeq : Nat) (entries : List Nat)
  | glazeAns (e : Env) (asn reqSeq entry kind seg nseg : Nat) (data : Octets) (rx : RxFrame)
  | glazeReqTimeout (partner reqSeq : Nat)
  | glazeRetentionExpiry (asn : Nat)
  | glazeDecision (asn node : Nat) (decoded : Option RxFrame)
  | glazeRecordDiscard (owner asn : Nat)
  -- Hedgerow (spec/14)
  | heartbeat (e : Env) (b : Heartbeat)
  | helloTimer
  | suspectTimeout (addr : Nat)
  | isolationTimeout
  | lsa (e : Env) (b : LsaBody)
  | lsaRefreshTimer
  | lsaAgeExpiry (origin : Nat)
  | claim (e : Env) (addr epoch : Nat)
  | defend (e : Env) (addr epoch mode : Nat) (serial : Octets)
  | claimTimer
  | addressListenEnd
  | dead (e : Env) (addr epoch : Nat)
  | takeover (e : Env) (b : MoveBody)
  | fence (e : Env) (region epoch : Nat) (holder : Octets)
  | handover (e : Env) (b : MoveBody)
  | takeoverEffective
  | mirrorSnapshot (e : Env) (seg nseg : Nat) (data : Octets) (sigOk : Bool)
  | mirrorDelta (e : Env) (b : DeltaBody)
  | mirrorAck (e : Env) (region status : Nat) (digest : Octets)
  | mirrorDeltaSend
  | handoverQuiesce
  | finalDeltaSend
  | handoverEffective
  | shadowWaitExpiry (node : Nat)
  | odapReq (e : Env) (q : OdapReq) (op : PeerOp)
  | odapRsp (e : Env) (rid status : Nat) (body : Octets)
  -- Ethernet, Trellis and Riddle (spec/12, spec/13)
  | ethFrameReceived (port : Nat) (f : EthFrame)
  | egressSelect (port : Nat)
  | ethLinkChange (port : Nat) (up : Bool) (speed : Nat)
  | tableInsert (tag flags value next : Nat) (key : Octets)
  | tableDelete (tag : Nat) (key : Octets)
  | tableLookup (tag : Nat) (key : Octets) (bad : List Nat)
  | scrubBucket (poisoned : Bool)
  -- supply, boot and recovery (spec/16, spec/17, spec/19)
  | mainSupplyValid
  | uartFrameReceived (frame : Octets) (authOk overrun : Bool)
  | gpioWake (pin : Nat) (rising : Bool)
  | countdownFire (ch : Nat)
  | coldBoot (a b : BankVerdict)
  | warmResetAssert (a b : BankVerdict)
  | easelRejoin
  | canvasServiceResume
  | powerCycle
  | pwrCycleFallback
  | brownout
  | feedDeviationDecision (rail : Nat) (sense : List Nat)
  | feedGapEnd
  | standbyOutOfWindow (rail mv : Nat)
  | owSupplyChange (toVbat : Bool)
  | sealBreak
  | vbatLowCheck (mv : Nat)
  | rtcTrimCheck
  | tamperInputActive (input : Nat)
  | sensorSample (temps : List Int) (volts currents : List Nat) (pdet : List Int)
  | thermalTrip (sensor : Nat) (reading : Int)
  | domainExcursion (domain mv : Nat)
  | shedWatchdogExpiry (digestOk : Bool)
  | easelWatchdogExpiry
  | canvasCoreWatchdogExpiry (core : Nat)
  | gessoWatchdogExpiry
  | operationOverdue (fn : Nat)
  | storePoisonBurst
  | l1RetryTimer (fn inst : Nat) (ok : Bool)
  | l2Complete (fn inst : Nat)
  | logPersistTimer
  | logEntryCopy
  | cdcStaleCapture (master addr : Nat) (fixedFunction : Bool)
  | pcieReset
  | flashPageFetch (part page : Nat) (ok : Bool)
  | patchTrap (entry : Nat)
  | alignedCleared
  | tamperInputRelease (input : Nat)
  | pcieLinkUp (gen width : Nat)
  | digestRingAdvance
  | gateEntryBoundary (port : Nat)
  | shaperTokensRefilled (port cls : Nat)
  | dlQueueFromCanvas (node : Option Nat) (payload : Octets) (yellow : Bool)
  deriving DecidableEq, Repr

end Sys2Proof
end

