-- ==== Sys2Proof/Decode.lean ====
section
/-!
DEFINITION. The decoder of command words. spec/opcode_table.json gives its rows no bits: a command reaches the block as a message,
a register access or an event, and no word spells one.
-/

namespace Sys2Proof

/-- The command that a word spells by the table's bits: none, for the table gives no row any. -/
def decodeTableWord (_nbits _w : Nat) : Option Instr := none

end Sys2Proof
end

