-- ==== Sys2Proof/Config.lean ====
section
/-!
DEFINITION. The values the spec leaves open, as constants with no body: nothing can evaluate them, and a statement about them
holds whatever they are.
-/

namespace Sys2Proof.Config

/-- Free value number `n`: a value the spec does not state (a servo's output, a random draw, a measured analogue result).
The step that needs one applies this to the counter `State.free` and advances the counter (log entry 8). -/
opaque freeValue : Nat → Nat

/-- A cryptographic function the model does not compute: its name, the key's identity, and its inputs (log entry 6). -/
opaque crypto : String → Nat → List Octets → Octets

/-- The constant mu of Knife's update, in units of 2^-24, and eps, in squared sample units: fixed, and not given (R172; log entry 160). -/
opaque knifeMu : Nat
opaque knifeEps : Nat

/-- The path MTU towards a Hedgerow destination (R336). -/
opaque pathMtu : Nat → Nat

/-- How many operations the staging area of 256 KiB holds, whose records' layout the spec does not give (R219, R220; log entry 115). -/
opaque stagedLimit : Nat

end Sys2Proof.Config
end

