-- ==== Sys2Proof/Machine/OdTypes.lean ====
section
/-!
DEFINITION. The shape of one entry of the object dictionary: the attributes R65 gives an object and Table 04-4 of
spec/04_object_dictionary.md lists.
-/

namespace Sys2Proof.Machine

/-- Object types, in the order of Table 04-1. -/
inductive OdTy
  | bool | u8 | u16 | u32 | u64 | i8 | i16 | i32 | i64 | q16 | q32 | string | octets | record | array | domain
  deriving DecidableEq, Repr

/-- Persistence classes of Table 04-2 (R67). -/
inductive Persist
  | volatile | stored | sealed
  deriving DecidableEq, Repr

/-- Application points of R68; `ownRule` is CLASS 4 of Table 04-4, "stated by the owning rule". -/
inductive AppPoint
  | immediate | nextSlot | nextSuperframe | nextBoot | ownRule
  deriving DecidableEq, Repr

/-- A numeric field of an object's value with the range its own table states: offset and size in octets, whether it is
two's complement, lowest and highest accepted value. A scalar object has one such field at offset 0. -/
structure FieldSpec where
  off : Nat
  size : Nat
  signed : Bool
  lo : Int
  hi : Int
  deriving DecidableEq, Repr

/-- One object of the dictionary (R65, R73). `rd` and `wr` are the roles that may read and write it, one bit per role:
OPERATOR 1, INSTALLER 2, PEER 4, VENDOR 8, GESSO 16. `modes`, where not empty, are the only modes in which it is
written. `mask`, where not empty, clears the reserved octets of a written record (R5). -/
structure ObjDesc where
  idx : Nat
  sub : Nat
  name : String
  ty : OdTy
  size : Nat
  rd : Nat
  wr : Nat
  pers : Persist
  app : AppPoint
  qbits : Nat := 0
  table : Bool := false
  minRow : Nat := 0
  maxRow : Nat := 0
  perNode : Bool := false
  modes : List Nat := []
  fields : List FieldSpec := []
  mask : Octets := []
  dflt : Octets := []
  deriving DecidableEq, Repr

end Sys2Proof.Machine
end

