-- ==== Sys2Proof/Machine/OdTable.lean ====
section
/-!
DEFINITION. The object tables of spec/02 to spec/19 (R37, R52, R58, R94, R123, R145, R146, R181, R202, R235, and the
object tables of the later chapters), one entry per object, in ascending order of index and subindex, as R73 lists them.
-/

namespace Sys2Proof.Machine

/-- Objects 0x1000 to 0x10FF. -/
def odTable10 : List ObjDesc := [
  { idx := 0x1000, sub := 1, name := "VARIANT_CODE", ty := .string, size := 12, rd := 31, wr := 0, pers := .sealed, app := .immediate, dflt := zeros 12 },
  { idx := 0x1000, sub := 2, name := "STEPPING", ty := .u16, size := 2, rd := 31, wr := 0, pers := .sealed, app := .immediate, dflt := zeros 2 },
  { idx := 0x1000, sub := 3, name := "FUSE_MAP", ty := .u32, size := 4, rd := 31, wr := 0, pers := .sealed, app := .immediate, dflt := zeros 4 },
  { idx := 0x1000, sub := 4, name := "DEVICE_SERIAL", ty := .octets, size := 8, rd := 31, wr := 0, pers := .sealed, app := .immediate, dflt := zeros 8 },
  { idx := 0x1000, sub := 5, name := "COMPAT_LEVEL", ty := .u16, size := 2, rd := 10, wr := 10, pers := .stored, app := .nextBoot, dflt := [66, 0] },
  { idx := 0x1000, sub := 6, name := "COMPAT_SUPPORTED", ty := .array, size := 6, rd := 31, wr := 0, pers := .sealed, app := .immediate, dflt := [0, 2, 65, 1, 66, 0] },
  { idx := 0x1010, sub := 1, name := "SCHEMA", ty := .domain, size := 0, rd := 31, wr := 0, pers := .volatile, app := .immediate }]

/-- Objects 0x1100 to 0x11FF. -/
def odTable11 : List ObjDesc := [
  { idx := 0x1100, sub := 1, name := "CONFIG_EXPORT", ty := .domain, size := 0, rd := 10, wr := 0, pers := .volatile, app := .immediate },
  { idx := 0x1100, sub := 2, name := "MIRROR_EXPORT", ty := .domain, size := 0, rd := 10, wr := 0, pers := .volatile, app := .immediate, table := true, maxRow := 4095 },
  { idx := 0x1100, sub := 3, name := "CONFIG_IMPORT", ty := .domain, size := 0, rd := 0, wr := 10, pers := .volatile, app := .nextBoot },
  { idx := 0x1100, sub := 4, name := "IMPORT_STATUS", ty := .u8, size := 1, rd := 31, wr := 0, pers := .stored, app := .immediate, dflt := zeros 1 },
  { idx := 0x1100, sub := 5, name := "IMPORT_SOURCE", ty := .octets, size := 32, rd := 31, wr := 0, pers := .stored, app := .immediate, dflt := zeros 32 }]

/-- Objects 0x1200 to 0x12FF. -/
def odTable12 : List ObjDesc := [
  { idx := 0x1200, sub := 1, name := "MODE_CURRENT", ty := .u8, size := 1, rd := 31, wr := 0, pers := .volatile, app := .immediate, dflt := zeros 1 },
  { idx := 0x1200, sub := 2, name := "MODE_REQUEST", ty := .u8, size := 1, rd := 31, wr := 31, pers := .volatile, app := .ownRule, fields := [⟨0, 1, false, 0, 11⟩], dflt := zeros 1 },
  { idx := 0x1200, sub := 3, name := "MODE_LEAD", ty := .u8, size := 1, rd := 3, wr := 3, pers := .stored, app := .immediate, fields := [⟨0, 1, false, 2, 128⟩], dflt := [8] },
  { idx := 0x1200, sub := 4, name := "MODE_PENDING", ty := .u8, size := 1, rd := 31, wr := 0, pers := .volatile, app := .immediate, dflt := [255] },
  { idx := 0x1200, sub := 5, name := "MODE_EFFECTIVE_ASN", ty := .u64, size := 8, rd := 31, wr := 0, pers := .volatile, app := .immediate, dflt := zeros 8 },
  { idx := 0x1200, sub := 6, name := "BOOT_MODE", ty := .u8, size := 1, rd := 2, wr := 2, pers := .stored, app := .nextBoot, fields := [⟨0, 1, false, 3, 9⟩], dflt := [3] },
  { idx := 0x1200, sub := 7, name := "MODE_SCHEDULE_SET", ty := .u8, size := 1, rd := 3, wr := 3, pers := .stored, app := .immediate, fields := [⟨0, 1, false, 0, 3⟩], dflt := zeros 1 },
  { idx := 0x1200, sub := 8, name := "REBOOT", ty := .u8, size := 1, rd := 0, wr := 26, pers := .volatile, app := .ownRule, fields := [⟨0, 1, false, 1, 1⟩], dflt := zeros 1 }]

/-- Objects 0x2000 to 0x20FF. -/
def odTable20 : List ObjDesc := [
  { idx := 0x2000, sub := 1, name := "TIME_NOW", ty := .record, size := 12, rd := 31, wr := 0, pers := .volatile, app := .immediate, dflt := zeros 12 },
  { idx := 0x2000, sub := 2, name := "TIME_STATE", ty := .u8, size := 1, rd := 31, wr := 0, pers := .volatile, app := .immediate, dflt := zeros 1 },
  { idx := 0x2000, sub := 3, name := "TIME_FLAGS", ty := .u16, size := 2, rd := 31, wr := 0, pers := .volatile, app := .immediate, dflt := zeros 2 },
  { idx := 0x2000, sub := 4, name := "TIME_OFFSET", ty := .i64, size := 8, rd := 31, wr := 0, pers := .volatile, app := .immediate, dflt := zeros 8 },
  { idx := 0x2000, sub := 5, name := "TIME_EST_ERROR", ty := .u32, size := 4, rd := 31, wr := 0, pers := .volatile, app := .immediate, dflt := [255, 255, 255, 255] },
  { idx := 0x2000, sub := 6, name := "RATE_CORR", ty := .q32, size := 4, rd := 31, wr := 0, pers := .volatile, app := .immediate, qbits := 16, dflt := zeros 4 },
  { idx := 0x2001, sub := 1, name := "TIME_SOURCE", ty := .u8, size := 1, rd := 2, wr := 2, pers := .stored, app := .immediate, fields := [⟨0, 1, false, 0, 3⟩], dflt := zeros 1 },
  { idx := 0x2001, sub := 2, name := "STEP_THRESHOLD", ty := .u32, size := 4, rd := 3, wr := 3, pers := .stored, app := .immediate, fields := [⟨0, 4, false, 10, 1000000⟩], dflt := [0, 0, 0, 100] },
  { idx := 0x2001, sub := 3, name := "SLEW_LIMIT", ty := .u16, size := 2, rd := 2, wr := 2, pers := .stored, app := .immediate, fields := [⟨0, 2, false, 1, 500⟩], dflt := [0, 100] },
  { idx := 0x2001, sub := 4, name := "HOLDOVER_RATE", ty := .u32, size := 4, rd := 2, wr := 2, pers := .stored, app := .immediate, fields := [⟨0, 4, false, 1, 10000⟩], dflt := [0, 0, 0, 100] },
  { idx := 0x2001, sub := 5, name := "ALIGN_LIMIT", ty := .u32, size := 4, rd := 2, wr := 2, pers := .stored, app := .immediate, fields := [⟨0, 4, false, 1000, 25000⟩], dflt := [0, 0, 97, 168] },
  { idx := 0x2001, sub := 6, name := "LOCK_LIMIT", ty := .u32, size := 4, rd := 2, wr := 2, pers := .stored, app := .immediate, fields := [⟨0, 4, false, 100, 25000⟩], dflt := [0, 0, 3, 232] },
  { idx := 0x2001, sub := 7, name := "SOURCE_TIMEOUT", ty := .u16, size := 2, rd := 2, wr := 2, pers := .stored, app := .immediate, fields := [⟨0, 2, false, 500, 60000⟩], dflt := [11, 184] },
  { idx := 0x2002, sub := 1, name := "STEP_AMOUNT", ty := .i64, size := 8, rd := 31, wr := 0, pers := .volatile, app := .immediate, dflt := zeros 8 },
  { idx := 0x2002, sub := 2, name := "STEP_APPLY", ty := .u8, size := 1, rd := 0, wr := 3, pers := .volatile, app := .ownRule, fields := [⟨0, 1, false, 0, 1⟩], dflt := zeros 1 },
  { idx := 0x2002, sub := 3, name := "TIME_SET", ty := .u64, size := 8, rd := 0, wr := 2, pers := .volatile, app := .immediate, dflt := zeros 8 },
  { idx := 0x2010, sub := 1, name := "PTP_CLOCK_TYPE", ty := .u8, size := 1, rd := 2, wr := 2, pers := .stored, app := .nextBoot, fields := [⟨0, 1, false, 0, 1⟩], dflt := zeros 1 },
  { idx := 0x2010, sub := 2, name := "PTP_DOMAIN", ty := .u8, size := 1, rd := 2, wr := 2, pers := .stored, app := .nextBoot, fields := [⟨0, 1, false, 0, 127⟩], dflt := zeros 1 },
  { idx := 0x2010, sub := 3, name := "PTP_PRIORITY1", ty := .u8, size := 1, rd := 2, wr := 2, pers := .stored, app := .immediate, dflt := [128] },
  { idx := 0x2010, sub := 4, name := "PTP_PRIORITY2", ty := .u8, size := 1, rd := 2, wr := 2, pers := .stored, app := .immediate, dflt := [128] },
  { idx := 0x2010, sub := 5, name := "PTP_DELAY_MECH", ty := .u8, size := 1, rd := 2, wr := 2, pers := .stored, app := .nextBoot, fields := [⟨0, 1, false, 0, 1⟩], dflt := zeros 1 },
  { idx := 0x2010, sub := 6, name := "PTP_ONE_STEP", ty := .bool, size := 1, rd := 2, wr := 2, pers := .stored, app := .nextBoot, dflt := zeros 1 },
  { idx := 0x2010, sub := 7, name := "PTP_TRANSPORT", ty := .u8, size := 1, rd := 2, wr := 2, pers := .stored, app := .nextBoot, fields := [⟨0, 1, false, 0, 1⟩], dflt := zeros 1 },
  { idx := 0x2010, sub := 8, name := "PTP_SLAVE_ONLY", ty := .bool, size := 1, rd := 2, wr := 2, pers := .stored, app := .immediate, dflt := [1] },
  { idx := 0x2011, sub := 1, name := "PTP_PORT", ty := .record, size := 20, rd := 2, wr := 2, pers := .stored, app := .immediate, table := true, maxRow := 1, fields := [⟨0, 1, false, 0, 1⟩, ⟨1, 1, true, -4, 1⟩, ⟨2, 1, true, -4, 5⟩, ⟨3, 1, true, 0, 4⟩, ⟨4, 1, false, 2, 10⟩, ⟨8, 4, false, 0, 1000000⟩, ⟨12, 4, false, 0, 1000000⟩, ⟨16, 4, true, -1000000, 1000000⟩], mask := [255, 255, 255, 255, 255, 0, 0, 0, 255, 255, 255, 255, 255, 255, 255, 255, 255, 255, 255, 255], dflt := [1, 0, 0, 1, 3, 0, 0, 0, 0, 0, 0, 0, 0, 0, 0, 0, 0, 0, 0, 0] },
  { idx := 0x2011, sub := 2, name := "PTP_PORT_STATE", ty := .u8, size := 1, rd := 31, wr := 0, pers := .volatile, app := .immediate, table := true, maxRow := 1, dflt := [1] },
  { idx := 0x2020, sub := 1, name := "PPS_OUT_ENABLE", ty := .u8, size := 1, rd := 2, wr := 2, pers := .stored, app := .immediate, fields := [⟨0, 1, false, 0, 2⟩], dflt := [1] },
  { idx := 0x2020, sub := 2, name := "PPS_OUT_WIDTH", ty := .u32, size := 4, rd := 2, wr := 2, pers := .stored, app := .immediate, fields := [⟨0, 4, false, 1, 500000⟩], dflt := [0, 1, 134, 160] },
  { idx := 0x2020, sub := 3, name := "PPS_OUT_DELAY", ty := .i32, size := 4, rd := 2, wr := 2, pers := .stored, app := .immediate, fields := [⟨0, 4, true, -100000, 100000⟩], dflt := zeros 4 },
  { idx := 0x2020, sub := 4, name := "PPS_IN_DELAY", ty := .i32, size := 4, rd := 2, wr := 2, pers := .stored, app := .immediate, fields := [⟨0, 4, true, -100000, 100000⟩], dflt := zeros 4 },
  { idx := 0x2020, sub := 5, name := "PPS_IN_WINDOW", ty := .u32, size := 4, rd := 2, wr := 2, pers := .stored, app := .immediate, fields := [⟨0, 4, false, 1000, 100000000⟩], dflt := [0, 15, 66, 64] }]

/-- Objects 0x2100 to 0x21FF. -/
def odTable21 : List ObjDesc := [
  { idx := 0x2100, sub := 1, name := "ASN_EPOCH", ty := .record, size := 16, rd := 31, wr := 2, pers := .stored, app := .ownRule, modes := [3, 4], fields := [⟨11, 4, false, 0, 999999999⟩, ⟨15, 1, false, 0, 2⟩], dflt := zeros 16 },
  { idx := 0x2100, sub := 2, name := "ASN_EPOCH_PENDING", ty := .record, size := 16, rd := 31, wr := 0, pers := .volatile, app := .immediate, dflt := zeros 16 },
  { idx := 0x2100, sub := 3, name := "ASN_NOW", ty := .u64, size := 8, rd := 31, wr := 0, pers := .volatile, app := .immediate, dflt := zeros 8 },
  { idx := 0x2100, sub := 4, name := "ASN_FLOOR", ty := .u64, size := 8, rd := 31, wr := 0, pers := .stored, app := .immediate, dflt := zeros 8 }]

/-- Objects 0x3000 to 0x30FF. -/
def odTable30 : List ObjDesc := [
  { idx := 0x3000, sub := 1, name := "SG_RX_CENTRE", ty := .u32, size := 4, rd := 2, wr := 2, pers := .stored, app := .ownRule, dflt := zeros 4 },
  { idx := 0x3000, sub := 2, name := "SG_TX_CENTRE", ty := .u32, size := 4, rd := 2, wr := 2, pers := .stored, app := .ownRule, dflt := zeros 4 },
  { idx := 0x3000, sub := 3, name := "SG_CAL_TABLE", ty := .record, size := 6, rd := 31, wr := 0, pers := .volatile, app := .immediate, table := true, maxRow := 15, dflt := zeros 6 },
  { idx := 0x3000, sub := 4, name := "SG_SYN_LOCKED", ty := .u8, size := 1, rd := 31, wr := 0, pers := .volatile, app := .immediate, table := true, maxRow := 1, dflt := zeros 1 },
  { idx := 0x3010, sub := 1, name := "SG_FE_CFG", ty := .u8, size := 1, rd := 2, wr := 2, pers := .stored, app := .nextBoot, mask := [127], dflt := [16] },
  { idx := 0x3010, sub := 2, name := "SG_PA_LEAD", ty := .u8, size := 1, rd := 2, wr := 2, pers := .stored, app := .nextSuperframe, fields := [⟨0, 1, false, 1, 50⟩], dflt := [10] },
  { idx := 0x3010, sub := 3, name := "SG_PA_LAG", ty := .u8, size := 1, rd := 2, wr := 2, pers := .stored, app := .nextSuperframe, fields := [⟨0, 1, false, 1, 50⟩], dflt := [2] },
  { idx := 0x3010, sub := 4, name := "SG_PA_HOLD", ty := .u16, size := 2, rd := 2, wr := 2, pers := .stored, app := .nextSuperframe, fields := [⟨0, 2, false, 0, 5000⟩], dflt := [0, 100] },
  { idx := 0x3020, sub := 1, name := "SG_HEADROOM", ty := .u8, size := 1, rd := 2, wr := 2, pers := .stored, app := .nextSuperframe, fields := [⟨0, 1, false, 6, 20⟩], dflt := [12] },
  { idx := 0x3020, sub := 2, name := "SG_GAIN_HIST", ty := .u8, size := 1, rd := 2, wr := 2, pers := .stored, app := .nextSuperframe, fields := [⟨0, 1, false, 2, 64⟩], dflt := [16] },
  { idx := 0x3020, sub := 3, name := "SG_PA_GAIN", ty := .q16, size := 2, rd := 2, wr := 2, pers := .stored, app := .nextSuperframe, qbits := 8, fields := [⟨0, 2, true, -2560, 11520⟩], dflt := [24, 0] },
  { idx := 0x3020, sub := 4, name := "SG_ISOLATION", ty := .q16, size := 2, rd := 2, wr := 2, pers := .stored, app := .nextSuperframe, qbits := 8, fields := [⟨0, 2, true, 8960, 23040⟩], dflt := [35, 0] },
  { idx := 0x3020, sub := 5, name := "SG_GAIN_NOW", ty := .u8, size := 1, rd := 31, wr := 0, pers := .volatile, app := .immediate, table := true, maxRow := 1, dflt := [255] },
  { idx := 0x3020, sub := 6, name := "SG_INIT_GAIN", ty := .u8, size := 1, rd := 2, wr := 2, pers := .stored, app := .nextSuperframe, fields := [⟨0, 1, false, 0, 23⟩], dflt := [12] },
  { idx := 0x3020, sub := 7, name := "SG_GAIN_MODE", ty := .u8, size := 1, rd := 2, wr := 2, pers := .volatile, app := .nextSlot, modes := [3, 4], fields := [⟨0, 1, false, 0, 1⟩], dflt := zeros 1 },
  { idx := 0x3030, sub := 1, name := "SG_COMPOSITE_MAX", ty := .q16, size := 2, rd := 2, wr := 2, pers := .stored, app := .nextSuperframe, qbits := 8, fields := [⟨0, 2, true, -2560, 1536⟩], dflt := [3, 0] },
  { idx := 0x3030, sub := 2, name := "SG_POWER_TABLE", ty := .u32, size := 4, rd := 31, wr := 16, pers := .sealed, app := .immediate, table := true, maxRow := 63, modes := [11], mask := [255, 255, 248, 3], dflt := [0, 0, 0, 3] },
  { idx := 0x3040, sub := 1, name := "RF_CAL_LAST", ty := .u64, size := 8, rd := 31, wr := 0, pers := .volatile, app := .immediate, table := true, maxRow := 4, dflt := zeros 8 },
  { idx := 0x3050, sub := 1, name := "TX_LATE_SYNTH_COUNT", ty := .u32, size := 4, rd := 31, wr := 0, pers := .volatile, app := .immediate, dflt := zeros 4 },
  { idx := 0x3050, sub := 2, name := "TX_CUT_UNLOCK", ty := .u32, size := 4, rd := 31, wr := 0, pers := .volatile, app := .immediate, dflt := zeros 4 },
  { idx := 0x3050, sub := 3, name := "RX_CUT_UNLOCK", ty := .u32, size := 4, rd := 31, wr := 0, pers := .volatile, app := .immediate, dflt := zeros 4 },
  { idx := 0x3050, sub := 4, name := "RX_CLIP_BLOCKS", ty := .u32, size := 4, rd := 31, wr := 0, pers := .volatile, app := .immediate, table := true, maxRow := 1, dflt := zeros 4 }]

/-- Objects 0x3100 to 0x31FF. -/
def odTable31 : List ObjDesc := [
  { idx := 0x3100, sub := 1, name := "RX_PROFILE", ty := .record, size := 16, rd := 2, wr := 2, pers := .stored, app := .nextSuperframe, table := true, maxRow := 15, fields := [⟨0, 1, false, 0, 5⟩, ⟨4, 2, false, 5, 2047⟩, ⟨6, 2, false, 6554, 58982⟩, ⟨8, 1, false, 4, 32⟩, ⟨9, 1, false, 0, 10⟩, ⟨10, 1, false, 3, 20⟩, ⟨11, 1, false, 0, 1⟩], mask := [255, 7, 255, 255, 255, 255, 255, 255, 255, 255, 255, 255, 0, 0, 0, 0], dflt := [2, 6, 24, 2, 0, 127, 64, 0, 9, 3, 6, 0, 0, 0, 0, 0] },
  { idx := 0x3100, sub := 2, name := "ENGINE_STATE", ty := .u8, size := 1, rd := 31, wr := 0, pers := .volatile, app := .immediate, table := true, maxRow := 99, dflt := zeros 1 },
  { idx := 0x3100, sub := 3, name := "RX_IN_SERVICE", ty := .u8, size := 1, rd := 31, wr := 0, pers := .volatile, app := .immediate, dflt := zeros 1 },
  { idx := 0x3100, sub := 4, name := "ENGINE_TESTED", ty := .u64, size := 8, rd := 31, wr := 0, pers := .volatile, app := .immediate, table := true, maxRow := 99, dflt := zeros 8 },
  { idx := 0x3110, sub := 1, name := "RX_ABANDONED", ty := .u32, size := 4, rd := 31, wr := 0, pers := .volatile, app := .immediate, table := true, maxRow := 6, dflt := zeros 4 },
  { idx := 0x3110, sub := 2, name := "RX_UNSERVED", ty := .u32, size := 4, rd := 31, wr := 0, pers := .volatile, app := .immediate, table := true, maxRow := 1, dflt := zeros 4 },
  { idx := 0x3110, sub := 3, name := "RX_FRAMES", ty := .u32, size := 4, rd := 31, wr := 0, pers := .volatile, app := .immediate, table := true, maxRow := 2, dflt := zeros 4 },
  { idx := 0x3120, sub := 1, name := "NOISE_FLOOR", ty := .q16, size := 2, rd := 31, wr := 0, pers := .volatile, app := .immediate, qbits := 8, table := true, maxRow := 543, dflt := [139, 0] }]

/-- Objects 0x3200 to 0x32FF. -/
def odTable32 : List ObjDesc := [
  { idx := 0x3200, sub := 1, name := "KNIFE_LEAK", ty := .q16, size := 2, rd := 31, wr := 0, pers := .volatile, app := .immediate, qbits := 8, table := true, maxRow := 287, dflt := [128, 0] },
  { idx := 0x3200, sub := 2, name := "KNIFE_EXCLUDED_CELLS", ty := .u32, size := 4, rd := 31, wr := 0, pers := .volatile, app := .immediate, dflt := zeros 4 },
  { idx := 0x3200, sub := 3, name := "KNIFE_SETS", ty := .u32, size := 4, rd := 31, wr := 0, pers := .volatile, app := .immediate, dflt := zeros 4 }]

/-- Objects 0x3300 to 0x33FF. -/
def odTable33 : List ObjDesc := [
  { idx := 0x3300, sub := 1, name := "CAPTURE_CFG", ty := .record, size := 27, rd := 2, wr := 2, pers := .volatile, app := .immediate, modes := [4], fields := [⟨0, 1, false, 0, 7⟩, ⟨1, 1, false, 0, 8⟩, ⟨23, 4, false, 0, 524288⟩], dflt := zeros 27 },
  { idx := 0x3300, sub := 2, name := "CAPTURE_STATUS", ty := .record, size := 5, rd := 31, wr := 0, pers := .volatile, app := .immediate, dflt := zeros 5 },
  { idx := 0x3300, sub := 3, name := "CAPTURE_DATA", ty := .domain, size := 0, rd := 10, wr := 0, pers := .volatile, app := .immediate },
  { idx := 0x3300, sub := 4, name := "SURVEY_SPECTRUM", ty := .array, size := 1026, rd := 31, wr := 0, pers := .volatile, app := .immediate, dflt := [2] ++ List.replicate 1025 0 },
  { idx := 0x3300, sub := 5, name := "SURVEY_AVG", ty := .u16, size := 2, rd := 2, wr := 2, pers := .stored, app := .immediate, fields := [⟨0, 2, false, 10, 60000⟩], dflt := [3, 232] }]

/-- Objects 0x3400 to 0x34FF. -/
def odTable34 : List ObjDesc := [
  { idx := 0x3400, sub := 1, name := "TX_ROW_BEACON", ty := .u8, size := 1, rd := 2, wr := 2, pers := .stored, app := .nextSuperframe, table := true, maxRow := 1, fields := [⟨0, 1, false, 0, 63⟩], dflt := [55] },
  { idx := 0x3400, sub := 2, name := "TX_ROW_DEFAULT", ty := .u8, size := 1, rd := 2, wr := 2, pers := .stored, app := .nextSuperframe, table := true, maxRow := 1, fields := [⟨0, 1, false, 0, 63⟩], dflt := [51] },
  { idx := 0x3400, sub := 3, name := "TX_ROW_MIN", ty := .u8, size := 1, rd := 2, wr := 2, pers := .stored, app := .nextSuperframe, table := true, maxRow := 1, fields := [⟨0, 1, false, 0, 63⟩], dflt := [31] },
  { idx := 0x3400, sub := 4, name := "TX_DROPPED", ty := .u32, size := 4, rd := 31, wr := 0, pers := .volatile, app := .immediate, table := true, maxRow := 13, dflt := zeros 4 },
  { idx := 0x3410, sub := 1, name := "DPD_ENABLE", ty := .bool, size := 1, rd := 2, wr := 2, pers := .stored, app := .nextSuperframe, table := true, maxRow := 1, dflt := [1] },
  { idx := 0x3410, sub := 2, name := "DPD_STATE", ty := .u8, size := 1, rd := 31, wr := 0, pers := .volatile, app := .immediate, table := true, maxRow := 8, dflt := zeros 1 },
  { idx := 0x3410, sub := 3, name := "DPD_NMSE", ty := .q16, size := 2, rd := 31, wr := 0, pers := .volatile, app := .immediate, qbits := 8, table := true, maxRow := 8, dflt := zeros 2 },
  { idx := 0x3410, sub := 4, name := "DPD_UPDATE_SLOTS", ty := .u8, size := 1, rd := 2, wr := 2, pers := .stored, app := .nextSuperframe, fields := [⟨0, 1, false, 4, 64⟩], dflt := [16] },
  { idx := 0x3410, sub := 5, name := "DPD_NMSE_TARGET", ty := .q16, size := 2, rd := 2, wr := 2, pers := .stored, app := .nextSuperframe, qbits := 8, fields := [⟨0, 2, true, -12800, -5120⟩], dflt := [221, 0] },
  { idx := 0x3410, sub := 6, name := "DPD_BACKOFF", ty := .q16, size := 2, rd := 2, wr := 2, pers := .stored, app := .nextSuperframe, qbits := 8, fields := [⟨0, 2, true, 0, 1536⟩], dflt := [3, 0] },
  { idx := 0x3410, sub := 7, name := "DPD_REJECTED", ty := .u32, size := 4, rd := 31, wr := 0, pers := .volatile, app := .immediate, table := true, maxRow := 1, dflt := zeros 4 },
  { idx := 0x3420, sub := 1, name := "DWELL_RULE", ty := .record, size := 28, rd := 2, wr := 2, pers := .stored, app := .nextSuperframe, table := true, maxRow := 15, fields := [⟨0, 1, false, 0, 2⟩, ⟨1, 1, false, 0, 1⟩, ⟨24, 1, false, 0, 100⟩], mask := [255, 255, 0, 0, 255, 255, 255, 255, 255, 255, 255, 255, 255, 255, 255, 255, 255, 255, 255, 255, 255, 255, 255, 255, 255, 0, 0, 0], dflt := zeros 28 },
  { idx := 0x3420, sub := 2, name := "DWELL_HIGHEST", ty := .u32, size := 4, rd := 31, wr := 0, pers := .volatile, app := .immediate, table := true, maxRow := 15, dflt := zeros 4 },
  { idx := 0x3420, sub := 3, name := "DWELL_ACCOUNTS", ty := .domain, size := 0, rd := 10, wr := 0, pers := .volatile, app := .immediate },
  { idx := 0x3430, sub := 1, name := "WAKE_FREQ", ty := .u32, size := 4, rd := 2, wr := 2, pers := .stored, app := .nextSuperframe, dflt := zeros 4 },
  { idx := 0x3430, sub := 2, name := "WAKE_TAG", ty := .u8, size := 1, rd := 2, wr := 2, pers := .stored, app := .nextSuperframe, fields := [⟨0, 1, false, 0, 15⟩], dflt := zeros 1 },
  { idx := 0x3430, sub := 3, name := "TX_ROW_WAKE", ty := .u8, size := 1, rd := 2, wr := 2, pers := .stored, app := .nextSuperframe, fields := [⟨0, 1, false, 0, 63⟩], dflt := [57] },
  { idx := 0x3430, sub := 4, name := "WAKE_QUEUED", ty := .u16, size := 2, rd := 31, wr := 0, pers := .volatile, app := .immediate, dflt := zeros 2 },
  { idx := 0x3430, sub := 5, name := "WAKE_SENT", ty := .u32, size := 4, rd := 31, wr := 0, pers := .volatile, app := .immediate, dflt := zeros 4 },
  { idx := 0x3430, sub := 6, name := "WAKE_OVERFLOW", ty := .u32, size := 4, rd := 31, wr := 0, pers := .volatile, app := .immediate, dflt := zeros 4 }]

/-- Objects 0x3800 to 0x38FF. -/
def odTable38 : List ObjDesc := [
  { idx := 0x3800, sub := 3, name := "G2_CAL_TABLE", ty := .record, size := 6, rd := 31, wr := 0, pers := .volatile, app := .immediate, table := true, maxRow := 7, dflt := zeros 6 },
  { idx := 0x3800, sub := 4, name := "G2_SYN_LOCKED", ty := .u8, size := 1, rd := 31, wr := 0, pers := .volatile, app := .immediate, table := true, maxRow := 1, dflt := zeros 1 },
  { idx := 0x3810, sub := 1, name := "G2_FE_CFG", ty := .u8, size := 1, rd := 2, wr := 2, pers := .stored, app := .nextBoot, mask := [127], dflt := [16] },
  { idx := 0x3810, sub := 2, name := "G2_PA_LEAD", ty := .u8, size := 1, rd := 2, wr := 2, pers := .stored, app := .nextSuperframe, fields := [⟨0, 1, false, 1, 50⟩], dflt := [10] },
  { idx := 0x3810, sub := 3, name := "G2_PA_LAG", ty := .u8, size := 1, rd := 2, wr := 2, pers := .stored, app := .nextSuperframe, fields := [⟨0, 1, false, 1, 50⟩], dflt := [2] },
  { idx := 0x3810, sub := 4, name := "G2_PA_HOLD", ty := .u16, size := 2, rd := 2, wr := 2, pers := .stored, app := .nextSuperframe, fields := [⟨0, 2, false, 0, 5000⟩], dflt := [0, 100] },
  { idx := 0x3820, sub := 1, name := "G2_HEADROOM", ty := .u8, size := 1, rd := 2, wr := 2, pers := .stored, app := .nextSuperframe, fields := [⟨0, 1, false, 6, 20⟩], dflt := [12] },
  { idx := 0x3820, sub := 2, name := "G2_GAIN_HIST", ty := .u8, size := 1, rd := 2, wr := 2, pers := .stored, app := .nextSuperframe, fields := [⟨0, 1, false, 2, 64⟩], dflt := [16] },
  { idx := 0x3820, sub := 3, name := "G2_PA_GAIN", ty := .q16, size := 2, rd := 2, wr := 2, pers := .stored, app := .nextSuperframe, qbits := 8, fields := [⟨0, 2, true, -2560, 11520⟩], dflt := zeros 2 },
  { idx := 0x3820, sub := 4, name := "G2_ISOLATION", ty := .q16, size := 2, rd := 2, wr := 2, pers := .stored, app := .nextSuperframe, qbits := 8, fields := [⟨0, 2, true, 8960, 23040⟩], dflt := [35, 0] },
  { idx := 0x3820, sub := 5, name := "G2_GAIN_NOW", ty := .u8, size := 1, rd := 31, wr := 0, pers := .volatile, app := .immediate, table := true, maxRow := 1, dflt := [255] },
  { idx := 0x3820, sub := 6, name := "G2_INIT_GAIN", ty := .u8, size := 1, rd := 2, wr := 2, pers := .stored, app := .nextSuperframe, fields := [⟨0, 1, false, 0, 23⟩], dflt := [12] },
  { idx := 0x3820, sub := 7, name := "G2_GAIN_MODE", ty := .u8, size := 1, rd := 2, wr := 2, pers := .volatile, app := .nextSlot, modes := [3, 4], fields := [⟨0, 1, false, 0, 1⟩], dflt := zeros 1 },
  { idx := 0x3830, sub := 1, name := "G2_COMPOSITE_MAX", ty := .q16, size := 2, rd := 2, wr := 2, pers := .stored, app := .nextSuperframe, qbits := 8, fields := [⟨0, 2, true, -2560, 2560⟩], dflt := [8, 0] },
  { idx := 0x3830, sub := 2, name := "G2_POWER_TABLE", ty := .u32, size := 4, rd := 31, wr := 16, pers := .sealed, app := .immediate, table := true, maxRow := 63, modes := [11], mask := [255, 255, 248, 3], dflt := [0, 0, 0, 3] },
  { idx := 0x3840, sub := 1, name := "RF_CAL_LAST", ty := .u64, size := 8, rd := 31, wr := 0, pers := .volatile, app := .immediate, table := true, maxRow := 4, dflt := zeros 8 },
  { idx := 0x3850, sub := 1, name := "TX_LATE_SYNTH_COUNT", ty := .u32, size := 4, rd := 31, wr := 0, pers := .volatile, app := .immediate, dflt := zeros 4 },
  { idx := 0x3850, sub := 2, name := "TX_CUT_UNLOCK", ty := .u32, size := 4, rd := 31, wr := 0, pers := .volatile, app := .immediate, dflt := zeros 4 },
  { idx := 0x3850, sub := 3, name := "RX_CUT_UNLOCK", ty := .u32, size := 4, rd := 31, wr := 0, pers := .volatile, app := .immediate, dflt := zeros 4 },
  { idx := 0x3850, sub := 4, name := "RX_CLIP_BLOCKS", ty := .u32, size := 4, rd := 31, wr := 0, pers := .volatile, app := .immediate, table := true, maxRow := 1, dflt := zeros 4 }]

/-- Objects 0x4000 to 0x40FF. -/
def odTable40 : List ObjDesc := [
  { idx := 0x4000, sub := 1, name := "SLOT_QUIET", ty := .u32, size := 4, rd := 31, wr := 0, pers := .volatile, app := .immediate, table := true, maxRow := 2, dflt := zeros 4 },
  { idx := 0x4000, sub := 2, name := "EASEL_PREP_LAST", ty := .u16, size := 2, rd := 31, wr := 0, pers := .volatile, app := .immediate, dflt := zeros 2 },
  { idx := 0x4000, sub := 3, name := "EASEL_PREP_MAX", ty := .u16, size := 2, rd := 31, wr := 0, pers := .volatile, app := .immediate, dflt := zeros 2 },
  { idx := 0x4001, sub := 1, name := "MAINT_PATTERN", ty := .u64, size := 8, rd := 2, wr := 2, pers := .stored, app := .nextSuperframe, dflt := [128, 0, 0, 0, 128, 0, 0, 0] },
  { idx := 0x4001, sub := 2, name := "GACK_LAG", ty := .u8, size := 1, rd := 2, wr := 2, pers := .stored, app := .nextSuperframe, fields := [⟨0, 1, false, 2, 32⟩], dflt := [10] },
  { idx := 0x4010, sub := 1, name := "SCHED_SET_ACTIVE", ty := .u8, size := 1, rd := 31, wr := 0, pers := .stored, app := .immediate, dflt := zeros 1 },
  { idx := 0x4010, sub := 2, name := "SCHED_STAGED", ty := .u16, size := 2, rd := 31, wr := 0, pers := .volatile, app := .immediate, dflt := zeros 2 },
  { idx := 0x4012, sub := 1, name := "CELL_SLOT", ty := .u16, size := 2, rd := 3, wr := 3, pers := .stored, app := .nextSuperframe, table := true, maxRow := 50397183, dflt := [255, 255] },
  { idx := 0x4012, sub := 2, name := "CELL_CHOFF", ty := .u16, size := 2, rd := 3, wr := 3, pers := .stored, app := .nextSuperframe, table := true, maxRow := 50397183, fields := [⟨0, 2, false, 0, 1023⟩], dflt := zeros 2 },
  { idx := 0x4012, sub := 3, name := "CELL_PERIOD", ty := .u8, size := 1, rd := 3, wr := 3, pers := .stored, app := .nextSuperframe, table := true, maxRow := 50397183, fields := [⟨0, 1, false, 0, 7⟩], dflt := zeros 1 },
  { idx := 0x4012, sub := 4, name := "CELL_CLASS", ty := .u8, size := 1, rd := 3, wr := 3, pers := .stored, app := .nextSuperframe, table := true, maxRow := 50397183, fields := [⟨0, 1, false, 0, 15⟩], dflt := zeros 1 },
  { idx := 0x4012, sub := 5, name := "CELL_KIND", ty := .u8, size := 1, rd := 3, wr := 3, pers := .stored, app := .nextSuperframe, table := true, maxRow := 50397183, dflt := zeros 1 },
  { idx := 0x4012, sub := 6, name := "CELL_PAN", ty := .u8, size := 1, rd := 3, wr := 3, pers := .stored, app := .nextSuperframe, table := true, maxRow := 50397183, fields := [⟨0, 1, false, 0, 3⟩], dflt := zeros 1 },
  { idx := 0x4012, sub := 7, name := "CELL_GACK", ty := .u16, size := 2, rd := 3, wr := 3, pers := .stored, app := .nextSuperframe, table := true, maxRow := 50397183, dflt := [255, 255] },
  { idx := 0x4013, sub := 1, name := "CELL_OCCUPANT", ty := .u32, size := 4, rd := 3, wr := 3, pers := .stored, app := .nextSuperframe, table := true, maxRow := 58720255, dflt := [255, 255, 255, 255] },
  { idx := 0x4014, sub := 1, name := "CELL_COLLIDED", ty := .u32, size := 4, rd := 31, wr := 0, pers := .volatile, app := .immediate, dflt := zeros 4 },
  { idx := 0x4014, sub := 2, name := "MAINT_UNSERVED", ty := .u32, size := 4, rd := 31, wr := 0, pers := .volatile, app := .immediate, dflt := zeros 4 },
  { idx := 0x4020, sub := 1, name := "CELL_CLASS_CFG", ty := .record, size := 4, rd := 2, wr := 2, pers := .stored, app := .nextSuperframe, table := true, maxRow := 15, fields := [⟨0, 1, false, 0, 15⟩], mask := [255, 7, 0, 0], dflt := zeros 4 },
  { idx := 0x4030, sub := 1, name := "PAN_CFG", ty := .record, size := 32, rd := 2, wr := 2, pers := .stored, app := .nextSuperframe, table := true, maxRow := 3, fields := [⟨0, 1, false, 0, 1⟩, ⟨1, 1, false, 0, 1⟩, ⟨2, 2, false, 0, 65534⟩, ⟨14, 1, false, 0, 15⟩, ⟨25, 1, false, 0, 1⟩], mask := [255, 255, 255, 255, 255, 255, 255, 255, 255, 255, 255, 255, 255, 255, 255, 255, 255, 255, 255, 255, 255, 255, 255, 255, 255, 255, 0, 0, 0, 0, 0, 0], dflt := zeros 32 },
  { idx := 0x4031, sub := 1, name := "HOP_SEQ", ty := .u16, size := 2, rd := 2, wr := 2, pers := .stored, app := .immediate, table := true, maxRow := 4095, modes := [3, 4], fields := [⟨0, 2, false, 0, 65535⟩], dflt := zeros 2 },
  { idx := 0x4031, sub := 2, name := "HOP_LEN", ty := .u16, size := 2, rd := 2, wr := 2, pers := .stored, app := .immediate, table := true, maxRow := 3, modes := [3, 4], fields := [⟨0, 2, false, 1, 1024⟩], dflt := [0, 1] },
  { idx := 0x4032, sub := 1, name := "CH_MAP", ty := .octets, size := 32, rd := 2, wr := 2, pers := .stored, app := .ownRule, table := true, maxRow := 3, dflt := [255, 255, 255, 255, 255, 255, 255, 255, 255, 255, 255, 255, 255, 255, 255, 255, 255, 255, 255, 255, 255, 255, 255, 255, 255, 255, 255, 255, 255, 255, 255, 255] }]

/-- Objects 0x5000 to 0x50FF. -/
def odTable50 : List ObjDesc := [
  { idx := 0x5000, sub := 1, name := "NODE_COUNT", ty := .u32, size := 4, rd := 31, wr := 0, pers := .volatile, app := .immediate, table := true, maxRow := 5, dflt := zeros 4 },
  { idx := 0x5001, sub := 1, name := "WIN_BASE", ty := .u16, size := 2, rd := 2, wr := 2, pers := .stored, app := .nextSuperframe, fields := [⟨0, 2, false, 50, 1000⟩], dflt := [0, 150] },
  { idx := 0x5001, sub := 2, name := "DRIFT_TOL", ty := .u16, size := 2, rd := 2, wr := 2, pers := .stored, app := .nextSuperframe, fields := [⟨0, 2, false, 0, 2000⟩], dflt := [0, 50] },
  { idx := 0x5001, sub := 3, name := "JOIN_RATE", ty := .u16, size := 2, rd := 3, wr := 3, pers := .stored, app := .nextSuperframe, fields := [⟨0, 2, false, 1, 4096⟩], dflt := [1, 0] },
  { idx := 0x5001, sub := 4, name := "WAKE_RETRIES", ty := .u8, size := 1, rd := 2, wr := 2, pers := .stored, app := .nextSuperframe, fields := [⟨0, 1, false, 0, 15⟩], dflt := [3] },
  { idx := 0x5001, sub := 5, name := "MAX_RETRIES", ty := .u8, size := 1, rd := 2, wr := 2, pers := .stored, app := .nextSuperframe, fields := [⟨0, 1, false, 0, 7⟩], dflt := [3] },
  { idx := 0x5001, sub := 6, name := "WAKE_LEAD_MIN", ty := .u8, size := 1, rd := 2, wr := 2, pers := .stored, app := .nextSuperframe, fields := [⟨0, 1, false, 0, 13⟩], dflt := [3] },
  { idx := 0x5001, sub := 7, name := "DL_RETRIES", ty := .u8, size := 1, rd := 2, wr := 2, pers := .stored, app := .nextSuperframe, fields := [⟨0, 1, false, 0, 7⟩], dflt := [2] },
  { idx := 0x5010, sub := 1, name := "NODE_REG", ty := .record, size := 16, rd := 3, wr := 3, pers := .stored, app := .immediate, table := true, maxRow := 131071, perNode := true, fields := [⟨8, 1, false, 0, 3⟩], mask := [255, 255, 255, 255, 255, 255, 255, 255, 255, 0, 255, 255, 255, 255, 255, 0], dflt := [0, 0, 0, 0, 0, 0, 0, 0, 0, 0, 0, 0, 0, 0, 255, 0] },
  { idx := 0x5010, sub := 2, name := "NODE_STATE", ty := .u8, size := 1, rd := 31, wr := 0, pers := .volatile, app := .immediate, table := true, maxRow := 131071, perNode := true, dflt := zeros 1 },
  { idx := 0x5010, sub := 3, name := "NODE_SYNC", ty := .record, size := 24, rd := 31, wr := 0, pers := .volatile, app := .immediate, table := true, maxRow := 131071, perNode := true, dflt := zeros 24 },
  { idx := 0x5010, sub := 4, name := "NODE_LINK_COUNT", ty := .record, size := 8, rd := 31, wr := 0, pers := .volatile, app := .immediate, table := true, maxRow := 131071, perNode := true, dflt := zeros 8 },
  { idx := 0x5011, sub := 1, name := "NODE_REJOIN", ty := .u32, size := 4, rd := 0, wr := 3, pers := .volatile, app := .immediate, fields := [⟨0, 4, false, 0, 131071⟩], dflt := zeros 4 },
  { idx := 0x5020, sub := 1, name := "LINK_EVENTS", ty := .u32, size := 4, rd := 31, wr := 0, pers := .volatile, app := .immediate, table := true, maxRow := 13, dflt := zeros 4 }]

/-- Objects 0x6000 to 0x60FF. -/
def odTable60 : List ObjDesc := [
  { idx := 0x6000, sub := 1, name := "GLAZE_ENABLE", ty := .bool, size := 1, rd := 2, wr := 2, pers := .stored, app := .nextSuperframe, dflt := [1] },
  { idx := 0x6000, sub := 2, name := "GLAZE_RETAIN", ty := .u8, size := 1, rd := 2, wr := 2, pers := .stored, app := .nextSuperframe, fields := [⟨0, 1, false, 1, 31⟩], dflt := [8] },
  { idx := 0x6000, sub := 3, name := "GLAZE_LISTEN_W", ty := .u16, size := 2, rd := 2, wr := 2, pers := .stored, app := .nextSuperframe, fields := [⟨0, 2, false, 100, 2500⟩], dflt := [5, 220] },
  { idx := 0x6000, sub := 4, name := "GLAZE_REQ_TIMEOUT", ty := .u16, size := 2, rd := 2, wr := 2, pers := .stored, app := .immediate, fields := [⟨0, 2, false, 2, 100⟩], dflt := [0, 10] },
  { idx := 0x6000, sub := 5, name := "GLAZE_STAMP_TOL", ty := .u16, size := 2, rd := 2, wr := 2, pers := .stored, app := .immediate, fields := [⟨0, 2, false, 60, 500⟩], dflt := [0, 100] },
  { idx := 0x6001, sub := 1, name := "GLAZE_PARTNERS", ty := .u16, size := 2, rd := 31, wr := 0, pers := .volatile, app := .immediate, table := true, maxRow := 3, dflt := [255, 255] },
  { idx := 0x6001, sub := 2, name := "GLAZE_PARTNER_STATE", ty := .u8, size := 1, rd := 31, wr := 0, pers := .volatile, app := .immediate, table := true, maxRow := 3, dflt := zeros 1 },
  { idx := 0x6010, sub := 1, name := "GLAZE_COUNT", ty := .u32, size := 4, rd := 31, wr := 0, pers := .volatile, app := .immediate, table := true, maxRow := 13, dflt := zeros 4 },
  { idx := 0x6010, sub := 2, name := "GLAZE_STORE_USED", ty := .u32, size := 4, rd := 31, wr := 0, pers := .volatile, app := .immediate, dflt := zeros 4 }]

/-- Objects 0x6400 to 0x64FF. -/
def odTable64 : List ObjDesc := [
  { idx := 0x6400, sub := 1, name := "TRELLIS_ENTRIES", ty := .u32, size := 4, rd := 31, wr := 0, pers := .volatile, app := .immediate, table := true, maxRow := 4, dflt := zeros 4 },
  { idx := 0x6400, sub := 2, name := "STASH_USED", ty := .u8, size := 1, rd := 31, wr := 0, pers := .volatile, app := .immediate, table := true, maxRow := 2, dflt := zeros 1 },
  { idx := 0x6400, sub := 3, name := "TRELLIS_EVENTS", ty := .u32, size := 4, rd := 31, wr := 0, pers := .volatile, app := .immediate, table := true, maxRow := 11, dflt := zeros 4 },
  { idx := 0x6400, sub := 4, name := "SCRUB_WALK_MS", ty := .u32, size := 4, rd := 31, wr := 0, pers := .volatile, app := .immediate, dflt := zeros 4 },
  { idx := 0x6410, sub := 1, name := "MAC_LEARN_LIMIT", ty := .u16, size := 2, rd := 2, wr := 2, pers := .stored, app := .immediate, table := true, maxRow := 1, fields := [⟨0, 2, false, 0, 4032⟩], dflt := [4, 0] },
  { idx := 0x6410, sub := 2, name := "MAC_EXCESS", ty := .u8, size := 1, rd := 2, wr := 2, pers := .stored, app := .immediate, table := true, maxRow := 1, fields := [⟨0, 1, false, 0, 1⟩], dflt := zeros 1 },
  { idx := 0x6410, sub := 3, name := "MAC_AGE", ty := .u16, size := 2, rd := 2, wr := 2, pers := .stored, app := .immediate, fields := [⟨0, 2, false, 10, 3600⟩], dflt := [1, 44] },
  { idx := 0x6410, sub := 4, name := "MAC_STATIC", ty := .record, size := 8, rd := 2, wr := 2, pers := .stored, app := .immediate, table := true, maxRow := 63, fields := [⟨0, 1, false, 0, 1⟩], dflt := zeros 8 },
  { idx := 0x6410, sub := 5, name := "OWN_MAC", ty := .octets, size := 6, rd := 2, wr := 2, pers := .stored, app := .nextBoot, dflt := zeros 6 },
  { idx := 0x6410, sub := 6, name := "OWN_VID", ty := .u16, size := 2, rd := 2, wr := 2, pers := .stored, app := .nextBoot, fields := [⟨0, 2, false, 0, 4094⟩], dflt := zeros 2 },
  { idx := 0x6420, sub := 1, name := "IP6_STATIC", ty := .record, size := 32, rd := 3, wr := 3, pers := .stored, app := .immediate, table := true, maxRow := 1023, fields := [⟨0, 1, false, 0, 1⟩], mask := [255, 255, 255, 0, 255, 255, 255, 255, 255, 255, 255, 255, 255, 255, 0, 0, 255, 255, 255, 255, 255, 255, 255, 255, 255, 255, 255, 255, 255, 255, 255, 255], dflt := zeros 32 },
  { idx := 0x6420, sub := 2, name := "DEFAULT_ROUTE", ty := .record, size := 8, rd := 2, wr := 2, pers := .stored, app := .immediate, fields := [⟨0, 1, false, 0, 1⟩, ⟨1, 1, false, 0, 2⟩], dflt := zeros 8 },
  { idx := 0x6430, sub := 1, name := "IPHC_CONTEXT", ty := .record, size := 18, rd := 2, wr := 2, pers := .stored, app := .nextSuperframe, table := true, maxRow := 63, fields := [⟨0, 1, false, 0, 1⟩, ⟨1, 1, false, 0, 128⟩], dflt := zeros 18 }]

/-- Objects 0x6800 to 0x68FF. -/
def odTable68 : List ObjDesc := [
  { idx := 0x6800, sub := 1, name := "DL_PROFILE", ty := .record, size := 12, rd := 3, wr := 3, pers := .stored, app := .immediate, table := true, maxRow := 15, fields := [⟨0, 4, false, 0, 100000000⟩, ⟨4, 4, false, 128, 65535⟩, ⟨8, 1, false, 1, 64⟩], mask := [255, 255, 255, 255, 255, 255, 255, 255, 255, 0, 0, 0], dflt := [0, 0, 140, 160, 0, 0, 8, 0, 8, 0, 0, 0] },
  { idx := 0x6800, sub := 2, name := "NODE_DL_PROFILE", ty := .u8, size := 1, rd := 3, wr := 3, pers := .stored, app := .immediate, table := true, maxRow := 131071, perNode := true, fields := [⟨0, 1, false, 0, 15⟩], dflt := zeros 1 },
  { idx := 0x6800, sub := 3, name := "DL_TOKENS", ty := .u32, size := 4, rd := 31, wr := 0, pers := .volatile, app := .immediate, table := true, maxRow := 131071, perNode := true, dflt := zeros 4 },
  { idx := 0x6800, sub := 4, name := "DL_QUEUED", ty := .u8, size := 1, rd := 31, wr := 0, pers := .volatile, app := .immediate, table := true, maxRow := 131071, perNode := true, dflt := zeros 1 },
  { idx := 0x6801, sub := 1, name := "DL_EVENTS", ty := .u32, size := 4, rd := 31, wr := 0, pers := .volatile, app := .immediate, table := true, maxRow := 7, dflt := zeros 4 },
  { idx := 0x6810, sub := 1, name := "EGRESS_CLASS_CFG", ty := .record, size := 8, rd := 2, wr := 2, pers := .stored, app := .immediate, table := true, maxRow := 15, fields := [⟨0, 4, false, 4096, 4194304⟩, ⟨4, 1, false, 10, 100⟩], mask := [255, 255, 255, 255, 255, 0, 0, 0], dflt := [0, 4, 0, 0, 50, 0, 0, 0] },
  { idx := 0x6810, sub := 2, name := "SHAPER", ty := .record, size := 8, rd := 3, wr := 3, pers := .stored, app := .immediate, table := true, maxRow := 15, fields := [⟨0, 4, false, 0, 2500000⟩, ⟨4, 4, false, 4096, 16777215⟩], dflt := [0, 0, 0, 0, 0, 1, 0, 0] },
  { idx := 0x6810, sub := 3, name := "DSCP_CLASS", ty := .u8, size := 1, rd := 2, wr := 2, pers := .stored, app := .immediate, table := true, maxRow := 63, fields := [⟨0, 1, false, 0, 7⟩], dflt := zeros 1 },
  { idx := 0x6810, sub := 4, name := "PCP_CLASS", ty := .u8, size := 1, rd := 2, wr := 2, pers := .stored, app := .immediate, table := true, maxRow := 7, fields := [⟨0, 1, false, 0, 7⟩], dflt := zeros 1 },
  { idx := 0x6810, sub := 5, name := "REPORT_CLASS", ty := .u8, size := 1, rd := 2, wr := 2, pers := .stored, app := .immediate, table := true, maxRow := 1, fields := [⟨0, 1, false, 0, 7⟩], dflt := [2] },
  { idx := 0x6810, sub := 6, name := "OWN_CLASS", ty := .u8, size := 1, rd := 2, wr := 2, pers := .stored, app := .immediate, table := true, maxRow := 1, fields := [⟨0, 1, false, 0, 7⟩], dflt := [5] },
  { idx := 0x6810, sub := 7, name := "EGRESS_DROPS", ty := .u32, size := 4, rd := 31, wr := 0, pers := .volatile, app := .immediate, table := true, maxRow := 35, dflt := zeros 4 },
  { idx := 0x6820, sub := 1, name := "METER", ty := .record, size := 16, rd := 3, wr := 3, pers := .stored, app := .immediate, table := true, maxRow := 63, fields := [⟨0, 4, false, 0, 2500000⟩, ⟨4, 4, false, 2048, 16777215⟩, ⟨8, 4, false, 0, 2500000⟩, ⟨12, 4, false, 2048, 16777215⟩], dflt := [0, 0, 3, 232, 0, 1, 0, 0, 0, 0, 7, 208, 0, 2, 0, 0] },
  { idx := 0x6820, sub := 2, name := "METER_RULE", ty := .record, size := 24, rd := 3, wr := 3, pers := .stored, app := .immediate, table := true, maxRow := 63, fields := [⟨0, 1, false, 0, 1⟩, ⟨2, 1, false, 0, 63⟩, ⟨3, 1, false, 0, 63⟩, ⟨4, 1, false, 0, 63⟩, ⟨5, 1, false, 0, 128⟩], mask := [255, 3, 255, 255, 255, 255, 0, 0, 255, 255, 255, 255, 255, 255, 255, 255, 255, 255, 255, 255, 255, 255, 255, 255], dflt := zeros 24 },
  { idx := 0x6820, sub := 3, name := "METER_COUNT", ty := .u64, size := 8, rd := 31, wr := 0, pers := .volatile, app := .immediate, table := true, maxRow := 191, dflt := zeros 8 },
  { idx := 0x6830, sub := 1, name := "GATE_ADMIN", ty := .domain, size := 0, rd := 2, wr := 2, pers := .stored, app := .ownRule, table := true, maxRow := 1, dflt := [0, 0, 0, 0, 0, 0, 0, 0, 0, 0, 0, 0, 0, 0, 0, 0, 0, 0, 0, 0, 0, 1, 0, 0, 255, 0, 0, 0, 0, 15, 66, 64] },
  { idx := 0x6830, sub := 2, name := "GATE_OPER", ty := .domain, size := 0, rd := 31, wr := 0, pers := .volatile, app := .immediate, table := true, maxRow := 1, dflt := [0, 0, 0, 0, 0, 0, 0, 0, 0, 0, 0, 0, 0, 0, 0, 0, 0, 0, 0, 0, 0, 1, 0, 0, 255, 0, 0, 0, 0, 15, 66, 64] },
  { idx := 0x6830, sub := 3, name := "GATE_STATUS", ty := .record, size := 12, rd := 31, wr := 0, pers := .volatile, app := .immediate, table := true, maxRow := 1, dflt := [2, 0, 0, 0, 0, 0, 0, 0, 0, 0, 0, 0] },
  { idx := 0x6830, sub := 4, name := "GATE_ENABLE", ty := .bool, size := 1, rd := 2, wr := 2, pers := .stored, app := .immediate, table := true, maxRow := 1, dflt := zeros 1 },
  { idx := 0x6830, sub := 5, name := "GATE_OVERSIZE", ty := .u32, size := 4, rd := 31, wr := 0, pers := .volatile, app := .immediate, table := true, maxRow := 1, dflt := zeros 4 }]

/-- Objects 0x7000 to 0x70FF. -/
def odTable70 : List ObjDesc := [
  { idx := 0x7000, sub := 1, name := "HR_ENABLE", ty := .bool, size := 1, rd := 2, wr := 2, pers := .stored, app := .nextBoot, dflt := [1] },
  { idx := 0x7000, sub := 2, name := "HR_ADDRESS", ty := .u16, size := 2, rd := 2, wr := 2, pers := .stored, app := .nextBoot, dflt := [255, 255] },
  { idx := 0x7000, sub := 3, name := "HR_DOMAIN", ty := .u16, size := 2, rd := 2, wr := 2, pers := .stored, app := .nextBoot, dflt := zeros 2 },
  { idx := 0x7000, sub := 4, name := "HR_UDP_PORT", ty := .u16, size := 2, rd := 2, wr := 2, pers := .stored, app := .nextBoot, fields := [⟨0, 2, false, 1024, 65535⟩], dflt := [238, 93] },
  { idx := 0x7000, sub := 5, name := "HR_SEED", ty := .record, size := 20, rd := 2, wr := 2, pers := .stored, app := .immediate, table := true, maxRow := 15, fields := [⟨0, 1, false, 0, 1⟩], mask := [255, 0, 255, 255, 255, 255, 255, 255, 255, 255, 255, 255, 255, 255, 255, 255, 255, 255, 255, 255], dflt := zeros 20 },
  { idx := 0x7000, sub := 6, name := "HR_KEY", ty := .u16, size := 2, rd := 2, wr := 2, pers := .stored, app := .immediate, table := true, maxRow := 1, dflt := [255, 255] },
  { idx := 0x7001, sub := 1, name := "HR_HELLO", ty := .u16, size := 2, rd := 2, wr := 2, pers := .stored, app := .immediate, fields := [⟨0, 2, false, 700, 5000⟩], dflt := [3, 232] },
  { idx := 0x7001, sub := 3, name := "HR_TAKEOVER_DELAY", ty := .u32, size := 4, rd := 2, wr := 2, pers := .stored, app := .immediate, fields := [⟨0, 4, false, 2000, 60000⟩], dflt := [0, 0, 19, 136] },
  { idx := 0x7001, sub := 4, name := "HR_ISOLATE", ty := .u32, size := 4, rd := 2, wr := 2, pers := .stored, app := .immediate, dflt := [0, 0, 15, 160] },
  { idx := 0x7001, sub := 5, name := "HR_HANDOVER_DELAY", ty := .u32, size := 4, rd := 2, wr := 2, pers := .stored, app := .immediate, fields := [⟨0, 4, false, 2000, 600000⟩], dflt := [0, 0, 39, 16] },
  { idx := 0x7001, sub := 6, name := "HR_FC_GUARD", ty := .u32, size := 4, rd := 2, wr := 2, pers := .stored, app := .immediate, fields := [⟨0, 4, false, 256, 1048576⟩], dflt := [0, 0, 16, 0] },
  { idx := 0x7001, sub := 7, name := "HR_LSA_REFRESH", ty := .u16, size := 2, rd := 2, wr := 2, pers := .stored, app := .immediate, fields := [⟨0, 2, false, 5, 600⟩], dflt := [0, 30] },
  { idx := 0x7002, sub := 1, name := "HR_PARTNER_CAND", ty := .u16, size := 2, rd := 2, wr := 2, pers := .stored, app := .immediate, table := true, maxRow := 7, dflt := [255, 255] },
  { idx := 0x7002, sub := 2, name := "HR_SPARE_LIST", ty := .u16, size := 2, rd := 2, wr := 2, pers := .stored, app := .immediate, table := true, maxRow := 3, dflt := [255, 255] },
  { idx := 0x7003, sub := 1, name := "HR_EVENT_SINK", ty := .record, size := 20, rd := 2, wr := 2, pers := .stored, app := .immediate, table := true, maxRow := 3, fields := [⟨0, 1, false, 0, 1⟩], mask := [255, 0, 255, 255, 255, 255, 255, 255, 255, 255, 255, 255, 255, 255, 255, 255, 255, 255, 255, 255], dflt := zeros 20 },
  { idx := 0x7010, sub := 1, name := "HR_REGION_EPOCH", ty := .u32, size := 4, rd := 31, wr := 0, pers := .stored, app := .immediate, dflt := zeros 4 },
  { idx := 0x7010, sub := 2, name := "HR_STATE", ty := .u8, size := 1, rd := 31, wr := 0, pers := .volatile, app := .immediate, dflt := zeros 1 },
  { idx := 0x7010, sub := 3, name := "HR_HELD", ty := .record, size := 6, rd := 31, wr := 0, pers := .volatile, app := .immediate, table := true, maxRow := 1, dflt := [255, 255, 0, 0, 0, 0] },
  { idx := 0x7010, sub := 4, name := "HR_ADJ", ty := .record, size := 13, rd := 31, wr := 0, pers := .volatile, app := .immediate, table := true, maxRow := 31, dflt := [255, 255, 0, 0, 0, 0, 0, 0, 0, 0, 0, 0, 0] },
  { idx := 0x7010, sub := 5, name := "HR_LSDB", ty := .domain, size := 0, rd := 10, wr := 0, pers := .volatile, app := .immediate },
  { idx := 0x7010, sub := 6, name := "HR_MIRRORS", ty := .u16, size := 2, rd := 31, wr := 0, pers := .volatile, app := .immediate, table := true, maxRow := 3, dflt := [255, 255] },
  { idx := 0x7010, sub := 7, name := "HR_SPARE", ty := .u16, size := 2, rd := 31, wr := 0, pers := .volatile, app := .immediate, dflt := [255, 255] },
  { idx := 0x7020, sub := 1, name := "HR_COUNT", ty := .u32, size := 4, rd := 31, wr := 0, pers := .volatile, app := .immediate, table := true, maxRow := 9, dflt := zeros 4 },
  { idx := 0x7030, sub := 1, name := "HR_HANDOVER", ty := .u16, size := 2, rd := 0, wr := 2, pers := .volatile, app := .ownRule, dflt := zeros 2 },
  { idx := 0x7030, sub := 2, name := "HR_HANDOVER_STATUS", ty := .record, size := 8, rd := 31, wr := 0, pers := .volatile, app := .immediate, dflt := zeros 8 }]

/-- Objects 0x8000 to 0x80FF. -/
def odTable80 : List ObjDesc := [
  { idx := 0x8000, sub := 1, name := "LC_STATE", ty := .u8, size := 1, rd := 31, wr := 0, pers := .sealed, app := .immediate, dflt := zeros 1 },
  { idx := 0x8000, sub := 2, name := "LC_CHALLENGE", ty := .octets, size := 32, rd := 10, wr := 0, pers := .volatile, app := .immediate, dflt := zeros 32 },
  { idx := 0x8000, sub := 3, name := "LC_REQUEST", ty := .domain, size := 0, rd := 0, wr := 10, pers := .volatile, app := .ownRule },
  { idx := 0x8000, sub := 4, name := "KEY_STORE_STATE", ty := .u8, size := 1, rd := 31, wr := 0, pers := .volatile, app := .immediate, dflt := zeros 1 },
  { idx := 0x8000, sub := 5, name := "RECOVERY_SET", ty := .u8, size := 1, rd := 31, wr := 0, pers := .sealed, app := .immediate, dflt := zeros 1 },
  { idx := 0x8010, sub := 1, name := "KEY_INFO", ty := .record, size := 38, rd := 31, wr := 0, pers := .volatile, app := .immediate, table := true, maxRow := 511, dflt := [255, 255, 0, 0, 0, 0, 0, 0, 0, 0, 0, 0, 0, 0, 0, 0, 0, 0, 0, 0, 0, 0, 0, 0, 0, 0, 0, 0, 0, 0, 0, 0, 0, 0, 0, 0, 0, 0] },
  { idx := 0x8010, sub := 2, name := "KEY_IMPORT", ty := .domain, size := 0, rd := 0, wr := 14, pers := .volatile, app := .immediate, table := true, maxRow := 511 },
  { idx := 0x8010, sub := 3, name := "KEY_DESTROY", ty := .u16, size := 2, rd := 0, wr := 10, pers := .volatile, app := .immediate, dflt := zeros 2 },
  { idx := 0x8020, sub := 1, name := "NODE_KEY_IMPORT", ty := .domain, size := 0, rd := 0, wr := 7, pers := .volatile, app := .immediate, table := true, maxRow := 131071, perNode := true },
  { idx := 0x8020, sub := 2, name := "NODE_KEY_INFO", ty := .record, size := 9, rd := 31, wr := 0, pers := .volatile, app := .immediate, table := true, maxRow := 131071, perNode := true, dflt := zeros 9 },
  { idx := 0x8020, sub := 3, name := "NODE_KEY_INDEX", ty := .u8, size := 1, rd := 2, wr := 2, pers := .stored, app := .nextSuperframe, table := true, maxRow := 3, dflt := [16] },
  { idx := 0x8020, sub := 4, name := "NODE_KEY_SOFT", ty := .u8, size := 1, rd := 2, wr := 2, pers := .stored, app := .immediate, fields := [⟨0, 1, false, 1, 32⟩], dflt := [30] },
  { idx := 0x8020, sub := 5, name := "NODE_KEY_HARD", ty := .u8, size := 1, rd := 2, wr := 2, pers := .stored, app := .immediate, fields := [⟨0, 1, false, 1, 32⟩], dflt := [31] },
  { idx := 0x8040, sub := 1, name := "SEC_COUNT", ty := .u32, size := 4, rd := 31, wr := 0, pers := .volatile, app := .immediate, table := true, maxRow := 11, dflt := zeros 4 }]

/-- Objects 0x8800 to 0x88FF. -/
def odTable88 : List ObjDesc := [
  { idx := 0x8800, sub := 1, name := "FW_BANK", ty := .record, size := 43, rd := 31, wr := 0, pers := .volatile, app := .immediate, table := true, maxRow := 1, dflt := zeros 43 },
  { idx := 0x8800, sub := 2, name := "FW_PART", ty := .record, size := 9, rd := 31, wr := 0, pers := .volatile, app := .immediate, table := true, maxRow := 13, dflt := zeros 9 },
  { idx := 0x8800, sub := 3, name := "FW_SVN_COUNTER", ty := .u8, size := 1, rd := 31, wr := 0, pers := .sealed, app := .immediate, table := true, maxRow := 3, dflt := zeros 1 },
  { idx := 0x8800, sub := 4, name := "FW_ROOT_DIGEST", ty := .octets, size := 32, rd := 31, wr := 0, pers := .sealed, app := .immediate, table := true, maxRow := 2, dflt := zeros 32 },
  { idx := 0x8800, sub := 5, name := "FW_LAST_DECISION", ty := .record, size := 10, rd := 31, wr := 0, pers := .volatile, app := .immediate, dflt := zeros 10 },
  { idx := 0x8810, sub := 1, name := "FW_ACTIVATE", ty := .u8, size := 1, rd := 0, wr := 10, pers := .volatile, app := .ownRule, fields := [⟨0, 1, false, 0, 2⟩], dflt := zeros 1 },
  { idx := 0x8810, sub := 2, name := "FW_CONFIRM", ty := .u8, size := 1, rd := 0, wr := 10, pers := .volatile, app := .ownRule, fields := [⟨0, 1, false, 0, 1⟩], dflt := zeros 1 },
  { idx := 0x8810, sub := 3, name := "FW_TRIAL_AUTO", ty := .bool, size := 1, rd := 2, wr := 2, pers := .stored, app := .immediate, dflt := [1] },
  { idx := 0x8810, sub := 4, name := "FW_TRIAL_TIME", ty := .u32, size := 4, rd := 2, wr := 2, pers := .stored, app := .immediate, fields := [⟨0, 4, false, 60, 86400⟩], dflt := [0, 0, 2, 88] },
  { idx := 0x8820, sub := 1, name := "IDENTITY_PUBKEY", ty := .octets, size := 1793, rd := 31, wr := 0, pers := .volatile, app := .immediate, dflt := zeros 1793 },
  { idx := 0x8820, sub := 2, name := "IDENTITY_CHAIN", ty := .octets, size := 4354, rd := 31, wr := 16, pers := .sealed, app := .immediate, dflt := zeros 4354 },
  { idx := 0x8830, sub := 1, name := "ATTEST_CHALLENGE", ty := .octets, size := 32, rd := 0, wr := 15, pers := .volatile, app := .immediate, dflt := zeros 32 },
  { idx := 0x8830, sub := 2, name := "ATTEST_REPORT", ty := .domain, size := 0, rd := 15, wr := 0, pers := .volatile, app := .immediate }]

/-- Objects 0x9000 to 0x90FF. -/
def odTable90 : List ObjDesc := [
  { idx := 0x9000, sub := 1, name := "SENSOR_TEMP", ty := .q16, size := 2, rd := 31, wr := 0, pers := .volatile, app := .immediate, qbits := 8, table := true, maxRow := 7, dflt := zeros 2 },
  { idx := 0x9000, sub := 2, name := "SENSOR_TJ", ty := .q16, size := 2, rd := 31, wr := 0, pers := .volatile, app := .immediate, qbits := 8, dflt := zeros 2 },
  { idx := 0x9000, sub := 3, name := "SENSOR_VOLT", ty := .u16, size := 2, rd := 31, wr := 0, pers := .volatile, app := .immediate, table := true, maxRow := 11, dflt := zeros 2 },
  { idx := 0x9000, sub := 4, name := "SENSOR_CURRENT", ty := .u16, size := 2, rd := 31, wr := 0, pers := .volatile, app := .immediate, table := true, maxRow := 11, dflt := zeros 2 },
  { idx := 0x9000, sub := 5, name := "SENSOR_PDET", ty := .q16, size := 2, rd := 31, wr := 0, pers := .volatile, app := .immediate, qbits := 8, table := true, maxRow := 1, dflt := [128, 0] },
  { idx := 0x9000, sub := 6, name := "TEMP_WARN", ty := .q16, size := 2, rd := 2, wr := 2, pers := .stored, app := .immediate, qbits := 8, dflt := zeros 2 },
  { idx := 0x9000, sub := 7, name := "PDET_HIGH", ty := .q16, size := 2, rd := 2, wr := 2, pers := .stored, app := .immediate, qbits := 8, fields := [⟨0, 2, true, 256, 2560⟩], dflt := [3, 0] }]

/-- Objects 0x9100 to 0x91FF. -/
def odTable91 : List ObjDesc := [
  { idx := 0x9100, sub := 1, name := "LOG_DATA", ty := .domain, size := 0, rd := 31, wr := 0, pers := .volatile, app := .immediate },
  { idx := 0x9100, sub := 2, name := "LOG_FLASH", ty := .domain, size := 0, rd := 10, wr := 0, pers := .volatile, app := .immediate },
  { idx := 0x9100, sub := 3, name := "LOG_SEQ", ty := .u32, size := 4, rd := 31, wr := 0, pers := .volatile, app := .immediate, dflt := zeros 4 },
  { idx := 0x9100, sub := 4, name := "LOG_PERSIST_MIN", ty := .u8, size := 1, rd := 2, wr := 2, pers := .stored, app := .immediate, fields := [⟨0, 1, false, 0, 3⟩], dflt := [2] }]

/-- Objects 0x9200 to 0x92FF. -/
def odTable92 : List ObjDesc := [
  { idx := 0x9200, sub := 1, name := "CALIB_REQUEST", ty := .record, size := 4, rd := 0, wr := 10, pers := .volatile, app := .ownRule, fields := [⟨0, 1, false, 1, 6⟩], mask := [255, 255, 1, 0], dflt := zeros 4 },
  { idx := 0x9200, sub := 2, name := "CALIB_QUEUE", ty := .record, size := 9, rd := 31, wr := 0, pers := .volatile, app := .immediate, table := true, maxRow := 15, dflt := zeros 9 },
  { idx := 0x9200, sub := 3, name := "CALIB_CANCEL", ty := .u8, size := 1, rd := 0, wr := 10, pers := .volatile, app := .ownRule, fields := [⟨0, 1, false, 0, 15⟩], dflt := zeros 1 }]

/-- Objects 0x9300 to 0x93FF. -/
def odTable93 : List ObjDesc := [
  { idx := 0x9300, sub := 1, name := "FW_STAGE", ty := .domain, size := 0, rd := 0, wr := 10, pers := .volatile, app := .immediate, table := true, maxRow := 1 }]

/-- Objects 0x9400 to 0x94FF. -/
def odTable94 : List ObjDesc := [
  { idx := 0x9400, sub := 1, name := "RECOVERY_CFG", ty := .record, size := 8, rd := 2, wr := 2, pers := .stored, app := .immediate, table := true, minRow := 1, maxRow := 12, fields := [⟨0, 1, false, 0, 7⟩, ⟨1, 2, false, 1, 1000⟩, ⟨3, 1, false, 1, 15⟩, ⟨4, 4, false, 60, 86400⟩], dflt := [3, 0, 10, 3, 0, 0, 2, 88] },
  { idx := 0x9400, sub := 2, name := "RECOVERY_LIMITS", ty := .record, size := 12, rd := 2, wr := 2, pers := .stored, app := .immediate, fields := [⟨0, 1, false, 1, 15⟩, ⟨1, 4, false, 60, 86400⟩, ⟨5, 1, false, 1, 3⟩, ⟨6, 4, false, 60, 2592000⟩, ⟨10, 2, false, 200, 2000⟩], dflt := [3, 0, 0, 14, 16, 3, 0, 1, 81, 128, 0, 200] },
  { idx := 0x9400, sub := 3, name := "RECOVERY_AUTO", ty := .u8, size := 1, rd := 2, wr := 2, pers := .stored, app := .immediate, fields := [⟨0, 1, false, 0, 3⟩], dflt := [3] },
  { idx := 0x9400, sub := 4, name := "RECOVER_REQUEST", ty := .record, size := 3, rd := 0, wr := 11, pers := .volatile, app := .immediate, fields := [⟨0, 1, false, 1, 12⟩, ⟨2, 1, false, 2, 4⟩], dflt := zeros 3 },
  { idx := 0x9400, sub := 5, name := "RECOVERY_COUNT", ty := .u32, size := 4, rd := 31, wr := 0, pers := .volatile, app := .immediate, table := true, maxRow := 51, dflt := zeros 4 },
  { idx := 0x9400, sub := 6, name := "RESET_CAUSE", ty := .record, size := 8, rd := 31, wr := 0, pers := .volatile, app := .immediate, dflt := zeros 8 },
  { idx := 0x9400, sub := 7, name := "RECOVERY_RELEASE", ty := .u8, size := 1, rd := 0, wr := 10, pers := .volatile, app := .immediate, fields := [⟨0, 1, false, 1, 1⟩], dflt := zeros 1 },
  { idx := 0x9400, sub := 8, name := "RECOVERY_UNSERVED", ty := .u32, size := 4, rd := 31, wr := 0, pers := .volatile, app := .immediate, dflt := zeros 4 }]

/-- Objects 0xA000 to 0xA0FF. -/
def odTableA0 : List ObjDesc := [
  { idx := 0xA010, sub := 1, name := "ODAP_UDP_PORT", ty := .u16, size := 2, rd := 2, wr := 2, pers := .stored, app := .nextBoot, fields := [⟨0, 2, false, 1024, 65535⟩], dflt := [238, 92] },
  { idx := 0xA010, sub := 2, name := "ODAP_MARGIN", ty := .u32, size := 4, rd := 3, wr := 3, pers := .stored, app := .immediate, fields := [⟨0, 4, false, 2500, 100000⟩], dflt := [0, 0, 39, 16] },
  { idx := 0xA010, sub := 3, name := "ODAP_SESSION_IDLE", ty := .u16, size := 2, rd := 2, wr := 2, pers := .stored, app := .immediate, fields := [⟨0, 2, false, 30, 3600⟩], dflt := [1, 44] },
  { idx := 0xA010, sub := 4, name := "ODAP_TXN_IDLE", ty := .u16, size := 2, rd := 2, wr := 2, pers := .stored, app := .immediate, fields := [⟨0, 2, false, 5, 600⟩], dflt := [0, 30] },
  { idx := 0xA010, sub := 5, name := "PCIE_HOST_ROLE", ty := .u8, size := 1, rd := 2, wr := 2, pers := .stored, app := .nextBoot, fields := [⟨0, 1, false, 0, 1⟩], dflt := zeros 1 },
  { idx := 0xA010, sub := 6, name := "ODAP_SESSIONS", ty := .u8, size := 1, rd := 31, wr := 0, pers := .volatile, app := .immediate, dflt := zeros 1 },
  { idx := 0xA010, sub := 7, name := "ODAP_DROPPED", ty := .u32, size := 4, rd := 31, wr := 0, pers := .volatile, app := .immediate, dflt := zeros 4 },
  { idx := 0xA011, sub := 1, name := "ODAP_PSK", ty := .record, size := 37, rd := 26, wr := 18, pers := .stored, app := .immediate, table := true, maxRow := 15, fields := [⟨0, 1, false, 0, 1⟩, ⟨1, 1, false, 0, 3⟩, ⟨4, 1, false, 0, 32⟩], dflt := zeros 37 }]

/-- Objects 0xA100 to 0xA1FF. -/
def odTableA1 : List ObjDesc := [
  { idx := 0xA100, sub := 1, name := "ETH_MODE", ty := .u8, size := 1, rd := 2, wr := 2, pers := .stored, app := .nextBoot, table := true, maxRow := 1, fields := [⟨0, 1, false, 0, 3⟩], dflt := [1] },
  { idx := 0xA100, sub := 2, name := "ETH_AN", ty := .bool, size := 1, rd := 2, wr := 2, pers := .stored, app := .nextBoot, table := true, maxRow := 1, dflt := [1] },
  { idx := 0xA100, sub := 3, name := "ETH_LINK", ty := .record, size := 3, rd := 31, wr := 0, pers := .volatile, app := .immediate, table := true, maxRow := 1, dflt := zeros 3 },
  { idx := 0xA100, sub := 4, name := "ETH_COUNT", ty := .u64, size := 8, rd := 31, wr := 0, pers := .volatile, app := .immediate, table := true, maxRow := 15, dflt := zeros 8 }]

/-- Objects 0xA200 to 0xA2FF. -/
def odTableA2 : List ObjDesc := [
  { idx := 0xA200, sub := 1, name := "PCIE_LINK", ty := .record, size := 3, rd := 31, wr := 0, pers := .volatile, app := .immediate, dflt := zeros 3 },
  { idx := 0xA200, sub := 2, name := "PCIE_MAX_GEN", ty := .u8, size := 1, rd := 2, wr := 2, pers := .stored, app := .nextBoot, fields := [⟨0, 1, false, 1, 3⟩], dflt := [3] },
  { idx := 0xA200, sub := 3, name := "PCIE_IDS", ty := .record, size := 8, rd := 31, wr := 2, pers := .stored, app := .nextBoot, dflt := [0, 0, 0, 150, 0, 0, 0, 0] }]

/-- Objects 0xA300 to 0xA3FF. -/
def odTableA3 : List ObjDesc := [
  { idx := 0xA300, sub := 1, name := "UART_BAUD", ty := .u32, size := 4, rd := 2, wr := 2, pers := .stored, app := .nextBoot, dflt := [0, 1, 194, 0] },
  { idx := 0xA300, sub := 2, name := "UART_COUNT", ty := .u32, size := 4, rd := 31, wr := 0, pers := .volatile, app := .immediate, table := true, maxRow := 2, dflt := zeros 4 }]

/-- Objects 0xA400 to 0xA4FF. -/
def odTableA4 : List ObjDesc := [
  { idx := 0xA400, sub := 1, name := "GPIO_CFG", ty := .record, size := 4, rd := 2, wr := 2, pers := .stored, app := .nextBoot, table := true, maxRow := 23, fields := [⟨0, 1, false, 0, 1⟩, ⟨1, 1, false, 0, 1⟩, ⟨2, 1, false, 0, 2⟩, ⟨3, 1, false, 0, 2⟩], dflt := zeros 4 },
  { idx := 0xA400, sub := 2, name := "BUS_OWNER", ty := .u8, size := 1, rd := 2, wr := 2, pers := .stored, app := .nextBoot, table := true, maxRow := 2, fields := [⟨0, 1, false, 0, 1⟩], dflt := zeros 1 },
  { idx := 0xA400, sub := 3, name := "I2C_SPEED", ty := .u32, size := 4, rd := 2, wr := 2, pers := .stored, app := .nextBoot, table := true, maxRow := 1, dflt := [0, 6, 26, 128] }]

/-- Objects 0xA500 to 0xA5FF. -/
def odTableA5 : List ObjDesc := [
  { idx := 0xA500, sub := 1, name := "MB_COUNT", ty := .record, size := 12, rd := 31, wr := 0, pers := .volatile, app := .immediate, table := true, maxRow := 24, dflt := zeros 12 },
  { idx := 0xA500, sub := 2, name := "CDC_STALE", ty := .u32, size := 4, rd := 31, wr := 0, pers := .volatile, app := .immediate, dflt := zeros 4 }]

/-- Objects 0xB000 to 0xB0FF. -/
def odTableB0 : List ObjDesc := [
  { idx := 0xB000, sub := 1, name := "DOMAIN_STATE", ty := .u8, size := 1, rd := 31, wr := 0, pers := .volatile, app := .immediate, table := true, maxRow := 11, dflt := zeros 1 },
  { idx := 0xB010, sub := 1, name := "FEED_CFG", ty := .record, size := 4, rd := 2, wr := 2, pers := .stored, app := .immediate, fields := [⟨0, 1, false, 20, 45⟩, ⟨1, 1, false, 5, 25⟩, ⟨2, 1, false, 10, 40⟩, ⟨3, 1, false, 0, 1⟩], dflt := [40, 20, 25, 0] },
  { idx := 0xB010, sub := 2, name := "FEED_STATE", ty := .record, size := 7, rd := 31, wr := 0, pers := .volatile, app := .immediate, dflt := zeros 7 },
  { idx := 0xB010, sub := 3, name := "FEED_SWITCH", ty := .u8, size := 1, rd := 0, wr := 2, pers := .volatile, app := .immediate, fields := [⟨0, 1, false, 0, 1⟩], dflt := zeros 1 },
  { idx := 0xB010, sub := 4, name := "FEED_CLEAR", ty := .u8, size := 1, rd := 0, wr := 2, pers := .volatile, app := .immediate, fields := [⟨0, 1, false, 0, 1⟩], dflt := zeros 1 },
  { idx := 0xB010, sub := 5, name := "FEED_SENSE", ty := .u16, size := 2, rd := 31, wr := 0, pers := .volatile, app := .immediate, table := true, maxRow := 11, dflt := zeros 2 }]

/-- Objects 0xB100 to 0xB1FF. -/
def odTableB1 : List ObjDesc := [
  { idx := 0xB100, sub := 1, name := "OW_TIME", ty := .record, size := 14, rd := 31, wr := 0, pers := .volatile, app := .immediate, dflt := zeros 14 },
  { idx := 0xB100, sub := 2, name := "OW_CAL_OFFSET", ty := .i32, size := 4, rd := 2, wr := 2, pers := .stored, app := .immediate, dflt := zeros 4 },
  { idx := 0xB100, sub := 3, name := "OW_TRIM", ty := .i16, size := 2, rd := 31, wr := 0, pers := .volatile, app := .immediate, dflt := zeros 2 },
  { idx := 0xB100, sub := 4, name := "OW_ALARM", ty := .record, size := 5, rd := 2, wr := 2, pers := .volatile, app := .immediate, table := true, maxRow := 1, fields := [⟨0, 1, false, 0, 2⟩], dflt := zeros 5 },
  { idx := 0xB100, sub := 5, name := "OW_SEAL", ty := .u8, size := 1, rd := 31, wr := 0, pers := .volatile, app := .immediate, dflt := zeros 1 },
  { idx := 0xB100, sub := 6, name := "BACKUP_MEM", ty := .u8, size := 1, rd := 3, wr := 3, pers := .volatile, app := .immediate, table := true, maxRow := 47, dflt := zeros 1 },
  { idx := 0xB100, sub := 7, name := "VBAT_MV", ty := .u16, size := 2, rd := 31, wr := 0, pers := .volatile, app := .immediate, dflt := zeros 2 }]

/-- Objects 0xB200 to 0xB2FF. -/
def odTableB2 : List ObjDesc := [
  { idx := 0xB200, sub := 1, name := "TAMPER_CFG", ty := .record, size := 4, rd := 2, wr := 2, pers := .stored, app := .immediate, table := true, maxRow := 1, modes := [2, 3], fields := [⟨0, 1, false, 0, 1⟩, ⟨1, 1, false, 0, 1⟩, ⟨2, 1, false, 0, 3⟩, ⟨3, 1, false, 0, 2⟩], dflt := zeros 4 },
  { idx := 0xB200, sub := 2, name := "TAMPER_STATE", ty := .record, size := 9, rd := 31, wr := 0, pers := .volatile, app := .immediate, table := true, maxRow := 1, dflt := zeros 9 },
  { idx := 0xB200, sub := 3, name := "TAMPER_CLEAR", ty := .u8, size := 1, rd := 0, wr := 2, pers := .volatile, app := .immediate, fields := [⟨0, 1, false, 1, 1⟩], dflt := zeros 1 }]

/-- The objects of one index page (index divided by 256). -/
def odPage : Nat → List ObjDesc
  | 0x10 => odTable10
  | 0x11 => odTable11
  | 0x12 => odTable12
  | 0x20 => odTable20
  | 0x21 => odTable21
  | 0x30 => odTable30
  | 0x31 => odTable31
  | 0x32 => odTable32
  | 0x33 => odTable33
  | 0x34 => odTable34
  | 0x38 => odTable38
  | 0x40 => odTable40
  | 0x50 => odTable50
  | 0x60 => odTable60
  | 0x64 => odTable64
  | 0x68 => odTable68
  | 0x70 => odTable70
  | 0x80 => odTable80
  | 0x88 => odTable88
  | 0x90 => odTable90
  | 0x91 => odTable91
  | 0x92 => odTable92
  | 0x93 => odTable93
  | 0x94 => odTable94
  | 0xA0 => odTableA0
  | 0xA1 => odTableA1
  | 0xA2 => odTableA2
  | 0xA3 => odTableA3
  | 0xA4 => odTableA4
  | 0xA5 => odTableA5
  | 0xB0 => odTableB0
  | 0xB1 => odTableB1
  | 0xB2 => odTableB2
  | _ => []

/-- The pages that hold objects, ascending. -/
def odPages : List Nat := [0x10, 0x11, 0x12, 0x20, 0x21, 0x30, 0x31, 0x32, 0x33, 0x34, 0x38, 0x40, 0x50, 0x60, 0x64, 0x68, 0x70, 0x80, 0x88, 0x90, 0x91, 0x92, 0x93, 0x94, 0xA0, 0xA1, 0xA2, 0xA3, 0xA4, 0xA5, 0xB0, 0xB1, 0xB2]

/-- Every object of the dictionary (R72). -/
def odTable : List ObjDesc := odPages.flatMap odPage

end Sys2Proof.Machine
end

