-- ==== Sys2Proof/Machine/Sparse.lean ====
section
/-!
DEFINITION. Sparse stores: a list of (key, value) pairs with keys strictly rising and no entry equal to what an unlisted
key reads as, so that equal stores are equal data. The object store, the memories and the per-node tables are of this form.
-/

namespace Sys2Proof.Machine

/-- The value listed at key `k`, if one is. -/
def sfind {α : Type} : List (Nat × α) → Nat → Option α
  | [], _ => none
  | (k', v) :: l, k => if k' = k then some v else sfind l k

/-- The list with `k` at `v`, in key order. -/
def sinsert {α : Type} (k : Nat) (v : α) : List (Nat × α) → List (Nat × α)
  | [] => [(k, v)]
  | (k', v') :: l =>
    if k < k' then (k, v) :: (k', v') :: l
    else if k = k' then (k, v) :: l
    else (k', v') :: sinsert k v l

/-- The list without key `k`. -/
def serase {α : Type} (k : Nat) : List (Nat × α) → List (Nat × α)
  | [] => []
  | (k', v') :: l => if k' = k then serase k l else (k', v') :: serase k l

/-- Read: the listed value, or `d k` where none is listed. -/
def sget {α : Type} (d : Nat → α) (l : List (Nat × α)) (k : Nat) : α := (sfind l k).getD (d k)

/-- Write: lists the value, or removes the entry where the value is what an unlisted key reads as. -/
def sset {α : Type} [DecidableEq α] (d : Nat → α) (l : List (Nat × α)) (k : Nat) (v : α) : List (Nat × α) :=
  if v = d k then serase k l else sinsert k v l

/-- Keys strictly rising, from above `lo`. -/
def srising {α : Type} : Option Nat → List (Nat × α) → Bool
  | _, [] => true
  | lo, (k, _) :: l => (match lo with | none => true | some b => decide (b < k)) && srising (some k) l

/-- The canonical form: keys strictly rising and no entry equal to its unlisted value. -/
def swf {α : Type} [DecidableEq α] (d : Nat → α) (l : List (Nat × α)) : Bool :=
  srising none l && l.all (fun e => decide (e.2 ≠ d e.1))

/-- List update at a position; unchanged where the position is beyond the end. -/
def setAt {α : Type} : List α → Nat → α → List α
  | [], _, _ => []
  | _ :: l, 0, v => v :: l
  | x :: l, n + 1, v => x :: setAt l n v

/-- List modification at a position. -/
def modAt {α : Type} (f : α → α) : List α → Nat → List α
  | [], _ => []
  | x :: l, 0 => f x :: l
  | x :: l, n + 1 => x :: modAt f l n

end Sys2Proof.Machine
end

