-- ==== Sys2Proof/Machine/State.lean ====
section
/-!
DEFINITION. The state of the FL96 as a block: every register, memory, queue, counter and mode the spec gives it, as plain
data, with its value at reset; the faults and refusals; and the queue of commands that wait. Each field's docstring gives its
width, the rule and the file of spec/ that names it, and its reset value.
-/

namespace Sys2Proof.Machine

/-- Why the model stops. No rule of this spec stops the block for good, so no meaning raises this fault; it is here for
the interface. Safe: it is never answered. -/
inductive Fault
  /-- Raised by no one (assumption log entry 1); safe. -/
  | none
  deriving DecidableEq, Repr

/-- Why the model refuses a command. -/
inductive Refusal
  /-- Raised by an arm of `exec` whose command has no meaning yet; safe: nothing is claimed of that command. -/
  | notModelled (mnemonic : String)
  deriving DecidableEq, Repr

/-! ### The chip as made (spec/00, spec/03) -/

/-- What the die's fuses and bonding hold: Table 03-3, the identity data of Table 03-2, and the other fused values. -/
structure Chip where
  /-- 2 bits; R53, 03; reset 0 (DESIGN CHOICE, log 2). FUSE_MAP PACKAGE: 0 F, 1 C. -/
  package : Nat := 0
  /-- 2 bits; R53, 03; reset 0 (DESIGN CHOICE, log 2). FUSE_MAP CHANNELS: 0 96, 1 48, 2 24, 3 invalid. -/
  channels : Nat := 0
  /-- 1 bit; R53, 03; reset 1 (DESIGN CHOICE, log 2). FUSE_MAP FABRIC: 0 L, 1 H. -/
  fabric : Nat := 1
  /-- 1 bit; R53, 03; reset 0 (DESIGN CHOICE, log 2). FUSE_MAP GRADE: 0 I, 1 E. -/
  grade : Nat := 0
  /-- 1 bit; R53, 03; reset 0 (DESIGN CHOICE, log 2). BOND_C, the bonding as sensed: 1 C package. -/
  bondC : Nat := 0
  /-- 3 bits; R53, R390, 03 and 16; reset 0 (DESIGN CHOICE, log 2). Revocation fuses of the three vendor roots. -/
  rootRevoked : Nat := 0
  /-- 16 bits; R52, 03; reset 0x4200, stepping B0 (DESIGN CHOICE, log 2). STEPPING. -/
  stepping : Nat := 0x4200
  /-- 8 octets; R52, 03; reset zeros (DESIGN CHOICE, log 2). DEVICE_SERIAL. -/
  serial : Octets := zeros 8
  /-- 6 octets; Table 12 objects, 12; reset 02:00:00:00:00:01 (DESIGN CHOICE, log 2). The fused default of OWN_MAC. -/
  ownMac : Octets := [2, 0, 0, 0, 0, 1]
  /-- 4 counters of 0 to 128; R392, 16; reset zeros (DESIGN CHOICE, log 2). Fused security-version counters. -/
  svn : List Nat := [0, 0, 0, 0]
  /-- 3 of 32 octets; R390, 16; reset zeros (DESIGN CHOICE, log 2). Fused vendor root digests. -/
  rootDigests : List Octets := [zeros 32, zeros 32, zeros 32]
  /-- 4 fuses of two redundant cells each; R360, 15; reset the first blown: FACTORY, as shipped (DESIGN CHOICE, log 2). The life-cycle fuses; their number
  blown is LC_STATE. -/
  lcFuses : List (Bool × Bool) := [(true, true), (false, false), (false, false), (false, false)]
  /-- R26, 01; reset 512 MiB (DESIGN CHOICE, log 2). Octets of the fitted external flash. -/
  flash : Nat := 0x20000000
  deriving DecidableEq, Repr

/-! ### What leaves the chip -/

/-- One ODAP response (Table 04-7): OPCODE, REQUEST_ID, TXN_ID, STATUS and body; DUPLICATE is set on a replay. -/
structure Response where
  op : Nat
  rid : Nat
  txn : Nat
  status : Nat
  body : Octets
  dup : Bool := false
  deriving DecidableEq, Repr

/-- One NOTIFY body (Table 04-12). -/
structure Notif where
  sub : Nat
  seq : Nat
  overrun : Bool := false
  lost : Bool := false
  asn : Nat := 0
  secs : Nat := 0
  nanos : Nat := 0
  lostCount : Nat := 0
  payload : Octets
  deriving DecidableEq, Repr

/-! ### Operating modes (spec/02) -/

/-- The twelve modes of Table 02-1. -/
inductive Mode
  | m0 | m1 | m2 | m3 | m4 | m5 | m6 | m7 | m8 | m9 | m10 | m11
  deriving DecidableEq, Repr

/-- States of a power domain, coded as OD 0xB000.01 DOMAIN_STATE codes them. -/
inductive Dom
  | off | on | hold | rx | inReset
  deriving DecidableEq, Repr

/-- How a pending mode change takes effect (Table 02-7): at the boundary after an announcement (R41), at the end of
service (R47), at a slot that needs no notice, or once network time and the epoch are valid (R39). -/
inductive ChangeKind
  | announced | endOfService | atSlot | waiting
  deriving DecidableEq, Repr

/-- An accepted mode change not yet in effect (R41, R44, R46). -/
structure ModeChange where
  target : Mode
  kind : ChangeKind
  /-- Effective ASN as returned (R41). -/
  eff : Nat
  /-- First boundary after acceptance, whose full beacon is the first to carry the announcement (R41). -/
  first : Nat := 0
  /-- The schedule set MODE_SCHEDULE_SET named at acceptance (R46). -/
  set : Nat := 0
  /-- The announced epoch (R42). -/
  epoch : Epoch := {}
  /-- Whether the commit point of R44 has passed. -/
  committed : Bool := false
  /-- Whether an announcing beacon, or one with the end-of-service mark, was emitted (R44, R47). -/
  announced : Bool := false
  deriving DecidableEq, Repr

/-- Modes, domains and the delayed ends of mode changes (spec/02). -/
structure Ctl where
  /-- 0 to 11; R30, 02; reset M0 (R39). MODE_CURRENT. -/
  mode : Mode := .m0
  /-- R41, R46, 02; reset none. The pending mode change; MODE_PENDING and MODE_EFFECTIVE_ASN show it. -/
  change : Option ModeChange := none
  /-- R269, 11; reset M5 (DESIGN CHOICE, log 3). The working mode assigned to a unit in M9 or M10. -/
  work : Mode := .m5
  /-- 400 MHz cycles; R38, 02; reset none. When the requested reboot is asserted, by the elapsed-time counter. -/
  rebootAt : Option Nat := none
  /-- 400 MHz cycles; R39, 02; reset none. When D2 to D11 go off after a change to M1. -/
  powerDownAt : Option Nat := none
  /-- 12 of Table 02-2's states; R31, 02; reset D0 on, the others off (R31, M0). DOMAIN_STATE. -/
  domains : List Dom := [.on, .off, .off, .off, .off, .off, .off, .off, .off, .off, .off, .off]
  deriving DecidableEq, Repr

/-! ### The ODAP server (spec/04) -/

/-- One entry of a session's replay cache (R83), with the time it was stored in cycles. -/
structure CacheEntry where
  rid : Nat
  rsp : Response
  at_ : Nat
  deriving DecidableEq, Repr

/-- One ODAP session (R76): its identifier, its transport of Table 04-5 (0 field network, 1 service UART, 2 PCIe,
3 Hedgerow, 4 internal), its role bit, and its PSK row. -/
structure Session where
  id : Nat
  transport : Nat
  role : Nat
  pskRow : Option Nat := none
  /-- 32 bits; R83. Highest REQUEST_ID seen; none in a new session. -/
  highest : Option Nat := none
  /-- Up to 32; R83. The replay cache, newest first. -/
  cache : List CacheEntry := []
  /-- Up to 64; R498. Ended transactions and whether each reached its commit point, newest first. -/
  endedTxns : List (Nat × Bool) := []
  /-- Up to 64; R498. Ended block transfers, likewise. -/
  endedBlocks : List (Nat × Bool) := []
  /-- 16 bits; R498. Next BLOCK_ID. -/
  nextBlock : Nat := 0
  /-- Cycles; R76. When the client's last message arrived. -/
  lastMsg : Nat := 0
  /-- R119, R322. The Ethernet port that a session on the field network came by. -/
  eth : Nat := 0
  /-- R78, R302, 04 and 12. Ethernet and IPv6 address and UDP port of a client on the field network. -/
  mac : Nat := 0
  ip : Nat := 0
  udp : Nat := 0
  /-- R355, 14. The home address that a peer's last request came from. -/
  peer : Nat := 0xFFFF
  deriving DecidableEq, Repr

/-- A notification that its client has not acknowledged (R92): when it was last sent, in cycles, and how often again. -/
structure Unacked where
  n : Notif
  at_ : Nat
  resends : Nat := 0
  deriving DecidableEq, Repr

/-- A write staged in a transaction (R87), with its value in the wire encoding. -/
structure Staged where
  idx : Nat
  sub : Nat
  row : Nat
  val : Octets
  deriving DecidableEq, Repr

/-- An open transaction (R87, R88): its TXN_ID, session, staged writes in order, last request in cycles. -/
structure Txn where
  id : Nat
  session : Nat
  staged : List Staged := []
  lastReq : Nat := 0
  /-- BLOCK_ID and object of the block writes whose complete BLOCK_END is staged (R86, R498). -/
  blocks : List (Nat × Addr) := []
  deriving DecidableEq, Repr

/-- An open block transfer (R85): a read serves `snapshot`; a write keeps its segments by number. -/
structure Block where
  session : Nat
  id : Nat
  idx : Nat
  sub : Nat
  row : Nat
  isWrite : Bool
  size : Nat
  txn : Nat := 0
  snapshot : Octets := []
  segs : List (Nat × Octets) := []
  lastMsg : Nat := 0
  deriving DecidableEq, Repr

/-- A subscription (R90 to R92). -/
structure Sub where
  id : Nat
  session : Nat
  kind : Nat
  periodMs : Nat
  minGapMs : Nat
  evtLo : Nat
  evtHi : Nat
  idx : Nat
  sub : Nat
  row : Nat
  /-- 32 bits; R91. SEQ of the next notification. -/
  seq : Nat := 1
  /-- Up to 16; R92. Unacknowledged notifications, oldest first. -/
  unacked : List Unacked := []
  /-- R92. Paused until a message arrives on the session. -/
  paused : Bool := false
  /-- R92. Events not sent since the last notification. -/
  lostCount : Nat := 0
  /-- Cycles; R90. When the last notification was sent. -/
  lastAt : Option Nat := none
  /-- R90. A value changed within MIN_GAP_MS and waits for its end. -/
  held : Bool := false
  /-- Slot, seconds and nanoseconds; R91. When the value that waits last changed. -/
  heldAt : Nat × Nat × Nat := (0, 0, 0)
  deriving DecidableEq, Repr

/-- A committed write that has not taken effect (R71): `eff` is its effective ASN, none for NEXT_BOOT. -/
structure PendWrite where
  idx : Nat
  sub : Nat
  row : Nat
  val : Octets
  eff : Option Nat
  deriving DecidableEq, Repr

/-- A frame in an egress queue (R322): length, colour, and what it is, as the output names it. -/
structure EgFrame where
  len : Nat
  yellow : Bool := false
  /-- 0 transit, 1 report, 2 own ODAP, 3 own Hedgerow, 4 other IPv6, 5 control, 6 other. -/
  kind : Nat := 0
  body : Octets := []
  /-- Ethernet addresses and IEEE 802.1Q tag (R301). -/
  dst : Nat := 0
  src : Nat := 0
  tci : Option Nat := none
  /-- IPv6 destination and UDP destination port of a datagram of the unit (R74, R336). -/
  ip : Nat := 0
  udp : Nat := 0
  /-- The node that a report concerns, and the report's stamp in ns of the local clock (R120). -/
  node : Option Nat := none
  stamp : Nat := 0
  deriving DecidableEq, Repr

/-- The dictionary server: sessions, transactions, transfers, subscriptions and pending writes. -/
structure Srv where
  /-- R93, 04; reset false: no server runs in M0. Whether a server answers. -/
  up : Bool := false
  /-- Up to 8 DTLS, PCIe and internal; R76, R84, 04; reset empty. -/
  sessions : List Session := []
  /-- Next session's number, the model's own name for it (log 5); reset 0. -/
  nextSession : Nat := 0
  /-- Up to 4; R84, R87, 04; reset empty. Open transactions. -/
  txns : List Txn := []
  /-- 32 bits; R498, 04; reset 1. Next TXN_ID. -/
  nextTxn : Nat := 1
  /-- Up to 2 per session; R84, R85, 04; reset empty. Open block transfers. -/
  blocks : List Block := []
  /-- Up to 256; R84, R90, 04; reset empty. Subscriptions. -/
  subs : List Sub := []
  /-- 16 bits; R90, 04; reset 1 (DESIGN CHOICE, log 5). Next SUB_ID. -/
  nextSub : Nat := 1
  /-- In commit order; R71, 04; reset empty. Pending writes. -/
  pend : List PendWrite := []
  /-- R61, 03; reset none. A committed CONFIG_IMPORT that the next boot, warm or cold, adopts. -/
  importStaged : Option Octets := none
  /-- R119, R120, R322, 05 and 13; reset empty. Frames that Canvas hands over to Riddle, with their ports, oldest first; they enter the
  queues before anything else does (log 153). -/
  outbox : List (Option Nat × EgFrame) := []
  /-- R92, R323, R355; reset empty. Notifications to peers that Canvas has still to send over the Hedgerow. -/
  peerNotes : List (Nat × Notif) := []
  deriving DecidableEq, Repr

/-! ### Timebase (spec/05) -/

/-- Clock states of Table 05-1. -/
inductive ClkState
  | invalid | acquiring | locked | holdover | stepHeld
  deriving DecidableEq, Repr

/-- A requested clock step (R108): its slot E and, from the fixing moment, its amount in ns. -/
structure StepReq where
  slot : Nat
  fixed : Option Int := none
  deriving DecidableEq, Repr

/-- What an Announce message says of its sender, in the order the default best master clock algorithm compares it. -/
structure PtpDs where
  priority1 : Nat
  clockClass : Nat
  accuracy : Nat
  variance : Nat
  priority2 : Nat
  identity : Nat
  steps : Nat
  deriving DecidableEq, Repr

/-- A foreign master heard at a port (R102): its sourcePortIdentity, the data set of its latest Announce, and the elapsed times of its latest
two, in cycles. -/
structure Foreign where
  source : Nat
  ds : PtpDs
  last : Nat
  prev : Option Nat := none
  deriving DecidableEq, Repr

/-- One IEEE 1588 port (R102, R104). Stamps and delays in units of 2^-16 ns. -/
structure PtpPort where
  /-- U8; R123, 05; reset 1 (its default). portState of IEEE 1588. -/
  portState : Nat := 1
  /-- R102, 05; reset empty. The foreign masters heard. -/
  foreigns : List Foreign := []
  /-- R102, 05; reset none. A two-step Sync that waits for its Follow_Up: sequence and corrected receive stamp. -/
  syncWait : Option (Nat × Int) := none
  /-- R102, 05; reset none. The last complete Sync: origin time (with corrections) and receive stamp. -/
  lastSync : Option (Int × Int) := none
  /-- R102, 05; reset none. A Delay_Req or Pdelay_Req sent: sequence and corrected transmit stamp. -/
  reqSent : Option (Nat × Int) := none
  /-- R102, 05; reset none. A two-step Pdelay_Resp that waits for its Follow_Up: sequence, t2, t4. -/
  pdelayWait : Option (Nat × Int × Int) := none
  /-- R102, 05; reset none. The measured mean path delay. -/
  delay : Option Int := none
  /-- 16 bits; R102, 05; reset 0 (DESIGN CHOICE, log 4). Next sequence identifier of the port's own messages. -/
  seq : Nat := 0
  deriving DecidableEq, Repr

/-- The local clock, its servo, its step requests, PPS and IEEE 1588 (spec/05). -/
structure Clk where
  /-- 102 bits, in 2^-40 ns; R95, 05; reset 0 (R97). The local clock: seconds, nanoseconds, fraction, accumulator. -/
  now : Nat := 0
  /-- Cycles of the 400 MHz timebase; R195, 08; reset 0 (DESIGN CHOICE, log 4). The elapsed-time counter. -/
  elapsed : Nat := 0
  /-- R99, 05; reset INVALID. TIME_STATE. -/
  state : ClkState := .invalid
  /-- 1 bit; R99, R100, 05; reset 0. TIME_FLAGS VALID. -/
  valid : Bool := false
  /-- 0 to 16; R99, 05; reset 0. Consecutive measurements at or below LOCK_LIMIT while ACQUIRING. -/
  goodRun : Nat := 0
  /-- Up to 16 magnitudes, ns; R101, 05; reset empty. Measurements since the last step, newest first. -/
  hist : List Nat := []
  /-- I64, ns; R123, 05; reset 0. TIME_OFFSET. -/
  offset : Int := 0
  /-- 1 bit; R107, 05; reset 0. TIME_FLAGS STEP_PENDING. -/
  stepPending : Bool := false
  /-- I64, ns; R107, 05; reset 0. STEP_AMOUNT. -/
  stepAmount : Int := 0
  /-- 0 to 3; R99, R107, 05; reset 0. Consecutive measurements at or below STEP_THRESHOLD. -/
  okRun : Nat := 0
  /-- ns; R101, 05; reset 0. TIME_EST_ERROR on entry to HOLDOVER. -/
  holdErr : Nat := 0
  /-- Cycles; R101, 05; reset 0. When HOLDOVER was entered. -/
  holdSince : Nat := 0
  /-- Cycles; R99, 05; reset none. When the last measurement arrived. -/
  lastMeas : Option Nat := none
  /-- 1 bit; Table 05-2, 05; reset 0. TIME_FLAGS SOURCE_LOST. -/
  sourceLost : Bool := false
  /-- I32, 2^-16 ppm; R95, R98, 05; reset 0. RATE_CORR, the rate correction in force. -/
  rateCorr : Int := 0
  /-- I32, 2^-16 ppm; R98, 05; reset 0. The servo's frequency estimate. -/
  freqEst : Int := 0
  /-- R108, 05; reset none. The pending step request. -/
  stepReq : Option StepReq := none
  /-- Up to 3, ns from the integral second; R105, 05; reset empty. The last PPS_IN edges, newest first. -/
  ppsEdges : List Int := []
  /-- Up to 2 offsets, ns; R105, 05; reset empty. Edges outside PPS_IN_WINDOW, not yet discarded: a third that agrees makes them measurements. -/
  ppsHeld : List Int := []
  /-- Cycles; Table 05-2, 05; reset none. When the last PPS_IN edge was accepted. -/
  ppsAt : Option Nat := none
  /-- U64, s; R105, 05; reset none. TIME_SET staged for source 2. -/
  timeSet : Option Nat := none
  /-- s; R106, 05; reset empty. The seconds PPS_OUT has marked, as first and last of each run, newest first. -/
  ppsMarked : List (Nat × Nat) := []
  /-- I64, ns; R98, 05; reset none. The last offset an IEEE 1588 exchange gave, whatever the source selected. -/
  ptpOffset : Option Int := none
  /-- Count; R102, 05; reset 0. IEEE 1588 messages discarded. -/
  ptpDiscarded : Nat := 0
  /-- Count; R105, 05; reset 0. PPS_IN edges discarded. -/
  ppsDiscarded : Nat := 0
  /-- Two ports; R102, 05; reset as PtpPort. The IEEE 1588 ports of ETH_0 and ETH_1. -/
  ports : List PtpPort := [{}, {}]
  /-- Up to 3 epochs, newest first; R111, 05; reset empty. The epochs before the one in force. -/
  oldEpochs : List Epoch := []
  /-- R109, R116, 05; reset none. The highest ASN run since the epochs in force were taken up: none runs twice. -/
  ran : Option Nat := none
  deriving DecidableEq, Repr

/-! ### RF paths, synthesisers and the front end (spec/06) -/

/-- One synthesiser of Table 06-2. -/
structure Synth where
  /-- 1 bit; R127, 06; reset 0. Whether it is locked; SYN_LOCKED. -/
  locked : Bool := false
  /-- Hz; R128, 06; reset 0. The window centre it is set to. -/
  centre : Nat := 0
  /-- 0 to 3; R132, 06; reset 0. Relock attempts made since lock was lost; the third is the full calibration. -/
  attempts : Nat := 0
  deriving DecidableEq, Repr

/-- One entry of a synthesiser's calibration table (R128): state 0 empty, 1 valid, 2 stale, as SG_CAL_TABLE codes it. -/
structure CalEntry where
  centre : Nat := 0
  temp : Int := 0
  state : Nat := 0
  /-- Order of last use, for the eviction of the least recently used. -/
  used : Nat := 0
  /-- Cycles; when it was calibrated. -/
  at_ : Nat := 0
  deriving DecidableEq, Repr

/-- One receive path's gain plan (R136, R137). Levels in 1/256 dB. -/
structure RxPath where
  /-- Up to 64, newest first; R136, 06; reset empty. Peaks of the measured blocks, dBm Q8. -/
  peaks : List Int := []
  /-- 0 to 23; R137, 06; reset 12 (DESIGN CHOICE, log 14). g_env_last. -/
  envLast : Nat := 12
  /-- 0 to 23; R133, R137, 06; reset none: off. Gain index in the slot in progress; none where blanked or off. -/
  gain : Option Nat := none
  /-- 0 to 23; R133, 06; reset none. Its gain in the latest slot in which its band did not transmit. -/
  still : Option Nat := none
  /-- R133, 06; reset false. Whether a transmission in the slot in progress lowered its gain. -/
  lowered : Bool := false
  deriving DecidableEq, Repr

/-- The front-end control of one band, as logical levels (R134, R135). -/
structure FrontEnd where
  /-- R135, 06; reset true: high-impedance from power-up until the configuration store is read. -/
  highZ : Bool := true
  /-- R134, 06; reset inactive. LNA_EN_A. -/
  lnaA : Bool := false
  /-- R134, 06; reset inactive. LNA_EN_B. -/
  lnaB : Bool := false
  /-- R134, 06; reset receive position. TRSW, true in the transmit position. -/
  trsw : Bool := false
  /-- R134, 06; reset aerial A. ASEL, true for aerial B. -/
  aselB : Bool := false
  deriving DecidableEq, Repr

/-- One calibration item on one path (R141, R142): items 1 to 5 of Table 06-7, paths numbered as Table 17-5's RF_PATH. -/
structure CalItem where
  item : Nat
  path : Nat
  /-- Cycles; when it last ran. -/
  lastAt : Option Nat := none
  /-- Q8 degrees C; die temperature at its last run. -/
  lastTemp : Int := 0
  /-- Consecutive failures. -/
  fails : Nat := 0
  /-- Whether it is running. -/
  running : Bool := false
  /-- us from the slot's start at which it was last started. -/
  startUs : Nat := 0
  deriving DecidableEq, Repr

/-- The RF paths, in the order sub-GHz A, sub-GHz B, 2.4 GHz A, 2.4 GHz B; the synthesisers in the order SYN_SGR, SYN_SGT,
SYN_G2R, SYN_G2T; the bands in the order sub-GHz, 2.4 GHz. -/
structure Rf where
  /-- 4; R127, 06; reset as Synth. -/
  synths : List Synth := [{}, {}, {}, {}]
  /-- 8 entries each for SYN_SGR and SYN_SGT, one each for SYN_G2R and SYN_G2T; R128, 06; reset empty. -/
  calTab : List (List CalEntry) := [List.replicate 8 {}, List.replicate 8 {}, List.replicate 8 {}, List.replicate 8 {}]
  /-- Count; R128, 06; reset 0. The order in which calibration entries were used. -/
  useCount : Nat := 0
  /-- 4; R136, R137, 06; reset as RxPath. -/
  paths : List RxPath := [{}, {}, {}, {}]
  /-- 2; R134, R135, 06; reset as FrontEnd. -/
  fe : List FrontEnd := [{}, {}]
  /-- R141, 06; reset empty. Calibration items that have run or failed. -/
  items : List CalItem := []
  /-- Count per band; R131, 06; reset 0. Late-synthesiser drops in this slot. -/
  lateDrops : List Nat := [0, 0]
  deriving DecidableEq, Repr

/-! ### Palette, Knife and the capture buffer (spec/07) -/

/-- States of Table 07-4. -/
inductive EngSt
  | off | test | faulty | idle | armed | search | decide | hunt | header | payload | report
  deriving DecidableEq, Repr

/-- One channel-receiver engine (R157 to R168). -/
structure Engine where
  /-- R157, 07; reset OFF. -/
  st : EngSt := .off
  /-- R153, 07; reset none. The cell it was given, by its place in the slot's plan. -/
  cell : Option Nat := none
  /-- R157, 07; reset closed. Whether the cell's receive window is open. -/
  window : Bool := false
  /-- R181, 07; reset false. Whether an SFD was accepted in the cell's window. -/
  sfdSeen : Bool := false
  /-- ns from slot start; R160, 07; reset 0. The sample at which the preamble was detected. -/
  detNs : Nat := 0
  /-- 0 A, 1 B; R161, 07; reset 0. The kept aerial. -/
  aerial : Nat := 0
  /-- R161, 07; reset false. SINGLE_AERIAL. -/
  single : Bool := false
  /-- Q0.16; R161, 07; reset 0. cbar of the kept aerial. -/
  cbar : Nat := 0
  /-- 0 to 126, half dB; R162, 07; reset 0. Digital gain of aerials A and B. -/
  gainA : Nat := 0
  /-- As gainA, for aerial B. -/
  gainB : Nat := 0
  /-- R162, 07; reset false. Whether the kept aerial's gain is frozen. -/
  frozen : Bool := false
  /-- R163, 07; reset false. Whether the SFD that matched was the coded one. -/
  coded : Bool := false
  /-- ns from slot start; R118, R168, 05 and 07; reset 0. End of the SFD. -/
  sfdNs : Nat := 0
  /-- 11 bits; R165, 07; reset 0. Length from the PHR. -/
  len : Nat := 0
  /-- R165, 07; reset false. The PHR names a 2-octet FCS. -/
  fcs2 : Bool := false
  /-- R167, 07; reset false. Whether a watch takeover was made in this reception. -/
  watch : Bool := false
  /-- R173, 07; reset false. KNIFE_TRAINING. -/
  training : Bool := false
  /-- 0 to 2; R155, 07; reset 0. Self-test failures in a row. -/
  fails : Nat := 0
  /-- R155, 07; reset false. It is being re-initialised and tested again, out of service. -/
  retest : Bool := false
  /-- R155, 07; reset false. It raised a fault and leaves service at the next slot start. -/
  leaving : Bool := false
  deriving DecidableEq, Repr

/-- What Knife holds for one bin (R172): the 4 complex coefficients w_k, in units of 2^-24 (log entry 160), and the bin's 3 latest feedback
samples, newest first. -/
structure KnifeBin where
  taps : List (Int × Int) := List.replicate 4 (0, 0)
  hist : List (Int × Int) := List.replicate 3 (0, 0)
  deriving DecidableEq, Repr

/-- One Knife coefficient set (R172, R173): its bins, sparse by bin, an unlisted one all zero; and when and at what die temperature, Q8, it
was last used. -/
structure KnifeSet where
  bins : List (Nat × KnifeBin) := []
  usedAt : Option Nat := none
  temp : Int := 0
  deriving DecidableEq, Repr

/-- Palette, Knife and capture. -/
structure Pal where
  /-- 100; R11, R157, 01 and 07; reset as Engine. -/
  engines : List Engine := List.replicate 100 {}
  /-- Sparse, by NOISE_FLOOR row: up to 16 block powers, dBm Q8, newest first; R166, 07; reset empty. -/
  floors : List (Nat × List Int) := []
  /-- Sparse, by bin: block powers of the last SURVEY_AVG ms, newest first; R180, 07; reset empty. -/
  survey : List (Nat × List Int) := []
  /-- 16 sub-GHz and 2 2.4 GHz; R173, 07; reset untrained. -/
  knife : List KnifeSet := List.replicate 18 {}
  /-- Per band, 40 bits; R176, 07; reset none. The last slot in which the band transmitted, whose leakage KNIFE_LEAK reports. -/
  leakAsn : List (Option Nat) := [none, none]
  /-- Sparse, by NOISE_FLOOR row; R172, 07; reset empty. The samples e_k of a bin's latest block, after the subtraction. -/
  residual : List (Nat × List (Int × Int)) := []
  /-- Band, lowest bin, bins and elapsed time of the end of each reception of the last ms; R166, 07; reset empty. -/
  recent : List (Nat × Nat × Nat × Nat) := []
  /-- 0 to 4; R180, 07; reset 0. CAPTURE_STATUS STATE. -/
  capState : Nat := 0
  /-- 32 bits; R180, 07; reset 0. CAPTURE_STATUS BLOCKS_DONE of a capture that has ended. -/
  capDone : Nat := 0
  /-- R29, R177, 01 and 07; reset empty. Blocks of the capture whose reads are poisoned, which are absent. -/
  capBad : List Nat := []
  /-- R177, R180, 07; reset empty. CAPTURE_CFG of the capture whose blocks the buffer holds; with capBase it gives them (log entry 161). -/
  capCfg : Octets := []
  /-- The model's own (log entry 8); reset 0. Number of the first free value that is a sample of that capture. -/
  capBase : Nat := 0
  /-- Elapsed time; R180, 07; reset 0. The start of that capture. -/
  capFrom : Nat := 0
  deriving DecidableEq, Repr

/-! ### Primer (spec/08) -/

/-- One pre-distortion coefficient set (R188, R190, R193). -/
structure DpdSet where
  /-- 0 to 3; R193, 08; reset DEFAULT. DPD_STATE code. -/
  st : Nat := 0
  /-- 16 complex Q2.14, k major (1, 3, 5, 7), taps 0 to 3; R188, 08; reset identity, that of R188 without a firmware set (DESIGN CHOICE, log 15). -/
  coef : List (Int × Int) := (16384, 0) :: List.replicate 15 (0, 0)
  /-- R190, 08; reset none. The set solved and written to the NEXT bank, in force from the next slot start. -/
  next : Option (List (Int × Int)) := none
  /-- R191, 08; reset none. The coefficients that the latest update replaced and the error before it, Q8 dB, until the first capture after
  it shows whether it stands. -/
  check : Option (List (Int × Int) × Int) := none
  /-- Q8 dB; R202, 08; reset 0. Latest normalised error; DPD_NMSE. -/
  nmse : Int := 0
  /-- Count; R190, 08; reset 0. Captured slots since the last update. -/
  captured : Nat := 0
  /-- 0 to 3; R193, 08; reset 0. Updates in a row at or below DPD_NMSE_TARGET. -/
  good : Nat := 0
  /-- 0 to 3; R191, 08; reset 0. Rejections in a row. -/
  rejected : Nat := 0
  /-- Q8 degrees C; R193, 08; reset 0. Die temperature at the last convergence. -/
  temp : Int := 0
  deriving DecidableEq, Repr

/-- One dwell account (R194, R195): its rule, its centre in Hz (0 for a GROUP rule), and its ring of charges in us by bucket
number, so that the ring is the charges whose bucket is within 64 of the current one. -/
structure DwellAcc where
  rule : Nat
  band : Nat
  centre : Nat
  charges : List (Nat × Nat) := []
  deriving DecidableEq, Repr

/-- One entry of the wake-up queue (R199, R201, R252). -/
structure WakeEntry where
  /-- 0 RESYNC, 1 REJOIN, 2 GROUP. -/
  type : Nat
  /-- Node short address, or group number. -/
  addr : Nat
  /-- REASON of the directive that follows a REJOIN telegram (R242, R268). -/
  reason : Nat := 1
  /-- PAN_CFG row, and the node; none for GROUP. -/
  pan : Nat := 0
  node : Option Nat := none
  /-- ASN of the emitted or prepared telegram, and its LEAD; none while it waits. -/
  sent : Option (Nat × Nat) := none
  deriving DecidableEq, Repr

/-- Primer. -/
structure Pri where
  /-- 8 sub-GHz and 1 2.4 GHz; R190, 08; reset as DpdSet. -/
  dpd : List DpdSet := List.replicate 9 {}
  /-- 1 bit per band; R189, 08; reset 0. Whether FB_CAL has a valid result. -/
  fbCal : List Bool := [false, false]
  /-- Count per band; R188, 08; reset 0. Samples clipped. -/
  clips : List Nat := [0, 0]
  /-- Up to 1,024 CHANNEL accounts per band and one per GROUP rule; R194 to R196, 08; reset empty. -/
  dwell : List DwellAcc := []
  /-- Rules whose accounts start with BOOT_PRELOAD at first use, with the centres already created; R197, 08; reset empty. -/
  preload : List (Nat × List Nat) := []
  /-- Records of 272 octets; R197, 08; reset empty. What the dwell mirror region holds. -/
  mirror : List Octets := []
  /-- Cycles; R197, 08; reset 0. The elapsed-time count at which it was written, from which its buckets are dated (log 156). -/
  mirrorAt : Nat := 0
  /-- R29, R197, 01 and 08; reset empty. Records of the mirror whose reads are poisoned, which are absent. -/
  mirrorBad : List Nat := []
  /-- Up to 256; R201, 08; reset empty. Wake-up requests. -/
  wake : List WakeEntry := []
  deriving DecidableEq, Repr

/-! ### What a slot's banks hold (R16, R229) -/

/-- One receive cell of a prepared slot: what Easel writes to the engine that serves it. -/
structure RxCell where
  engine : Nat
  /-- Whether it is a partner's listen cell (R273); else an own cell. -/
  partner : Bool := false
  /-- Owner's Hedgerow address and entry number of a listen cell. -/
  owner : Nat := 0
  entry : Nat := 0
  /-- Row of the cell object; pattern of Table 09; kind of R213. -/
  row : Nat := 0
  kind : Nat := 0
  pan : Nat := 0
  /-- The occupant served; none on a SHARED or quiet cell. -/
  node : Option Nat := none
  band : Nat := 0
  freq : Nat := 0
  profile : Nat := 0
  /-- Effective maximum lengths, coded and uncoded (R207). -/
  maxCoded : Nat := 0
  maxPlain : Nat := 0
  /-- Receive window, us from slot start. -/
  openUs : Nat := 0
  closeUs : Nat := 0
  /-- Whether soft values are kept for Glaze (R171). -/
  glaze : Bool := false
  /-- The owner's RX_PROFILE record and GLAZE_RETAIN of a listen cell, as its list gives them (R273, R275). -/
  listProf : Octets := []
  retain : Nat := 0
  gack : Nat := 0xFFFF
  deriving DecidableEq, Repr

/-- What a prepared carrier carries. -/
inductive TxKind
  | beacon | tick | ack | gack | directive | downlink | group | wake
  deriving DecidableEq, Repr

/-- One carrier of a prepared slot (R184, R187). -/
structure Carrier where
  kind : TxKind
  pan : Nat := 0
  node : Option Nat := none
  band : Nat := 0
  freq : Nat := 0
  width : Nat := 0
  phy : Nat := 0
  /-- Power table row (R185, R186). -/
  powerRow : Nat := 0
  /-- us from slot start: ramp start and end of the burst. -/
  tc : Nat := 0
  te : Nat := 0
  /-- Octets of the frame, and its content. -/
  frame : Octets := []
  /-- Outgoing frame counter it took (R375), and the key it is secured under. -/
  counter : Nat := 0
  key : Octets := []
  /-- Octets of its MAC header and security header, which are sent in plaintext. -/
  head : Nat := 0
  /-- Its SFD (R151), and ns from t_c to the SFD's last bit, its stamp under R118 (Table 08-1). -/
  sfd : Nat := 0
  sfdNs : Nat := 0
  /-- CODE of a directive (Table 10-7), and PENDING of the header (R241). -/
  code : Nat := 0
  pend : Bool := false
  /-- Type and address of the wake-up entry that a telegram or follow-up serves. -/
  entry : Option (Nat × Nat) := none
  /-- Charge to the node's bucket (R319). -/
  charge : Nat := 0
  /-- Nodes whose PRESUMED_ASN the emission sets (R250). -/
  presume : List Nat := []
  /-- Emission state: 0 prepared, 1 on the air, 2 ended, 3 dropped or cut. -/
  stage : Nat := 0
  deriving DecidableEq, Repr

/-- One slot as prepared: a bank of Palette, Knife, Primer and Glaze listening (R16). -/
structure SlotPlan where
  asn : Nat := 0
  quiet : Bool := true
  rx : List RxCell := []
  tx : List Carrier := []
  /-- Transmit aerial per band: none where the band does not transmit; 0 A, 1 B (R125, R126). -/
  txAerial : List (Option Nat) := [none, none]
  /-- Gain index per path; none blanked or off (R137). -/
  gains : List (Option Nat) := [none, none, none, none]
  /-- Paths released for maintenance, numbered as Table 17-5's RF_PATH (R226). -/
  released : List Nat := []
  /-- Engines in service and in self-test, as the banks of a prepared slot have them (R154, R155). -/
  engines : List Nat × List Nat := ([], [])
  deriving DecidableEq, Repr

/-! ### Nodes (spec/10) -/

/-- Node states of Table 10-2. -/
inductive NodeSt
  | free | registered | joining | active | desync | lost
  deriving DecidableEq, Repr

/-- An uplink in its node's release order (R19, R261). -/
structure UlRec where
  frame : RxFrame
  /-- Slot and stamp (ns) of the reception; row, class and GACK index of its cell, and whether the node was its occupant. -/
  asn : Nat
  stamp : Nat
  row : Nat := 0
  cls : Nat := 0
  gack : Nat := 0xFFFF
  ownCell : Bool := true
  shared : Bool := false
  /-- Whether it waits for a Glaze decision. -/
  awaiting : Bool := false
  /-- The listen-list entry of a frame held for Glaze. -/
  entry : Nat := 0
  /-- Whether the unit's own engine found the SFD (R249). -/
  timed : Bool := true
  /-- SEQ of a frame that Glaze still holds, as its own reception spelt it (R262). -/
  heldSeq : Option Nat := none
  deriving DecidableEq, Repr

/-- The per-node state of one node index (Table 10-1), with what else the FL96 keeps per node. Every field is zero or empty at
reset; TX_ROW reads as the zero of an absent record. -/
structure NodeRec where
  /-- Table 10-2; R238, 10; reset FREE. NODE_STATE. -/
  st : NodeSt := .free
  modeInformed : Bool := false
  mapInformed : Bool := false
  seqValid : Bool := false
  fcValid : Bool := false
  pendingSent : Bool := false
  quarantine : Bool := false
  jfcValid : Bool := false
  pan : Nat := 0
  txRow : Nat := 0
  short : Nat := 0
  supSf : Nat := 0
  eui : Nat := 0
  lastSeq : Nat := 0
  dlSeq : Nat := 0
  dlAcked : Nat := 0
  wakeTries : Nat := 0
  highFc : Nat := 0
  joinFc : Nat := 0
  lastRx : Nat := 0
  syncAsn : Nat := 0
  presumed : Nat := 0
  qend : Nat := 0
  res : Nat := 0
  halfWidth : Nat := 0
  stepAdd : Nat := 0
  timeCorr : Int := 0
  rssi : Int := 0
  lq : Nat := 0
  /-- Octets 128 to 255 of the record; R237, 10; reset empty, reading as zeros. Canvas's half. -/
  canvas : Octets := []
  /-- R249, 10; reset false. No timing update has been made since JOINING. -/
  first : Bool := false
  /-- R268, 10; reset 0. NODE_LINK_COUNT. -/
  duplicates : Nat := 0
  syncMiss : Nat := 0
  resyncs : Nat := 0
  /-- R29, 01; reset false. The record was read poisoned. -/
  poisoned : Bool := false
  /-- Code and reason of a REJOIN directive owed in the node's next FL96 frame; R268, 10; reset none. -/
  rejoin : Option Nat := none
  /-- In release order; R19, 01; reset empty. Uplinks not yet released. -/
  held : List UlRec := []
  /-- ns of the local clock; R120, 05; reset 0. The stamp of the node's frame released last. -/
  ulStamp : Nat := 0
  /-- Slot A and LEAD of a wake-up follow-up prepared or awaited; R252, R254, 10; reset none. -/
  followup : Option (Nat × Nat) := none
  deriving DecidableEq, Repr

/-- A JOIN directive owed in a SHARED cell (R246): node, cell row, the superframe of the request and its slot offset; PAN, centre in Hz and
profile row where a standing listener heard the request (R231). -/
structure JoinDir where
  node : Nat
  row : Nat
  sf : Nat
  slot : Nat
  pan : Nat := 0
  freq : Nat := 0
  profile : Nat := 0
  deriving DecidableEq, Repr

/-- An acknowledgement owed (R256, R257), or a directive at its position (R267): slot, node, channel offset, profile row, SEQ,
DUPLICATE, TIME_CORR, and the REASON of a REJOIN directive in its place. -/
structure AckDue where
  asn : Nat
  node : Nat
  pan : Nat
  choff : Nat
  profile : Nat
  seq : Nat
  dup : Bool
  timeCorr : Int
  rejoin : Option Nat := none
  deriving DecidableEq, Repr

/-- A frame on its way from an engine to a lane (R168, R374), with its slot, its stamp, its FCS type (R165), and the report of Table 07-7,
empty where no engine of this unit decoded it. -/
structure MacFrame where
  frame : RxFrame
  cell : RxCell
  asn : Nat
  offsetNs : Nat := 0
  fcs2 : Bool := false
  report : Octets := []
  deriving DecidableEq, Repr

/-- The node tables. -/
structure Nod where
  /-- Sparse by node index, unlisted FREE and zero; R237, 10; reset empty. -/
  recs : List (Nat × NodeRec) := []
  /-- R246, 10; reset empty. JOIN directives owed. -/
  joins : List JoinDir := []
  /-- Join requests counted per PAN, with the superframe; R245, 10; reset 0. -/
  joinRate : List (Nat × Nat) := [(0, 0), (0, 0), (0, 0), (0, 0)]
  /-- R257, R267, 10; reset empty. Acknowledgements and directives owed at the acknowledgement position. -/
  acks : List AckDue := []
  /-- 32 bits; R260, 10; reset 0. Downlink frames given up after DL_RETRIES + 1 emissions that no DL_ACK covered. -/
  dlGivenUp : Nat := 0
  /-- In order of reception; R168, 07; reset empty. Frames waiting for a CCM* lane. -/
  mac : List MacFrame := []
  deriving DecidableEq, Repr

/-! ### Easel (spec/09) -/

/-- A change record in the staging area (R220): its effective ASN and the slot offsets whose operations are still to apply,
one entry per operation. -/
structure ChangeRec where
  eff : Nat
  offsets : List Nat
  deriving DecidableEq, Repr

/-- A quiet notice (R233): first ASN, count of slots, paths as Table 09-6 codes them, and the CALIB_QUEUE row it serves. -/
structure Quiet where
  first : Nat
  slots : Nat
  paths : Nat
  calRow : Nat := 0
  /-- R418: whether the first beacon that carries it has its commit mark. -/
  committed : Bool := false
  deriving DecidableEq, Repr

/-- A pending channel map (R212): the PAN row, the map, the first boundary that announces it, and its effective ASN. -/
structure MapChange where
  pan : Nat
  map : Octets
  first : Nat
  eff : Nat
  deriving DecidableEq, Repr

/-- Easel: the slot processor. -/
structure Eas where
  /-- 40 bits; R15, 01; reset 0. The ASN in progress. -/
  asn : Nat := 0
  /-- R70, 04; reset false. Whether Easel runs slots. -/
  running : Bool := false
  /-- 40 bits; R16, R116, 01 and 05; reset none. The slot that Easel starts next, while it runs or waits to. -/
  next : Option Nat := none
  /-- R16, 01; reset empty. The ACTIVE bank: the slot in progress as prepared. -/
  active : SlotPlan := {}
  /-- R16, 01; reset empty. The NEXT bank. -/
  nextPlan : SlotPlan := {}
  /-- R17, 01; reset none. The slot whose commit mark is written. -/
  commitMark : Option Nat := none
  /-- R108, R109, 05; reset none. The slot prepared as a quiet step slot. -/
  stepSlot : Option Nat := none
  /-- R231, 09; reset empty. The standing quiet configuration: engine, PAN row and beacon channel of each listener. -/
  standing : List RxCell := []
  /-- 0 to 4; R232, 09; reset 0. Consecutive overrun slots. -/
  overruns : Nat := 0
  /-- R231, R421, 09 and 17; reset false. Easel restarts under L2; the slots that pass run quiet. -/
  restarting : Bool := false
  /-- R400, 16; reset false. A patch routine trapped: the next preparation misses its commit mark. -/
  trapped : Bool := false
  /-- R29, 01; reset empty. Rows of the cells whose table entries read poisoned as the next slot is prepared. -/
  absent : List Nat := []
  /-- R220, 09; reset empty. Change records not yet freed; SCHED_STAGED. -/
  changes : List ChangeRec := []
  /-- Up to 4; R233, 09; reset empty. Quiet notices in force. -/
  notices : List Quiet := []
  /-- Up to 4; R212, 09; reset empty. Pending channel maps. -/
  maps : List MapChange := []
  /-- 8 bits per PAN; R222, 09; reset 0 (DESIGN CHOICE, log 17). Next beacon sequence number. -/
  beaconSeq : List Nat := [0, 0, 0, 0]
  /-- Pairs of slot and CELL_GACK accepted; R224, 09; reset empty. Frames that a later GACK section acknowledges. -/
  gack : List (Nat × Nat) := []
  deriving DecidableEq, Repr

/-! ### Glaze (spec/11) -/

/-- One listen entry (Table 11-2), with the number it has in its list. -/
structure ListenEntry where
  num : Nat
  offset : Nat
  band : Nat
  /-- Centre in Hz. -/
  freq : Nat
  profile : Nat
  w : Nat
  /-- Owner's side only: cell row and the occupant. -/
  row : Nat := 0
  node : Nat := 0
  deriving DecidableEq, Repr

/-- A listen list (Table 11-1): on a partner, received for an owner; on an owner, sent to a partner. -/
structure ListenList where
  /-- Owner's Hedgerow address on a partner; the partner's on the owner. -/
  peer : Nat
  sf : Nat
  epoch : Epoch := {}
  retain : Nat := 0
  parts : Nat := 1
  /-- Part numbers received. -/
  got : List Nat := []
  profiles : List Octets := []
  entries : List ListenEntry := []
  deriving DecidableEq, Repr

/-- A soft record (Tables 11-4, 11-5): header, and blocks of EXP and 32 mantissas. -/
structure GlazeRec where
  /-- Owner's Hedgerow address; 0xFFFF for the unit's own record. -/
  owner : Nat
  asn : Nat
  entry : Nat
  thin : Bool := false
  aerialB : Bool := false
  reason : Nat := 0
  stamp : Nat := 0
  nbits : Nat := 1
  metric : Nat := 0
  rssi : Int := 0
  blocks : List (Nat × List Int) := []
  /-- When it is discarded: start(a + RETAIN + 1) in ns, by the owner's RETAIN (R275). -/
  until_ : Nat := 0
  /-- Node of an own record. -/
  node : Nat := 0
  /-- SEQ of the frame of an own record, where its reception ran to its end (R262). -/
  seq : Option Nat := none
  /-- The report of Table 07-7 with which Palette handed the soft values on (R171); empty in a record that a partner sent. -/
  report : Octets := []
  deriving DecidableEq, Repr

/-- A frame decoded in a listen cell, kept to answer a request with KIND 2 (R281): owner, slot, entry, GLAZE_FRAME body. -/
structure GlazeFrm where
  owner : Nat
  asn : Nat
  entry : Nat
  stamp : Nat
  body : Octets
  deriving DecidableEq, Repr

/-- One request to a partner (R280): entries listed, entries still to be answered, segments received so far. -/
structure GlazeReqSt where
  partner : Nat
  asn : Nat
  seq : Nat
  entries : List Nat
  awaited : List Nat
  segs : List (Nat × Nat × Octets) := []
  tries : Nat := 1
  /-- Cycles; when it was last sent. -/
  at_ : Nat := 0
  deriving DecidableEq, Repr

/-- A pending decision of R280 on one node's cell of slot a. -/
structure GlazeDec where
  asn : Nat
  node : Nat
  row : Nat
  /-- Partner and entry number of the cell in each partner's list. -/
  entries : List (Nat × Nat)
  records : List GlazeRec := []
  /-- Set when its event of R283 has come; the combination may run. -/
  ready : Bool := false
  deriving DecidableEq, Repr

/-- Glaze. -/
structure Gla where
  /-- Up to 4 Hedgerow addresses; R342, 14; reset none. GLAZE_PARTNERS. -/
  partners : List Nat := []
  /-- Addresses active in the current slot, with the slot since which; R269, 11; reset empty. -/
  active : List (Nat × Nat) := []
  /-- R270, 11; reset empty. Times of earlier activity: address, first slot, and the first slot after it, by the own ASN. -/
  spans : List (Nat × Nat × Nat) := []
  /-- R273, 11; reset empty. OWNER_EPOCH of the lists adopted from an owner, the last two that differ, oldest first. -/
  epochs : List (Nat × Epoch) := []
  /-- R249, R262, 11; reset empty. The last SFD that the unit's own engine found in a node's cell: slot, node, stamp in ns from slot start, and SEQ where the
  reception ran to its end. -/
  sfds : List (Nat × Nat × Nat × Option Nat) := []
  /-- R285, 11; reset empty. PSDUs accepted in cells of late: slot, cell row and PSDU. -/
  accepted : List (Nat × Nat × Octets) := []
  /-- R272, 11; reset empty. Lists being received, not adopted. -/
  coming : List ListenList := []
  /-- R272, 11; reset empty. Lists adopted, in force or from their superframe's first slot. -/
  adopted : List ListenList := []
  /-- R272, 11; reset empty. Lists sent to partners, the last two superframes of each. -/
  sent : List ListenList := []
  /-- 8 MiB region; R275, R287, 11; reset empty. Records, own and for owners. -/
  recs : List GlazeRec := []
  /-- R281, 11; reset empty. Frames decoded for owners, within retention. -/
  frames : List GlazeFrm := []
  /-- R280, 11; reset empty. Requests not answered in full. -/
  reqs : List GlazeReqSt := []
  /-- R282, R288, 11; reset empty. Requests whose retention has ended with answers missing: what they awaited is counted late already. -/
  expired : List GlazeReqSt := []
  /-- R280, 11; reset empty. Pending decisions. -/
  decs : List GlazeDec := []
  /-- 16 bits; R280, 11; reset 0 (DESIGN CHOICE, log 19). Next REQ_SEQ. -/
  reqSeq : Nat := 0
  deriving DecidableEq, Repr

/-! ### Trellis (spec/12) -/

/-- One table entry (Table 12-2). KEY is held as its key octets. -/
structure TEntry where
  tag : Nat := 0
  flags : Nat := 0
  aux : Nat := 0
  value : Nat := 0
  /-- Six octets; next-hop Ethernet address, 0 where it has none. -/
  next : Nat := 0
  key : Octets := []
  deriving DecidableEq, Repr

/-- A change to a table that a full digest ring holds back (R310). -/
inductive TableOp
  | insert (e : TEntry)
  | remove (tag : Nat) (key : Octets)
  /-- One slot of a bucket is cleared (R312). -/
  | clear (arr b k : Nat)
  deriving DecidableEq, Repr

/-- The TAG of the entry that a change is of. -/
def TableOp.tag : TableOp → Nat
  | .insert e => e.tag
  | .remove tag _ => tag
  | .clear arr _ _ => if arr = 0 then 1 else arr + 3

/-- One cuckoo array with its stash (R290). -/
structure TArray where
  /-- Sparse by 4 * bucket + slot, unlisted empty; R290, 12; reset empty. -/
  slots : List (Nat × TEntry) := []
  /-- 8 entries, TAG 0 empty; R290, 12; reset empty. -/
  stash : List TEntry := List.replicate 8 {}
  deriving DecidableEq, Repr

/-- Trellis: tables, digest ring and scrubber. Arrays are numbered 0 node, 1 MAC, 2 FABRIC. -/
structure Tre where
  arrays : List TArray := [{}, {}, {}]
  /-- R294, 12; reset empty. The relocation register. -/
  reloc : TEntry := {}
  /-- Notices between AP and WR, oldest first: array, bucket, digest, SEQ; R310, 12; reset empty. -/
  ring : List (Nat × Nat × Nat × Nat) := []
  /-- 0 to 509; R310, 12; reset 0. WR. -/
  wr : Nat := 0
  /-- 0 to 509; R310, 12; reset 0. AP. -/
  ap : Nat := 0
  /-- 16 bits; R310, 12; reset 0. SEQ of the next notice. -/
  noticeSeq : Nat := 0
  /-- Sparse by array * 2^17 + bucket, unlisted the digest of an empty bucket; R290, R309, 12; reset empty. Shadow digests. -/
  shadow : List (Nat × Nat) := []
  /-- Sparse by notice index 0 to 509, unlisted 0; R310, 12; reset empty. The ring's notices as their eight octets spell them. -/
  notices : List (Nat × Nat) := []
  /-- Changes that wait for a free ring entry, oldest first; R310, 12; reset empty. -/
  waiting : List TableOp := []
  /-- Array and bucket; R311, 12; reset 0, 0. What the scrubber visits next. -/
  scrubAt : Nat × Nat := (0, 0)
  /-- Cycles; R311, 12; reset 0. When the walk began. -/
  scrubSince : Nat := 0
  /-- Buckets skipped in this walk, compared at its end; R311, 12; reset empty. -/
  scrubLate : List (Nat × Nat) := []
  /-- R29, R293, 01 and 12; reset empty. Addresses of the node array whose reads are poisoned, until their slot is written. -/
  bad : List Nat := []
  /-- R297, R312, 12; reset empty. Entries that Canvas itself and Hedgerow control hold. -/
  owned : List TEntry := []
  deriving DecidableEq, Repr

/-! ### Riddle (spec/13) -/

/-- A meter's buckets at an instant (R315, R316), in units of 1/3,200,000 octet, which one cycle fills by the rate in kbit/s. -/
structure MeterSt where
  tc : Nat
  tp : Nat
  at_ : Nat
  deriving DecidableEq, Repr

/-- A frame in a downlink queue (R317). -/
structure DlFrame where
  /-- Compressed packet or fragment, as the frame's payload. -/
  payload : Octets
  /-- PSDU length without notice sections. -/
  charge : Nat
  yellow : Bool := false
  /-- Cycles at enqueue (R20). -/
  at_ : Nat := 0
  /-- Emissions made of it (R260), and the DL_SEQ it took. -/
  sent : Nat := 0
  dlSeq : Nat := 0
  /-- R260: emitted, and no uplink since says whether it arrived. -/
  wait : Bool := false
  deriving DecidableEq, Repr

/-- A gate list (Table 13-3). -/
structure GateList where
  base : Nat := 0
  change : Nat := 0
  /-- GATES and INTERVAL_NS. -/
  entries : List (Nat × Nat) := [(0xFF, 1000000)]
  deriving DecidableEq, Repr

/-- One Ethernet port's egress side. -/
structure EgPort where
  /-- Up to 128 frames; R322, 13; reset empty. -/
  ctrl : List EgFrame := []
  /-- 8 queues; R322, 13; reset empty. -/
  cls : List (List EgFrame) := List.replicate 8 []
  /-- Tokens per class in 1/3,200,000 octet and the cycle they stand at; R325, 13; reset zero. -/
  shapers : List (Nat × Nat) := List.replicate 8 (0, 0)
  /-- R328, 13; reset the default of GATE_ADMIN. The operating list. -/
  oper : GateList := {}
  /-- R330, 13; reset none. The pending list with its switch time, ns. -/
  pend : Option (GateList × Nat) := none
  /-- R329, 13; reset 0. The entry in force. -/
  entry : Nat := 0
  deriving DecidableEq, Repr

/-- Riddle. -/
structure Rid where
  /-- Sparse by meter row, unlisted full; R315, R316, 13; reset full. -/
  meters : List (Nat × MeterSt) := []
  /-- Sparse by node, up to 64 frames each; R317, 13; reset empty. -/
  queues : List (Nat × List DlFrame) := []
  /-- Sparse by node: tokens in 2^-16 octet and the cycle they stand at, unlisted 0 at its profile's profAt; R318, R320, 13; reset 0. -/
  tokens : List (Nat × (Nat × Nat)) := []
  /-- 16, cycles; R320, 13; reset 0. When each DL_PROFILE row's buckets last started from zero. -/
  profAt : List Nat := List.replicate 16 0
  /-- Up to 64; R320, 13; reset empty. The group queue. -/
  group : List DlFrame := []
  /-- 2; R322, 13; reset as EgPort. -/
  ports : List EgPort := [{}, {}]
  deriving DecidableEq, Repr

/-! ### Hedgerow (spec/14) -/

/-- One link-state advertisement (Table 14-4). -/
structure LsaRec where
  origin : Nat
  serial : Octets
  seq : Nat
  variant : Octets := []
  stepping : Nat := 0
  mode : Nat := 0
  flags : Nat := 0
  ipv6 : Nat := 0
  held : List (Nat × Nat) := []
  /-- Address and cost. -/
  adj : List (Nat × Nat) := []
  suspects : List Nat := []
  cand : List Nat := []
  spares : List Nat := []
  takeoverS : Nat := 0
  isolateS : Nat := 0
  /-- Cycles; when it was received (R341). -/
  at_ : Nat := 0
  deriving DecidableEq, Repr

/-- One neighbour, as its heartbeats make it known (R339). -/
structure HrAdj where
  addr : Nat
  serial : Octets := []
  /-- Cycles; when its last authenticated heartbeat arrived. -/
  lastHb : Nat := 0
  /-- Whether that heartbeat lists this unit. -/
  listsUs : Bool := false
  suspect : Bool := false
  mode : Nat := 0
  /-- The mode it last reported other than M10, or in M10 that of the region it is taking over; R269, 11; reset 0. -/
  before : Nat := 0
  flags : Nat := 0
  held : List (Nat × Nat) := []
  adj : List Nat := []
  suspects : List Nat := []
  /-- Up to 16 round trips in 100 us, newest first. -/
  rtts : List Nat := []
  /-- Ethernet port and address it is reached at. -/
  port : Nat := 0
  mac : Nat := 0
  deriving DecidableEq, Repr

/-- One node record of a MIRROR_DELTA (Table 14-6). -/
structure DeltaRec where
  node : Nat
  st : Nat
  flags : Nat
  lastSeq : Nat
  dlSeq : Nat
  dlAcked : Nat
  highFc : Nat
  joinFc : Nat
  outFc : Nat
  lastRx : Nat
  syncAsn : Nat
  res : Nat
  deriving DecidableEq, Repr

/-- The mirror a spare or a handover target holds of one region (R343, R345). -/
structure Mirror where
  region : Nat
  holder : Nat
  epoch : Nat := 0
  /-- Segments of a snapshot not yet complete. -/
  segs : List (Nat × Octets) := []
  nseg : Nat := 0
  /-- The export acknowledged with OK; none while there is no usable mirror. -/
  snapshot : Option Octets := none
  /-- Latest delta per node. -/
  recs : List (Nat × DeltaRec) := []
  sf : Nat := 0
  mode : Nat := 5
  beaconFc : List Nat := [0, 0, 0, 0]
  /-- FINAL delta received, and its accepted-frame pairs. -/
  final : Bool := false
  gackTail : List (Nat × Nat) := []
  /-- What the export says of the region: GLAZE_ENABLE (R269), and whether it holds an enabled PAN (R342). -/
  glazeOn : Bool := true
  served : Bool := true
  deriving DecidableEq, Repr

/-- A region on its way to this unit (R347, R351, R352): takeover 0, retake 1, handover 2. -/
structure Incoming where
  kind : Nat
  region : Nat
  epoch : Nat
  eff : Nat
  mode : Nat
  /-- Whether the region's configuration is adopted (R348), at the opening of the preparation window of `eff`. -/
  adopted : Bool := false
  deriving DecidableEq, Repr

/-- A handover this unit makes as holder (R352, R353). -/
structure Handing where
  target : Nat
  epoch : Nat := 0
  /-- Effective ASN once announced. -/
  eff : Option Nat := none
  /-- Slot from which the region's cells are not served; cleared when the handover is withdrawn. -/
  quiesced : Bool := false
  finalSent : Bool := false
  /-- Nodes whose record the target does not hold as it stands: all at first, then those changed since its last delta (R352). -/
  touched : List Nat := []
  deriving DecidableEq, Repr

/-- A shadow write of the unit over the Hedgerow (R371), a block write of one blob (Table 04-8): the REQUEST_ID of the request that has no answer
yet and which one it is (0 BLOCK_START, 1 BLOCK_SEG, 2 BLOCK_END), the node or slot whose key it carries, where it goes, the region it
speaks for, and the blob. -/
structure ShadowWrite where
  rid : Nat
  step : Nat := 0
  node : Option Nat := none
  slot : Nat := 0
  /-- Row of KEY_IMPORT that a slot key's shadow is written to. -/
  row : Nat := 0
  /-- Superframe in which the write began. -/
  sf : Nat := 0
  /-- BLOCK_ID that BLOCK_START's response gave. -/
  block : Nat := 0
  dst : Nat
  region : Nat
  blob : Octets
  deriving DecidableEq, Repr

/-- A shadow that a unit is still to be sent (R371): the unit, the node or slot whose key it carries, the row of KEY_IMPORT it goes to, and whether it rests
until the next superframe, its last write refused or not possible. -/
structure ShadowDue where
  dst : Nat
  node : Option Nat := none
  slot : Nat := 0
  row : Nat := 0
  rest : Bool := false
  deriving DecidableEq, Repr

/-- Hedgerow control. -/
structure Hed where
  /-- 0 to 4; R356, 14; reset 0. HR_STATE. -/
  st : Nat := 0
  /-- 12 bits or 0xFFFF; R333, 14; reset 0xFFFF. Home address in force since boot. -/
  home : Nat := 0xFFFF
  /-- Up to 2 regions with epochs; R333, 14; reset empty. HR_HELD. -/
  held : List (Nat × Nat) := []
  /-- Sparse by region; R337, 14; reset 0. The highest epoch known. -/
  known : List (Nat × Nat) := []
  /-- 64 bits; R336, 14; reset 0. SEQ of the next message. -/
  seq : Nat := 0
  /-- 32 bits, SEALED; R336, 14; reset 0 (DESIGN CHOICE, log 20). The boot counter of SEQ's bits [63:32]. -/
  bootCount : Nat := 0
  /-- Cycles; R334, 14; reset 0. When the last CLAIM was sent. -/
  claimAt : Nat := 0
  /-- Cycles; R339, 14; reset 0. When the last HEARTBEAT was sent. -/
  helloAt : Nat := 0
  /-- Cycles; R341, 14; reset 0. When the last own LSA was originated. -/
  lsaAt : Nat := 0
  /-- R339, 14; reset empty. What the last HEARTBEAT said of MODE, FLAGS, HELD and SUSPECT. -/
  saidHb : Octets := []
  /-- R341, 14; reset empty. What the last own LSA said, COST left out. -/
  saidLsa : Octets := []
  /-- Address being claimed and CLAIMs sent; R334, 14; reset none. -/
  claim : Option (Nat × Nat) := none
  /-- Cycles; R334, 14; reset none. End of the 10 s of listening. -/
  listenUntil : Option Nat := none
  /-- Addresses named by CLAIMs heard while listening; R334, 14; reset empty. -/
  claimsHeard : List Nat := []
  /-- R334, 14; reset false. Whether the claim has completed. -/
  claimed : Bool := false
  /-- Neighbours heard; R339, 14; reset empty. -/
  adj : List HrAdj := []
  /-- Link-state database; R341, 14; reset empty. HR_LSDB. -/
  lsdb : List LsaRec := []
  /-- 32 bits; R341, 14; reset 0. LSA_SEQ of the latest own LSA. -/
  lsaSeq : Nat := 0
  /-- R334, 14; reset false. Whether a database exchange with an adjacency has completed. -/
  exchanged : Bool := false
  /-- UNIT, highest SEQ, and which of the 64 below it were received; R337, 14; reset empty. -/
  replay : List (Octets × Nat × List Nat) := []
  /-- UNIT and cycle of the last FENCE sent to it; R337, 14; reset empty. -/
  fenced : List (Octets × Nat) := []
  /-- Cycles; R340, R422, 14 and 17; reset 0. From when the isolation time counts. -/
  heardAt : Nat := 0
  /-- R340, 14; reset false. ISOLATED of the unit's heartbeats. -/
  isolated : Bool := false
  /-- R342, 14; reset none. The spare of the unit's region. -/
  spare : Option Nat := none
  /-- Whether the spare has acknowledged a snapshot, and SHAKE256 of it; R343, 14; reset none. -/
  ackDigest : Option Octets := none
  /-- R343, 14; reset false. A STORED object changed since the last snapshot. -/
  dirty : Bool := false
  /-- Superframe of the last snapshot sent; R343, 14; reset none. -/
  snapSf : Option Nat := none
  /-- Up to 4 as a spare, and one as a handover target; R342, R343, 14; reset empty. -/
  mirrors : List Mirror := []
  /-- Regions this unit is designated to mirror; R342, 14; reset empty. HR_MIRRORS. -/
  mirroring : List Nat := []
  /-- R354, 14; reset none. Of a handover withdrawn: the target's address, the region and the epoch announced for it. -/
  withdrawn : Option (Nat × Nat × Nat) := none
  /-- R347, R351, R352, 14; reset none. -/
  incoming : Option Incoming := none
  /-- R352, 14; reset none. -/
  handing : Option Handing := none
  /-- 32 bits; R338, R410, 14 and 17; reset 0. SEQ of the newest log entry sent as an EVENT. -/
  eventSeq : Nat := 0
  /-- Nodes changed since the last delta; R344, 14; reset empty. -/
  touched : List Nat := []
  /-- Nodes whose KEY section waits for the spare's answer to a shadow write, with the superframe; R371, 15; reset empty. -/
  shadowWait : List (Nat × Nat) := []
  /-- Shadow writes under way; R83, R371, 04 and 15; reset empty. -/
  shadowOut : List ShadowWrite := []
  /-- R371, 15; reset empty. Shadows still to be sent, the next first. -/
  shadowDue : List ShadowDue := []
  /-- 32 bits; R83, 04; reset 0. The REQUEST_ID of the unit's latest request of its own over the Hedgerow. -/
  ownRid : Nat := 0
  /-- UNIT and the session it runs; R355, 14; reset empty. -/
  peers : List (Octets × Nat) := []
  deriving DecidableEq, Repr

/-! ### Keys, Gesso and firmware (spec/15, spec/16) -/

/-- One Seedbank key slot (R357, R358), with the key's own attributes. -/
structure KeySlot where
  /-- 0 to 126; R358. Generation. -/
  gen : Nat := 0
  /-- Whether the slot holds a key. -/
  held : Bool := false
  type : Nat := 0
  usage : Nat := 0
  masters : Nat := 0
  flags : Nat := 0
  region : Nat := 0
  pan : Nat := 0
  keyIndex : Nat := 0
  /-- Next outgoing frame counter, and its ceiling in flash (R365). -/
  outFc : Nat := 0
  ceiling : Nat := 0
  uses : Nat := 0
  /-- log2 of the limits (R376). -/
  soft : Nat := 30
  hard : Nat := 31
  /-- Key value. -/
  value : Octets := []
  /-- An ephemeral key (R357), and the session whose end frees it. -/
  ephemeral : Bool := false
  session : Option Nat := none
  deriving DecidableEq, Repr

/-- One wrapped node-key record (Table 15-5), with its use count and ceiling; and a key imported since the node's last join. -/
structure NodeKey where
  keyGen : Nat := 0
  keyIndex : Nat := 0
  valid : Bool := false
  pinned : Bool := false
  softReached : Bool := false
  outFc : Nat := 0
  ceiling : Nat := 0
  uses : Nat := 0
  value : Octets := []
  /-- Value, OUT_FC and PINNED of an import that the next join takes (R369). -/
  imported : Option (Octets × Nat × Bool) := none
  /-- NODE_KEY_INFO SHADOW (R371). -/
  shadow : Bool := false
  /-- R29, 01; reset false. The wrapped key was read poisoned, and no join has written the record again since. -/
  poisoned : Bool := false
  /-- 256 bits; R369, 15; reset empty. The KEK that the record's WRAPPED is wrapped under. -/
  kek : Octets := []
  deriving DecidableEq, Repr

/-- A key shadow in the key store (R368, R371). -/
structure KeyShadow where
  region : Nat
  /-- Node index, or none for a slot key. -/
  node : Option Nat
  type : Nat
  usage : Nat
  masters : Nat
  flags : Nat
  pan : Nat
  keyIndex : Nat
  outFc : Nat
  soft : Nat
  hard : Nat
  value : Octets
  deriving DecidableEq, Repr

/-- The shared cipher engine (Tables 15-6 to 15-9). Masters: 0 none, 1 Gesso, 2 Canvas, 3 Shed. -/
structure Cipher where
  /-- 2 bits; R378, 15; reset 0. CIPHER_LOCK OWNER. -/
  owner : Nat := 0
  /-- 1 bit; R378, 15; reset 0. CIPHER_LOCK GESSO_WAIT. -/
  gessoWait : Bool := false
  /-- R379, 15; reset none. Handle of the key in the key register. -/
  key : Option Nat := none
  /-- 4 bits; R378, 15; reset 0. CIPHER_STATUS STATE. -/
  st : Nat := 0
  /-- 1 bit; R380, 15; reset 0. CIPHER_STATUS TOO_LATE. -/
  tooLate : Bool := false
  /-- 1 bit; R376, 15; reset 0. CIPHER_STATUS KEY_CHANGE_REQUIRED. -/
  keyChange : Bool := false
  /-- 32 bits each: SRC, DST, LEN, AAD, AAD_LEN, IV, TAG; R378, 15; reset 0. -/
  regs : List Nat := [0, 0, 0, 0, 0, 0, 0]
  /-- MODE, DECRYPT, TAG_LEN and AUTO_RELEASE of the command in progress; R380, 15; reset none. -/
  cmd : Option (Nat × Bool × Nat × Bool) := none
  /-- Cycles; R379, 15; reset 0. When the owner took the lock or its last command ended. -/
  idleSince : Nat := 0
  deriving DecidableEq, Repr

/-- A life-cycle transition prepared and not yet committed (R362, step 1): its target, the new KEK_NONCE, recovery wrapping key and identity chain of
FIELD, and the BLOCK_END that it still owes a response: session, REQUEST_ID, TXN_ID and BLOCK_ID. -/
structure LcPrep where
  target : Nat
  nonce : Octets := []
  wrap : Octets := []
  chain : Octets := []
  owner : Option (Nat × Nat × Nat × Nat) := none
  deriving DecidableEq, Repr

/-- Seedbank, Gesso and the key store. -/
structure Sec where
  /-- Sparse by slot, 512; R357, 15; reset empty. Seedbank. -/
  slots : List (Nat × KeySlot) := []
  /-- Sparse by node; R369, 15; reset empty. The wrapped-key region, 32 octets per node. -/
  nodes : List (Nat × NodeKey) := []
  /-- Sparse by slot; R364, 15; reset empty. Slot keys in the key store. -/
  storeSlots : List (Nat × KeySlot) := []
  /-- Sparse by node; R364, 15; reset empty. Node keys in the key store. -/
  storeNodes : List (Nat × NodeKey) := []
  /-- R371, 15; reset empty. Shadows in the key store. -/
  shadows : List KeyShadow := []
  /-- Highest IMPORT_SEQ per wrapping key: handles, 65536 FACTORY_KTK, 65537 recovery KTK; R367, 15; reset empty. -/
  importSeq : List (Nat × Nat) := []
  /-- 256 bits; R363, 15; reset none: zero. The KEK register. -/
  kek : Option Octets := none
  /-- R366, 15; reset none. Recovery PSK. -/
  recPsk : Option Octets := none
  /-- R366, 15; reset none. Recovery KTK. -/
  recKtk : Option Octets := none
  /-- 32 octets; R384, 15; reset zeros (DESIGN CHOICE, log 21). LC_CHALLENGE. -/
  challenge : Octets := zeros 32
  /-- 0 to 2; R364, 15; reset 0. KEY_STORE_STATE. -/
  storeState : Nat := 0
  /-- 256 bits; R361, 15; reset none: not seeded. The personalisation that the DRBG was seeded with. -/
  drbg : Option Octets := none
  /-- 256 bits; R361, R366, 15; reset empty. The recovery wrapping key that the recovery record is sealed under. -/
  recWrap : Octets := []
  /-- 32 bits; R367, R371, 15; reset 0. IMPORT_SEQ of the latest shadow blob that the unit sealed. -/
  shadowSeq : Nat := 0
  /-- 4 PANs; R386, 16; reset none. Handles of BEACON keys bound to the lanes. -/
  lanes : List (Option Nat) := [none, none, none, none]
  /-- FACTORY, FIELD and RETURN roots, 256 bits each; R360, 15; reset zeros (DESIGN CHOICE, log 2). Fused. -/
  roots : List Octets := [zeros 32, zeros 32, zeros 32]
  /-- R378, 15; reset as Cipher. -/
  cipher : Cipher := {}
  /-- R383, 15; reset false. Tamper has destroyed the keys since the last boot. -/
  destroyed : Bool := false
  /-- R362, 15; reset none. The life-cycle transition prepared, before its commit point. -/
  lcPrep : Option LcPrep := none
  /-- 1 to 4; R362, 15; reset none. The target of a transition that is committed and whose step 3 is still to come. -/
  lcDue : Option Nat := none
  /-- Sparse: 65536 FACTORY_KTK, 65537 recovery KTK, 65538 recovery PSK, 65539 FACTORY_PSK, 65540 RETURN_PSK; R376, 15; reset 0. Uses of the keys that
  stand in no slot. -/
  otherUses : List (Nat × Nat) := []
  /-- Sparse, by the same numbers; R367, R376, 15; reset the defaults 30 and 31. log2 of the limits of the recovery record's keys. -/
  recLimits : List (Nat × (Nat × Nat)) := []
  deriving DecidableEq, Repr

/-- The boot-control record (Table 16-6). -/
structure BootRec where
  seq : Nat := 0
  confirmed : Nat := 0
  pending : Option Nat := none
  trial : Bool := false
  raise : Bool := false
  /-- Digests as octets; empty for zero. -/
  confDigest : Octets := []
  pendDigest : Octets := []
  rejDigest : Octets := []
  deriving DecidableEq, Repr

/-- Firmware banks, the boot decision and attestation. -/
structure Fw where
  /-- 2 banks of 16 MiB, as programmed from their first octet, erased above; R387, 16; reset erased (DESIGN CHOICE, log 22). -/
  banks : List Octets := [[], []]
  /-- R393, 16; reset none valid (DESIGN CHOICE, log 22). The two copies of the boot-control record, at 0x0000_0000 and 0x0008_0000 of flash. -/
  copyA : Option BootRec := none
  copyB : Option BootRec := none
  /-- R394, 16; reset none. The bank that runs. -/
  running : Option Nat := none
  /-- R394, 16; reset empty. Digest of the Shed image that runs. -/
  shedDigest : Octets := []
  /-- Cycles; R396, 16; reset none. Trial time's start: entry to M3 or above since the trial boot. -/
  trialSince : Option Nat := none
  /-- Sparse by part type, 2 and 7; R399, 16; reset empty. The page tables of the running Canvas image and OD schema, as loaded at the boot. -/
  tables : List (Nat × Octets) := []
  /-- Sparse by entry; R400, 16; reset empty. Traps of patch entries since the last cold boot. -/
  traps : List (Nat × Nat) := []
  /-- R403, 16; reset empty. ATTEST_REPORT. -/
  report : Octets := []
  /-- Cycles; R403, 16; reset none. When the report was begun. -/
  formedAt : Option Nat := none
  /-- R401, 16; reset empty. IDENTITY_PUBKEY. -/
  pubkey : Octets := []
  /-- 4,354 octets, SEALED; R402, 16; reset empty, all zero. IDENTITY_CHAIN. -/
  chain : Octets := []
  /-- Which banks were rejected (FW_BANK STATE 5); R405, 16; reset false. -/
  rejected : List Bool := [false, false]
  deriving DecidableEq, Repr

/-! ### Shed (spec/17) -/

/-- One log entry (Table 17-2). -/
structure LogEntry where
  type : Nat
  sev : Nat
  persisted : Bool := false
  timeInvalid : Bool := false
  gap : Bool := false
  source : Nat := 0
  inst : Nat := 0
  seq : Nat
  asn : Nat
  secs : Nat
  nanos : Nat
  data : Octets := []
  deriving DecidableEq, Repr

/-- One row of CALIB_QUEUE (R416 to R418). -/
structure CalReq where
  item : Nat := 0
  target : Nat := 0
  force : Bool := false
  /-- 0 empty, 1 queued, 2 done, 3 failed, 4 ABORTED. -/
  st : Nat := 0
  asn : Nat := 0
  /-- Order of acceptance. -/
  order : Nat := 0
  /-- Whether its commit point has passed. -/
  committed : Bool := false
  deriving DecidableEq, Repr

/-- A step L3 or L4 that is due (R38, R397, R421, R424, R425). -/
structure DueStep where
  step : Nat
  fn : Nat
  inst : Nat
  /-- CODE of RESET_CAUSE. -/
  cause : Nat
  /-- Cycles; when it is asserted. -/
  at_ : Nat
  deriving DecidableEq, Repr

/-- A warm reset under way (R422). -/
structure Warm where
  fn : Nat
  inst : Nat
  /-- ASN in progress at assertion, if slots ran. -/
  slot : Option Nat
  /-- Cycles at assertion. -/
  at_ : Nat
  /-- Whether Easel has rejoined or has no slots to run. -/
  easel : Bool := false
  deriving DecidableEq, Repr

/-- Shed: the event log, the recovery ladder, sensors and requests. -/
structure Shd where
  /-- Up to 8,192 entries, newest first; R412, 17; reset empty. The log ring. -/
  ring : List LogEntry := []
  /-- 32 bits; R410, 17; reset 0. SEQ of the newest entry; LOG_SEQ. -/
  seq : Nat := 0
  /-- Up to 65,536 entries, newest first; R413, 17; reset empty (DESIGN CHOICE, log 9). The persisted log. -/
  flashLog : List LogEntry := []
  /-- R428, 17; reset true. Whether Shed runs its boot ROM. -/
  bootRom : Bool := true
  /-- Cycles; R406, 17; reset none. When the watchdog last expired, and the expiries within 60 s. -/
  dogAt : Option Nat := none
  /-- R406, 17; reset 0. -/
  dogCount : Nat := 0
  /-- 16 rows; R416, R427, 17; reset empty. CALIB_QUEUE. -/
  cal : List CalReq := List.replicate 16 {}
  /-- R416, 17; reset 0. Order of the next request. -/
  calOrder : Nat := 0
  /-- 8 in Q8 degrees C; R407, 17; reset 0. SENSOR_TEMP. -/
  temps : List Int := List.replicate 8 0
  /-- R408, 17; reset false. TEMP_WARN and TEMP_CRIT logged and not yet 2 degrees below. -/
  warned : Bool := false
  /-- R408, 17; reset false. -/
  crit : Bool := false
  /-- R408, 17; reset false. Held in M1 after a thermal L4. -/
  thermalHold : Bool := false
  /-- R467, 19; reset false. Held in M1 by feed brownouts; only the service UART wakes. -/
  feedHold : Bool := false
  /-- Per band: transmitting slots in a row above and below expectation; R409, 17; reset 0. -/
  pdet : List (Nat × Nat) := [(0, 0), (0, 0)]
  /-- Per band: sum of the PDET readings of the slot's bursts, Q8, and their count; R409, 17; reset 0. -/
  pdetSum : List (Int × Nat) := [(0, 0), (0, 0)]
  /-- Function, instance and retries left, with the cycle of the next; R419, R421, 17; reset empty. L1 in progress. -/
  l1 : List (Nat × Nat × Nat × Nat) := []
  /-- Function, instance and cycle of its start; R420, 17; reset empty. L2 in progress. -/
  l2 : List (Nat × Nat × Nat) := []
  /-- Sparse by 256 * function + instance: cycles of the L2 steps, newest first; R421, 17; reset empty. -/
  l2Hist : List (Nat × List Nat) := []
  /-- Cycles, newest first; R421, 17; reset empty. The L3 history. -/
  l3Hist : List Nat := []
  /-- Function and instance that stay faulted (halted or withheld, or FAULTY); R421, 17; reset empty. -/
  faulted : List (Nat × Nat) := []
  /-- R421, 17; reset false. ESCALATION_HALT holds. -/
  halted : Bool := false
  /-- R425, 17; reset none. A step L3 or L4 due. -/
  due : Option DueStep := none
  /-- R422, 17; reset none. The warm reset under way. -/
  warm : Option Warm := none
  /-- Cycles; R424, 17; reset none. When PWR_CYCLE_N rises. -/
  cycleUntil : Option Nat := none
  /-- Function and instance whose L4 runs, and its CODE; R424, 17; reset none. -/
  cycleFor : Option (Nat × Nat × Nat) := none
  /-- R39, R398, 02 and 16; reset none. A boot begun, and CODE of its cause. -/
  booting : Option Nat := none
  deriving DecidableEq, Repr

/-! ### Host interfaces, mailboxes and crossings (spec/18) -/

/-- One mailbox channel of 8 words (R441, R443, R444). -/
structure Chan where
  /-- Up to 8 words of 64 bits with their end marks, oldest first; R441, 18; reset empty. -/
  fifo : List (Nat × Bool) := []
  /-- 4 bits; R443, 18; reset 8. CREDITS as the sender holds them. -/
  credits : Nat := 8
  /-- 32 bits; R442, 18; reset 0. Low half written since the last push. -/
  low : Nat := 0
  /-- 1 bit; Table 18-5, 18; reset 0. TX_STATUS OVERRUN. -/
  overrun : Bool := false
  /-- 1 bit; Table 18-5, 18; reset 0. TX_STATUS ABORTED. -/
  txAborted : Bool := false
  /-- 1 bit; Table 18-5, 18; reset 0. TX_STATUS PEER_IN_RESET. -/
  peerReset : Bool := false
  /-- 64 bits; R444, 18; reset 0. The word most recently popped. -/
  last : Nat := 0
  /-- 1 bit; Table 18-6, 18; reset 0. LAST_END. -/
  lastEnd : Bool := false
  /-- 1 bit; Table 18-6, 18; reset 0. UNDERRUN. -/
  underrun : Bool := false
  /-- 1 bit; Table 18-6, 18; reset 0. RX_STATUS ABORTED. -/
  rxAborted : Bool := false
  /-- 1 bit; Table 18-7, 18; reset 0. UNIT. -/
  unit : Bool := false
  /-- 4 bits; Table 18-7, 18; reset 1. LEVEL. -/
  level : Nat := 1
  deriving DecidableEq, Repr

/-- One receiver's page registers (Table 18-4). -/
structure MbPage where
  /-- 32 bits; R446, 18; reset 0. DOORBELL. -/
  doorbell : Nat := 0
  /-- 32 bits; R446, 18; reset 0. DOORBELL_MASK. -/
  mask : Nat := 0
  /-- 1 bit and 16 bits; R442, R456, 18; reset 0. STALE_STATUS. -/
  stale : Bool := false
  staleCount : Nat := 0
  /-- 32 bits; R456, 18; reset 0. STALE_ADDR. -/
  staleAddr : Nat := 0
  /-- R448, 18; reset true: its domain is off. Whether the receiver is held in reset. -/
  inReset : Bool := true
  deriving DecidableEq, Repr

/-- Interfaces, mailboxes and crossings. Receivers: 0 HOST, 1 GESSO, 2 CANVAS, 3 EASEL, 4 SHED. -/
structure HostIf where
  /-- 25 by 5 * sender + receiver, the equal codes unused; R441, 18; reset as Chan. -/
  chans : List Chan := List.replicate 25 {}
  /-- 5; R442, 18; reset as MbPage. -/
  pages : List MbPage := List.replicate 5 {}
  /-- State, generation and width; R433, 18; reset down. PCIE_LINK. -/
  pcie : Bool × Nat × Nat := (false, 0, 0)
  /-- Up and speed in Mbit/s, per port; R431, 18; reset down. ETH_LINK. -/
  eth : List (Bool × Nat) := [(false, 0), (false, 0)]
  /-- By 2^32 * reader + address: the last value accepted from a source whose capture is a command; R454, R456, 18; reset empty. -/
  captured : List (Nat × Nat) := []
  deriving DecidableEq, Repr

/-! ### Power, feeds and Overwinter (spec/19) -/

/-- One countdown channel (R476). -/
structure Countdown where
  /-- 2 bits; R481, 19; reset 0. MODE: 0 off, 1 ELAPSED, 2 CALENDAR. -/
  mode : Nat := 0
  /-- 24 bits; R476, 19; reset 0. COUNT remaining of an ELAPSED channel. -/
  count : Nat := 0
  /-- 32 bits; R476, 19; reset 0. Target of a CALENDAR channel. -/
  target : Nat := 0
  /-- 1 bit; R476, 19; reset 0. FIRED. -/
  fired : Bool := false
  /-- 1 bit; R477, 19; reset 0. STEP. -/
  step : Bool := false
  /-- R476, 19; reset false. It fired in M0 and Shed has not acted on it yet. -/
  waiting : Bool := false
  deriving DecidableEq, Repr

/-- One tamper input (R479, R480). -/
structure Tamper where
  /-- 6 bits as OW_TAMPER_CFG lays them out: ARMED, POL, FILTER, PULL; R481, 19; reset 0. -/
  cfg : Nat := 0
  /-- R480, 19; reset false. Whether an armed input is at its active level. -/
  active : Bool := false
  /-- R480, 19; reset false. Whether an event is latched. -/
  latched : Bool := false
  /-- 8 bits; R480, 19; reset 0. -/
  count : Nat := 0
  /-- Seconds and subsecond of the first event; R480, 19; reset 0. -/
  secs : Nat := 0
  sub : Nat := 0
  deriving DecidableEq, Repr

/-- A master's shadow of the four clock registers (R474): the values captured, which have been read, when captured. -/
structure OwShadow where
  vals : List Nat
  read : List Bool
  at_ : Nat
  deriving DecidableEq, Repr

/-- The supplies, the two power trains and Overwinter. -/
structure Pwr where
  /-- R460, 19; reset false. Whether VAON and V18 are within window. -/
  main : Bool := false
  /-- R469, 19; reset true: no main supply. Whether VBAT feeds the node. -/
  onVbat : Bool := true
  /-- 16 bits, mV; R469, 19; reset 3000 (DESIGN CHOICE, log 23). VBAT_MV. -/
  vbat : Nat := 3000
  /-- Cycles; R469, 19; reset none. When VBAT_LOW was last logged. -/
  vbatLogged : Option Nat := none
  /-- R470, 19; reset false: broken (DESIGN CHOICE, log 23). SEAL. -/
  sealed : Bool := false
  /-- R483, 19; reset false. OW_SEAL [1]: found broken at the last boot. -/
  sealFound : Bool := false
  /-- 32 bits; R471, 19; reset 0 (DESIGN CHOICE, log 23). The seconds count. -/
  secs : Nat := 0
  /-- 15 bits; R471, 19; reset 0. The subsecond count. -/
  sub : Nat := 0
  /-- 20 bits; R472, 19; reset 0. Crystal pulses of the current trim window. -/
  window : Nat := 0
  /-- -511 to 511; R472, 19; reset 0. TRIM in force in this window. -/
  trim : Int := 0
  /-- R472, 19; reset 0. TRIM as written, in force from the next window. -/
  trimNext : Int := 0
  /-- 32 bits, 15 bits; R475, 19; reset 0. OW_SET_SECONDS and OW_SET_SUBSEC. -/
  setSecs : Nat := 0
  setSub : Nat := 0
  /-- R475, 19; reset false. A set waits for the next pulse edge. -/
  setDue : Bool := false
  /-- Units of 1/32 cycle below one crystal pulse of 390,625; R471, 19; reset 0 (log 24). Phase of the crystal. -/
  phase : Nat := 0
  /-- 2; R476, 19; reset as Countdown. CD_0 and CD_1. -/
  cd : List Countdown := [{}, {}]
  /-- Shed's and Gesso's shadows; R474, 19; reset none. -/
  shadows : List (Option OwShadow) := [none, none]
  /-- 1 bit; Table 19-5, 19; reset 0. SHADOW_LATE. -/
  shadowLate : Bool := false
  /-- 64 octets; R478, 19; reset zeros (DESIGN CHOICE, log 23). Backup memory. -/
  backup : List Nat := List.replicate 64 0
  /-- 32 octets, none for zero; R363, R478, 15 and 19; reset none. KEK_NONCE. -/
  nonce : Option Octets := none
  /-- OW clock minus network time in 2^-15 s, and the cycle, at the last comparison; R473, 19; reset none. -/
  trimRef : Option (Int × Nat) := none
  /-- 2; R479, 19; reset as Tamper. -/
  tamper : List Tamper := [{}, {}]
  /-- 0 A, 1 B; R461, 19; reset 0. The feed latch. -/
  train : Nat := 0
  /-- A and B; R462, R465, 19; reset false. DEVIATED marks. -/
  deviated : List Bool := [false, false]
  /-- A and B; R467, 19; reset false. FAILED marks. -/
  failed : List Bool := [false, false]
  /-- 1 bit; R466, 19; reset 0. OW_FEED BROWNOUT. -/
  brownout : Bool := false
  /-- 1 bit; R466, 19; reset 0. OW_FEED POST_SWITCH. -/
  postSwitch : Bool := false
  /-- 1 bit; R466, 19; reset 0. OW_FEED BROWNOUT_ACTION. -/
  action : Nat := 0
  /-- 32 bits; R464, 19; reset 0. Switch-overs; FEED_STATE SWITCHES. -/
  switches : Nat := 0
  /-- Cycles; R463, 19; reset none. End of the gap under way. -/
  gapEnd : Option Nat := none
  /-- Train left, rail and deviation in mV; R464, 19; reset none. The automatic switch-over whose gap is under way. -/
  gapAuto : Option (Nat × Nat × Int) := none
  /-- 2^-15 s of the Overwinter clock, and the train left; R463, R466, 19; reset none. The last switch-over, as Overwinter records it. -/
  lastSwitch : Option (Nat × Nat) := none
  /-- 12 in mV, 6 * train + rail; R458, 19; reset 0. FEED_SENSE. -/
  sense : List Nat := List.replicate 12 0
  /-- R465, 19; reset false. A standby outside its window was logged. -/
  stbyOut : Bool := false
  /-- Cycles; Table 19-6, 19; reset none. When FEED_NO_STANDBY was last logged. -/
  noStbyAt : Option Nat := none
  deriving DecidableEq, Repr

/-- What has left the chip at one of its boundaries, newest last: the model's own record, for statements (log 7). -/
inductive Output
  | odap (session : Nat) (r : Response)
  | notify (session : Nat) (n : Notif)
  | dtlsAlert (transport : Nat)
  | dtlsOpen (transport : Nat) (session : Nat)
  /-- A pulse at PPS_OUT: its second, and its width in us. -/
  | ppsPulse (second width : Nat)
  /-- An IEEE 1588 message of the unit: messageType, sequence, and its stamp in 2^-16 ns. -/
  | ptp (port kind seq : Nat) (time : Int)
  /-- An Announce of the unit, with the data set it carries. -/
  | announce (port seq : Nat) (ds : PtpDs)
  /-- A carrier whose burst was emitted: kind, PAN row, frequency, slot, frame as its lane took it; then its SFD, its stamp in ns of the
  local clock, and the PSDU on the air, with MIC and FCS. -/
  | air (kind : TxKind) (pan freq asn : Nat) (frame : Octets) (sfd stamp : Nat) (psdu : Octets)
  /-- A wake-up telegram that was emitted: its octets, its chips of 62.5 us (true on), and its stamp in ns of the local clock. -/
  | telegram (freq asn : Nat) (octets : Octets) (chips : List Bool) (stamp : Nat)
  /-- A receive report (Table 07-7) and its PSDU, handed to the MAC path and to Canvas. -/
  | report (rep psdu : Octets)
  /-- An uplink packet handed to a port (0, 1), or to Canvas (2). -/
  | packet (port : Nat) (next : Nat) (node : Option Nat) (p : Packet)
  /-- An Ethernet frame whose first octet leaves a port. -/
  | eth (port : Nat) (f : EgFrame)
  /-- A Hedgerow message: type, destination address (0xFFFF all), region, epoch, SEQ, body. -/
  | hedgerow (type dst region epoch seq : Nat) (body : Octets)
  /-- A Gesso response: receiver, service, tag, status, output. -/
  | gesso (dst service tag status : Nat) (data : Octets)
  /-- An MSI-X vector. -/
  | msix (vector : Nat)
  /-- A bus error seen by a master at an address. -/
  | busError (master addr : Nat)
  /-- The result of a table lookup. -/
  | lookup (e : Option TEntry)
  /-- What an insertion answers its source: OK or TABLE_FULL. -/
  | inserted (status : Nat)
  /-- Words a read returns. -/
  | word (master : Nat) (v : Nat)
  /-- PWR_CYCLE_N falls. -/
  | pwrCycle
  /-- A frame on the service UART, with its flags. -/
  | uart (frame : Octets)
  deriving DecidableEq, Repr

/-- The whole machine. -/
structure State where
  chip : Chip := {}
  ctl : Ctl := {}
  clk : Clk := {}
  srv : Srv := {}
  rf : Rf := {}
  pal : Pal := {}
  pri : Pri := {}
  nod : Nod := {}
  eas : Eas := {}
  gla : Gla := {}
  tre : Tre := {}
  rid : Rid := {}
  hed : Hed := {}
  sec : Sec := {}
  fw : Fw := {}
  shd : Shd := {}
  host : HostIf := {}
  pwr : Pwr := {}
  /-- Sparse by object, subindex and row; R65, 04; reset empty: every object at its default. The object store. -/
  od : List (Nat × Octets) := []
  /-- Sparse by address, unlisted 0 (DESIGN CHOICE, log 25); R25 to R27, 01; reset empty. Octets of SRAM, the managed store and
  registers without a behaviour of their own. -/
  mem : List (Nat × Byte) := []
  /-- What has left the chip, newest last; the model's own record (log 7); reset empty. -/
  out : List Output := []
  /-- Free values taken; the model's own (DESIGN CHOICE, log 8); reset 0. -/
  free : Nat := 0
  /-- Commands that wait, first in first out; the model's own; reset empty. -/
  pending : List Instr := []
  deriving DecidableEq, Repr

/-- The machine right after reset: no main supply (M0), every field at the value its docstring names (R30, R39). -/
def State.reset : State := {}

end Sys2Proof.Machine
end

