-- ==== Sys2Proof/Machine/Ops.lean ====
section
/-!
DEFINITION. The operations every family shares: octet encodings, the object store, the chip's variant, modes, the clock and
the ASN epoch, the event log, free values, and what leaves the chip.
-/

namespace Sys2Proof.Machine

/-! ### Octet encodings (R6, R66) -/

/-- The number an octet string spells, most significant octet first. -/
def beNat (o : Octets) : Nat := o.foldl (fun acc b => acc * 256 + b.toNat) 0

/-- The `n` octets of `v`, most significant first; `v` is taken modulo 256^n. -/
def beOct : Nat → Nat → Octets
  | 0, _ => []
  | n + 1, v => beOct n (v / 256) ++ [BitVec.ofNat 8 v]

/-- The same number least significant octet first, as air frames carry it (R6). -/
def leOct : Nat → Nat → Octets
  | 0, _ => []
  | n + 1, v => BitVec.ofNat 8 v :: leOct n (v / 256)

/-- A two's complement field least significant octet first. -/
def leInt (n : Nat) (v : Int) : Octets := leOct n ((v % ((256 ^ n : Nat) : Int)).toNat)

/-- Two's complement reading of `v` in `n` octets. -/
def signed (n v : Nat) : Int := if v < 256 ^ n / 2 then (v : Int) else (v : Int) - (256 ^ n : Nat)

/-- Two's complement octets of an integer. -/
def beInt (n : Nat) (v : Int) : Octets := beOct n ((v % ((256 ^ n : Nat) : Int)).toNat)

/-- Octets `off` to `off + size - 1` of a value, as a number. -/
def fieldNat (o : Octets) (off size : Nat) : Nat := beNat ((o.drop off).take size)

/-- The same field as two's complement. -/
def fieldInt (o : Octets) (off size : Nat) : Int := signed size (fieldNat o off size)

/-- The value with the field at `off` replaced by `v` in `size` octets. -/
def setField (o : Octets) (off size v : Nat) : Octets := o.take off ++ beOct size v ++ o.drop (off + size)

/-- Zero-padded or cut to `n` octets. -/
def padTo (n : Nat) (o : Octets) : Octets := (o ++ zeros n).take n

/-- The 4-octet FCS of a PSDU: the CRC-32 of IEEE 802.15.4, sent least significant octet first (PRESUMED, log entry 157). -/
def fcs32 (o : Octets) : Octets :=
  let step (r : BitVec 32) (_ : Nat) : BitVec 32 := if r.getLsbD 0 then (r >>> 1) ^^^ 0xEDB88320#32 else r >>> 1
  leOct 4 (~~~ (o.foldl (fun (r : BitVec 32) b => (List.range 8).foldl step (r ^^^ b.setWidth 32)) 0xFFFFFFFF#32)).toNat

/-- Whether bit `b` of `v` is set. -/
def bit (v b : Nat) : Bool := v / 2 ^ b % 2 == 1

/-- 1 for true, 0 for false. -/
def b2n (b : Bool) : Nat := if b then 1 else 0

/-- Number of bits of `v` set among the lowest `n`. -/
def popcount : Nat → Nat → Nat
  | 0, _ => 0
  | n + 1, v => v % 2 + popcount n (v / 2)

/-- `a` clamped into `lo` to `hi`. -/
def clampInt (lo hi a : Int) : Int := if a < lo then lo else if hi < a then hi else a

/-! ### Modes (R30, R31, R33) -/

/-- The value n that stands for Mn. -/
def Mode.code : Mode → Nat
  | .m0 => 0 | .m1 => 1 | .m2 => 2 | .m3 => 3 | .m4 => 4 | .m5 => 5
  | .m6 => 6 | .m7 => 7 | .m8 => 8 | .m9 => 9 | .m10 => 10 | .m11 => 11

/-- The mode a value stands for; the values above 11 stand for none. -/
def modeOf : Nat → Option Mode
  | 0 => some .m0 | 1 => some .m1 | 2 => some .m2 | 3 => some .m3 | 4 => some .m4 | 5 => some .m5
  | 6 => some .m6 | 7 => some .m7 | 8 => some .m8 | 9 => some .m9 | 10 => some .m10 | 11 => some .m11
  | _ => none

/-- M5 to M8. -/
def Mode.working : Mode → Bool
  | .m5 | .m6 | .m7 | .m8 => true
  | _ => false

/-- The modes with full air activity: the working modes and M10 (Table 02-1). -/
def Mode.emits : Mode → Bool
  | .m5 | .m6 | .m7 | .m8 | .m10 => true
  | _ => false

/-- The slot code of a working mode (Tables 02-3 and 05-5). -/
def Mode.slotCode : Mode → Nat
  | .m7 => 0
  | .m6 => 2
  | _ => 1

/-- The domain states of Table 02-2, D0 to D11, on a package with or without 2.4 GHz (R32). M11 takes "as authorised" as on. -/
def Mode.domains (m : Mode) (g2 : Bool) : List Dom :=
  let d10 (d : Dom) : Dom := if g2 then d else .off
  match m with
  | .m0 => [.on, .off, .off, .off, .off, .off, .off, .off, .off, .off, .off, .off]
  | .m1 => [.on, .on, .off, .off, .off, .off, .off, .off, .off, .off, .off, .off]
  | .m2 => [.on, .on, .on, .on, .off, .hold, .on, .off, .off, .off, .off, .off]
  | .m3 | .m4 => [.on, .on, .on, .on, .on, .on, .on, .on, .on, .off, d10 .rx, .on]
  | .m8 => [.on, .on, .on, .on, .on, .on, .on, .on, .off, .on, .off, .on]
  | .m9 => [.on, .on, .on, .on, .on, .on, .on, .on, .on, .hold, d10 .hold, .on]
  | .m5 | .m6 | .m7 | .m10 | .m11 => [.on, .on, .on, .on, .on, .on, .on, .on, .on, .on, d10 .on, .on]

/-- Channel receivers in service before the cap of R14 (Table 02-3). -/
def Mode.receivers : Mode → Nat
  | .m5 => 96
  | .m6 => 48
  | .m7 => 64
  | .m8 => 24
  | _ => 96

/-! ### The variant and the life cycle (R1, R49, R53, R54, R360) -/

/-- LC_STATE: the number of life-cycle fuses blown, each blown if either of its cells is (R360). -/
def Chip.lifeCycle (c : Chip) : Nat := (c.lcFuses.filter (fun f => f.1 || f.2)).length

/-- Whether the fused fields and the bonding form an offered code (R54). -/
def Chip.valid (c : Chip) : Bool :=
  c.package == c.bondC &&
  match c.package, c.channels, c.fabric, c.grade with
  | 0, 0, 1, _ => true
  | 0, 0, 0, 0 => true
  | 0, 1, 1, _ => true
  | 0, 1, 0, 0 => true
  | 1, 0, _, 0 => true
  | 1, 1, _, 0 => true
  | 1, 2, 0, _ => true
  | _, _, _, _ => false

/-- Whether the unit has the 2.4 GHz band, PCIe and the rest of the F package (R49; R54 while VALID is 0). -/
def Chip.fPackage (c : Chip) : Bool := c.package == 0 && c.bondC == 0

/-- Whether the unit has the Hedgerow and Glaze (R49, R54). -/
def Chip.hFabric (c : Chip) : Bool := c.fabric != 0

/-- Channel receivers of the variant (Table 00-1; R54). -/
def Chip.receivers (c : Chip) : Nat :=
  match c.channels with
  | 0 => 96
  | 1 => 48
  | _ => 24

/-- The node limit of the variant (Table 00-1; R51, R54). -/
def Chip.nodeLimit (c : Chip) : Nat :=
  match c.channels with
  | 0 => 131072
  | 1 => 65536
  | _ => 16384

/-- Tj maximum of the grade in degrees C (Table 00-1); the I grade while VALID is 0 (R54). -/
def Chip.tjMax (c : Chip) : Nat := if c.valid && c.grade == 1 then 125 else 105

/-- FUSE_MAP as Table 03-3 lays it out. -/
def Chip.fuseMap (c : Chip) : Nat :=
  b2n c.valid * 2 ^ 15 + c.bondC * 2 ^ 11 + c.rootRevoked * 2 ^ 8 + c.grade * 2 ^ 5 + c.fabric * 2 ^ 4 +
  c.channels * 2 ^ 2 + c.package

/-- The ASCII octet of an ordering-code character. -/
def ascii (c : Char) : Byte := BitVec.ofNat 8 c.toNat

/-- VARIANT_CODE: the code of Table 00-1 padded with zero octets, all zero on a variant fault (R52, R54). -/
def Chip.variantCode (c : Chip) : Octets :=
  if c.valid then
    padTo 12 (['F', 'L', '9', '6', '-'].map ascii ++ [ascii (if c.package = 0 then 'F' else 'C')] ++
      (match c.channels with
        | 0 => ['9', '6']
        | 1 => ['4', '8']
        | _ => ['2', '4']).map ascii ++
      [ascii (if c.fabric = 1 then 'H' else 'L'), ascii (if c.grade = 1 then 'E' else 'I')])
  else zeros 12

/-! ### The object store (R64, R65, R67) -/

/-- The store's key of an object's row. -/
def odKey (idx sub row : Nat) : Nat := idx * 2 ^ 40 + sub * 2 ^ 32 + row

/-- The dictionary entry of an index and subindex (R72). -/
def odFind (idx sub : Nat) : Option ObjDesc :=
  (odPage (idx / 256)).find? (fun d => d.idx == idx && d.sub == sub)

/-- Defaults that differ from row to row, or that are fused per die. -/
def odSpecialDefault (idx sub row : Nat) : Option Octets :=
  match idx, sub with
  | 0x3120, 1 => if 512 ≤ row then some (beInt 2 (-106 * 256)) else none
  | 0x6810, 3 => some [BitVec.ofNat 8 (row / 8)]
  | 0x6810, 4 => some [BitVec.ofNat 8 row]
  | 0x6810, 6 => some [if row = 0 then 5 else 6]
  | 0xA400, 2 => some [if row = 0 then 1 else 0]
  | _, _ => none

/-- What a row that nothing has written reads as: its default (R65). -/
def odDefault (key : Nat) : Octets :=
  let idx := key / 2 ^ 40
  let sub := key / 2 ^ 32 % 256
  let row := key % 2 ^ 32
  match odSpecialDefault idx sub row with
  | some v => v
  | none => match odFind idx sub with
    | some d => d.dflt
    | none => []

/-- The value in effect of a stored object's row. -/
def odGet (s : State) (idx sub : Nat) (row : Nat := 0) : Octets := sget odDefault s.od (odKey idx sub row)

/-- The same as an unsigned number. -/
def odNat (s : State) (idx sub : Nat) (row : Nat := 0) : Nat := beNat (odGet s idx sub row)

/-- The same as a two's complement number of the value's own length. -/
def odInt (s : State) (idx sub : Nat) (row : Nat := 0) : Int :=
  let o := odGet s idx sub row
  signed o.length (beNat o)

/-- A field of a record object. -/
def odField (s : State) (idx sub row off size : Nat) : Nat := fieldNat (odGet s idx sub row) off size

/-- Sets the value in effect of a stored object's row. -/
def odPut (idx sub row : Nat) (v : Octets) (s : State) : State :=
  { s with od := sset odDefault s.od (odKey idx sub row) v }

/-- Adds `n` to a counter object, modulo the width of its value. -/
def bump (idx sub row : Nat) (s : State) (n : Nat := 1) : State :=
  let o := odGet s idx sub row
  odPut idx sub row (beOct o.length (beNat o + n)) s

/-! ### Free values (log entry 8) -/

/-- Takes the next free value. -/
def takeFree (s : State) : Nat × State := (Config.freeValue s.free, { s with free := s.free + 1 })

/-! ### What leaves the chip -/

/-- Records something that leaves the chip. -/
def emit (o : Output) (s : State) : State := { s with out := s.out ++ [o] }

/-! ### The clock (R95, R97) -/

/-- One nanosecond in the clock's unit of 2^-40 ns. -/
def nsUnit : Nat := 2 ^ 40

/-- The clock's reading in whole nanoseconds. -/
def nowNs (s : State) : Nat := s.clk.now / nsUnit

/-- Seconds of the clock. -/
def nowSecs (s : State) : Nat := nowNs s / 1000000000

/-- Nanoseconds of the clock below one second. -/
def nowNanos (s : State) : Nat := nowNs s % 1000000000

/-- One cycle's increment: 2.5 ns plus the rate correction, in 2^-40 ns (R95); 1 ppm of 2.5 ns is 5 * 2^39 / 10^6. -/
def tickInc (c : Clk) : Nat := ((5 * 2 ^ 39 : Int) + (5 * 2 ^ 23 * c.rateCorr) / 1000000).toNat

/-- Cycles in one millisecond of the 400 MHz timebase. -/
def msCycles : Nat := 400000

/-- Cycles in one second of the 400 MHz timebase. -/
def secCycles : Nat := 400000000

/-! ### ASN and network time (R111, R112) -/

/-- Slot length of a slot code in ns (R112). -/
def slotNs (code : Nat) : Nat := if code = 0 then 12500000 else if code = 1 then 25000000 else 50000000

/-- Slots in a superframe of a slot code (R112). -/
def sfSlots (code : Nat) : Nat := 25600000000 / slotNs code

/-- Network time of an epoch's first slot in ns. -/
def epochT0 (e : Epoch) : Nat := e.secs * 1000000000 + e.nanos

/-- start(a) of R112; R111 extends the oldest epoch downward, so it is an integer. -/
def epochStart (e : Epoch) (a : Nat) : Int := (epochT0 e : Int) + ((a : Int) - e.asn0) * slotNs e.code

/-- asn_at(t) of R112, for t at or above t0. -/
def epochAsnAt (e : Epoch) (t : Nat) : Nat := e.asn0 + (t - epochT0 e) / slotNs e.code

/-- offset(a) of R112. -/
def epochOffset (e : Epoch) (a : Nat) : Nat := (a - e.asn0) % sfSlots e.code

/-- The epoch record of Table 05-5 in its wire form. -/
def encodeEpoch (e : Epoch) : Octets := beOct 5 e.asn0 ++ beOct 6 e.secs ++ beOct 4 e.nanos ++ beOct 1 e.code

/-- The epoch a record spells. -/
def decodeEpoch (o : Octets) : Epoch :=
  { asn0 := fieldNat o 0 5, secs := fieldNat o 5 6, nanos := fieldNat o 11 4, code := fieldNat o 15 1 }

/-- The epoch in force: ASN_EPOCH. -/
def curEpoch (s : State) : Epoch := decodeEpoch (odGet s 0x2100 1)

/-- The epoch that a pending change brings at its effective ASN (R41, R42; log entry 11 for an entry from M3 or M4). -/
def nextEpoch (s : State) : Option Epoch :=
  match s.ctl.change with
  | some c => if c.epoch = {} then none else some c.epoch
  | none => none

/-- The kept epoch that governs an ASN below the one in force (R111). -/
def keptEpoch : List Epoch → Epoch → Nat → Epoch
  | [], e, _ => e
  | e' :: l, e, a => if e.asn0 ≤ a then e else keptEpoch l e' a

/-- The epoch that governs an ASN: the announced one from its ASN_0, else the one in force, else a kept one (R111). -/
def epochFor (s : State) (a : Nat) : Epoch :=
  match nextEpoch s with
  | some e => if e.asn0 ≤ a then e else keptEpoch s.clk.oldEpochs (curEpoch s) a
  | none => keptEpoch s.clk.oldEpochs (curEpoch s) a

/-- start(a) under the epoch that governs `a`, in ns. -/
def startNs (s : State) (a : Nat) : Int := epochStart (epochFor s a) a

/-- Offset of a slot in its superframe. -/
def offsetOf (s : State) (a : Nat) : Nat := epochOffset (epochFor s a) a

/-- Superframe index f(a) (R203). -/
def sfIndex (s : State) (a : Nat) : Nat := (startNs s a).toNat / 25600000000

/-- Smallest ASN of one epoch whose start is at or after `t`. -/
def epochFirstAt (e : Epoch) (t : Nat) : Nat := e.asn0 + (t - epochT0 e + slotNs e.code - 1) / slotNs e.code

/-- The lowest ASN whose slot start lies at or after `t` ns (R68). -/
def firstSlotAt (s : State) (t : Nat) : Nat :=
  let a := epochFirstAt (curEpoch s) t
  match nextEpoch s with
  | some e => if e.asn0 ≤ a then epochFirstAt e t else a
  | none => a

/-- The first superframe boundary whose start lies at or after `t` ns (R68, R113). -/
def firstBoundaryAt (s : State) (t : Nat) : Nat :=
  firstSlotAt s (max ((t + 25599999999) / 25600000000 * 25600000000) (epochT0 (curEpoch s)))

/-- Whether the ASN epoch is one that a slot can be derived from: not the all-zero default (log entry 10). -/
def epochValid (s : State) : Bool := curEpoch s != {}

/-! ### The event log (R410 to R412) -/

/-- Marks the oldest of a newest-first ring with GAP (R412). -/
def gapOldest : List LogEntry → List LogEntry
  | [] => []
  | [e] => [{ e with gap := true }]
  | e :: l => e :: gapOldest l

/-- The ring after an entry: when it is full the oldest entry is overwritten and the next carries GAP (R412). -/
def ringPush (e : LogEntry) (ring : List LogEntry) : List LogEntry :=
  if ring.length < 8192 then e :: ring else gapOldest ((e :: ring).take 8192)

/-- Logs one event, stamped when it is raised (R118, R410). -/
def logEvent (type sev : Nat) (data : Octets) (s : State) (source : Nat := 0) (inst : Nat := 0) : State :=
  let e : LogEntry :=
    { type := type, sev := sev, timeInvalid := !s.clk.valid, source := source, inst := inst, seq := s.shd.seq + 1
      asn := if s.eas.running then s.eas.asn else 0, secs := nowSecs s, nanos := nowNanos s, data := data }
  { s with shd := { s.shd with ring := ringPush e s.shd.ring, seq := s.shd.seq + 1 } }

/-- A poisoned read of the managed store is logged with its address (R29, Table 17-3). -/
def logPoison (a : Nat) (s : State) : State := logEvent 0x11 2 (beOct 4 a) s

/-- A log entry in the 32 octets of Table 17-2. -/
def LogEntry.encode (e : LogEntry) : Octets :=
  [BitVec.ofNat 8 e.type,
   BitVec.ofNat 8 (e.sev + 4 * b2n e.persisted + 8 * b2n e.timeInvalid + 16 * b2n e.gap),
   BitVec.ofNat 8 e.source, BitVec.ofNat 8 e.inst] ++
  beOct 4 e.seq ++ beOct 5 e.asn ++ beOct 6 e.secs ++ beOct 4 e.nanos ++ padTo 9 e.data

end Sys2Proof.Machine
end

