-- ==== Sys2Proof/Machine/Db.lean ====
section
/-!
DEFINITION. Sums of powers given in dB (dbsum of R137 and R186), in fixed point: levels are integers in 1/256 dB, and
10^(x/10) is taken to 2^-48 from the constants 10^(2^k/2560). The rounding is the model's (log entry 16).
-/

namespace Sys2Proof.Machine

/-- round(10^(2^k / 2560) * 2^48) for k = 0 to 15. -/
def pow10Consts : List Nat :=
  [281728262510564, 281981776230187, 282489488249138, 283507656360128,
   285555015064220, 289694194422647, 298153417624953, 315820118293571,
   354356000965216, 446107774436869, 707033174808972, 1775987038429797,
   11205720655989079, 446107774436869156, 707033174808971869409, 1775987038429797499588147469]

/-- Multiplies the constants of the bits of `n` that are set, in 2^-48. -/
def pow10Bits : List Nat → Nat → Nat → Nat
  | [], _, acc => acc
  | c :: l, n, acc => pow10Bits l (n / 2) (if n % 2 = 1 then acc * c / 2 ^ 48 else acc)

/-- 10^((x + 200 dB) / 10) in 2^-48, for x in 1/256 dB from -200 dB to +55 dB; levels below count as -200 dB. -/
def dbToLin (x : Int) : Nat := pow10Bits pow10Consts (x + 51200).toNat (2 ^ 48)

/-- The largest level, built bit by bit from `k` down, whose power does not exceed `v`. -/
def linToDbFrom (v : Nat) : Nat → Nat → Nat
  | 0, n => n
  | k + 1, n =>
    let m := n + 2 ^ k
    if pow10Bits pow10Consts m (2 ^ 48) ≤ v then linToDbFrom v k m else linToDbFrom v k n

/-- A power back to 1/256 dB, rounded down. -/
def linToDb (v : Nat) : Int := (linToDbFrom v 16 0 : Int) - 51200

/-- The power sum of levels in 1/256 dB; none of nothing (minus infinity). -/
def dbSum : List Int → Option Int
  | [] => none
  | [x] => some x
  | l => some (linToDb ((l.map dbToLin).foldl (· + ·) 0))

end Sys2Proof.Machine
end

