-- ==== Sys2Proof/Machine/Clock.lean ====
section
/-!
DEFINITION. How time passes: cycles of the 400 MHz timebase (R95, R97), pulses of the 32.768 kHz crystal in Overwinter with its
trim, its calendar steps and its countdown channels (R471 to R477), and the wake from M1 (Table 02-7).
-/

namespace Sys2Proof.Machine

/-- A source wakes the unit from M1: D2 comes on and a boot begins (Table 02-7); a thermal hold admits no source, a feed hold
only the service UART (R408, R467). -/
def wake (uart : Bool) (s : State) : State :=
  if s.ctl.mode = .m1 ∧ s.shd.booting = none ∧ ¬ s.shd.thermalHold ∧ (uart ∨ ¬ s.shd.feedHold) ∧ s.shd.cycleUntil = none then
    { s with
      shd := { s.shd with booting := some 0 }
      ctl := { s.ctl with domains := setAt s.ctl.domains 2 .on } }
  else s

/-- What Shed does when a channel has fired: it logs ALARM_FIRED and the unit wakes (R476); in M0 the channel stays latched. -/
def alarmFired (ch : Nat) (step : Bool) (s : State) : State :=
  if s.ctl.mode = .m0 then s
  else wake false (logEvent 0x68 2 (beOct 1 ch ++ beOct 1 (b2n step)) s)

/-- A channel fires: FIRED is set, STEP where a calendar step fired it, and it disarms itself (R476, R477). -/
def fireChannel (ch : Nat) (step : Bool) (s : State) : State :=
  alarmFired ch step { s with pwr := { s.pwr with
    cd := modAt (fun c => { c with mode := 0, count := 0, fired := true, step := c.step || step, waiting := s.ctl.mode == .m0 }) s.pwr.cd ch } }

/-- The channel of a number. -/
def channelOf (s : State) (ch : Nat) : Countdown := (s.pwr.cd[ch]?).getD {}

/-- Seconds from `from_` to `to_` as the 32-bit count runs. -/
def secsTo (from_ to_ : Nat) : Nat := (to_ + 2 ^ 32 - from_ % 2 ^ 32) % 2 ^ 32

/-- One subsecond rollover as it reaches a channel (R476). -/
def channelSecond (ch : Nat) (s : State) : State :=
  let c := channelOf s ch
  if c.mode = 1 then
    if c.count ≤ 1 then fireChannel ch false s
    else { s with pwr := { s.pwr with cd := modAt (fun c => { c with count := c.count - 1 }) s.pwr.cd ch } }
  else if c.mode = 2 ∧ c.target = s.pwr.secs then fireChannel ch false s
  else s

/-- One trimmed pulse (R471): the subsecond count, the seconds at its rollover, and the channels. -/
def owTrimmed (s : State) : State :=
  if s.pwr.sub + 1 < 2 ^ 15 then { s with pwr := { s.pwr with sub := s.pwr.sub + 1 } }
  else channelSecond 1 (channelSecond 0 { s with pwr := { s.pwr with sub := 0, secs := (s.pwr.secs + 1) % 2 ^ 32 } })

/-- A calendar step as it reaches a CALENDAR channel: a target reached or passed fires at that edge (R477). -/
def channelStep (ch old new : Nat) (s : State) : State :=
  let c := channelOf s ch
  if c.mode = 2 ∧ old < new ∧ secsTo old c.target ≤ new - old then fireChannel ch true s else s

/-- The calendar is stepped to a seconds and subsecond count; Shed logs CAL_STEP with the step in ms (R475). -/
def owStep (secs sub : Nat) (s : State) : State :=
  let d : Int := ((secs : Int) - s.pwr.secs) * 1000 + ((sub : Int) - s.pwr.sub) * 1000 / 32768
  let s1 := { s with pwr := { s.pwr with secs := secs, sub := sub, setDue := false, trimRef := none } }
  let s2 := if s.ctl.mode = .m0 then s1 else logEvent 0x67 2 (beInt 4 d) s1
  channelStep 1 s.pwr.secs secs (channelStep 0 s.pwr.secs secs s2)

/-- Trimmed pulses that pulse `k` of a window of 2^20 counts as under a trim (R472). -/
def trimmedPulses (trim : Int) (k : Nat) : Nat :=
  if trim = 0 then 1
  else
    let p := 2 ^ 20 / trim.natAbs
    if k % p = 0 ∧ k / p ≤ trim.natAbs then (if 0 < trim then 2 else 0) else 1

/-- One crystal pulse (R471, R472, R475). -/
def owPulse (s : State) : State :=
  let k := s.pwr.window + 1
  let n := trimmedPulses s.pwr.trim k
  let s1 := if k = 2 ^ 20 then { s with pwr := { s.pwr with window := 0, trim := s.pwr.trimNext } }
    else { s with pwr := { s.pwr with window := k } }
  if s1.pwr.setDue then owStep s1.pwr.setSecs s1.pwr.setSub s1
  else if n = 0 then s1 else if n = 1 then owTrimmed s1 else owTrimmed (owTrimmed s1)

/-- `n` crystal pulses. -/
def owPulses : Nat → State → State
  | 0, s => s
  | n + 1, s => owPulses n (owPulse s)

/-- Whether Overwinter's node is powered (R469, R470). -/
def owPowered (s : State) : Bool := !s.pwr.onVbat || decide (1600 ≤ s.pwr.vbat)

/-- Overwinter during `n` cycles of 2.5 ns: one pulse every 390,625 / 32 cycles (log entry 24). -/
def owAdvance (n : Nat) (s : State) : State :=
  if owPowered s then
    let p := s.pwr.phase + 32 * n
    owPulses (p / 390625) { s with pwr := { s.pwr with phase := p % 390625 } }
  else s

/-- `n` cycles pass: the local clock and the elapsed-time counter, stopped in M0 and M1 (R97), and Overwinter. -/
def clockTicks (n : Nat) (s : State) : State :=
  let s1 := if s.ctl.mode = .m0 ∨ s.ctl.mode = .m1 then s
    else { s with clk := { s.clk with now := s.clk.now + n * tickInc s.clk, elapsed := s.clk.elapsed + n } }
  owAdvance n s1

/-- Time passes until the elapsed-time counter reads `t`. -/
def advanceElapsed (t : Nat) (s : State) : State := if t ≤ s.clk.elapsed then s else clockTicks (t - s.clk.elapsed) s

/-- Time passes until the local clock reads at least `t` ns. -/
def advanceNs (t : Nat) (s : State) : State :=
  if t * nsUnit ≤ s.clk.now then s else clockTicks ((t * nsUnit - s.clk.now + tickInc s.clk - 1) / tickInc s.clk) s

end Sys2Proof.Machine
end

