-- ==== Sys2Proof/Machine/Flags.lean ====
section
/-!
DEFINITION. Flag and status computations: the clock's state codes, its error bound and TIME_FLAGS (spec/05), the status codes
and EFF_ASN values of ODAP (spec/04), and the wake-on-change notifications every command ends with (R90 to R92).
-/

namespace Sys2Proof.Machine

/-! ### Clock flags (R99, R101, Table 05-2) -/

/-- Codes of Table 05-1. -/
def ClkState.code : ClkState → Nat
  | .invalid => 0 | .acquiring => 1 | .locked => 2 | .holdover => 3 | .stepHeld => 4

/-- TIME_EST_ERROR in ns (R101), held in 32 bits. -/
def estError (s : State) : Nat :=
  let v := match s.clk.state with
    | .locked => match s.clk.hist with
      | [] => 0xFFFFFFFF
      | h :: t => t.foldl max h
    | .holdover => s.clk.holdErr + odNat s 0x2001 4 * (s.clk.elapsed - s.clk.holdSince) / secCycles
    | .stepHeld => s.clk.offset.natAbs
    | .invalid | .acquiring => 0xFFFFFFFF
  min v 0xFFFFFFFF

/-- ALIGNED (R101). -/
def aligned (s : State) : Bool := s.clk.valid && decide (estError s ≤ odNat s 0x2001 5)

/-- PPS_IN_PRESENT: an edge accepted within the last 1.5 s (Table 05-2). -/
def ppsPresent (s : State) : Bool :=
  match s.clk.ppsAt with
  | some t => decide (s.clk.elapsed - t ≤ 600000000)
  | none => false

/-- STEP_PENDING (Table 05-2): in STEP_HELD, and in ACQUIRING while slots run. -/
def stepPendingNow (s : State) : Bool :=
  s.clk.stepPending && (s.clk.state == .stepHeld || (s.clk.state == .acquiring && s.eas.running))

/-- TIME_FLAGS as Table 05-2 lays it out. -/
def timeFlags (s : State) : Nat :=
  16 * b2n s.clk.sourceLost + 8 * b2n (ppsPresent s) + 4 * b2n (stepPendingNow s) + 2 * b2n (aligned s) + b2n s.clk.valid

/-! ### Status codes (Table 04-9) and EFF_ASN values (R79) -/

def stOk : Nat := 0
def stAborted : Nat := 1
def stTooLate : Nat := 2
def stBusy : Nat := 3
def stInvalidState : Nat := 4
def stAccessDenied : Nat := 5
def stUnsupported : Nat := 6
def stNoSuchObject : Nat := 7
def stTypeMismatch : Nat := 8
def stOutOfRange : Nat := 9
def stUseBlock : Nat := 0xA
def stConflict : Nat := 0xB
def stTxnLimit : Nat := 0xC
def stStaleRequest : Nat := 0xD
def stFormatError : Nat := 0xE
def stBlockIncomplete : Nat := 0xF
def stScheduleMismatch : Nat := 0x10
def stSignatureFail : Nat := 0x11
def stVariantMismatch : Nat := 0x12
def stSteppingMismatch : Nat := 0x13
def stSchemaMismatch : Nat := 0x14
def stTableFull : Nat := 0x15
def stStepRefused : Nat := 0x16
def stKeyChangeRequired : Nat := 0x17
def stKeyLimit : Nat := 0x18
def stEpochStale : Nat := 0x19
def stFenced : Nat := 0x1A

/-- EFF_ASN where no ASN applies. -/
def effNone : Nat := 0xFFFFFFFFFFFFFFFF
/-- EFF_ASN where no slots run (R70). -/
def effNoSlots : Nat := 0xFFFFFFFFFFFFFFFE
/-- EFF_ASN of a write staged in a transaction. -/
def effStaged : Nat := 0xFFFFFFFFFFFFFFFD

/-- EFF_ASN of an IMMEDIATE write: the ASN in progress, or the no-slots value (R79). -/
def effNow (s : State) : Nat := if s.eas.running then s.eas.asn else effNoSlots

/-- What a request is answered with: a status and the body (R78). -/
structure Answer where
  status : Nat
  body : Octets
  deriving DecidableEq, Repr

/-- An OK answer. -/
def okA (body : Octets) : Answer := ⟨stOk, body⟩
/-- An OK answer with an EFF_ASN. -/
def effA (eff : Nat) : Answer := ⟨stOk, beOct 8 eff⟩
/-- A status other than OK, with its DETAIL. -/
def errA (status : Nat) (detail : Nat := 0) : Answer := ⟨status, beOct 4 detail⟩

/-- The answer of a request whose response is still owed when it has been served (R89, R362). -/
def owedA : Answer := ⟨0x10000, []⟩

/-- Margin of R68 in ns. -/
def marginNs (s : State) : Nat := odNat s 0xA010 2 * 1000

/-- E of a NEXT_SLOT write committed now (R68). -/
def nextSlotE (s : State) : Nat := firstSlotAt s (nowNs s + marginNs s)

/-- E of a NEXT_SUPERFRAME write committed now (R68). -/
def nextSuperframeE (s : State) : Nat := firstBoundaryAt s (nowNs s + marginNs s)

end Sys2Proof.Machine
end

