-- ==== Sys2Proof/Machine/Schedule.lean ====
section
/-!
DEFINITION. The superframe, the schedule sets and their checks (spec/09, with R33, R45 of spec/02 and the PHY modes of
spec/07): cells, channels, hopping, airtimes, and whether a set fits a mode.
-/

namespace Sys2Proof.Machine

/-! ### PHY modes (Table 07-1) and receive profiles (Table 07-3) -/

/-- On-air bit rate in kbit/s. -/
def phyRate (phy : Nat) : Nat :=
  match phy with
  | 0 => 50 | 1 => 100 | 2 => 150 | 3 => 200 | 4 => 300 | _ => 250

/-- Channel width in Hz. -/
def phyWidth (phy : Nat) : Nat :=
  match phy with
  | 0 | 1 => 200000 | 2 | 3 => 400000 | 4 => 600000 | _ => 2000000

/-- Bins of a sub-GHz channel. -/
def phyBins (phy : Nat) : Nat :=
  match phy with
  | 0 | 1 => 1 | 2 | 3 => 2 | _ => 3

/-- A receive profile. -/
structure Profile where
  phy : Nat
  fec : Nat
  sfdLen : Nat
  sfdTol : Nat
  maxLen : Nat
  pdThresh : Nat
  preamble : Nat
  fadeMargin : Nat
  watchMargin : Nat
  sfdSel : Nat
  deriving DecidableEq, Repr

/-- The index of a band's RF object: the 2.4 GHz one lies 0x0800 above (R146). -/
def bandIdx (band idx : Nat) : Nat := idx + 0x800 * band

/-- The profile that a record of Table 07-3 spells. -/
def readProfile (o : Octets) : Profile :=
  { phy := fieldNat o 0 1, fec := fieldNat o 1 1 % 8, sfdLen := fieldNat o 2 1, sfdTol := fieldNat o 3 1, maxLen := fieldNat o 4 2
    pdThresh := fieldNat o 6 2, preamble := fieldNat o 8 1, fadeMargin := fieldNat o 9 1, watchMargin := fieldNat o 10 1
    sfdSel := fieldNat o 11 1 }

/-- A row of RX_PROFILE. -/
def profileOf (s : State) (row : Nat) : Profile := readProfile (odGet s 0x3100 1 row)

/-- A profile as a partner's list carries it (Table 11-1). -/
def listProfile (l : ListenList) (i : Nat) : Profile := readProfile ((l.profiles[i]?).getD [])

/-- The profile a cell runs under: an own cell's row, or that of the owner's list on a listen cell (R273). -/
def cellProfile (s : State) (c : RxCell) : Profile := if c.partner then readProfile c.listProf else profileOf s c.profile

/-- Whether the profile uses FEC. -/
def Profile.coded (p : Profile) : Bool := p.fec % 4 != 0

/-- Bits on air of the PHR and an n-octet PSDU (R207): rate 1/2 with 3 tail bits and the pad bits of IEEE 802.15.4, 5 or 13 by
the parity of n (PRESUMED, log entry 18); the 2.4 GHz PHR is one octet. -/
def payloadBits (p : Profile) (coded : Bool) (n : Nat) : Nat :=
  if p.phy = 5 then 8 * (1 + n)
  else if coded then 2 * (16 + 8 * n + 3 + (if n % 2 = 0 then 13 else 5))
  else 16 + 8 * n

/-- Bits of the preamble and the SFD, P + W of R187. -/
def headBits (p : Profile) : Nat := if p.phy = 5 then 40 else 8 * p.preamble + p.sfdLen

/-- Airtime in ns of a number of bits on a PHY. -/
def airNs (phy bits : Nat) : Nat := (bits * 1000000 + phyRate phy - 1) / phyRate phy

/-- t_e - t_c of a frame in ns (Table 08-1): 16 us + L / R. -/
def burstNs (p : Profile) (coded : Bool) (n : Nat) : Nat := 16000 + airNs p.phy (headBits p + payloadBits p coded n)

/-- The tail budget of a slot code in us (R207). -/
def tailBudget (code : Nat) : Nat := if code = 0 then 4700 else if code = 1 then 15000 else 40000

/-- The largest n up to `n` whose PHR and PSDU fit a budget of `us`. -/
def fitLen (p : Profile) (coded : Bool) (us : Nat) : Nat → Nat
  | 0 => 0
  | n + 1 => if payloadBits p coded (n + 1) * 1000 ≤ us * phyRate p.phy then n + 1 else fitLen p coded us n

/-- Effective maximum length of a cell for coded or uncoded frames (R207). -/
def effMax (p : Profile) (coded : Bool) (code : Nat) : Nat := fitLen p coded (tailBudget code) (min p.maxLen 2047)

/-! ### PANs, channels and hopping (R209 to R212) -/

/-- A field of a PAN_CFG row. -/
def panField (s : State) (pan off size : Nat) : Nat := odField s 0x4030 1 pan off size

/-- Whether a PAN row is enabled. -/
def panOn (s : State) (pan : Nat) : Bool := panField s pan 0 1 == 1

/-- Band of a PAN. -/
def panBand (s : State) (pan : Nat) : Nat := panField s pan 1 1

/-- Centre of a PAN's channel index in Hz (R210). -/
def chanFreq (s : State) (pan i : Nat) : Nat :=
  if panBand s pan = 0 then panField s pan 4 4 + i * panField s pan 8 4 else 2405000000 + i * 5000000

/-- Bit i of a channel map (R211). -/
def mapBit (m : Octets) (i : Nat) : Bool := bit (((m[i / 8]?).map (·.toNat)).getD 0) (i % 8)

/-- The channel map of a PAN in force in slot `a` (R212). -/
def mapAt (s : State) (pan a : Nat) : Octets :=
  match s.eas.maps.find? (fun m => m.pan == pan && decide (m.eff ≤ a)) with
  | some m => m.map
  | none => odGet s 0x4032 1 pan

/-- The physical channel index of channel offset `c` of a PAN in slot `a` (R211); a map with no bit below N_CH gives no index (a free
value, log entry 8). -/
def hopChannel (s : State) (pan a c : Nat) : Nat :=
  let e := odNat s 0x4031 1 (1024 * pan + (a + c) % max 1 (odNat s 0x4031 2 pan))
  let m := mapAt s pan a
  if mapBit m e then e
  else
    let used := (List.range (panField s pan 12 2)).filter (mapBit m)
    (used[e % max 1 used.length]?).getD (Config.freeValue (2 ^ 99 + (4 * a + pan) * 1024 + c) % 65536)

/-- Beacon channel indices of a PAN: the first BEACON_COUNT entries of BEACON_CH. -/
def beaconChans (s : State) (pan : Nat) : List Nat :=
  (List.range (panField s pan 15 1)).map (fun i => panField s pan (16 + 2 * i) 2)

/-- PAN rows enabled. -/
def pansOn (s : State) : List Nat := (List.range 4).filter (panOn s)

/-! ### Cells (R213 to R215, R218) -/

/-- One cell row. -/
structure Cell where
  row : Nat
  slot : Nat
  choff : Nat
  k : Nat
  cls : Nat
  kind : Nat
  pan : Nat
  gack : Nat
  deriving DecidableEq, Repr

/-- Cell kinds (R213). -/
def kUplink : Nat := 0
def kDownlink : Nat := 1
def kAck : Nat := 2
def kShared : Nat := 3
def kWake : Nat := 4

/-- The cell of a row of the set objects. -/
def cellOf (s : State) (row : Nat) : Cell :=
  { row := row, slot := odNat s 0x4012 1 row, choff := odNat s 0x4012 2 row, k := odNat s 0x4012 3 row, cls := odNat s 0x4012 4 row
    kind := odNat s 0x4012 5 row, pan := odNat s 0x4012 6 row, gack := odNat s 0x4012 7 row }

/-- Rows of a set whose CELL_SLOT is written: the rows in use, ascending. -/
def setRows (s : State) (set : Nat) : List Nat :=
  s.od.filterMap (fun e =>
    if e.1 / 2 ^ 32 = 0x401201 ∧ e.1 % 2 ^ 32 / 2 ^ 24 = set then some (e.1 % 2 ^ 32) else none)

/-- Every cell of a set. -/
def setCells (s : State) (set : Nat) : List Cell := (setRows s set).map (cellOf s)

/-- The cells of a set at a slot offset. -/
def cellsAt (s : State) (set off : Nat) : List Cell := (setCells s set).filter (fun c => c.slot == off)

/-- The occupant row of a cell for a phase (R218). -/
def occRow (row phase : Nat) : Nat := row / 2 ^ 24 * 2 ^ 24 + row % 2 ^ 16 * 2 ^ 7 + phase

/-- The occupant of a cell in slot `a`, if one (R214). -/
def occupantAt (s : State) (c : Cell) (a : Nat) : Option Nat :=
  let v := odNat s 0x4013 1 (occRow c.row (sfIndex s a % 2 ^ c.k))
  if v = 0xFFFFFFFF then none else some v

/-- Whether a class has AWAIT_GACK, IMMEDIATE_ACK or GLAZE_RECORD set: bits 0, 1 and 2 (R215). -/
def classFlag (s : State) (cls b : Nat) : Bool := bit (odField s 0x4020 1 cls 1 1) b

/-- The profile row of a class. -/
def classProfile (s : State) (cls : Nat) : Nat := odField s 0x4020 1 cls 0 1 % 16

/-- Whether a cell receives: UPLINK or SHARED. -/
def Cell.receives (c : Cell) : Bool := c.kind == 0 || c.kind == 3

/-- Whether a cell has occupants: UPLINK, DOWNLINK or ACK. -/
def Cell.occupied (c : Cell) : Bool := decide (c.kind < 3)

/-- Cells that a node occupies in a set, with the phase (Table 10-6); at most 4. -/
def nodeCells (s : State) (set n : Nat) : List (Cell × Nat) :=
  (((setCells s set).filter Cell.occupied).flatMap (fun c =>
    ((List.range (2 ^ c.k)).filter (fun ph => odNat s 0x4013 1 (occRow c.row ph) == n)).map (fun ph => (c, ph)))).take 4

/-- CELLS of a node's record: cell row and phase of its cells in the set in force (Table 10-1). -/
def recordCells (s : State) (n : Nat) : List (Nat × Nat) := (nodeCells s (odNat s 0x4010 1) n).map (fun x => (x.1.row % 65536, x.2))

/-! ### Modes and their limits (R33, R183) -/

/-- Carriers a mode permits: in total, sub-GHz, 2.4 GHz (Table 02-3). -/
def carrierLimits : Mode → Nat × Nat × Nat
  | .m5 => (12, 8, 4)
  | .m6 => (4, 4, 2)
  | .m7 => (8, 8, 4)
  | .m8 => (2, 2, 0)
  | _ => (0, 0, 0)

/-- PHY modes a working mode permits for Zorpex cells (Table 02-3). -/
def phyAllowed (m : Mode) (p : Profile) : Bool :=
  match m with
  | .m5 => decide (p.phy ≤ 5)
  | .m6 => p.phy == 5 || (decide (p.phy ≤ 1) && p.coded)
  | .m7 => p.phy == 5 || ((p.phy == 3 || p.phy == 4) && !p.coded)
  | .m8 => decide (p.phy ≤ 4) && p.coded
  | _ => true

/-- The mode that the unit whose schedule a spare mirrors reported last, of the first region it mirrors (R269, R344). -/
def mirroredMode (s : State) : Option Mode :=
  (s.hed.mirrors.find? (fun m => s.hed.mirroring.contains m.region)).bind (fun m => modeOf m.mode)

/-- The working mode whose limits bind (R14, R183, R269): the mode itself; in M9 that of the unit whose schedule is mirrored; in M10 that
of the schedule being taken over by a unit that came from M9, else the one before M10. -/
def serveMode (s : State) : Mode :=
  match s.ctl.mode with
  | .m5 | .m6 | .m7 | .m8 => s.ctl.mode
  | .m9 => (mirroredMode s).getD s.ctl.work
  | .m10 => (s.hed.incoming.bind (fun i => if i.kind = 1 then none else modeOf i.mode)).getD s.ctl.work
  | _ => s.ctl.work

/-- Receivers in service in a working mode on this variant (R14). -/
def inService (s : State) (m : Mode) : Nat := min m.receivers s.chip.receivers

/-- The working mode in force at slot `e` as far as it is known now (R69). -/
def modeAt (s : State) (e : Nat) : Mode :=
  match s.ctl.change with
  | some c => if c.eff ≤ e ∧ c.kind ≠ .waiting then c.target else s.ctl.mode
  | none => s.ctl.mode

/-- The schedule set in force at slot `e` (R218). -/
def setAtSlot (s : State) (e : Nat) : Nat :=
  match s.ctl.change with
  | some c => if c.eff ≤ e ∧ c.kind ≠ .waiting ∧ c.target.working then c.set else odNat s 0x4010 1
  | none => odNat s 0x4010 1

/-! ### Whether a set fits (R45, R216, R219, R256) -/

/-- Beacons at a slot offset, in total and per band (R45, R221). -/
def beaconsAt (s : State) (off band : Nat) : Nat :=
  if off % 64 = 0 then
    (((pansOn s).filter (fun p => panBand s p == band)).map (fun p => panField s p 15 1)).foldl (· + ·) 0
  else 0

/-- Carriers of the cells at an offset in a band: DOWNLINK, ACK and WAKE cells, with the beacons (R45). -/
def carriersAt (s : State) (cs : List Cell) (off band : Nat) : Nat :=
  (cs.filter (fun c => (c.kind == 1 || c.kind == 2 || c.kind == 4) &&
    (if c.kind == 4 then 0 else panBand s c.pan) == band)).length + beaconsAt s off band

/-- Whether the cells at one offset meet the per-slot conditions of R45 for a mode. -/
def offsetFits (s : State) (m : Mode) (off : Nat) (cs : List Cell) : Bool :=
  let lim := carrierLimits m
  let sg := carriersAt s cs off 0
  let g2 := carriersAt s cs off 1
  decide (off < sfSlots m.slotCode) &&
  decide ((cs.filter Cell.receives).length ≤ inService s m) &&
  decide (sg + g2 ≤ lim.1) && decide (sg ≤ lim.2.1) && decide (g2 ≤ lim.2.2) &&
  cs.all (fun c => c.kind == 4 || phyAllowed m (profileOf s (classProfile s c.cls)))

/-- Two cells of one PAN with the same slot and channel offset (R216, first condition), by the slot offset. -/
def doubleCell (cs : List Cell) : Option Nat :=
  (cs.find? (fun c => cs.any (fun d => d.row != c.row && d.pan == c.pan && d.slot == c.slot && d.choff == c.choff))).map (·.slot)

/-- Two AWAIT_GACK cells with the same CELL_GACK within 64 consecutive offsets, cyclically (R216, second condition). -/
def gackClash (s : State) (cs : List Cell) (n : Nat) : Option Nat :=
  let gs := cs.filter (fun c => classFlag s c.cls 0 && c.gack != 0xFFFF)
  (gs.find? (fun c => gs.any (fun d => d.row != c.row && d.gack == c.gack &&
    (decide ((d.slot + n - c.slot) % n < 64) || decide ((c.slot + n - d.slot) % n < 64))))).map (·.slot)

/-- Image size of a set in octets and its cell count (R219). -/
def setSize (s : State) (set : Nat) : Nat × Nat :=
  let cs := setCells s set
  let occ := (cs.filter Cell.occupied).map (fun c => 2 ^ c.k)
  (cs.length, 64 + 16384 + 8 * cs.length + 4 * occ.foldl (· + ·) 0)

/-- Lowest of the failing offsets. -/
def minOpt : Option Nat → Option Nat → Option Nat
  | none, b => b
  | a, none => a
  | some a, some b => some (min a b)

/-- Whether an UPLINK cell's ACK cell stands beside it: same PAN at the next offset, same channel offset, period and occupant in
every phase (R256, second condition). -/
def hasAckCell (s : State) (cs : List Cell) (c : Cell) : Bool :=
  cs.any (fun d => d.kind == 2 && d.pan == c.pan && d.slot == c.slot + 1 && d.choff == c.choff && d.k == c.k &&
    (List.range (2 ^ c.k)).all (fun ph => odNat s 0x4013 1 (occRow c.row ph) == odNat s 0x4013 1 (occRow d.row ph)))

/-- Cells whose class acknowledges at once. -/
def ackUplinks (s : State) (cs : List Cell) : List Cell := cs.filter (fun c => c.kind == 0 && classFlag s c.cls 1)

/-- The conditions checked at every write to any set: no double cell, and an ACK cell beside each UPLINK cell that needs one; the
lowest failing slot offset. -/
def setConflict (s : State) (set : Nat) : Option Nat :=
  let cs := setCells s set
  minOpt (doubleCell cs) (((ackUplinks s cs).filter (fun c => !hasAckCell s cs c)).map (·.slot)).min?

/-- The conditions that need a superframe length and a mode (R45, R216, R256): the lowest failing slot offset. -/
def modeConflict (s : State) (set : Nat) (m : Mode) : Option Nat :=
  let cs := setCells s set
  let n := sfSlots m.slotCode
  let bad := (0 :: cs.map (·.slot)).filter (fun o => !offsetFits s m o (cs.filter (fun c => c.slot == o)))
  minOpt (minOpt bad.min? (gackClash s cs n)) (((ackUplinks s cs).filter (fun c => c.slot + 1 == n)).map (·.slot)).min?

/-- Octets of the largest full beacon of a PAN: every optional section of Table 09-6 at its largest (R216). -/
def maxBeacon (s : State) (pan : Nat) : Nat :=
  let m := (panField s pan 12 2 + 7) / 8
  13 + 40 + m + 22 + (5 + m) + (1 + 28) + (2 + 64) + 4 + 4

/-- Whether a frame of a PAN's beacon profile that starts at 250 us ends in its slot (R184, R216). -/
def beaconFits (s : State) (pan code len : Nat) : Bool :=
  let p := profileOf s (panField s pan 14 1 % 16)
  decide (250000 + burstNs p p.coded len + odNat s (bandIdx (panBand s pan) 0x3010) 3 * 1000 ≤ slotNs code - 100000)

/-- Whether a set fits a mode that is to be entered (R45, R216): none, or the DETAIL of SCHEDULE_MISMATCH. -/
def scheduleFit (s : State) (set : Nat) (m : Mode) : Option Nat :=
  match minOpt (setConflict s set) (modeConflict s set m) with
  | some o => some o
  | none => if (pansOn s).all (fun pan => beaconFits s pan m.slotCode (maxBeacon s pan)) then none else some 0

/-- Whether a set exceeds its image (R219). -/
def setTooBig (s : State) (set : Nat) : Bool :=
  let z := setSize s set
  decide (65536 < z.1) || decide (917504 < z.2)

end Sys2Proof.Machine
end

