-- ==== Sys2Proof/Machine/Gauges.lean ====
section
/-!
DEFINITION. Readings of the state that live objects of the dictionary report, and that the chapters' own rules use too.
-/

namespace Sys2Proof.Machine

/-! ### The RF paths and the engines -/

/-- A temperature sensor's reading in Q8 degrees C. -/
def dieTempQ (s : State) (sensor : Nat) : Int := (s.shd.temps[sensor]?).getD 0

/-- The sensor of a synthesiser (Table 17-1). -/
def synthSensor (y : Nat) : Nat := if y = 0 then 1 else if y = 1 then 2 else 3

/-- A synthesiser. -/
def synth (s : State) (y : Nat) : Synth := (s.rf.synths[y]?).getD {}

/-- A synthesiser's calibration table. -/
def calTab (s : State) (y : Nat) : List CalEntry := (s.rf.calTab[y]?).getD []

/-- Whether an entry is valid at a temperature in Q8 degrees C (R128). -/
def entryValid (e : CalEntry) (t : Int) : Bool := e.state != 0 && decide ((t - e.temp).natAbs ≤ 15 * 256)

/-- The state of a path. -/
def rxPath (s : State) (p : Nat) : RxPath := (s.rf.paths[p]?).getD {}

/-- An engine. -/
def engine (s : State) (i : Nat) : Engine := (s.pal.engines[i]?).getD {}

/-- Whether an engine can be in service or test: not FAULTY and not on its way through re-initialisation (R154, R155). -/
def Engine.healthy (e : Engine) : Bool := e.st != .faulty && !e.retest && !e.leaving

/-- Engines of the H list of R154, ascending. -/
def healthyEngines (s : State) : List Nat := (List.range 100).filter (fun i => (engine s i).healthy)

/-- Healthy pairs of M6 REACH, by number. -/
def healthyPairs (s : State) : List Nat :=
  (List.range 50).filter (fun j => (engine s (2 * j)).healthy && (engine s (2 * j + 1)).healthy)

/-- The working mode that sets the receivers (R14): the mode itself, or in M9 and M10 the one R269 assigns where the unit mirrors or
serves a region. -/
def countMode (s : State) : Option Mode :=
  if s.ctl.mode.working ∨ (s.ctl.mode = .m9 ∧ s.hed.mirroring ≠ []) ∨ (s.ctl.mode = .m10 ∧ (s.hed.mirroring ≠ [] ∨ s.hed.held ≠ [] ∨ s.hed.incoming.isSome)) then some (serveMode s)
  else none

/-- The in-service count of R14. -/
def needed (s : State) : Nat :=
  match countMode s with
  | some m => inService s m
  | none => if s.ctl.mode.code < 3 then 0 else s.chip.receivers

/-- Whether the unit runs M6's pairs. -/
def pairsMode (s : State) : Bool := countMode s == some .m6

/-- Healthy units against the count needed: a shortage is logged CAPACITY_LOSS with the healthy count (R156). -/
def healthyCount (s : State) : Nat := if pairsMode s then (healthyPairs s).length else (healthyEngines s).length

/-- Blocks listed for a NOISE_FLOOR row. -/
def floorBlocks (s : State) (row : Nat) : List Int := sget (fun _ => []) s.pal.floors row

/-- The noise floor of a row (R166): the minimum of 16 blocks, or the value before 16 are measured. -/
def noiseFloor (s : State) (row : Nat) : Int :=
  let l := floorBlocks s row
  let d : Int := if row < 512 then -117 * 256 else -106 * 256
  if l.length < 16 then d else l.foldl min (l.headD d)

/-- Whether a Knife set is trained (R173): used within 10 min, and the die within 5 C of its last use; a set whose calibration entry goes is
emptied. -/
def knifeTrained (s : State) (i : Nat) : Bool :=
  match s.pal.knife[i]? with
  | some k =>
    (match k.usedAt with
      | some t => decide (s.clk.elapsed ≤ t + 600 * secCycles)
      | none => false) &&
    decide ((dieTempQ s 0 - k.temp).natAbs ≤ 5 * 256)
  | none => false

/-- Sources of a capture in order: paths A and B, or bin slots from 2 (Table 07-8). -/
def captureSources (cfg : Octets) : List Nat :=
  let f := fieldNat cfg 0 1
  if bit f 2 then (List.range (fieldNat cfg 1 1)).map (· + 2)
  else (if bit f 0 then [0] else []) ++ (if bit f 1 then [1] else [])

/-- Elapsed cycles of 16 samples: at 51.2 Msps for a window, at 400 ksps for bins (R178). -/
def capturePeriod (cfg : Octets) : Nat := if bit (fieldNat cfg 0 1) 2 then 16000 else 125

/-- Blocks that a capture holds when it stops by itself: BLOCKS, or the buffer of 16 MiB (R180). -/
def captureLimit (cfg : Octets) : Nat := min 524288 (fieldNat cfg 23 4)

/-- BLOCKS_DONE: while a capture runs, a block of each source for every 16 samples (R177, R180). -/
def capturedNow (s : State) : Nat :=
  if s.pal.capState = 2 then
    min (captureLimit s.pal.capCfg) ((captureSources s.pal.capCfg).length * ((s.clk.elapsed - s.pal.capFrom) / capturePeriod s.pal.capCfg))
  else s.pal.capDone

/-- A pre-distortion set. -/
def dpdSet (s : State) (k : Nat) : DpdSet := (s.pri.dpd[k]?).getD {}

/-- A field of a DWELL_RULE row (Table 08-3). -/
def dwellField (s : State) (rule off size : Nat) : Nat := odField s 0x3420 1 rule off size

/-- Cycles in one bucket of a rule: W / 64 of WINDOW_MS. -/
def bucketCycles (s : State) (rule : Nat) : Nat := max 1 (6250 * dwellField s rule 12 4)

/-- The bucket of a rule that covers a cycle. -/
def bucketAt (s : State) (rule t : Nat) : Nat := t / bucketCycles s rule

/-- What an account still holds at bucket `b` (R195). -/
def accUsed (a : DwellAcc) (b : Nat) : Nat :=
  ((a.charges.filter (fun x => decide (b ≤ x.1 + 64) && decide (x.1 ≤ b))).map (·.2)).foldl (· + ·) 0

/-! ### Nodes, downlink queues and gates -/

/-- A node's record. -/
def nodeRec (s : State) (n : Nat) : NodeRec := sget (fun _ => {}) s.nod.recs n

/-- Sets a node's record. -/
def setNode (n : Nat) (r : NodeRec) (s : State) : State := { s with nod := { s.nod with recs := sset (fun _ => {}) s.nod.recs n r } }

/-- Modifies a node's record. -/
def modNode (n : Nat) (f : NodeRec → NodeRec) (s : State) : State := setNode n (f (nodeRec s n)) s

/-- DL_PROFILE row a node names. -/
def dlRow (s : State) (n : Nat) : Nat := odNat s 0x6800 2 n

/-- RATE, octets per hour, of a node's profile. -/
def dlRate (s : State) (n : Nat) : Nat := odField s 0x6800 1 (dlRow s n) 0 4

/-- BURST, octets. -/
def dlBurst (s : State) (n : Nat) : Nat := odField s 0x6800 1 (dlRow s n) 4 4

/-- A node's tokens at a cycle, in 2^-16 octet (R318). -/
def dlTokensAt (s : State) (n t : Nat) : Nat :=
  let x := match sfind s.rid.tokens n with
    | some x => x
    | none => (0, (s.rid.profAt[dlRow s n]?).getD 0)
  min (dlBurst s n * 65536) (x.1 + dlRate s n * 65536 * (t - x.2) / (3600 * secCycles))

/-- A node's downlink queue. -/
def dlQueue (s : State) (n : Nat) : List DlFrame := sget (fun _ => []) s.rid.queues n

/-- A port's egress side. -/
def egPort (s : State) (port : Nat) : EgPort := (s.rid.ports[port]?).getD {}

/-- Whether a port's gates run (R331). -/
def gatesRun (s : State) (port : Nat) : Bool := s.clk.valid && odNat s 0x6830 4 port == 1

/-! ### Time gates (R328 to R331) -/

/-- Cycle time of a list in ns. -/
def gateCycle (g : GateList) : Nat := (g.entries.map (·.2)).foldl (· + ·) 0

/-- The entry in force at an offset in the cycle, and what remains of it. -/
def gateAt : List (Nat × Nat) → Nat → Nat → Nat × Nat
  | [], _, i => (i, 0)
  | e :: l, off, i => if off < e.2 then (i, e.2 - off) else gateAt l (off - e.2) (i + 1)

/-- Offset in the cycle at a time in ns. -/
def gatePhase (g : GateList) (t : Nat) : Nat := (((t : Int) - g.base) % (max 1 (gateCycle g) : Nat)).toNat

/-- The entry in force at a time. -/
def gateEntry (g : GateList) (t : Nat) : Nat := (gateAt g.entries (gatePhase g t) 0).1

/-- open(c, t) of R329. -/
def gateOpen (g : GateList) (c t : Nat) : Bool := bit (((g.entries[gateEntry g t]?).map (·.1)).getD 0) c

/-- Length of the run of entries from index `i` on that open a class, across the cycle's end, at most `n` entries. -/
def gateRun (g : GateList) (c : Nat) : Nat → Nat → Nat
  | 0, _ => 0
  | n + 1, i =>
    match g.entries[i % max 1 g.entries.length]? with
    | some e => if bit e.1 c then e.2 + gateRun g c n (i + 1) else 0
    | none => 0

/-- close(c, t) as the time from t; none where every entry opens the class (R329). -/
def gateClose (g : GateList) (c t : Nat) : Option Nat :=
  if g.entries.all (fun e => bit e.1 c) then none
  else
    let r := gateAt g.entries (gatePhase g t) 0
    some (r.2 + gateRun g c g.entries.length (r.1 + 1))

/-- The longest run a class has in a list; none where it is always open. -/
def gateLongest (g : GateList) (c : Nat) : Option Nat :=
  if g.entries.all (fun e => bit e.1 c) then none
  else some (((List.range g.entries.length).map (gateRun g c g.entries.length)).foldl max 0)

/-- tx(f) in ns at the port's line rate (R324). -/
def txFits (s : State) (port len d : Nat) : Bool := decide ((len + 20) * 8000 ≤ d * max 1 (((s.host.eth[port]?).map (·.2)).getD 0))

/-! ### Trellis and Glaze -/

/-- The array that holds a TAG's entries: 0 node, 1 MAC, 2 FABRIC. -/
def arrayOf (tag : Nat) : Nat := if tag ≤ 3 then 0 else tag - 3

/-- An array. -/
def tarray (t : Tre) (arr : Nat) : TArray := (t.arrays[arr]?).getD {}

/-- Every entry of an array in its buckets and its stash. -/
def arrayEntries (t : Tre) (arr : Nat) : List TEntry :=
  (tarray t arr).slots.map (·.2) ++ (tarray t arr).stash.filter (fun e => e.tag != 0)

/-- Entries of a table (TRELLIS_ENTRIES). -/
def tableCount (t : Tre) (tag : Nat) : Nat := ((arrayEntries t (arrayOf tag)).filter (fun e => e.tag == tag)).length

/-- Octets of a record (R276): 16 of header, and blocks of 132 or 68 bits padded to a whole octet. -/
def recordSize (r : GlazeRec) : Nat := 16 + (r.blocks.length * (if r.thin then 68 else 132) + 7) / 8

/-- Octets of the Glaze region in use (GLAZE_STORE_USED). -/
def glazeUsed (s : State) : Nat := (s.gla.recs.map recordSize).foldl (· + ·) 0

/-! ### The Hedgerow -/

/-- The adjacency to a home address. -/
def hrAdjOf (s : State) (addr : Nat) : Option HrAdj := s.hed.adj.find? (fun x => x.addr == addr)

/-- HR_HELLO in cycles. -/
def helloCycles (s : State) : Nat := odNat s 0x7001 1 * msCycles

/-- Whether an adjacency is up. -/
def HrAdj.up (x : HrAdj) : Bool := x.listsUs && !x.suspect

/-- Median of round trips, clamped (Table 14-4). -/
def medianRtt (l : List Nat) : Nat := max 1 (min 65535 (((l.mergeSort (fun a b => decide (a ≤ b)))[(l.length - 1) / 2]?).getD 1))

/-- Whether this unit is fenced or isolated from its region. -/
def selfFenced (s : State) : Bool := s.hed.st == 3 || s.hed.st == 4

/-- Whether the latest heartbeat of a unit has a flag of Table 14-3 set: 0 VALID, 1 ALIGNED, 2 FENCED, 3 ISOLATED. -/
def adjFlag (s : State) (addr b : Nat) : Bool :=
  match hrAdjOf s addr with
  | some x => bit x.flags b
  | none => false

/-- The working mode as which another unit counts for R48 (R269): its own; in M9 that of this unit, where it is the spare that mirrors this unit's
region; in M10 the one it was in before, or that of the region it takes over. -/
def theirMode (s : State) (addr : Nat) : Option Mode :=
  match hrAdjOf s addr with
  | none => none
  | some x => match modeOf (if x.mode = 10 then x.before else x.mode) with
    | some .m9 => if s.hed.spare = some addr then some (serveMode s) else none
    | some m => if m.working then some m else none
    | none => none

/-- The working mode as which this unit counts towards a partner (R269): a unit in M9 mirrors its partners' schedules, so it counts as the partner. -/
def ourMode (s : State) (addr : Nat) : Option Mode :=
  if s.ctl.mode = .m9 then theirMode s addr else if s.ctl.mode.working ∨ s.ctl.mode = .m10 then some (serveMode s) else none

/-- Whether this unit or another is fenced, as the other's latest heartbeat says it (R269, R270). -/
def fencedEnd (s : State) (addr : Nat) : Bool := selfFenced s || adjFlag s addr 2

/-- Whether GLAZE_ENABLE of a partner is known to be 0. No message carries it; a mirror of the partner's region holds it (R269, log entry 179). -/
def glazeOff (s : State) (addr : Nat) : Bool := s.hed.mirrors.any (fun m => m.holder == addr && m.snapshot.isSome && !m.glazeOn)

/-- GLAZE_PARTNER_STATE of a partner: 0 none, 1 active, 2 mode mismatch, 3 not aligned, 4 withdrawn or disabled, 5 fenced. -/
def partnerState (s : State) (addr : Nat) : Nat :=
  if ¬ s.gla.partners.contains addr then 0
  else if fencedEnd s addr then 5
  else if odNat s 0x6000 1 ≠ 1 ∨ glazeOff s addr ∨ ¬ s.chip.hFabric ∨ ourMode s addr = some .m7 ∨ theirMode s addr = some .m7 then 4
  else match ourMode s addr, theirMode s addr with
    | some a, some b => if a.slotCode ≠ b.slotCode then 2 else if ¬ aligned s ∨ ¬ adjFlag s addr 1 then 3 else 1
    | _, _ => 2

/-! ### Keys and firmware -/

/-- A slot of Seedbank. -/
def slotAt (s : State) (n : Nat) : KeySlot := sget (fun _ => {}) s.sec.slots n

/-- The handle of a slot: generation above, slot below. -/
def handleOf (n : Nat) (k : KeySlot) : Nat := k.gen * 512 + n

/-- A node's key record. -/
def nodeKey (s : State) (n : Nat) : NodeKey := sget (fun _ => {}) s.sec.nodes n

/-- A bank's manifest, erased flash reading 0xFF. -/
def manifest (s : State) (b : Nat) : Octets := (((s.fw.banks[b]?).getD []) ++ List.replicate 3461 0xFF#8).take 3461

/-- Place of a part type in PARTS. -/
def partAt (m : Octets) (t : Nat) : Option Nat := (List.range 7).find? (fun i => fieldNat m (24 + 52 * i) 1 == t)

/-- A field of a part's entry. -/
def partField (m : Octets) (t off size : Nat) : Nat :=
  match partAt m t with
  | some i => fieldNat m (24 + 52 * i + off) size
  | none => 0

/-- Group of a part type (Table 16-5). -/
def partGroup (t : Nat) : Nat :=
  match t with
  | 1 => 0 | 2 | 7 => 2 | 4 => 3 | _ => 1

/-- Largest size of a part type (Table 16-5). -/
def partMax (t : Nat) : Nat :=
  match t with
  | 1 => 262144 | 2 => 12582912 | 3 => 65536 | 4 => 163840 | 5 => 524288 | 6 => 16384 | _ => 1048576

/-- The seven part types. -/
def partTypes : List Nat := [1, 2, 3, 4, 5, 6, 7]

/-- Whether a manifest is well formed (R388, R389, R394). -/
def manifestFormed (m : Octets) : Bool :=
  fieldNat m 0 4 == 0x464C4D46 && fieldNat m 4 2 == 1 && fieldNat m 21 1 == 7 &&
  partTypes.all (fun t => (partAt m t).isSome && partField m t 1 1 == partGroup t && decide (partField m t 12 4 ≤ partMax t) &&
    partField m t 8 4 % 4096 == 0)

/-- Whether copy A of the record is the newer one: the copy with the higher SEQ is used (R393). -/
def newestIsA (f : Fw) : Bool :=
  match f.copyA, f.copyB with
  | some a, some b => decide (b.seq ≤ a.seq)
  | some _, none => true
  | none, _ => false

/-- The record that a boot uses (R393); where no copy is valid: bank A, no confirmed set, nothing pending. -/
def bootRec (s : State) : BootRec := ((if newestIsA s.fw then s.fw.copyA else s.fw.copyB)).getD {}

/-- Whether a confirmed set exists. -/
def confExists (s : State) : Bool := (bootRec s).confDigest != []

/-- Whether a set runs on trial. -/
def trialRuns (s : State) : Bool := (bootRec s).trial

/-! ### Power and Overwinter -/

/-- Nominal voltage of a rail in mV (Table 19-1). -/
def railNominal (rail : Nat) : Nat :=
  match rail with
  | 0 | 1 => 800 | 2 => 900 | 3 => 1200 | 4 => 1100 | 5 => 1800 | _ => 0

/-- A field of FEED_CFG: 0 THRESH, 1 TIME, 2 STBY_WIN, 3 BROWNOUT_ACTION. -/
def feedCfg (s : State) (k : Nat) : Nat := odField s 0xB010 1 0 k 1

/-- FEED_SENSE of a train's rail in mV. -/
def senseOf (s : State) (train rail : Nat) : Nat := (s.pwr.sense[6 * train + rail]?).getD 0

/-- Whether a reading lies within FEED_STBY_WIN of the rail's nominal voltage. -/
def stbyOk (s : State) (rail mv : Nat) : Bool :=
  decide (((mv : Int) - railNominal rail).natAbs * 1000 ≤ feedCfg s 2 * railNominal rail)

/-- Whether every rail of a train lies within FEED_STBY_WIN. -/
def trainOk (s : State) (t : Nat) : Bool := (List.range 6).all (fun r => stbyOk s r (senseOf s t r))

/-- A tamper input. -/
def tamperOf (s : State) (i : Nat) : Tamper := (s.pwr.tamper[i]?).getD {}

/-- Whether an input is armed: ARMED stands first, in bit 5 of its six. -/
def armed (t : Tamper) : Bool := bit t.cfg 5

/-- Days since 1970-01-01 to year, month and day, proleptic Gregorian. -/
def civil (days : Int) : Int × Nat × Nat :=
  let z := days + 719468
  let era := z / 146097
  let doe := (z % 146097).toNat
  let yoe := (doe - doe / 1460 + doe / 36524 - doe / 146096) / 365
  let doy := doe - (365 * yoe + yoe / 4 - yoe / 100)
  let mp := (5 * doy + 2) / 153
  let m := if mp < 10 then mp + 3 else mp - 9
  ((yoe : Int) + era * 400 + (if m ≤ 2 then 1 else 0), m, doy - (153 * mp + 2) / 5 + 1)

/-- Seconds since 1970-01-01 of the calendar (R471). -/
def calSecs (s : State) : Int := (s.pwr.secs : Int) + odInt s 0xB100 2

/-- Weekday, Monday 1. -/
def weekday (s : State) : Nat := ((calSecs s / 86400 + 3) % 7).toNat + 1

/-- Second of the day. -/
def daySecs (s : State) : Nat := (calSecs s % 86400).toNat

/-- OD OW_TIME (Table 19-7). -/
def owTime (s : State) : Octets :=
  let c := civil (calSecs s / 86400)
  let d := daySecs s
  beOct 4 s.pwr.secs ++ beOct 2 s.pwr.sub ++ beOct 2 (c.1 % 65536).toNat ++ beOct 1 c.2.1 ++ beOct 1 c.2.2 ++
  beOct 1 (d / 3600) ++ beOct 1 (d / 60 % 60) ++ beOct 1 (d % 60) ++ beOct 1 (weekday s)

/-- Seconds that remain of a channel. -/
def channelRemaining (s : State) (ch : Nat) : Nat :=
  let c := channelOf s ch
  if c.mode = 1 then c.count else if c.mode = 2 then secsTo s.pwr.secs c.target else 0

/-- Adjacencies that are up, ascending. -/
def upAdj (s : State) : List HrAdj := (s.hed.adj.filter HrAdj.up).mergeSort (fun x y => decide (x.addr ≤ y.addr))

/-- SHAKE256 with a 256-bit output, a function that the model does not compute (log entry 6). -/
def shake (o : Octets) : Octets := padTo 32 (Config.crypto "SHAKE256" 32 [o])

/-- The address of the internal port. -/
def ownMac (s : State) : Nat :=
  let o := odGet s 0x6410 5
  if beNat o = 0 then beNat s.chip.ownMac else beNat o

/-- `n` octets of a bank from an offset, erased flash reading 0xFF. -/
def bankOctets (s : State) (b off n : Nat) : Octets := ((((s.fw.banks[b]?).getD []).drop off) ++ List.replicate n 0xFF#8).take n

/-- The entry of a page in a page table: the first 16 octets of SHAKE256 over its index and the page, the final one filled with 0xFF
octets (R389). -/
def pageEntry (page : Nat) (o : Octets) : Octets := (shake (beOct 4 page ++ (o ++ List.replicate 4096 0xFF#8).take 4096)).take 16

/-- The page table of a page-checked part as a bank holds it (R389). -/
def pageTable (s : State) (b t : Nat) : Octets :=
  let m := manifest s b
  bankOctets s b (partField m t 16 4) (16 * ((partField m t 12 4 + 4095) / 4096))

/-- Whether a page of the running Canvas image (2) or OD schema (7), as flash now holds it, passes its entry in the table that the boot loaded (R399). -/
def pageGood (s : State) (b t page : Nat) : Bool :=
  let m := manifest s b
  pageEntry page (bankOctets s b (partField m t 8 4 + 4096 * page) (min 4096 (partField m t 12 4 - 4096 * page))) ==
    ((sget (fun _ => []) s.fw.tables t).drop (16 * page)).take 16

/-- The first page of a page-checked part that a range of the flash window touches and that fails its check: part and page (R399). -/
def badPage (s : State) (a n : Nat) : Option (Nat × Nat) :=
  match s.fw.running with
  | some b =>
    let base (t : Nat) : Nat := 0x60100000 + 0x1000000 * b + partField (manifest s b) t 8 4
    let pages (t : Nat) : Nat := (partField (manifest s b) t 12 4 + 4095) / 4096
    let hit (t p : Nat) : Bool := decide (a < base t + 4096 * p + 4096) && decide (base t + 4096 * p < a + n) && !pageGood s b t p
    if n = 0 then none
    else ([2, 7].flatMap (fun t => (List.range (pages t)).map (fun p => (t, p)))).find? (fun x => hit x.1 x.2)
  | none => none

end Sys2Proof.Machine
end

