-- ==== Sys2Proof/Machine/Views.lean ====
section
/-!
DEFINITION. What a read of an object returns: objects that report live state are computed from it, every other object is read
from the object store (R65, R71, R79).
-/

namespace Sys2Proof.Machine

/-- Whether an index, or a subindex of it, is absent on the variant (Table 03-1). -/
def objAbsent (c : Chip) (idx sub : Nat) : Bool :=
  (!c.fPackage && ((0x3800 ≤ idx && idx ≤ 0x38FF) || (idx == 0xA010 && sub == 5) || (0xA200 ≤ idx && idx ≤ 0xA2FF))) ||
  (!c.hFabric && ((idx == 0x1100 && sub == 2) || (0x6000 ≤ idx && idx ≤ 0x63FF) || (0x7000 ≤ idx && idx ≤ 0x7FFF)))

/-- Whether some stepping of some variant defines an index (R72). -/
def indexDefined (idx : Nat) : Bool := (odPage (idx / 256)).any (fun d => d.idx == idx)

/-- Highest subindex at an index in the unit's schema: the value of subindex 0 (R64). -/
def highestSub (c : Chip) (idx : Nat) : Nat :=
  (((odPage (idx / 256)).filter (fun d => d.idx == idx && !objAbsent c idx d.sub)).map (·.sub)).foldl max 0

/-- COMPAT_LEVEL in force; its default is the unit's own stepping (R52). -/
def compatLevel (s : State) : Nat := min (odNat s 0x1000 5) s.chip.stepping

/-- COMPAT_SUPPORTED (R52): every value COMPAT_LEVEL accepts, oldest first. R57 reproduces the third row of Table 03-4 as it does the
others, so a unit at an earlier COMPAT_LEVEL reports and accepts what that stepping does (log entry 150). -/
def compatSupported (s : State) : List Nat := if compatLevel s < 0x4200 then [0x4101] else [0x4101, 0x4200]

/-- Identity and mode objects (R37, R52). -/
def viewIdentity (s : State) (idx sub : Nat) : Option Octets :=
  match idx, sub with
  | 0x1000, 1 => some s.chip.variantCode
  | 0x1000, 2 => some (beOct 2 s.chip.stepping)
  | 0x1000, 3 => some (beOct 4 s.chip.fuseMap)
  | 0x1000, 4 => some s.chip.serial
  | 0x1000, 5 => some (beOct 2 (compatLevel s))
  | 0x1000, 6 => some (beOct 2 (compatSupported s).length ++ (compatSupported s).flatMap (beOct 2))
  | 0x1200, 1 => some (beOct 1 s.ctl.mode.code)
  | 0x1200, 4 => some (beOct 1 (match s.ctl.change with | some c => c.target.code | none => 0xFF))
  | 0x1200, 5 => some (beOct 8 (match s.ctl.change with | some c => c.eff | none => 0))
  | _, _ => none

/-- Timebase objects (R123). STEP_AMOUNT keeps the last amount where no step is pending or fixed
(DESIGN CHOICE, log entry 175). -/
def viewTime (s : State) (idx sub row : Nat) : Option Octets :=
  match idx, sub with
  | 0x2000, 1 => some (beOct 6 (nowSecs s) ++ beOct 4 (nowNanos s) ++ beOct 2 (s.clk.now % nsUnit / 2 ^ 24))
  | 0x2000, 2 => some (beOct 1 s.clk.state.code)
  | 0x2000, 3 => some (beOct 2 (timeFlags s))
  | 0x2000, 4 => some (beInt 8 s.clk.offset)
  | 0x2000, 5 => some (beOct 4 (estError s))
  | 0x2000, 6 => some (beInt 4 s.clk.rateCorr)
  | 0x2002, 1 => some (beInt 8 (match s.clk.stepReq with | some ⟨_, some d⟩ => d | _ => s.clk.stepAmount))
  | 0x2011, 2 => some (beOct 1 ((s.clk.ports[row]?.map (·.portState)).getD 0))
  | 0x2100, 2 => some (encodeEpoch (match s.ctl.change with
      | some c => if c.kind = .announced then c.epoch else {}
      | none => {}))
  | 0x2100, 3 => some (beOct 8 s.eas.asn)
  | _, _ => none

/-- A value that is measured when it is read: free, by the object's row and what is measured (log entry 8). -/
def freeReading (what idx row : Nat) : Octets := beOct 2 (Config.freeValue (2 ^ 96 + what * 2 ^ 48 + idx * 2 ^ 20 + row))

/-- An entry of a calibration table (R128). -/
def calEntryOct (s : State) (y i : Nat) : Octets :=
  match (calTab s y)[i]? with
  | some e => if e.state = 0 then zeros 6 else
      beOct 4 e.centre ++ beInt 1 (e.temp / 256) ++ beOct 1 (if entryValid e (dieTempQ s (synthSensor y)) then 1 else 2)
  | none => zeros 6

/-- RF objects of a band (R146): synthesisers and gains. -/
def viewRf (s : State) (band idx sub row : Nat) : Option Octets :=
  match idx, sub with
  | 0x3000, 3 => some (calEntryOct s (2 * band + row / 8) (row % 8))
  | 0x3000, 4 => some (beOct 1 (b2n (synth s (2 * band + row)).locked))
  | 0x3020, 5 => some (beOct 1 ((rxPath s (2 * band + row)).gain.getD 0xFF))
  | _, _ => none

/-! ### Capture blocks (R177, R178) -/

/-- The smallest exponent of R277 for a peak, from `e` up within `fuel`. -/
def blockExp (mmax peak : Nat) : Nat → Nat → Nat
  | 0, e => e
  | fuel + 1, e => if (2 * mmax + 1) * 2 ^ e < 2 * peak then blockExp mmax peak fuel (e + 1) else e

/-- One mantissa: nearest, a tie toward zero (R277, R178). -/
def mantissa (e : Nat) (x : Int) : Int :=
  let q := x.natAbs / 2 ^ e
  let r := x.natAbs % 2 ^ e
  let q1 : Nat := if 0 < e ∧ 2 ^ (e - 1) < r then q + 1 else q
  if x < 0 then -(q1 : Int) else (q1 : Int)

/-- One capture block (R178): exponent and mantissas of 32 components, I and Q of each sample in turn, and SEQ and SOURCE. -/
def captureBlock (seq source : Nat) (xs : List Int) : Octets :=
  let e := blockExp 63 ((xs.map Int.natAbs).foldl max 0) 16 0
  let m := (xs.map (mantissa e)).foldr (fun x acc => ((x % 128).toNat) + 128 * acc) 0
  leOct 32 (e + 16 * source + 256 * (seq % 2 ^ 24) + 2 ^ 32 * m)

/-- 32 components of a source: 16-bit samples of the environment, free values (log entry 8). -/
def freeSamples (base : Nat) : List Int := (List.range 32).map (fun j => signed 2 (Config.freeValue (base + j) % 65536))

/-- Block `i` of a capture, whose samples are the free values from number `base` on. -/
def captureAt (cfg : Octets) (base i : Nat) : Octets :=
  let src := captureSources cfg
  captureBlock i ((src[i % max 1 src.length]?).getD 0) (freeSamples (base + 32 * i))

/-- The first `n` blocks of a capture. -/
def captureData (cfg : Octets) (base n : Nat) : List Octets := (List.range n).map (captureAt cfg base)

/-! ### Palette -/

/-- ENGINE_STATE. -/
def engineCode (e : Engine) : Nat :=
  match e.st with
  | .off => 0
  | .test => 2
  | .faulty => 3
  | _ => 1

/-- The mean of block powers in dBm Q8. -/
def meanPower (l : List Int) : Int := linToDb ((l.map dbToLin).foldl (· + ·) 0 / l.length)

/-- SURVEY_SPECTRUM (R180): the mean power of each bin; one that no block has measured is free. -/
def surveyOct (s : State) : Octets :=
  beOct 2 512 ++ (List.range 512).flatMap (fun k =>
    match sget (fun _ => []) s.pal.survey k with
    | [] => freeReading 0 0x3300 k
    | l => beInt 2 (meanPower l))

/-- RX_IN_SERVICE: engines in service in the slot in progress, a pair counting as one (R181). -/
def rxInService (s : State) : Nat :=
  let n := (s.pal.engines.filter (fun e => engineCode e == 1)).length
  if pairsMode s then n / 2 else n

/-- P_leak of a channel (R176): what the feedback path measured at the transmit ball, carried to the receiving ball by PA_GAIN less ISOLATION. -/
def knifeLeak (s : State) (band : Nat) (measured : Octets) : Octets :=
  beInt 2 (clampInt (-32767) 32767 (signed 2 (fieldNat measured 0 2) + odInt s (bandIdx band 0x3020) 3 - odInt s (bandIdx band 0x3020) 4))

/-- Palette, Knife and capture objects (R152, R176, R180). -/
def viewPal (s : State) (idx sub row : Nat) : Option Octets :=
  match idx, sub with
  | 0x3100, 2 => some (beOct 1 (engineCode (engine s row)))
  | 0x3100, 3 => some (beOct 1 (rxInService s))
  | 0x3120, 1 => some (beInt 2 (noiseFloor s row))
  | 0x3200, 1 =>
    if 272 ≤ row then none
    else match (s.pal.leakAsn[row / 256]?).getD none with
      | some a => some (knifeLeak s (row / 256) (freeReading (a + 1) 0x3200 row))
      | none => none
  | 0x3200, 3 => some (beOct 4 (((List.range 18).map (fun i => b2n (knifeTrained s i) * 2 ^ i)).foldl (· + ·) 0))
  | 0x3300, 2 => some (beOct 1 s.pal.capState ++ beOct 4 (capturedNow s))
  | 0x3300, 4 => some (surveyOct s)
  | _, _ => none

/-- Primer objects (R202). -/
def viewPri (s : State) (idx sub row : Nat) : Option Octets :=
  match idx, sub with
  | 0x3410, 2 => some (beOct 1 (if odNat s 0x3410 1 (row / 8) = 1 then (dpdSet s row).st else 0))
  | 0x3410, 3 => some (beInt 2 (dpdSet s row).nmse)
  | 0x3420, 2 => some (beOct 4 (((s.pri.dwell.filter (fun a => a.rule == row)).map
      (fun a => accUsed a (bucketAt s row s.clk.elapsed))).foldl max 0))
  | 0x3430, 4 => some (beOct 2 s.pri.wake.length)
  | _, _ => none

/-- Code of a node state (Table 10-2). -/
def NodeSt.code : NodeSt → Nat
  | .free => 0 | .registered => 1 | .joining => 2 | .active => 3 | .desync => 4 | .lost => 5

/-- Nodes in a state; every index of the variant that no record lists is FREE. -/
def nodeCount (s : State) (code : Nat) : Nat :=
  let n := (s.nod.recs.filter (fun x => x.2.st.code == code)).length
  if code = 0 then s.chip.nodeLimit - (s.nod.recs.filter (fun x => x.2.st.code != 0)).length else n

/-- Octets 0 to 127 of a per-node state record, least significant octet first (Table 10-1). -/
def nodeOctets (s : State) (n : Nat) : Octets :=
  let r := nodeRec s n
  let cells := if r.st = .free then [] else recordCells s n
  let flags := b2n r.modeInformed + 2 * b2n r.mapInformed + 4 * b2n r.seqValid + 8 * b2n r.fcValid + 16 * b2n r.pendingSent +
    32 * b2n r.quarantine + 64 * b2n r.jfcValid
  let cell (i : Nat) : Octets := match cells[i]? with
    | some x => leOct 2 x.1 ++ leOct 1 x.2 ++ leOct 1 0
    | none => leOct 2 0xFFFF ++ leOct 2 0
  leOct 1 r.st.code ++ leOct 1 flags ++ leOct 1 r.pan ++ leOct 1 r.txRow ++ leOct 2 r.short ++ leOct 2 r.supSf ++ leOct 8 r.eui ++
  leOct 1 r.lastSeq ++ leOct 1 r.dlSeq ++ leOct 1 r.dlAcked ++ leOct 1 r.wakeTries ++ leOct 4 r.highFc ++ leOct 4 r.joinFc ++
  leOct 5 r.lastRx ++ leOct 5 r.syncAsn ++ leOct 5 r.presumed ++ leOct 5 r.qend ++ leOct 2 r.res ++ leOct 2 r.halfWidth ++
  leOct 4 r.stepAdd ++ leInt 2 r.timeCorr ++ leInt 2 r.rssi ++ leOct 1 r.lq ++ zeros 3 ++
  (List.range 4).flatMap cell ++ zeros 48

/-- Schedule and node objects (Tables 09 and 10). -/
def viewNode (s : State) (idx sub row : Nat) : Option Octets :=
  let r := nodeRec s row
  match idx, sub with
  | 0x4010, 2 => some (beOct 2 s.eas.changes.length)
  | 0x5000, 1 => some (beOct 4 (nodeCount s row))
  | 0x5010, 2 => some (beOct 1 r.st.code)
  | 0x5010, 3 => some (beOct 5 r.lastRx ++ beOct 5 r.syncAsn ++ beOct 5 r.presumed ++ beOct 2 r.res ++ beOct 2 r.halfWidth ++
      beInt 2 r.timeCorr ++ beInt 2 r.rssi ++ beOct 1 r.lq)
  | 0x5010, 4 => some (beOct 4 r.duplicates ++ beOct 2 r.syncMiss ++ beOct 2 r.resyncs)
  | _, _ => none

/-- Glaze, Trellis and Riddle objects. -/
def viewNet (s : State) (idx sub row : Nat) : Option Octets :=
  match idx, sub with
  | 0x6001, 1 => some (beOct 2 ((s.gla.partners[row]?).getD 0xFFFF))
  | 0x6001, 2 => some (beOct 1 (match s.gla.partners[row]? with
      | some p => partnerState s p
      | none => 0))
  | 0x6010, 2 => some (beOct 4 (glazeUsed s))
  | 0x6400, 1 => some (beOct 4 (tableCount s.tre (row + 1)))
  | 0x6400, 2 => some (beOct 1 (((tarray s.tre row).stash.filter (fun e => e.tag != 0)).length))
  | 0x6410, 5 => some (beOct 6 (ownMac s))
  | 0x6800, 3 => some (beOct 4 (dlTokensAt s row s.clk.elapsed / 65536))
  | 0x6800, 4 => some (beOct 1 (dlQueue s row).length)
  | 0x6830, 3 =>
    let g := egPort s row
    let t := match g.pend with
      | some p => p.2
      | none => 0
    some (beOct 1 (if ¬ gatesRun s row then 2 else b2n g.pend.isSome) ++ beOct 1 (if gatesRun s row then gateEntry g.oper (nowNs s) else g.entry) ++ beOct 6 (t / 10 ^ 9) ++ beOct 4 (t % 10 ^ 9))
  | _, _ => none

/-- HR_ADJ (R339). -/
def adjOct (s : State) (x : HrAdj) : Octets :=
  beOct 2 x.addr ++ padTo 8 x.serial ++ beOct 1 (if x.suspect then 2 else b2n (x.listsUs && decide (s.clk.elapsed < x.lastHb + helloCycles s * 7 / 2))) ++
    beOct 2 (medianRtt x.rtts)

/-- Hedgerow objects (R356). -/
def viewHed (s : State) (idx sub row : Nat) : Option Octets :=
  match idx, sub with
  | 0x7010, 2 => some (beOct 1 s.hed.st)
  | 0x7010, 3 => (s.hed.held[row]?).map (fun h => beOct 2 h.1 ++ beOct 4 h.2)
  | 0x7010, 4 => (s.hed.adj[row]?).map (adjOct s)
  | 0x7010, 6 => some (beOct 2 ((s.hed.mirroring[row]?).getD 0xFFFF))
  | 0x7010, 7 => some (beOct 2 (s.hed.spare.getD 0xFFFF))
  | _, _ => none

/-- KEY_INFO (Table 15-4). -/
def keyInfo (n : Nat) (k : KeySlot) : Octets :=
  beOct 2 (handleOf n k) ++ beOct 1 k.type ++ beOct 1 k.usage ++ beOct 1 k.masters ++ beOct 1 k.flags ++ beOct 2 k.region ++
  beOct 1 k.pan ++ beOct 1 k.keyIndex ++ beOct 4 k.outFc ++ beOct 8 k.uses ++ beOct 8 (2 ^ k.soft) ++ beOct 8 (2 ^ k.hard)

/-- State of a firmware bank (Table 16-11). -/
def bankState (s : State) (b : Nat) : Nat :=
  let r := bootRec s
  if confExists s ∧ r.confirmed = b then 4
  else if r.trial ∧ s.fw.running = some b then 3
  else if r.pending = some b then 2
  else if (s.fw.rejected[b]?).getD false then 5
  else b2n (fieldNat (manifest s b) 0 4 == 0x464C4D46)

/-- FW_BANK. -/
def bankOct (s : State) (b : Nat) : Octets :=
  let m := manifest s b
  beOct 1 (bankState s b) ++ (if manifestFormed m then (m.drop 8).take 8 ++ beOct 2 (fieldNat m 6 2 % 2) ++ shake m else zeros 42)

/-- Security and firmware objects. -/
def viewSec (s : State) (idx sub row : Nat) : Option Octets :=
  match idx, sub with
  | 0x8000, 1 => some (beOct 1 s.chip.lifeCycle)
  | 0x8000, 2 => some s.sec.challenge
  | 0x8000, 4 => some (beOct 1 s.sec.storeState)
  | 0x8000, 5 => some (beOct 1 (b2n s.sec.recPsk.isSome + 2 * b2n s.sec.recKtk.isSome))
  | 0x8010, 1 => if (slotAt s row).held then some (keyInfo row (slotAt s row)) else none
  | 0x8020, 2 =>
    let k := nodeKey s row
    some (beOct 2 k.keyGen ++ beOct 1 k.keyIndex ++ beOct 1 (b2n k.valid + 2 * b2n k.pinned + 4 * b2n k.softReached) ++
      beOct 4 k.outFc ++ beOct 1 (b2n k.shadow))
  | 0x8800, 1 => some (bankOct s row)
  | 0x8800, 2 =>
    let m := manifest s (row / 7)
    let t := row % 7 + 1
    some (if manifestFormed m then beOct 4 (partField m t 4 4) ++ beOct 1 (partField m t 2 1) ++ beOct 4 (partField m t 12 4) else zeros 9)
  | 0x8800, 3 => some (beOct 1 ((s.chip.svn[row]?).getD 0))
  | 0x8800, 4 => some (padTo 32 ((s.chip.rootDigests[row]?).getD []))
  | 0x8820, 1 => some (padTo 1793 s.fw.pubkey)
  | 0x8820, 2 => some (padTo 4354 s.fw.chain)
  | _, _ => none

/-- TEMP_WARN in Q8 degrees C; its default is the grade's Tj maximum less 10 degrees. -/
def tempWarn (s : State) : Int :=
  if odNat s 0x9000 6 = 0 then ((s.chip.tjMax : Int) - 10) * 256 else odInt s 0x9000 6

/-- CALIB_QUEUE (R416). -/
def calOct (c : CalReq) : Octets :=
  if c.st = 0 then zeros 9 else beOct 1 c.item ++ beOct 1 c.target ++ beOct 1 (b2n c.force) ++ beOct 1 c.st ++ beOct 5 c.asn

/-- Shed's objects, the interfaces and the domains. -/
def viewShed (s : State) (idx sub row : Nat) : Option Octets :=
  match idx, sub with
  | 0x9000, 6 => some (beInt 2 (tempWarn s))
  | 0x9100, 3 => some (beOct 4 s.shd.seq)
  | 0x9200, 2 => some (calOct ((s.shd.cal[row]?).getD {}))
  | 0xA010, 6 => some (beOct 1 s.srv.sessions.length)
  | 0xA100, 3 => some (beOct 1 (b2n ((s.host.eth[row]?).getD (false, 0)).1) ++ beOct 2 ((s.host.eth[row]?).getD (false, 0)).2)
  | 0xA200, 1 => some (beOct 1 (b2n s.host.pcie.1) ++ beOct 1 s.host.pcie.2.1 ++ beOct 1 s.host.pcie.2.2)
  | 0xB000, 1 => some (beOct 1 (match s.ctl.domains[row]? with
      | some .on => 1 | some .hold => 2 | some .rx => 3 | some .inReset => 4 | _ => 0))
  | _, _ => none

/-- The marks of OW_FEED [4:1] (Table 19-4). -/
def feedMarks (s : State) : Nat :=
  let f (l : List Bool) (i : Nat) : Nat := b2n ((l[i]?).getD false)
  f s.pwr.deviated 0 + 2 * f s.pwr.deviated 1 + 4 * f s.pwr.failed 0 + 8 * f s.pwr.failed 1

/-- The standby's rails within FEED_STBY_WIN, one bit each. -/
def stbyBits (s : State) : Nat :=
  ((List.range 6).map (fun r => b2n (stbyOk s r (senseOf s (1 - s.pwr.train) r)) * 2 ^ r)).foldl (· + ·) 0

/-- Power and Overwinter objects (Tables 19-6 to 19-8). -/
def viewPwr (s : State) (idx sub row : Nat) : Option Octets :=
  match idx, sub with
  | 0xB010, 2 => some (beOct 1 s.pwr.train ++ beOct 1 (feedMarks s) ++ beOct 1 (stbyBits s) ++ beOct 4 s.pwr.switches)
  | 0xB010, 5 => some (beOct 2 ((s.pwr.sense[row]?).getD 0))
  | 0xB100, 1 => some (owTime s)
  | 0xB100, 3 => some (beInt 2 s.pwr.trimNext)
  | 0xB100, 4 =>
    let c := channelOf s row
    some (beOct 1 c.mode ++ beOct 3 (channelRemaining s row) ++ beOct 1 (b2n c.fired + 2 * b2n c.step))
  | 0xB100, 5 => some (beOct 1 (b2n s.pwr.sealed + 2 * b2n s.pwr.sealFound))
  | 0xB100, 6 => some (beOct 1 ((s.pwr.backup[row]?).getD 0))
  | 0xB100, 7 => some (beOct 2 s.pwr.vbat)
  | 0xB200, 2 =>
    let t := tamperOf s row
    some (beOct 1 (b2n t.latched) ++ beOct 1 (b2n t.active) ++ beOct 1 t.count ++ beOct 4 t.secs ++ beOct 2 t.sub)
  | _, _ => none

/-- The value of an object that reports live state, by the chapter that owns it. -/
def liveView (s : State) (idx sub row : Nat) : Option Octets :=
  match idx / 0x1000 with
  | 1 => viewIdentity s idx sub
  | 2 => viewTime s idx sub row
  | 3 =>
    if idx < 0x3100 then viewRf s 0 idx sub row
    else if 0x3800 ≤ idx then viewRf s 1 (idx - 0x800) sub row
    else (viewPal s idx sub row).orElse (fun _ => viewPri s idx sub row)
  | 4 | 5 => viewNode s idx sub row
  | 6 => viewNet s idx sub row
  | 7 => viewHed s idx sub row
  | 8 => viewSec s idx sub row
  | 9 | 10 => viewShed s idx sub row
  | 11 => (viewPwr s idx sub row).orElse (fun _ => viewShed s idx sub row)
  | _ => none

/-- The value in effect of an object's row, as a read returns it. -/
def odRead (s : State) (idx sub row : Nat) : Octets :=
  if sub = 0 then beOct 1 (highestSub s.chip idx) else (liveView s idx sub row).getD (odGet s idx sub row)

end Sys2Proof.Machine
end

