-- ==== Sys2Proof/Machine/Notify.lean ====
section
/-!
DEFINITION. Subscriptions at work (R90 to R92): how a command's effect turns into notifications, and `done`, the one way a
meaning answers its next state.
-/

namespace Sys2Proof.Machine

/-- A NOTIFY body in the octets of Table 04-12 (R91). -/
def Notif.encode (n : Notif) : Octets :=
  beOct 2 n.sub ++ beOct 4 n.seq ++ beOct 1 (b2n n.overrun + 2 * b2n n.lost) ++ [0] ++ beOct 5 n.asn ++ beOct 6 n.secs ++ beOct 4 n.nanos ++
    beOct 4 n.lostCount ++ beOct 2 n.payload.length ++ n.payload

/-- A whole NOTIFY message: the header of Table 04-7 with REQUEST_ID, TXN_ID and STATUS 0, and the body (R78, R91). -/
def Notif.message (n : Notif) : Octets :=
  [1, 0x32, 0, 0] ++ zeros 10 ++ beOct 2 n.encode.length ++ n.encode

/-- The slot in progress, 0 where none runs, and the network time: the stamp of what arises now (R7, R91, R118). -/
def stampNow (s : State) : Nat × Nat × Nat := (if s.eas.running then s.eas.asn else 0, nowSecs s, nowNanos s)

/-- The notification a subscription sends with a payload and the stamp of its change or event (R91). A value that waited out MIN_GAP_MS
sets no OVERRUN: only R92's coalescing does (DESIGN CHOICE, log entry 174). -/
def Sub.notif (u : Sub) (st : Nat × Nat × Nat) (payload : Octets) : Notif :=
  { sub := u.id, seq := u.seq, lost := u.lostCount != 0, asn := st.1, secs := st.2.1, nanos := st.2.2
    lostCount := u.lostCount, payload := payload }

/-- Replaces the newest held notification's value, with the stamp of its change, and sets OVERRUN (R92). -/
def coalesce (st : Nat × Nat × Nat) (payload : Octets) : List Unacked → List Unacked
  | [] => []
  | [x] => [{ x with n := { x.n with payload := payload, overrun := true, asn := st.1, secs := st.2.1, nanos := st.2.2 } }]
  | x :: l => x :: coalesce st payload l

/-- A subscription has a value or an event to send at cycle `now`: it is sent, coalesced into the newest of 16, or counted as lost
(R92). A paused subscription keeps it to send later. -/
def Sub.push (u : Sub) (now : Nat) (st : Nat × Nat × Nat) (payload : Octets) : Sub × List Output :=
  if 16 ≤ u.unacked.length then
    if u.kind = 2 then ({ u with lostCount := u.lostCount + 1 }, [])
    else ({ u with unacked := coalesce st payload u.unacked, held := false, lastAt := if u.kind = 1 then some now else u.lastAt }, [])
  else
    let n := u.notif st payload
    ({ u with unacked := u.unacked ++ [{ n := n, at_ := now }], seq := (u.seq + 1) % 2 ^ 32, lostCount := 0, lastAt := some now
              held := false },
     if u.paused then [] else [.notify u.session n])

/-- Whether MIN_GAP_MS since the last notification has not passed (R90). -/
def Sub.inGap (u : Sub) (s : State) : Bool :=
  match u.lastAt with
  | some t => decide (s.clk.elapsed < t + u.minGapMs * msCycles)
  | none => false

/-- Highest event type offered to subscriptions (Table 03-4). -/
def offeredMax (s : State) : Nat := if compatLevel s < 0x4200 then 0x7F else 0xBF

/-- Sends a list of events on a kind 2 subscription, oldest first. -/
def Sub.pushAll (s : State) : Sub → List LogEntry → Sub × List Output
  | u, [] => (u, [])
  | u, e :: l =>
    if u.evtLo ≤ e.type ∧ e.type ≤ u.evtHi ∧ e.type ≤ offeredMax s then
      let r := u.push s.clk.elapsed (e.asn, e.secs, e.nanos) e.encode
      let r' := Sub.pushAll s r.1 l
      (r'.1, r.2 ++ r'.2)
    else Sub.pushAll s u l

/-- A response as a message (Table 04-7). -/
def encodeResponse (r : Response) : Octets :=
  [1] ++ beOct 1 r.op ++ beOct 2 (1 + 2 * b2n r.dup) ++ beOct 4 r.rid ++ beOct 4 r.txn ++ beOct 2 r.status ++
    beOct 2 r.body.length ++ r.body

/-- Whether a response returns an effective ASN: that of an accepted WRITE, BLOCK_END of a write, or TXN_COMMIT (R119). -/
def Response.returnsEff (r : Response) : Bool :=
  r.status == stOk && (r.op == 2 || r.op == 0x21 || (r.op == 0x12 && r.body != []))

/-- The tag of the unit's own frames: OWN_VID, or none (R301). -/
def ownTci (s : State) : Option Nat := if odNat s 0x6410 6 = 0 then none else some (odNat s 0x6410 6)

/-- Octets that the tag adds. -/
def tagLen (s : State) : Nat := if odNat s 0x6410 6 = 0 then 0 else 4

/-- The Ethernet frame of an ODAP message to a client on the field network: Ethernet, IPv6 and UDP headers and the FCS, and a DTLS 1.3 record
with its header, content type and tag (log entry 153). -/
def odapFrame (s : State) (u : Session) (kind : Nat) (m : Octets) : EgFrame :=
  { len := 14 + tagLen s + 40 + 8 + 5 + m.length + 1 + 16 + 4, kind := kind, body := m, dst := u.mac, src := ownMac s, tci := ownTci s, ip := u.ip
    udp := u.udp, stamp := nowNs s }

/-- The node that a log entry names (R338): that of a node event. -/
def LogEntry.node (e : LogEntry) : Option Nat :=
  if e.type = 0x31 ∨ (0x80 ≤ e.type ∧ e.type ≤ 0x83) then some (beNat (padTo 4 e.data)) else none

/-- The node that a notification concerns: that of a per-node object's row, or of the log event it carries (R120). -/
def notifNode (s : State) (n : Notif) : Option Nat :=
  match s.srv.subs.find? (fun u => u.id == n.sub) with
  | some u =>
    if u.kind = 2 then
      (s.shd.ring.find? (fun e => e.encode == n.payload)).bind LogEntry.node
    else if (odFind u.idx u.sub).map (·.perNode) = some true then some u.row else none
  | none => none

/-- The frame that a notification to a client on the field network leaves in: a report (R120). -/
def notifFrame (s : State) (u : Session) (n : Notif) : EgFrame :=
  { odapFrame s u 1 n.message with node := notifNode s n, stamp := n.secs * 1000000000 + n.nanos }

/-- The frame that an output puts on the backhaul by way of Riddle's queues: an ODAP message of a session on the field network, or an IEEE 1588
message, on its port (R119, R120, R302, R322). -/
def backhaulOf (s : State) (o : Output) : Option (Option Nat × EgFrame) :=
  let onField (id : Nat) : Option Session := s.srv.sessions.find? (fun u => u.id == id && u.transport == 0)
  let ptp (port len : Nat) : Option (Option Nat × EgFrame) := some (some port,
    { len := 14 + tagLen s + (if odNat s 0x2010 7 = 1 then 0 else 48) + len + 4, kind := 5, src := ownMac s, tci := ownTci s, stamp := nowNs s })
  match o with
  | .odap id r => (onField id).map (fun u => (none, odapFrame s u (if r.returnsEff then 5 else 2) (encodeResponse r)))
  | .notify id n => (onField id).map (fun u => (none, notifFrame s u n))
  | .ptp port _ _ _ => ptp port 54
  | .announce port _ _ => ptp port 64
  | _ => none

/-- A notification to a peer over the Hedgerow (R355). -/
def peerNote (s : State) (o : Output) : Option (Nat × Notif) :=
  match o with
  | .notify id n => (s.srv.sessions.find? (fun u => u.id == id && u.transport == 3)).map (fun _ => (id, n))
  | _ => none

/-- A frame joins those handed over: a report behind the others whose stamps are not later (R120). -/
def outboxPut (x : Option Nat × EgFrame) (l : List (Option Nat × EgFrame)) : List (Option Nat × EgFrame) :=
  if x.2.kind = 1 then
    let before (y : Option Nat × EgFrame) : Bool := y.2.kind != 1 || decide (y.2.stamp ≤ x.2.stamp)
    l.takeWhile before ++ x :: l.dropWhile before
  else l ++ [x]

/-- What a command has put out for the backhaul is handed over to Riddle. -/
def toBackhaul (old new : State) : State :=
  let os := new.out.drop old.out.length
  { new with srv := { new.srv with
    outbox := (os.filterMap (backhaulOf new)).foldl (fun l x => outboxPut x l) new.srv.outbox
    peerNotes := new.srv.peerNotes ++ os.filterMap (peerNote new) } }

/-! ### The service UART (R74, R438) -/

/-- The FCS-16 of RFC 1662 over octets: reflected polynomial 0x8408, from 0xFFFF, complemented. -/
def fcs16 (o : Octets) : Nat :=
  let step (f : Nat) (_ : Nat) : Nat := if f % 2 = 1 then (f / 2) ^^^ 0x8408 else f / 2
  0xFFFF - o.foldl (fun f b => (List.range 8).foldl step (f ^^^ b.toNat)) 0xFFFF

/-- A record with its FCS, least significant octet first, stuffed between two flags. -/
def uartStuff (r : Octets) : Octets :=
  let f := fcs16 r
  let esc (b : Byte) : Octets := if b = 0x7E ∨ b = 0x7D then [0x7D, b ^^^ 0x20] else [b]
  [0x7E] ++ (r ++ [BitVec.ofNat 8 f, BitVec.ofNat 8 (f / 256)]).flatMap esc ++ [0x7E]

/-- What stands between the flags, with its escapes undone. -/
def uartUnstuff (o : Octets) : Octets :=
  (o.foldl (fun (acc : Octets × Bool) b =>
    if b = 0x7E then acc
    else if acc.2 then (acc.1 ++ [b ^^^ 0x20], false)
    else if b = 0x7D then (acc.1, true)
    else (acc.1 ++ [b], false)) ([], false)).1

/-- The key of a session's records. -/
def sessionKey (id : Nat) (s : State) : Octets := ((s.sec.slots.find? (fun e => e.2.held && e.2.session == some id)).map (·.2.value)).getD []

/-- The frame that an output puts on the service UART: a message of a session there, in a DTLS 1.3 record (R74, R438). -/
def uartOf (s : State) (o : Output) : Option Octets :=
  let m := match o with
    | .odap id r => some (id, encodeResponse r)
    | .notify id n => some (id, n.message)
    | _ => none
  m.bind (fun x => (s.srv.sessions.find? (fun u => u.id == x.1 && u.transport == 1)).map (fun _ =>
    uartStuff (Config.crypto "DTLS 1.3 seal" x.1 [sessionKey x.1 s, x.2])))

/-- What a command has put out for the service UART leaves in its frames. -/
def toUart (old new : State) : State := { new with out := new.out ++ ((new.out.drop old.out.length).filterMap (uartOf new)).map .uart }

/-- What one subscription does when the machine has gone from `old` to `new` (R90). -/
def Sub.observe (old new : State) (u : Sub) : Sub × List Output :=
  match u.kind with
  | 0 =>
    let v := odRead new u.idx u.sub u.row
    if odRead old u.idx u.sub u.row = v then (u, [])
    else if u.inGap new then ({ u with held := true, heldAt := stampNow new }, [])
    else u.push new.clk.elapsed (stampNow new) v
  | 2 => u.pushAll new ((new.shd.ring.filter (fun e => decide (old.shd.seq < e.seq))).reverse)
  | _ => (u, [])

/-- Every subscription observes a command's effect. -/
def observeAll (old : State) (new : State) : State :=
  match new.srv.subs with
  | [] => new
  | subs =>
    let rs := subs.map (Sub.observe old new)
    { new with srv := { new.srv with subs := rs.map (·.1) }, out := new.out ++ rs.flatMap (·.2) }

/-- The fuses and the bonding after a command: what names the product is as manufactured (R52, R53), and a fuse is only ever blown, so a
revoked root stays revoked and a counter never falls (R390, R392), and the life cycle passes only forward (R360). -/
def burn (old new : Chip) : Chip :=
  { old with
    rootRevoked := old.rootRevoked ||| new.rootRevoked
    svn := old.svn.mapIdx (fun i x => max x (new.svn.getD i 0))
    lcFuses := old.lcFuses.mapIdx (fun i x => let y := new.lcFuses.getD i (false, false); (x.1 || y.1, x.2 || y.2)) }

/-- The state after a command's effect has taken `old` to `new`: what the subscriptions send is sent (R90), what leaves by the backhaul goes to Riddle and what leaves by the service UART
is framed, fuses are only ever
blown, and the queue of the commands that wait is as it was. -/
def conclude (old new : State) : State := { toUart old (toBackhaul old (observeAll old new)) with chip := burn old.chip new.chip, pending := old.pending }

/-- A command's outcome: the next state. -/
def done (old new : State) : Host.Outcome State Fault Refusal := .next (conclude old new)

end Sys2Proof.Machine
end

