-- ==== Sys2Proof/Machine/Sessions.lean ====
section
/-!
DEFINITION. ODAP sessions (R76): finding one, changing one, and ending one.
-/

namespace Sys2Proof.Machine

/-- The session of a number. -/
def findSession (s : State) (id : Nat) : Option Session := s.srv.sessions.find? (fun u => u.id == id)

/-- Modifies one session. -/
def modSession (id : Nat) (f : Session → Session) (s : State) : State :=
  { s with srv := { s.srv with sessions := s.srv.sessions.map (fun u => if u.id = id then f u else u) } }

/-- Sets a slot. -/
def setSlot (n : Nat) (k : KeySlot) (s : State) : State :=
  { s with sec := { s.sec with slots := sset (fun _ => {}) s.sec.slots n k } }

/-- A slot is freed: its generation rises modulo 127 and everything else is cleared (R358). -/
def freeSlot (n : Nat) (s : State) : State := setSlot n { gen := ((slotAt s n).gen + 1) % 127 } s

/-- The ephemeral keys of the sessions that a test picks are freed with them (R357). -/
def freeKeysOf (pick : Nat → Bool) (s : State) : State :=
  (s.sec.slots.filter (fun e => e.2.held && e.2.ephemeral && (e.2.session.map pick).getD false)).foldl (fun s e => freeSlot e.1 s) s

/-- A session ends: its transactions and transfers are aborted, its subscriptions removed and its keys freed (R76, R357). The PCIe descriptor pair
and the internal channel stay, as new sessions (log entry 13). -/
def endSession (id : Nat) (s0 : State) : State :=
  let s := freeKeysOf (· == id) s0
  { s with srv := { s.srv with
    sessions := (s.srv.sessions.filter (fun u => u.id != id || u.transport == 2 || u.transport == 4)).map (fun u =>
      if u.id = id then { id := u.id, transport := u.transport, role := u.role, lastMsg := s.clk.elapsed } else u)
    txns := s.srv.txns.filter (fun t => t.session != id)
    blocks := s.srv.blocks.filter (fun b => b.session != id)
    subs := s.srv.subs.filter (fun u => u.session != id) } }

/-- Every session that a test picks ends. -/
def endSessions (pick : Session → Bool) (s : State) : State :=
  (s.srv.sessions.filter pick).foldl (fun s u => endSession u.id s) s

end Sys2Proof.Machine
end

