-- ==== Sys2Proof/Machine/Time.lean ====
section
/-!
DEFINITION. The timebase (spec/05): measurements and the clock states, slewing and stepping, PPS, IEEE 1588, and when Easel has
slots to run.
-/

namespace Sys2Proof.Machine

/-! ### Slots to run (R70, R115, R116) -/

/-- Whether slots run in the current mode: from M3 on, with valid network time and a valid epoch, and in the working modes,
M9 and M10 in any clock state (R70, R100); not during a warm reset until Easel rejoins (R422). -/
def slotsAllowed (s : State) : Bool :=
  let up := match s.shd.warm with
    | some w => w.easel
    | none => true
  up && match s.ctl.mode with
    | .m0 | .m1 | .m2 => false
    | .m3 | .m4 | .m11 => s.clk.valid && epochValid s
    | _ => epochValid s

/-- The first slot whose preparation window, 2 ms long, still lies wholly ahead (R116, R229). -/
def firstWholeSlot (s : State) : Nat := firstSlotAt s (nowNs s + 2000000)

/-- The slot that Easel takes up: the first whole one that has not run (R116). -/
def joinAt (s : State) : Nat :=
  match s.clk.ran with
  | some b => max (firstWholeSlot s) (b + 1)
  | none => firstWholeSlot s

/-- Easel takes up the slots; before T_0 of a future epoch no slot is in progress (R115, R116). -/
def joinSlots (s : State) : State :=
  let a := joinAt s
  { s with eas := { s.eas with next := some a, asn := a - 1, running := decide (epochT0 (curEpoch s) ≤ nowNs s) } }

/-- Easel stops running slots (R70). -/
def stopSlots (s : State) : State := { s with eas := { s.eas with next := none, running := false } }

/-- An entry to a working mode from M3 or M4 that has its boundary waits again where valid time or the epoch is lost before it (R39). -/
def unsettle (s : State) : State :=
  match s.ctl.change with
  | some c =>
    if c.kind = .atSlot ∧ c.target.working ∧ (s.ctl.mode = .m3 ∨ s.ctl.mode = .m4) ∧ ¬ c.committed then
      { s with ctl := { s.ctl with change := some { c with kind := .waiting, eff := 0, epoch := {} } } }
    else s
  | none => s

/-- Starts or stops the slots as mode, clock and epoch require. -/
def settleSlots (s : State) : State :=
  if slotsAllowed s then (if s.eas.next = none then joinSlots s else s)
  else if s.clk.valid && epochValid s then stopSlots s else unsettle (stopSlots s)

/-- Whether the Hedgerow lets a unit enter a working mode (R334): its claim is complete and, unless HR_ISOLATE is 0, one database exchange. -/
def hrReady (s : State) : Bool := s.hed.st == 0 || (s.hed.claimed && (odNat s 0x7001 4 == 0 || s.hed.exchanged))

/-- A request to enter a working mode that waited for valid time and a valid epoch gets its boundary: the first at least 2 s
later; where the slot length differs, a new epoch starts there (R39; log entry 11). -/
def settleWaiting (s : State) : State :=
  match s.ctl.change with
  | some c =>
    if c.kind = .waiting ∧ s.clk.valid ∧ epochValid s ∧ hrReady s then
      let e := firstBoundaryAt s (nowNs s + 2000000000)
      let t := (startNs s e).toNat
      let ep : Epoch := if (curEpoch s).code = c.target.slotCode then {}
        else { asn0 := e, secs := t / 1000000000, nanos := t % 1000000000, code := c.target.slotCode }
      { s with ctl := { s.ctl with change := some { c with kind := .atSlot, eff := e, epoch := ep } } }
    else s
  | none => s

/-! ### Steps and slews (R98, R107, R109) -/

/-- STEP_THRESHOLD in ns. -/
def stepThreshold (s : State) : Nat := odNat s 0x2001 2 * 1000

/-- Whether PPS_OUT has marked a second. -/
def ppsDone (sec : Nat) (l : List (Nat × Nat)) : Bool := l.any (fun p => decide (p.1 ≤ sec) && decide (sec ≤ p.2))

/-- Marks a second, in the run it follows or in one of its own. -/
def ppsMark (sec : Nat) : List (Nat × Nat) → List (Nat × Nat)
  | (a, b) :: l => if sec = b + 1 then (a, sec) :: l else (sec, sec) :: (a, b) :: l
  | [] => [(sec, sec)]

/-- A pulse at PPS_OUT for a second, at most one per second value, while enabled (R106). -/
def ppsPulse (sec : Nat) (s : State) : State :=
  let on : Bool := match odNat s 0x2020 1 with
    | 0 => false
    | 1 => s.clk.valid
    | _ => true
  if on ∧ ¬ ppsDone sec s.clk.ppsMarked then
    emit (.ppsPulse sec (odNat s 0x2020 2)) { s with clk := { s.clk with ppsMarked := ppsMark sec s.clk.ppsMarked } }
  else s

/-- The clock is stepped by `d` ns: the history is cleared (R101), and a forward step over an integral second emits that
second's pulse (R106). Of several seconds crossed only
the last has its pulse (DESIGN CHOICE, log entry 175). -/
def stepClock (d : Int) (s : State) : State :=
  let before := nowSecs s
  let s1 := { s with clk := { s.clk with now := ((s.clk.now : Int) + d * nsUnit).toNat, hist := [] } }
  if before < nowSecs s1 then ppsPulse (nowSecs s1) s1 else s1

/-- Slewing: the servo sets its frequency estimate and a rate correction within SLEW_LIMIT of it; both values are the servo's,
which the spec does not state (R98, R107; log entry 8). -/
def slew (s : State) : State :=
  let (f, s1) := takeFree s
  let (r, s2) := takeFree s1
  let est : Int := signed 4 (f % 2 ^ 32)
  let lim : Int := odNat s 0x2001 3 * 65536 / 10
  { s2 with clk := { s2.clk with freqEst := est, rateCorr := clampInt (est - lim) (est + lim) (signed 4 (r % 2 ^ 32)) } }

/-- Logs STEP_REFUSED with the offset (R107). -/
def logStepRefused (off : Int) (s : State) : State := logEvent 0x18 2 (beInt 8 off) s

/-- STEP_PENDING with its amount; the refusal is logged once per stay (R107). -/
def holdStep (off : Int) (s : State) : State :=
  let s1 := if s.clk.stepPending then s else logStepRefused off s
  { s1 with clk := { s1.clk with stepPending := true, stepAmount := off, okRun := 0 } }

/-- A measurement at or below the threshold while a step is pending: STEP_AMOUNT follows it, and the third in a row clears
STEP_PENDING (R99, R107). -/
def okStep (off : Int) (s : State) : State :=
  if s.clk.stepPending then
    let n := s.clk.okRun + 1
    { s with clk := { s.clk with stepAmount := off, okRun := n, stepPending := decide (n < 3) } }
  else s

/-- One measurement in ACQUIRING: 16 in a row at or below LOCK_LIMIT lock the clock (R99, R107). -/
def measureAcquiring (off : Int) (s : State) : State :=
  let big := decide (stepThreshold s < off.natAbs)
  let s1 :=
    if s.eas.running then (if big then holdStep off s else okStep off (slew s))
    else if big then stepClock off s else slew s
  let n := if off.natAbs ≤ odNat s 0x2001 6 then s.clk.goodRun + 1 else 0
  if 16 ≤ n then
    settleWaiting (settleSlots { s1 with clk := { s1.clk with goodRun := 16, state := .locked, valid := true, stepPending := false } })
  else { s1 with clk := { s1.clk with goodRun := n } }

/-- Whether the servo runs: it is Canvas's, so not in M2 nor during a warm reset (R98). -/
def servoRuns (s : State) : Bool := s.ctl.mode != .m0 && s.ctl.mode != .m1 && s.ctl.mode != .m2 && s.shd.warm.isNone

/-- One offset from the source drives the clock states of Table 05-1 (R99, R107). -/
def steer (off : Int) (s : State) : State :=
  let big := decide (stepThreshold s < off.natAbs)
  let s0 := { s with clk := { s.clk with
    offset := off, lastMeas := some s.clk.elapsed, sourceLost := false, hist := (off.natAbs :: s.clk.hist).take 16 } }
  match s.clk.state with
  | .invalid =>
    let s1 := { s0 with clk := { s0.clk with state := .acquiring, goodRun := 0, okRun := 0 } }
    if s.eas.running then (if big then holdStep off s1 else slew s1) else stepClock off s1
  | .acquiring => measureAcquiring off s0
  | .locked =>
    if big then holdStep off { s0 with clk := { s0.clk with state := .stepHeld, rateCorr := s0.clk.freqEst } } else slew s0
  | .holdover =>
    if big then holdStep off { s0 with clk := { s0.clk with state := .stepHeld } }
    else slew { s0 with clk := { s0.clk with state := .locked, stepPending := false } }
  | .stepHeld =>
    if big then holdStep off s0
    else
      let s1 := okStep off s0
      if s1.clk.stepPending then s1 else slew { s1 with clk := { s1.clk with state := .locked } }

/-- A measurement, which only the running servo takes (R98; log entry 154). -/
def measure (off : Int) (s : State) : State := if servoRuns s then steer off s else s

/-- The state after a step is applied: STEP_HELD gives way to LOCKED, and no step is pending (R99, R109). -/
def stepApplied (s : State) : State :=
  { s with clk := { s.clk with
    state := if s.clk.state = .stepHeld then .locked else s.clk.state, stepPending := false, stepReq := none, okRun := 0 } }

/-- A step of `d` ns is applied: the clock moves, and every node's timing uncertainty grows by |d| (R109). -/
def applyStep (d : Int) (s : State) : State :=
  let us := (d.natAbs + 999) / 1000
  let s1 := stepApplied (stepClock d s)
  { s1 with nod := { s1.nod with recs := s1.nod.recs.map (fun p => (p.1, { p.2 with stepAdd := p.2.stepAdd + us })) } }

/-- The clock loses VALID and starts over from INVALID, as a write of TIME_SOURCE makes it (R99, R100). -/
def clockInvalid (s : State) : State :=
  settleSlots { s with clk := { s.clk with
    state := .invalid, valid := false, goodRun := 0, okRun := 0, stepPending := false, hist := [], ppsEdges := []
    ppsHeld := [], sourceLost := false } }

/-- The source is lost: LOCKED and STEP_HELD go to HOLDOVER at the last frequency estimate, which the servo sets where it runs (R98, R99,
R101). -/
def sourceLost (s : State) : State :=
  let s1 := { s with clk := { s.clk with sourceLost := true } }
  match s.clk.state with
  | .locked | .stepHeld =>
    { s1 with clk := { s1.clk with
      state := .holdover, stepPending := false, okRun := 0, holdErr := estError s, holdSince := s.clk.elapsed
      rateCorr := if servoRuns s then s.clk.freqEst else s.clk.rateCorr } }
  | _ => s1

/-- SOURCE_TIMEOUT has passed since the last measurement (R99). -/
def execSourceTimeout (s : State) : Host.Outcome State Fault Refusal :=
  match s.clk.lastMeas with
  | some t => done s (sourceLost (advanceElapsed (t + odNat s 0x2001 7 * msCycles) s))
  | none => done s (sourceLost s)

/-! ### Pulse per second (R105, R106) -/

/-- Whether three edge positions agree to within 1 us with one another (R105). -/
def edgesAgree : List Int → Bool
  | [a, b, c] => decide ((a - b).natAbs ≤ 1000) && decide ((b - c).natAbs ≤ 1000) && decide ((a - c).natAbs ≤ 1000)
  | _ => false

/-- The offset that an edge measures, from its corrected stamp in ns: the nearest second of the source selected (R98, R105);
while that source has given no second yet, the clock's own nearest second (DESIGN CHOICE, log entry 175). -/
def ppsOffset (stamp : Int) (s : State) : Int :=
  let sec := (stamp + 500000000) / 1000000000
  let srcSec : Int :=
    if odNat s 0x2001 1 = 2 then (match s.clk.timeSet with | some t => (t : Int) | none => sec)
    else match s.clk.ptpOffset with
      | some o => if s.clk.valid then sec else (stamp + o + 500000000) / 1000000000
      | none => sec
  srcSec * 1000000000 - stamp

/-- Edges that were held are discarded and counted (R105). -/
def discardEdges (n : Nat) (s : State) : State := { s with clk := { s.clk with ppsDiscarded := s.clk.ppsDiscarded + n } }

/-- Accepted edges are measurements, in their order; a TIME_SET that waited for one has taken effect (R105). -/
def acceptEdges (offs : List Int) (s : State) : State :=
  offs.foldl (fun s o => measure o s) { s with clk := { s.clk with
    ppsAt := some s.clk.elapsed, ppsHeld := [], timeSet := if odNat s 0x2001 1 = 2 then none else s.clk.timeSet } }

/-- How many of the edges held agree with the latest one, newest first, before the first that does not. -/
def agreeing (dev : Int) : List Int → Nat
  | [] => 0
  | d :: l => if (d - dev).natAbs ≤ 1000 then 1 + agreeing dev l else 0

/-- A PPS_IN edge with its corrected stamp in ns (R105): a measurement, or outside PPS_IN_WINDOW held until two more agree with it or one
does not; three that agree are measurements, and one that does not agree discards those held (log entry 155). -/
def ppsEdge (stamp : Int) (s : State) : State :=
  let dev := stamp - (stamp + 500000000) / 1000000000 * 1000000000
  let off := ppsOffset stamp s
  let edges := (dev :: s.clk.ppsEdges).take 3
  let s0 := { s with clk := { s.clk with ppsEdges := edges } }
  let held := s.clk.ppsHeld
  if ¬ s.clk.valid ∨ dev.natAbs ≤ odNat s 0x2020 5 then acceptEdges [off] (discardEdges held.length s0)
  else if edgesAgree edges then acceptEdges (held ++ [off]) s0
  else
    let keep := min held.length (agreeing dev s.clk.ppsEdges)
    { discardEdges (held.length - keep) s0 with clk := { (discardEdges (held.length - keep) s0).clk with
      ppsHeld := held.drop (held.length - keep) ++ [off] } }

/-- A rising edge at PPS_IN, with source 1 or 2 selected (R105). -/
def execPpsInEdge (jitter : Int) (s : State) : Host.Outcome State Fault Refusal :=
  let source := odNat s 0x2001 1
  if (source = 1 ∨ source = 2) ∧ s.ctl.mode ≠ .m0 ∧ s.ctl.mode ≠ .m1 then
    done s (ppsEdge ((nowNs s : Int) + clampInt (-4) 4 jitter - odInt s 0x2020 4) s)
  else done s s

/-- The local clock reaches its next integral second, advanced by PPS_OUT_DELAY (R106). -/
def execPpsOutSecond (s : State) : Host.Outcome State Fault Refusal :=
  if s.ctl.mode = .m0 ∨ s.ctl.mode = .m1 then done s s
  else
    let sec := nowSecs s + 1
    done s (ppsPulse sec (advanceNs ((sec * 1000000000 : Int) - odInt s 0x2020 3).toNat s))

/-! ### IEEE 1588 (R102 to R104) -/

/-- A stamp of the local clock in 2^-16 ns, at an instant with a stamping error of `jitter` ns. -/
def ptpStamp (s : State) (jitter : Int) : Int := s.clk.now / 2 ^ 24 + clampInt (-4) 4 jitter * 65536

/-- Picoseconds in 2^-16 ns. -/
def psUnits (ps : Int) : Int := ps * 65536 / 1000

/-- The receive stamp that the servo uses: with the port's INGRESS_LAT (R104). -/
def rxStamp (m : PtpMsg) (s : State) : Int := ptpStamp s m.jitter + psUnits (odField s 0x2011 1 m.port 8 4)

/-- The transmit stamp that the servo uses: with the port's EGRESS_LAT (R104). -/
def txStamp (port : Nat) (s : State) : Int := ptpStamp s 0 + psUnits (odField s 0x2011 1 port 12 4)

/-- Modifies one IEEE 1588 port. -/
def modPort (port : Nat) (f : PtpPort → PtpPort) (s : State) : State :=
  { s with clk := { s.clk with ports := modAt f s.clk.ports port } }

/-- The port's state block. -/
def portOf (s : State) (port : Nat) : PtpPort := (s.clk.ports[port]?).getD {}

/-- Whether a port takes part: it is enabled, and in an ordinary clock the lowest one that is (R102, log entry 12). -/
def portActive (s : State) (port : Nat) : Bool :=
  let on (i : Nat) : Bool := odField s 0x2011 1 i 0 1 == 1
  decide (port < 2) && on port && (odNat s 0x2010 1 == 1 || port == 0 || !on 0)

/-- The unit's own clock identity (log entry 12). -/
def clockIdentity (s : State) : Nat := beNat s.chip.serial

/-- Whether a message is discarded and counted (R102): an unsupported option, another transport than PTP_TRANSPORT's, another sdoId or
domain, a port that is disabled, or the delay mechanism that is not the configured one (`mech`: 0 request-response, 1 peer delay, 2 either). -/
def ptpRefused (m : PtpMsg) (mech : Nat) (s : State) : Bool :=
  m.unsupported || m.transport != odNat s 0x2010 7 || m.sdoId != 0 || m.domain != odNat s 0x2010 2 || !portActive s m.port ||
  (mech < 2 && odNat s 0x2010 5 != mech)

/-- Runs a message's effect, or discards and counts it. The clock's domain must run, and no warm reset (R97, R98). -/
def ptpAccept (m : PtpMsg) (mech : Nat) (f : State → State) (s : State) : State :=
  if s.ctl.mode = .m0 ∨ s.ctl.mode = .m1 ∨ s.shd.warm.isSome then s
  else if ptpRefused m mech s then { s with clk := { s.clk with ptpDiscarded := s.clk.ptpDiscarded + 1 } }
  else f s

/-- The data set of an Announce. -/
def announceDs (m : PtpMsg) : PtpDs :=
  ⟨m.priority1, m.clockClass, m.accuracy, m.variance, m.priority2, m.identity, m.steps⟩

/-- The unit's own data set: its priorities, and the default class, accuracy and variance of IEEE 1588 (log entry 12). -/
def ownDs (s : State) : PtpDs :=
  ⟨odNat s 0x2010 3, if odNat s 0x2010 8 = 1 then 255 else 248, 254, 65535, odNat s 0x2010 4, clockIdentity s, 0⟩

/-- The default data set comparison: whether `a` is better than `b` (R102). -/
def dsBetter (a b : PtpDs) : Bool :=
  let ka := [a.priority1, a.clockClass, a.accuracy, a.variance, a.priority2, a.identity, a.steps]
  let kb := [b.priority1, b.clockClass, b.accuracy, b.variance, b.priority2, b.identity, b.steps]
  ((ka.zip kb).foldl (fun (acc : Option Bool) (p : Nat × Nat) =>
    match acc with
    | some r => some r
    | none => if p.1 < p.2 then some true else if p.2 < p.1 then some false else none) none).getD false

/-- How data set `a`, heard at port `pa`, compares with `b`, heard at port `pb`: 2 better, 1 better by topology, and their negatives for worse
(the data set comparison of the default best master clock algorithm, R102). -/
def dsRank (s : State) (pa : Nat) (a : Foreign) (pb : Nat) (b : Foreign) : Int :=
  let own (p : Nat) : Nat := clockIdentity s * 65536 + p + 1
  if a.ds.identity ≠ b.ds.identity then (if dsBetter a.ds b.ds then 2 else -2)
  else if b.ds.steps + 1 < a.ds.steps then -2
  else if a.ds.steps + 1 < b.ds.steps then 2
  else if b.ds.steps < a.ds.steps then (if own pa < a.source then -2 else -1)
  else if a.ds.steps < b.ds.steps then (if own pb < b.source then 2 else 1)
  else if a.source < b.source then 1
  else if b.source < a.source then -1
  else if pa < pb then 1
  else if pb < pa then -1
  else 0

/-- The better of two data sets with the ports they were heard at. -/
def bestOf (s : State) : Option (Nat × Foreign) → Option (Nat × Foreign) → Option (Nat × Foreign)
  | none, b => b
  | a, none => a
  | some a, some b => if 0 < dsRank s b.1 b.2 a.1 a.2 then some b else some a

/-- The best qualified master at a port: heard twice within the last four announce intervals (R102, log entry 12). -/
def portBest (s : State) (port : Nat) : Option (Nat × Foreign) :=
  let window := 4 * secCycles * 2 ^ odField s 0x2011 1 port 3 1
  if portActive s port then
    ((portOf s port).foreigns.filter (fun f => (f.prev.map (fun t => decide (s.clk.elapsed ≤ t + window))).getD false)).foldl
      (fun b f => bestOf s b (some (port, f))) none
  else none

/-- The best master heard at any port. -/
def masterBest (s : State) : Option (Nat × Foreign) := bestOf s (portBest s 0) (portBest s 1)

/-- Whether a message comes from the master that its port follows: only then does the port take its time from it (R102). -/
def ptpListens (m : PtpMsg) (s : State) : Bool :=
  ((portOf s m.port).portState == 8 || (portOf s m.port).portState == 9) && (portBest s m.port).map (·.2.source) == some m.source

/-- The state that the default best master clock algorithm gives a port (R102): DISABLED (3) where it takes no part, SLAVE (9) towards the best
master, PASSIVE (7) where that one is better by topology than the port's own best, MASTER (6) where the unit is better or the port hears no
better one, LISTENING (4) while it hears nothing and its timeout has not passed (`timeout`), and always for a client only. -/
def portDecision (timeout : Option Nat) (s : State) (port : Nat) : Nat :=
  let slaveOnly : Bool := odNat s 0x2010 8 == 1 && odNat s 0x2010 1 == 0
  let st := (portOf s port).portState
  let silent : Bool := (portBest s port).isNone && (st == 1 || st == 3 || st == 4) && timeout != some port
  if ¬ portActive s port then 3
  else match masterBest s with
    | none => if slaveOnly || silent then 4 else 6
    | some (b, f) =>
      if ¬ slaveOnly ∧ dsBetter (ownDs s) f.ds then (if silent then 4 else 6)
      else if port = b then 9
      else if slaveOnly || silent then 4
      else match portBest s port with
        | some g => if dsRank s b f port g.2 = 1 then 7 else 6
        | none => 6

/-- Both ports take the states that the algorithm gives them. -/
def decideStates (timeout : Option Nat) (s : State) : State :=
  { s with clk := { s.clk with ports := s.clk.ports.mapIdx (fun i p => { p with portState := portDecision timeout s i }) } }

/-- An Announce is noted at its port. One of the unit's own, or 255 steps away, names no foreign master. -/
def noteAnnounce (m : PtpMsg) (s : State) : State :=
  if m.source / 65536 = clockIdentity s ∨ 255 ≤ m.steps then s
  else modPort m.port (fun p =>
    let old := p.foreigns.find? (fun f => f.source == m.source)
    { p with foreigns := p.foreigns.filter (fun f => f.source != m.source) ++
        [{ source := m.source, ds := announceDs m, last := s.clk.elapsed, prev := old.map (·.last) }] }) s

/-- ANNOUNCE feeds the best master clock algorithm (R102). -/
def execAnnounce (m : PtpMsg) (s : State) : Host.Outcome State Fault Refusal :=
  done s (ptpAccept m 2 (fun s => decideStates none (noteAnnounce m s)) s)

/-- The master that a port followed is no longer heard. -/
def loseMaster (port : Nat) (s : State) : State :=
  match portBest s port with
  | some (_, f) => modPort port (fun p => { p with foreigns := p.foreigns.filter (fun x => x.source != f.source) }) s
  | none => s

/-- ANNOUNCE_RECEIPT_TIMEOUT: the port's master is no longer heard (R102). -/
def execAnnounceReceiptTimeout (port : Nat) (s : State) : Host.Outcome State Fault Refusal :=
  done s (decideStates (some port) (loseMaster port s))

/-- A complete Sync: one offset from the source, a measurement under TIME_SOURCE 0 (R98, R99, R104). -/
def ptpOffset (m : PtpMsg) (t2 : Int) (s : State) : State :=
  let p := portOf s m.port
  let t1 := m.origin + m.corr
  let off := (t1 + p.delay.getD 0 + psUnits (fieldInt (odGet s 0x2011 1 m.port) 16 4) - t2) / 65536
  let s1 := modPort m.port (fun p => { p with syncWait := none, lastSync := some (t1, t2) }) s
  let s2 := { s1 with clk := { s1.clk with ptpOffset := some off } }
  if odNat s 0x2001 1 = 0 then measure off s2 else s2

/-- SYNC (R104). -/
def execSync (m : PtpMsg) (s : State) : Host.Outcome State Fault Refusal :=
  done s (ptpAccept m 2 (fun s =>
    if ptpListens m s then
      if m.twoStep then modPort m.port (fun p => { p with syncWait := some (m.seq, rxStamp m s - m.corr) }) s
      else ptpOffset m (rxStamp m s) s
    else s) s)

/-- FOLLOW_UP supplies the precise origin time of the two-step Sync of the same sequence (R102). -/
def execFollowUp (m : PtpMsg) (s : State) : Host.Outcome State Fault Refusal :=
  done s (ptpAccept m 2 (fun s =>
    match (portOf s m.port).syncWait with
    | some (q, t2) => if q = m.seq ∧ ptpListens m s then ptpOffset m t2 s else s
    | none => s) s)

/-- DELAY_REQ received as master is stamped and answered (R102). -/
def execDelayReq (m : PtpMsg) (s : State) : Host.Outcome State Fault Refusal :=
  done s (ptpAccept m 0 (fun s =>
    if (portOf s m.port).portState = 6 then emit (.ptp m.port 9 m.seq (rxStamp m s)) s else s) s)

/-- DELAY_RESP completes a delay measurement (R102): the mean of both directions. -/
def execDelayResp (m : PtpMsg) (s : State) : Host.Outcome State Fault Refusal :=
  done s (ptpAccept m 0 (fun s =>
    let p := portOf s m.port
    match p.reqSent, p.lastSync with
    | some (q, t3), some (t1, t2) =>
      if q = m.seq ∧ m.forUs ∧ ptpListens m s then
        modPort m.port (fun p => { p with reqSent := none, delay := some (((t2 - t1) + (m.origin - m.corr - t3)) / 2) }) s
      else s
    | _, _ => s) s)

/-- PDELAY_REQ is answered (R102, R104): a Pdelay_Resp with the request's receive stamp, and its follow-up with the response's own
transmit stamp (log entry 12). -/
def execPdelayReq (m : PtpMsg) (s : State) : Host.Outcome State Fault Refusal :=
  done s (ptpAccept m 1 (fun s =>
    emit (.ptp m.port 10 m.seq (txStamp m.port s)) (emit (.ptp m.port 3 m.seq (rxStamp m s)) s)) s)

/-- PDELAY_RESP: one-step it completes the measurement, two-step it waits for its follow-up (R102). -/
def execPdelayResp (m : PtpMsg) (s : State) : Host.Outcome State Fault Refusal :=
  done s (ptpAccept m 1 (fun s =>
    match (portOf s m.port).reqSent with
    | some (q, t1) =>
      if q = m.seq ∧ m.forUs then
        let t4 := rxStamp m s
        if m.twoStep then
          modPort m.port (fun p => { p with reqSent := none, pdelayWait := some (q, m.origin - m.corr, t4 - t1) }) s
        else modPort m.port (fun p => { p with reqSent := none, delay := some ((t4 - t1 - m.corr) / 2) }) s
      else s
    | none => s) s)

/-- PDELAY_RESP_FOLLOW_UP completes a two-step peer delay measurement (R102). -/
def execPdelayRespFollowUp (m : PtpMsg) (s : State) : Host.Outcome State Fault Refusal :=
  done s (ptpAccept m 1 (fun s =>
    match (portOf s m.port).pdelayWait with
    | some (q, t2, turn) =>
      if q = m.seq ∧ m.forUs then
        modPort m.port (fun p => { p with pdelayWait := none, delay := some ((turn - (m.origin + m.corr - t2)) / 2) }) s
      else s
    | none => s) s)

/-- The data set that an Announce of the unit carries: the master's that a port follows, a step further, else the unit's own (R102). -/
def announced (s : State) : PtpDs :=
  match masterBest s with
  | some (b, f) => if (portOf s b).portState = 9 then { f.ds with steps := f.ds.steps + 1 } else ownDs s
  | none => ownDs s

/-- PTP_MESSAGE_TIMER (R102): kind 0 Sync (with its Follow_Up unless one-step), 1 the delay request of the mechanism in use,
2 Announce. Sync and Announce are a master's; a Delay_Req a slave's. -/
def execPtpMessageTimer (port kind : Nat) (s : State) : Host.Outcome State Fault Refusal :=
  let p := portOf s port
  let step := modPort port (fun p => { p with seq := (p.seq + 1) % 65536 }) s
  if s.ctl.mode = .m0 ∨ s.ctl.mode = .m1 ∨ s.shd.warm.isSome ∨ ¬ portActive s port then done s s
  else if kind = 0 ∧ p.portState = 6 then
    let s1 := emit (.ptp port 0 p.seq (txStamp port s)) step
    done s (if odNat s 0x2010 6 = 1 then s1 else emit (.ptp port 8 p.seq (txStamp port s)) s1)
  else if kind = 1 ∧ (odNat s 0x2010 5 = 1 ∨ p.portState = 8 ∨ p.portState = 9) then
    done s (modPort port (fun q => { q with reqSent := some (p.seq, txStamp port s) })
      (emit (.ptp port (if odNat s 0x2010 5 = 1 then 2 else 1) p.seq (txStamp port s)) step))
  else if kind = 2 ∧ p.portState = 6 then done s (emit (.announce port p.seq (announced s)) step)
  else done s s

/-! ### Writes of the timebase objects -/

/-- The checks of ASN_EPOCH: the grid of R113 and the floor of R114. -/
def asnEpochOk (v : Octets) (s : State) : Bool :=
  let e := decodeEpoch v
  let floor := odNat s 0x2100 4
  epochT0 e % 25600000000 == 0 && decide (floor < e.asn0) &&
  (decide (nowNs s < epochT0 e) || decide (floor < epochAsnAt e (nowNs s)))

/-- A new epoch comes into force: the one it replaces is kept, with the two before it (R111). -/
def adoptEpoch (e : Epoch) (s : State) : State :=
  let old := curEpoch s
  let kept := if old = {} then s.clk.oldEpochs else (old :: s.clk.oldEpochs).take 3
  odPut 0x2100 1 0 (encodeEpoch e) { s with clk := { s.clk with oldEpochs := kept } }

/-- ASN_EPOCH is set at its commit point in M3 or M4 (R115). -/
def commitAsnEpoch (v : Octets) (s : State) : State × Answer :=
  (settleWaiting (settleSlots (stopSlots (unsettle (adoptEpoch (decodeEpoch v) s)))), effA (effNow s))

/-- STEP_APPLY (R108): 1 requests the step, 0 aborts the request. -/
def commitStepApply (v : Nat) (s : State) : State × Answer :=
  match s.clk.stepReq with
  | some r =>
    if v = 1 then (s, effA r.slot)
    else match r.fixed with
      | some _ => (s, errA stTooLate)
      | none => ({ s with clk := { s.clk with stepReq := none } }, effA r.slot)
  | none =>
    if v = 1 ∧ stepPendingNow s then
      if s.eas.running then
        let e := nextSuperframeE s
        ({ s with clk := { s.clk with stepReq := some { slot := e } } }, effA e)
      else (applyStep s.clk.stepAmount s, effA effNoSlots)
    else (s, errA stInvalidState s.ctl.mode.code)

/-- TIME_SET (R105): refused while VALID where its seconds differ from the clock's at the next edge. -/
def commitTimeSet (v : Nat) (s : State) : State × Answer :=
  if s.clk.valid ∧ v ≠ nowSecs s + 1 then (s, errA stStepRefused)
  else ({ s with clk := { s.clk with timeSet := some v } }, effA (effNow s))

end Sys2Proof.Machine
end

