-- ==== Sys2Proof/Machine/Operands.lean ====
section
/-!
DEFINITION. The operand forms of an ODAP request: what object an address names, whether it exists on the unit, and whether a
value has the type and the range its object table states (R50, R64 to R66, R72 to R81, R93).
-/

namespace Sys2Proof.Machine

/-- Rows that describe the 2.4 GHz band in the objects that serve both bands (R181, R202, Table 03-1). -/
def rowOf24 (idx sub row : Nat) : Bool :=
  match idx, sub with
  | 0x3120, 1 => 512 ≤ row && row ≤ 543
  | 0x3200, 1 => 256 ≤ row && row ≤ 271
  | 0x3400, 1 | 0x3400, 2 | 0x3400, 3 => row == 1
  | 0x3400, 4 => 7 ≤ row && row ≤ 13
  | 0x3410, 1 | 0x3410, 7 => row == 1
  | 0x3410, 2 | 0x3410, 3 => row == 8
  | 0x9000, 5 => row == 1
  | _, _ => false

/-- Whether a row of an object that exists is absent on the variant (R50). -/
def rowAbsent (c : Chip) (d : ObjDesc) (row : Nat) : Bool :=
  (d.perNode && c.nodeLimit ≤ row && row ≤ d.maxRow) || (!c.fPackage && rowOf24 d.idx d.sub row)

/-- Whether a row number exists in the object's own table (R64, R50; R218 for the schedule sets). -/
def rowExists (d : ObjDesc) (row : Nat) : Bool :=
  if d.idx = 0x4013 then row < 2 ^ 26 && row / 2 ^ 23 % 2 == 0
  else if d.idx = 0x4012 then row < 2 ^ 26 && row / 2 ^ 16 % 2 ^ 8 == 0
  else decide (d.minRow ≤ row) && decide (row ≤ d.maxRow)

/-- Type codes of Table 04-1. -/
def OdTy.code : OdTy → Nat
  | .bool => 1 | .u8 => 2 | .u16 => 3 | .u32 => 4 | .u64 => 5 | .i8 => 6 | .i16 => 7 | .i32 => 8 | .i64 => 9
  | .q16 => 0xA | .q32 => 0xB | .string => 0xC | .octets => 0xD | .record => 0xE | .array => 0xF | .domain => 0x10

/-- Whether a value has the object's encoding (R66): its size, and 0 or 1 for a BOOL. -/
def encodingOk (d : ObjDesc) (v : Octets) : Bool :=
  match d.ty with
  | .bool => v == [0] || v == [1]
  | .domain => true
  | _ => v.length == d.size

/-- Whether every field of a value lies in the range its table states. -/
def fieldsOk (fs : List FieldSpec) (v : Octets) : Bool :=
  fs.all (fun f =>
    let x : Int := if f.signed then fieldInt v f.off f.size else fieldNat v f.off f.size
    decide (f.lo ≤ x) && decide (x ≤ f.hi))

/-- A gate list with its reserved octets cleared: 22 and 23, and three in each entry (Table 13-3, R5). -/
def maskGates (v : Octets) : Octets :=
  v.mapIdx (fun i b => if i = 22 ∨ i = 23 ∨ (24 ≤ i ∧ 1 ≤ i % 8 ∧ i % 8 ≤ 3) then 0 else b)

/-- The value as it is stored: reserved bits and octets cleared (R5). -/
def masked (d : ObjDesc) (v : Octets) : Octets :=
  if d.idx = 0x6830 ∧ d.sub = 1 then maskGates v else if d.mask = [] then v else (v.zip d.mask).map (fun p => p.1 &&& p.2)

/-- The number of a role bit, the DETAIL of ACCESS_DENIED: OPERATOR 0, INSTALLER 1, PEER 2, VENDOR 3, GESSO 4. -/
def roleNumber (role : Nat) : Nat :=
  if role = 1 then 0 else if role = 2 then 1 else if role = 4 then 2 else if role = 8 then 3 else 4

/-- The objects served in M2, and whether they may be written there (R93). -/
def m2Serves (idx : Nat) (isWrite : Bool) : Bool :=
  (0x1000 ≤ idx && idx ≤ 0x12FF) || (!isWrite && 0x2000 ≤ idx && idx ≤ 0x2FFF) || (0x8000 ≤ idx && idx ≤ 0xBFFF)

/-- Whether the server serves an object: in RETIRED only the identity objects of Table 03-2 and the log (R360), in M2 as R93 states. -/
def served (s : State) (a : Addr) (isWrite : Bool) : Bool :=
  if s.chip.lifeCycle = 4 then a.idx == 0x1000 || a.idx == 0x9100
  else s.ctl.mode != .m2 || m2Serves a.idx isWrite || (a.idx == 0x7000 && a.sub == 6)

/-- Place of a status in the order of R81; the owning chapter's own checks come last. -/
def statusRank (st : Nat) : Nat :=
  if st = stFormatError then 0 else if st = stStaleRequest then 1 else if st = stNoSuchObject then 2
  else if st = stUnsupported then 3 else if st = stAccessDenied then 4 else if st = stInvalidState then 5
  else if st = stTypeMismatch then 6 else if st = stOutOfRange then 7 else if st = stConflict then 8 else 9

/-- The first failure in the order of R81 among the checks that failed, each with its DETAIL. -/
def firstFailure : List (Nat × Nat) → Option (Nat × Nat)
  | [] => none
  | f :: l => match firstFailure l with
    | none => some f
    | some g => if statusRank g.1 < statusRank f.1 then some g else some f

/-- A failed check, listed where `bad` holds. -/
def failIf (bad : Bool) (status : Nat) (detail : Nat := 0) : List (Nat × Nat) := if bad then [(status, detail)] else []

/-- The checks on an address by a role that are the same for every object: it exists, it is not absent, its row exists, the
role has the right, and the mode and the life cycle serve it (R50, R64, R65, R72, R93, R360); `m` is the mode in which a write takes effect (R69). -/
def addrChecks (role : Nat) (isWrite : Bool) (a : Addr) (s : State) (m : Mode := s.ctl.mode) : List (Nat × Nat) :=
  if a.sub = 0 then
    failIf (!indexDefined a.idx) stNoSuchObject ++ failIf (objAbsent s.chip a.idx 1) stUnsupported ++
    failIf isWrite stAccessDenied (roleNumber role) ++
    failIf (!served s a isWrite) stInvalidState s.ctl.mode.code ++
    failIf (a.row != 0) stOutOfRange
  else
    match odFind a.idx a.sub with
    | none => [(stNoSuchObject, 0)]
    | some d =>
      failIf (objAbsent s.chip a.idx a.sub || rowAbsent s.chip d a.row) stUnsupported ++
      failIf ((if isWrite then d.wr else d.rd) &&& role == 0) stAccessDenied (roleNumber role) ++
      failIf (!served s a isWrite) stInvalidState s.ctl.mode.code ++
      failIf (isWrite && d.modes != [] && !d.modes.contains m.code) stInvalidState s.ctl.mode.code ++
      failIf (!rowExists d a.row) stOutOfRange

/-- The checks on a written value that are the same for every object: type code, encoding, and ranges (R66, R79). -/
def valueChecks (a : Addr) (ty : Nat) (v : Octets) : List (Nat × Nat) :=
  match odFind a.idx a.sub with
  | none => []
  | some d => failIf (ty != d.ty.code || !encodingOk d v) stTypeMismatch ++ failIf (!fieldsOk d.fields v) stOutOfRange

/-- The open transaction that holds an object against a writer outside it (R87). -/
def heldBy (txns : List Txn) (own : Nat) (a : Addr) : Option Nat :=
  (txns.find? (fun t => t.id != own &&
    t.staged.any (fun w => w.idx == a.idx && w.sub == a.sub && w.row == a.row))).map (·.id)

/-- CONFLICT where another open transaction has written the object (R87). -/
def conflictChecks (own : Nat) (a : Addr) (s : State) : List (Nat × Nat) :=
  match heldBy s.srv.txns own a with
  | some t => [(stConflict, t)]
  | none => []

end Sys2Proof.Machine
end

