-- ==== Sys2Proof/Machine/Host.lean ====
section
/-!
DEFINITION. Boundaries (spec/18) and the address map (spec/01): who may write where, memory octets, mailboxes and doorbells,
stale captures, Ethernet and PCIe links, the service UART and GPIO wakes.
-/

namespace Sys2Proof.Machine

/-! ### The address map (R26, R27, R290)

Masters are numbered as the mailbox codes of R441 and on from there: 0 PCIe host, 1 Gesso, 2 Canvas, 3 Easel, 4 Shed, 5 Trellis,
6 Riddle, 7 Palette, 8 Glaze, 9 Seedbank (log entry 26). -/

/-- Whether an address lies in `size` octets from `base`. -/
def inRange (a base size : Nat) : Bool := decide (base ≤ a) && decide (a < base + size)

/-- Masters that may write a managed-store address (Table 01-6): of the cell-table region Canvas writes the staging area alone (R219),
and the slots of node indices that the variant does not have stay unused (R27). -/
def storeWriters (s : State) (a : Nat) : List Nat :=
  if inRange a 0x80000000 0x1000000 then [5]
  else if inRange a 0x81000000 0x2000000 then (if a < 0x81000000 + 256 * s.chip.nodeLimit then [3, 2] else [])
  else if inRange a 0x83000000 0x400000 then (if a < 0x83000000 + 32 * s.chip.nodeLimit then [9] else [])
  else if inRange a 0x835C0000 0x40000 then [3, 2]
  else if inRange a 0x83400000 0x200000 then [3]
  else if inRange a 0x83600000 0x2000000 then [5, 6, 3, 2]
  else if inRange a 0x85600000 0x800000 then [8]
  else if inRange a 0x85E00000 0x1000000 then (if s.ctl.mode = .m4 then [7] else [])
  else if inRange a 0x86E00000 0x100000 then [2]
  else if inRange a 0x86F00000 0x100000 then [3]
  else []

/-- Masters that may write an address (Tables 01-5, 12-1); the flash window takes no writes, and the Gesso boot ROM is ROM. -/
def memWriters (s : State) (a : Nat) : List Nat :=
  if inRange a 0x10000000 0x80000 then [3]
  else if inRange a 0x20340000 0x40000 || inRange a 0x2033C000 0x2000 then [2]
  else if inRange a 0x20380000 0x80000 || inRange a 0x2033B000 0x1000 then [5]
  else if inRange a 0x20000000 0x400000 then [2, 3, 5, 6, 1, 4, 0]
  else if inRange a 0x30000000 0x80000 then [1]
  else if inRange a 0x31000000 0x80000 then [4]
  else if inRange a 0x80000000 0x7000000 then storeWriters s a
  else []

/-- Where a range of Tables 01-5, 01-6 or 12-1 begins or the one before it ends. -/
def mapEdges (c : Chip) : List Nat := [
  0x20000, 0x10000000, 0x10080000, 0x20000000, 0x2033B000, 0x2033C000, 0x2033E000, 0x20340000, 0x20380000, 0x203C0000, 0x20400000,
  0x30000000, 0x30080000, 0x31000000, 0x31080000, 0x60000000, 0x80000000, 0x81000000, 0x83000000, 0x83400000, 0x83600000, 0x85600000, 0x85E00000,
  0x835C0000, 0x86E00000, 0x86F00000, 0x87000000, 0x81000000 + 256 * c.nodeLimit, 0x83000000 + 32 * c.nodeLimit, 0x60000000 + min 0x20000000 c.flash]

/-- Addresses that stand for every range an access of `n` octets touches: its first and last octet, and the edges between. -/
def touched (c : Chip) (a n : Nat) : List Nat := a :: (a + n - 1) :: (mapEdges c).filter (fun e => decide (a < e) && decide (e < a + n))

/-- Whether a master may write every octet of a range that lies in one region. -/
def mayWrite (s : State) (master a n : Nat) : Bool := (touched s.chip a n).all (fun x => (memWriters s x).contains master)

/-- Masters that may read an address of memory (Tables 01-5, 01-6); R290 narrows the writers of the Trellis ranges, not the readers. The
flash window ends with the fitted flash. -/
def memReaders (s : State) (a : Nat) : List Nat :=
  if inRange a 0 0x20000 then [1]
  else if inRange a 0x10000000 0x80000 then [3]
  else if inRange a 0x20000000 0x400000 then [2, 3, 5, 6, 1, 4, 0]
  else if inRange a 0x30000000 0x80000 then [1]
  else if inRange a 0x31000000 0x80000 then [4]
  else if inRange a 0x60000000 (min 0x20000000 s.chip.flash) then [1, 4, 2]
  else if inRange a 0x80000000 0x1000000 then [5, 2]
  else if inRange a 0x81000000 0x2000000 then [3, 2, 6]
  else if inRange a 0x83000000 0x400000 then [9]
  else if inRange a 0x83400000 0x200000 then [3, 2]
  else if inRange a 0x83600000 0x2000000 then [5, 6, 3, 2]
  else if inRange a 0x85600000 0x800000 then [8]
  else if inRange a 0x85E00000 0x1000000 then [2, 0]
  else if inRange a 0x86E00000 0x100000 then [2]
  else if inRange a 0x86F00000 0x100000 then [3, 2]
  else []

/-- Whether a master may read every octet of a range that lies in one region. -/
def mayRead (s : State) (master a n : Nat) : Bool := (touched s.chip a n).all (fun x => (memReaders s x).contains master)

/-- What an unlisted address reads as (log entry 25). -/
def memDefault (_ : Nat) : Byte := 0

/-- One octet of memory. -/
def memGet (s : State) (a : Nat) : Byte := sget memDefault s.mem a

/-- Writes one octet of memory. -/
def memSet (a : Nat) (b : Byte) (s : State) : State := { s with mem := sset memDefault s.mem a b }

/-- `n` octets from an address. -/
def memRead (s : State) (a n : Nat) : Octets := (List.range n).map (fun i => memGet s (a + i))

/-- Writes octets from an address up. -/
def memWrite : Nat → Octets → State → State
  | _, [], s => s
  | a, b :: l, s => memWrite (a + 1) l (memSet a b s)

/-- The form of the memory: addresses rising, no octet listed that reads the same unlisted. -/
def Memory.wf (s : State) : Bool := swf memDefault s.mem

/-- An access that R26 refuses: a bus error, an ACCESS_VIOLATION entry, and for the PCIe host MSI-X vector 1 (R434, R436). -/
def accessViolation (master a : Nat) (s : State) : State :=
  let s1 := emit (.busError master a) (logEvent 0x10 2 (beOct 1 master ++ beOct 4 a) s)
  if master = 0 then emit (.msix 1) s1 else s1

/-! ### Mailboxes (R441 to R451) -/

/-- Adds `n` to a field of `size` octets of a record object. -/
def bumpField (idx sub row off size : Nat) (s : State) (n : Nat := 1) : State :=
  let o := odGet s idx sub row
  odPut idx sub row (setField o off size (fieldNat o off size + n)) s

/-- Number of the channel from a sender to a receiver, as MB_COUNT numbers its rows. -/
def chanNo (snd rcv : Nat) : Nat := 5 * snd + rcv

/-- The channel from a sender to a receiver. -/
def chan (s : State) (snd rcv : Nat) : Chan := (s.host.chans[chanNo snd rcv]?).getD {}

/-- Modifies a channel. -/
def modChan (snd rcv : Nat) (f : Chan → Chan) (s : State) : State :=
  { s with host := { s.host with chans := modAt f s.host.chans (chanNo snd rcv) } }

/-- A receiver's page. -/
def page (s : State) (r : Nat) : MbPage := (s.host.pages[r]?).getD {}

/-- Modifies a page. -/
def modPage (r : Nat) (f : MbPage → MbPage) (s : State) : State :=
  { s with host := { s.host with pages := modAt f s.host.pages r } }

/-- Whether two codes name a channel of the unit: distinct, below 5, and without HOST on the C package (R441, R451). -/
def chanExists (s : State) (snd rcv : Nat) : Bool :=
  decide (snd < 5) && decide (rcv < 5) && snd != rcv && (s.chip.fPackage || (snd != 0 && rcv != 0))

/-- A receiver's doorbell with its mask. -/
def rung (p : MbPage) : Nat := p.doorbell &&& p.mask

/-- Sets doorbell bits; for HOST a value that becomes non-zero sends MSI-X vector 0 (R446). -/
def setDoorbell (r bits : Nat) (s : State) : State :=
  let s1 := modPage r (fun p => { p with doorbell := p.doorbell ||| bits }) s
  if r = 0 ∧ rung (page s 0) = 0 ∧ rung (page s1 0) ≠ 0 then emit (.msix 0) s1 else s1

/-- Words with an end mark in a FIFO: PACKETS (R444). -/
def packets (c : Chan) : Nat := (c.fifo.filter (·.2)).length

/-- The count that UNIT selects (R445). -/
def levelCount (c : Chan) : Nat := if c.unit then packets c else c.fifo.length

/-- A word is pushed: discarded after a flush or in reset (R449, R451), discarded and counted without a credit (R443), else
queued, and the doorbell bit is set where the level is crossed (R445). -/
def push (snd rcv : Nat) (w : Nat) (last : Bool) (s : State) : State :=
  let c := chan s snd rcv
  if ¬ chanExists s snd rcv ∨ (page s snd).inReset ∨ (page s rcv).inReset ∨ c.txAborted ∨ c.peerReset then s
  else if c.credits = 0 then
    bumpField 0xA500 1 (chanNo snd rcv) 0 4 (modChan snd rcv (fun c => { c with overrun := true }) s)
  else
    let s1 := modChan snd rcv (fun c => { c with fifo := c.fifo ++ [(w, last)], credits := c.credits - 1 }) s
    if levelCount c < c.level ∧ c.level ≤ levelCount (chan s1 snd rcv) then setDoorbell rcv (2 ^ snd) s1 else s1

/-- A push by a 64-bit write, or by a write of the high half with the low half written before (R442). -/
def pushWrite (snd rcv : Nat) (wide : Bool) (v : Nat) (last : Bool) (s : State) : State :=
  if wide then push snd rcv (v % 2 ^ 64) last (modChan snd rcv (fun c => { c with low := v % 2 ^ 32 }) s)
  else push snd rcv (v % 2 ^ 32 * 2 ^ 32 + (chan s snd rcv).low) last s

/-- MAILBOX_PUSH (R443). -/
def execMailboxPush (snd rcv : Nat) (wide : Bool) (v : Nat) (s : State) : Host.Outcome State Fault Refusal :=
  done s (pushWrite snd rcv wide v false s)

/-- Bits [30:8] of DB_RING set the receiver's SOFT bits (R442, R447). -/
def dbRing (snd rcv v : Nat) (s : State) : State :=
  if chanExists s snd rcv ∧ ¬ (page s rcv).inReset then setDoorbell rcv (v &&& 0x7FFFFF00) s else s

/-- DB_RING_WRITE (R447). -/
def execDbRingWrite (snd rcv v : Nat) (s : State) : Host.Outcome State Fault Refusal := done s (dbRing snd rcv v s)

/-- A pop (R444): the head word and a credit, or UNDERRUN. -/
def popWord (rcv snd : Nat) (s : State) : State :=
  let c := chan s snd rcv
  match c.fifo with
  | [] =>
    emit (.word rcv (c.last % 2 ^ 32)) (bumpField 0xA500 1 (chanNo snd rcv) 4 4 (modChan snd rcv (fun c => { c with underrun := true }) s))
  | w :: l =>
    emit (.word rcv (w.1 % 2 ^ 32)) (modChan snd rcv (fun c => { c with
      fifo := l, last := w.1, lastEnd := w.2, credits := if c.txAborted then c.credits else min 8 (c.credits + 1) }) s)

/-- A write of RX_LEVEL; a LEVEL of 0 or above 8 leaves the field (Table 18-7); it never sets the bit (R445). -/
def rxLevel (rcv snd v : Nat) (s : State) : State :=
  modChan snd rcv (fun c => { c with
    unit := bit v 4, level := if 1 ≤ v % 16 ∧ v % 16 ≤ 8 then v % 16 else c.level }) s

/-- RX_LEVEL_WRITE (R445). -/
def execRxLevelWrite (rcv snd v : Nat) (s : State) : Host.Outcome State Fault Refusal :=
  if chanExists s snd rcv then done s (rxLevel rcv snd v s) else done s s

/-- The write-one-to-clear bits of DOORBELL (Table 18-9). -/
def doorbellW1c : Nat := 0xFFFFFF1F

/-- `v` with the bits of `m` cleared, in 32 bits. -/
def clearBits (v m : Nat) : Nat := v - (v &&& m)

/-- A write of DOORBELL or of its mask; for HOST a value still non-zero sends MSI-X vector 0 again (R446). -/
def doorbell (r : Nat) (toMask : Bool) (v : Nat) (s : State) : State :=
  let s1 := modPage r (fun p =>
    if toMask then { p with mask := v % 2 ^ 32 } else { p with doorbell := clearBits p.doorbell (v &&& doorbellW1c) }) s
  if r = 0 ∧ rung (page s1 0) ≠ 0 then emit (.msix 0) s1 else s1

/-- DOORBELL_WRITE (R446). -/
def execDoorbellWrite (rcv : Nat) (toMask : Bool) (v : Nat) (s : State) : Host.Outcome State Fault Refusal :=
  if rcv < 5 ∧ (rcv ≠ 0 ∨ s.chip.fPackage) ∧ ¬ (page s rcv).inReset then done s (doorbell rcv toMask v s) else done s s

/-- A write of TX_STATUS clears OVERRUN and, while the receiver is not in reset, ABORTED, which gives back 8 credits
(Table 18-5, R449). -/
def txStatusWrite (snd rcv v : Nat) (s : State) : State :=
  modChan snd rcv (fun c =>
    let c1 := { c with overrun := c.overrun && !bit v 9 }
    if bit v 8 ∧ c.txAborted ∧ ¬ c.peerReset then { c1 with txAborted := false, credits := 8 } else c1) s

/-- A write of RX_STATUS clears ABORTED and UNDERRUN (Table 18-6). -/
def rxStatusWrite (rcv snd v : Nat) (s : State) : State :=
  modChan snd rcv (fun c => { c with rxAborted := c.rxAborted && !bit v 15, underrun := c.underrun && !bit v 14 }) s

/-- A flush as the end that is not in reset sees it (R449, R450). -/
def noticeAbort (other : Nat) (no : Nat) (s : State) : State :=
  bumpField 0xA500 1 no 8 4 (setDoorbell other (2 ^ 31) s)

/-- Receiver `r` enters reset: the channels between it and `o` are flushed, and `o` has notice unless it is in reset too. -/
def flushPair (r o : Nat) (s : State) : State :=
  if ¬ chanExists s o r then s
  else
    let live := !(page s o).inReset
    let s1 := modChan o r (fun c => { c with
      fifo := [], unit := false, level := 1, last := 0, lastEnd := false, underrun := false, rxAborted := false
      txAborted := live, peerReset := live, credits := if live then 0 else 8, low := if live then c.low else 0
      overrun := live && c.overrun }) s
    let s2 := modChan r o (fun c => { c with
      fifo := [], low := 0, overrun := false, txAborted := false, peerReset := !live, credits := 8
      rxAborted := live, underrun := live && c.underrun }) s1
    if live then noticeAbort o (chanNo r o) (noticeAbort o (chanNo o r) s2) else s2

/-- Receivers reset together: each is marked in reset first, so that two ends that reset at once have no notice (R449, R450). -/
def resetReceivers (rs : List Nat) (s : State) : State :=
  let s1 := rs.foldl (fun s r => modPage r (fun p => { p with mask := 0, inReset := true }) s) s
  rs.foldl (fun s r => [0, 1, 2, 3, 4].foldl (fun s o => flushPair r o s) s) s1

/-- A receiver leaves reset: PEER_IN_RESET clears at its senders (R449). -/
def releaseReceiver (r : Nat) (s : State) : State :=
  [0, 1, 2, 3, 4].foldl (fun s o =>
    if chanExists s o r then modChan o r (fun c => { c with peerReset := false }) s else s)
    (modPage r (fun p => { p with inReset := false }) s)

/-! ### Crossings, links, UART and GPIO -/

/-- The key of a reader's captures from a source. -/
def captureKey (master addr : Nat) : Nat := master * 2 ^ 32 + addr

/-- The value that a reader last accepted from a source (R456). The captures that are commands leave theirs here; for any other the value is free (log
entry 189). -/
def lastCaptured (master addr : Nat) (s : State) : Nat × State :=
  match s.host.captured.find? (fun p => p.1 == captureKey master addr) with
  | some p => (p.2, s)
  | none => let r := takeFree s; (r.1 % 2 ^ 32, r.2)

/-- A reader accepts the value of a capture (R454). -/
def noteCapture (master addr v : Nat) (s : State) : State :=
  { s with host := { s.host with captured := sinsert (captureKey master addr) v s.host.captured } }

/-- CDC_STALE_CAPTURE (R456). -/
def execCdcStaleCapture (master addr : Nat) (fixedFunction : Bool) (s : State) : Host.Outcome State Fault Refusal :=
  let s1 := logEvent 0x10 2 (beOct 1 master ++ beOct 4 addr) s
  if fixedFunction then done s (bump 0xA500 2 0 s1)
  else
    let r := lastCaptured master addr s1
    done s (emit (.word master r.1) (modPage master (fun p => { p with
      stale := true, staleCount := min 65535 (p.staleCount + 1), staleAddr := addr }) r.2))

/-- Link state of a port. -/
def ethUp (s : State) (port : Nat) : Bool := ((s.host.eth[port]?).map (·.1)).getD false

/-- The speed of a port that comes up, by its ETH_MODE (R431): that of the SGMII control word, 1,000 in 1000BASE-X, 2,500 in 2500BASE-X; none where it does not. -/
def linkSpeed (mode word : Nat) : Option Nat :=
  match mode with
  | 0 => if word = 10 ∨ word = 100 ∨ word = 1000 then some word else none
  | 1 => some 1000
  | 2 => some 2500
  | _ => none

/-- A port goes up or down, and a transition is counted (R432); a disabled port stays down (R431). -/
def setLink (port : Nat) (up : Bool) (speed : Nat) (s : State) : State :=
  if 2 ≤ port then s
  else
    let v := linkSpeed (odNat s 0xA100 1 port) speed
    let up' := up && v.isSome && s.ctl.domains[6]? == some .on
    let s1 := { s with host := { s.host with eth := setAt s.host.eth port (up', if up' then v.getD 0 else 0) } }
    if ethUp s port = up' then s1 else bump 0xA100 4 (8 * port + 6) s1

/-- ETH_LINK_CHANGE (R432). -/
def execEthLinkChange (port : Nat) (up : Bool) (speed : Nat) (s : State) : Host.Outcome State Fault Refusal :=
  done s (setLink port up speed s)

/-- The link goes down, and the session of the descriptor pair starts anew (R437, R76). -/
def linkDown (s : State) : State :=
  endSessions (fun u => u.transport == 2) { s with host := { s.host with pcie := (false, 0, 0) } }

/-- The endpoint goes down: HOST resets with it (R437). -/
def pcieDown (s : State) : State := resetReceivers [0] (linkDown s)

/-- PCIE_RESET (R437). -/
def execPcieReset (s : State) : Host.Outcome State Fault Refusal :=
  if s.chip.fPackage then done s (pcieDown s) else done s s

/-- PCIE_LINK_UP (R433, R437): at or below PCIE_MAX_GEN, x1 or x2, with D6 on. -/
def execPcieLinkUp (gen width : Nat) (s : State) : Host.Outcome State Fault Refusal :=
  if s.chip.fPackage ∧ s.ctl.domains[6]? = some .on ∧ 1 ≤ gen ∧ 1 ≤ width then
    done s (releaseReceiver 0 { s with host := { s.host with pcie := (true, min gen (odNat s 0xA200 2), min width 2) } })
  else done s s

/-- GPIO_WAKE (R440): the edge that WAKE of GPIO_0 to GPIO_7 chooses. -/
def execGpioWake (pin : Nat) (rising : Bool) (s : State) : Host.Outcome State Fault Refusal :=
  if pin < 8 ∧ odField s 0xA400 1 pin 2 1 = (if rising then 1 else 2) then done s (wake false s) else done s s

end Sys2Proof.Machine
end

