-- ==== Sys2Proof/Machine/Trellis.lean ====
section
/-!
DEFINITION. Trellis's arrays (spec/12): hashes, lookup, insertion by relocation and stash, deletion, the digest ring and the
scrubber.
-/

namespace Sys2Proof.Machine

/-! ### Hashes and digests (R292, R309) -/

/-- Eight steps of the reflected CRC-32C register. -/
def crc32cBits : Nat → BitVec 32 → BitVec 32
  | 0, r => r
  | n + 1, r => crc32cBits n ((r >>> 1) ^^^ (if r.getLsbD 0 then 0x82F63B78#32 else 0#32))

/-- crc32c(seed, s) of R292. -/
def crc32c (seed : BitVec 32) (o : Octets) : BitVec 32 :=
  o.foldl (fun r b => crc32cBits 8 (r ^^^ b.setWidth 32)) seed ^^^ 0xFFFFFFFF#32

/-- Eight steps of the CRC-16 register, most significant bit first. -/
def crc16Bits : Nat → BitVec 16 → BitVec 16
  | 0, r => r
  | n + 1, r => crc16Bits n ((r <<< 1) ^^^ (if r.getLsbD 15 then 0x1021#16 else 0#16))

/-- The CRC-16 of R309. -/
def crc16 (o : Octets) : Nat :=
  (o.foldl (fun r b => crc16Bits 8 (r ^^^ BitVec.ofNat 16 (b.toNat * 256))) 0xFFFF#16).toNat

/-! ### Arrays -/

/-- Buckets per way (R292). -/
def arrayNb (arr : Nat) : Nat := if arr = 0 then 65536 else 1024

/-- Octets of Table 12-3's key by TAG. -/
def keyLen (tag : Nat) : Nat :=
  match tag with
  | 1 => 8 | 2 => 4 | 3 => 16 | 4 => 6 | _ => 2

/-- The bucket of an entry in a way (R292). -/
def bucketOf (way : Nat) (tag : Nat) (key : Octets) : Nat :=
  let o := BitVec.ofNat 8 tag :: key
  let nb := arrayNb (arrayOf tag)
  if way = 0 then (crc32c 0x5A17C3E9#32 o).toNat % nb else nb + (crc32c 0xB4D20F61#32 o).toNat % nb

/-- The entry in a slot of a bucket. -/
def slotGet (t : Tre) (arr b k : Nat) : TEntry := sget (fun _ => {}) (tarray t arr).slots (4 * b + k)

/-- An entry's 32 octets (Table 12-2). -/
def entryOctets (e : TEntry) : Octets :=
  [BitVec.ofNat 8 e.tag, BitVec.ofNat 8 e.flags] ++ leOct 2 e.aux ++ leOct 4 e.value ++ leOct 8 e.next ++ padTo 16 e.key

/-- The digest of a bucket (R309). -/
def bucketDigest (t : Tre) (arr b : Nat) : Nat := crc16 ((List.range 4).flatMap (fun k => entryOctets (slotGet t arr b k)))

/-- A notice of a change (R310). -/
def notice (arr b : Nat) (t : Tre) : Tre :=
  let d := bucketDigest t arr b
  { t with
    ring := t.ring ++ [(arr, b, d, t.noticeSeq)], wr := (t.wr + 1) % 510, noticeSeq := (t.noticeSeq + 1) % 65536
    notices := sset (fun _ => 0) t.notices t.wr (arr * 2 ^ 30 + b + d * 2 ^ 32 + t.noticeSeq * 2 ^ 48) }

/-- Writes a slot, with its notice; what stood there poisoned is written over (R29). -/
def slotSet (arr b k : Nat) (e : TEntry) (t : Tre) : Tre :=
  let at_ := 0x80000000 + 128 * b + 32 * k
  notice arr b { t with bad := t.bad.filter (fun a => arr != 0 || decide (a < at_) || decide (at_ + 32 ≤ a)), arrays := modAt (fun a => { a with slots := sset (fun _ => {}) a.slots (4 * b + k) e }) t.arrays arr }

/-- Writes a stash entry. -/
def stashSet (arr k : Nat) (e : TEntry) (t : Tre) : Tre :=
  { t with arrays := modAt (fun a => { a with stash := setAt a.stash k e }) t.arrays arr }

/-- Whether an entry is the one of a key. -/
def isEntry (tag : Nat) (key : Octets) (e : TEntry) : Bool := e.tag == tag && e.key == key && tag != 0

/-- Where a key's entry stands: a bucket's slot or a stash place. -/
inductive Place
  | slot (b k : Nat)
  | stash (k : Nat)
  deriving DecidableEq, Repr

/-- Looks in one bucket. -/
def findIn (t : Tre) (tag : Nat) (key : Octets) (b : Nat) : Option Nat :=
  (List.range 4).find? (fun k => isEntry tag key (slotGet t (arrayOf tag) b k))

/-- The place of a key: bucket 0, bucket 1, the stash (R293). -/
def place (t : Tre) (tag : Nat) (key : Octets) : Option Place :=
  match findIn t tag key (bucketOf 0 tag key) with
  | some k => some (.slot (bucketOf 0 tag key) k)
  | none => match findIn t tag key (bucketOf 1 tag key) with
    | some k => some (.slot (bucketOf 1 tag key) k)
    | none => ((List.range 8).find? (fun k =>
        isEntry tag key (((tarray t (arrayOf tag)).stash[k]?).getD {}))).map .stash

/-- The entry at a place. -/
def entryAt (t : Tre) (arr : Nat) : Place → TEntry
  | .slot b k => slotGet t arr b k
  | .stash k => ((tarray t arr).stash[k]?).getD {}

/-- The addresses among `bad` that lie in a bucket of the managed store; only the node array is held there (Table 12-1). -/
def badIn (arr b : Nat) (bad : List Nat) : List Nat :=
  if arr = 0 then bad.filter (fun a => decide ((a - 0x80000000) / 128 = b) && decide (0x80000000 ≤ a)) else []

/-- A lookup whose reads of the addresses `bad` are poisoned (R29, R293): a poisoned bucket holds no match and the lookup goes on. With
the entry, the poisoned addresses that it read, in the order of the reads. -/
def lookupPast (t : Tre) (tag : Nat) (key : Octets) (bad : List Nat) : Option TEntry × List Nat :=
  let arr := arrayOf tag
  let found (b : Nat) : Option TEntry :=
    if badIn arr b bad = [] then (findIn t tag key b).map (slotGet t arr b) else none
  let b0 := bucketOf 0 tag key
  let b1 := bucketOf 1 tag key
  match found b0 with
  | some e => (some e, [])
  | none =>
    match found b1 with
    | some e => (some e, badIn arr b0 bad)
    | none =>
      (match (List.range 8).find? (fun k => isEntry tag key (entryAt t arr (.stash k))) with
       | some k => some (entryAt t arr (.stash k))
       | none => if isEntry tag key t.reloc then some t.reloc else none,
       badIn arr b0 bad ++ badIn arr b1 bad)

/-- A lookup (R293): the two buckets but for the poisoned ones, the stash, the relocation register. -/
def lookup (t : Tre) (tag : Nat) (key : Octets) : Option TEntry := (lookupPast t tag key t.bad).1

/-! ### Insertion and deletion (R294, R295) -/

/-- The lowest empty slot of a bucket. -/
def emptySlot (t : Tre) (arr b : Nat) : Option Nat := (List.range 4).find? (fun k => (slotGet t arr b k).tag == 0)

/-- Writes an entry to an empty slot of one of its buckets, way 0 first. -/
def placeDirect (e : TEntry) (t : Tre) : Option Tre :=
  let arr := arrayOf e.tag
  let b0 := bucketOf 0 e.tag e.key
  let b1 := bucketOf 1 e.tag e.key
  match emptySlot t arr b0 with
  | some k => some (slotSet arr b0 k e t)
  | none => (emptySlot t arr b1).map (fun k => slotSet arr b1 k e t)

/-- The relocation loop of R294, `fuel` moves left; the log holds bucket, slot and victim, last move first. -/
def relocate (fuel : Nat) (cur : TEntry) (last : Option Nat) (log : List (Nat × Nat × TEntry)) (t : Tre) :
    Tre × Option TEntry × List (Nat × Nat × TEntry) :=
  match placeDirect cur t with
  | some t' => (t', none, log)
  | none =>
    match fuel with
    | 0 => (t, some cur, log)
    | fuel + 1 =>
      let arr := arrayOf cur.tag
      let b := bucketOf (if last = some (bucketOf 0 cur.tag cur.key) then 1 else 0) cur.tag cur.key
      let k := (63 - fuel) % 4
      let victim := slotGet t arr b k
      relocate fuel victim (some b) ((b, k, victim) :: log) (slotSet arr b k cur t)

/-- Undoes a log, last move first. -/
def undo (arr : Nat) : List (Nat × Nat × TEntry) → Tre → Tre
  | [], t => t
  | (b, k, e) :: l, t => undo arr l (slotSet arr b k e t)

/-- An insertion (R294): in place where the key is present, else by relocation and stash, else undone and refused. -/
def insertEntry (e : TEntry) (t : Tre) : Tre × Bool :=
  let arr := arrayOf e.tag
  match place t e.tag e.key with
  | some (.slot b k) => (slotSet arr b k e t, true)
  | some (.stash k) => (stashSet arr k e t, true)
  | none =>
    match relocate 64 e none [] t with
    | (t1, none, _) => (t1, true)
    | (t1, some cur, log) =>
      match (List.range 8).find? (fun k => (((tarray t1 arr).stash[k]?).getD {}).tag == 0) with
      | some k => (stashSet arr k cur t1, true)
      | none => (undo arr log t1, false)

/-- Tries one stash entry against its two buckets without relocation (R295). -/
def unstash (arr k : Nat) (t : Tre) : Tre :=
  let e := ((tarray t arr).stash[k]?).getD {}
  if e.tag = 0 then t
  else match placeDirect e t with
    | some t' => stashSet arr k {} t'
    | none => t

/-- A deletion clears the entry and retries the stash in order (R295). -/
def deleteEntry (tag : Nat) (key : Octets) (t : Tre) : Tre :=
  let arr := arrayOf tag
  match place t tag key with
  | none => t
  | some p =>
    let t1 := match p with
      | .slot b k => slotSet arr b k {} t
      | .stash k => stashSet arr k {} t
    (List.range 8).foldl (fun t k => unstash arr k t) t1

/-- Entries a table may hold: the variant's node count, or 4,096 (R51, R290); none in FABRIC on an L variant (R297). -/
def tableLimit (c : Chip) (tag : Nat) : Nat :=
  if tag ≤ 3 then c.nodeLimit else if tag = 4 then 4096 else if c.hFabric then 4096 else 0

/-- One slot of a bucket is cleared, whatever stands in it, and the stash is retried (R295, R312). -/
def clearSlot (arr b k : Nat) (t : Tre) : Tre := (List.range 8).foldl (fun t k => unstash arr k t) (slotSet arr b k {} t)

/-- The tables with every change that waits applied. -/
def settledTre : List TableOp → Tre → Tre
  | [], t => t
  | .insert e :: l, t => settledTre l (insertEntry e t).1
  | .remove tag key :: l, t => settledTre l (deleteEntry tag key t)
  | .clear arr b k :: l, t => settledTre l (clearSlot arr b k t)

/-- Whether an insertion is refused: by a table's limit, or by R294 (R51, R290). -/
def refuses (c : Chip) (e : TEntry) (t : Tre) : Bool :=
  e.tag == 0 || decide (5 < e.tag) || ((place t e.tag e.key).isNone && decide (tableLimit c e.tag ≤ tableCount t e.tag)) || !(insertEntry e t).2

/-- Whether the digest ring has no free entry: WR and AP count modulo 510 (log entry 27). -/
def ringFull (t : Tre) : Bool := decide (509 ≤ t.ring.length)

/-- What came of an insertion. -/
inductive Inserted
  | ok | tableFull | waits
  deriving DecidableEq, Repr

/-- An insertion with its limits (R51, R290, R294, R310): with no room in the ring for its notices nothing changes, and a refusal
leaves array and stash as they were and is counted. -/
def insertNow (e : TEntry) (s : State) : State × Inserted :=
  let t := s.tre
  if e.tag = 0 ∨ 5 < e.tag then (s, .tableFull)
  else if (place t e.tag e.key).isNone ∧ tableLimit s.chip e.tag ≤ tableCount t e.tag then (bump 0x6400 3 0 s, .tableFull)
  else
    let r := insertEntry e t
    if ringFull t ∨ 509 < r.1.ring.length then (s, .waits)
    else if r.2 then ({ s with tre := r.1 }, .ok)
    else (bump 0x6400 3 0 { s with tre := r.1 }, .tableFull)

/-- A change joins those that wait for the ring (R310). -/
def defer (op : TableOp) (s : State) : State := { s with tre := { s.tre with waiting := s.tre.waiting ++ [op] } }

/-- An insertion by a source of Table 12-4: behind the changes that wait, it waits too (R294: one change at a time). One that the changes
ahead of it will leave refused is refused at once, so that its source has TABLE_FULL (R297, R499). -/
def tableInsert (e : TEntry) (s : State) : State × Inserted :=
  let r := if s.tre.waiting = [] then insertNow e s else (s, .waits)
  if r.2 = .waits then
    (if refuses s.chip e (settledTre s.tre.waiting s.tre) then (bump 0x6400 3 0 s, .tableFull) else (defer (.insert e) s, .waits))
  else r

/-- Whether a deletion's notices find room in the ring (R310). -/
def deletable (tag : Nat) (key : Octets) (t : Tre) : Bool :=
  (place t tag key).isNone || (!ringFull t && decide ((deleteEntry tag key t).ring.length ≤ 509))

/-- One slot is cleared; it waits as an insertion does. -/
def tableClear (arr b k : Nat) (s : State) : State :=
  if s.tre.waiting = [] ∧ ¬ ringFull s.tre ∧ (clearSlot arr b k s.tre).ring.length ≤ 509 then { s with tre := clearSlot arr b k s.tre }
  else defer (.clear arr b k) s

/-- A deletion; it waits as an insertion does. -/
def tableDelete (tag : Nat) (key : Octets) (s : State) : State :=
  if s.tre.waiting = [] ∧ deletable tag key s.tre then { s with tre := deleteEntry tag key s.tre } else defer (.remove tag key) s

/-- Whether Trellis runs: D3 and D5 are on (Tables 01-2, 02-2). -/
def trellisRuns (s : State) : Bool := s.ctl.domains[3]? == some .on

/-- Network seconds as AUX of a MAC entry holds them. -/
def macTime (s : State) : Nat := nowSecs s % 65536

/-- An insertion by Canvas or Hedgerow control, which hold the entry from then on and are told what became of it (R297, R312). -/
def ownInsert (e : TEntry) (s : State) : State :=
  let r := tableInsert e s
  let others := s.tre.owned.filter (fun x => !(x.tag == e.tag && x.key == e.key))
  let full := r.2 = .tableFull
  emit (.inserted (if full then stTableFull else stOk))
    { r.1 with tre := { r.1.tre with owned := if full then s.tre.owned else others ++ [e] } }

/-- A deletion by Canvas or Hedgerow control. -/
def ownDelete (tag : Nat) (key : Octets) (s : State) : State :=
  tableDelete tag key { s with tre := { s.tre with owned := s.tre.owned.filter (fun x => !(x.tag == tag && x.key == key)) } }

/-- TABLE_INSERT (R294): by one of the sources of Table 12-4. -/
def execTableInsert (tag flags value next : Nat) (key : Octets) (s : State) : Host.Outcome State Fault Refusal :=
  if trellisRuns s ∧ key.length = keyLen tag then
    done s (ownInsert { tag := tag, flags := flags % 8, aux := if tag = 4 then macTime s else 0, value := value, next := next
                        key := key } s)
  else done s s

/-- TABLE_DELETE (R295). -/
def execTableDelete (tag : Nat) (key : Octets) (s : State) : Host.Outcome State Fault Refusal :=
  if trellisRuns s ∧ 1 ≤ tag ∧ tag ≤ 5 then done s (ownDelete tag key s) else done s s

/-- Addresses whose reads are found poisoned stay so until their slot is written (R29). -/
def keepBad (bad : List Nat) (s : State) : State := { s with tre := { s.tre with bad := s.tre.bad ++ bad.filter (fun a => !s.tre.bad.contains a) } }

/-- What the reads of a lookup leave: Shed logs each poisoned one (R29, R293). -/
def lookupReads (tag : Nat) (key : Octets) (s : State) : State := (lookupPast s.tre tag key s.tre.bad).2.foldl (fun s a => logPoison a s) s

/-- TABLE_LOOKUP (R293); `bad` gives managed-store addresses whose reads are poisoned (R29), beside those known to be; Shed logs each that
is read. -/
def execTableLookup (tag : Nat) (key : Octets) (bad : List Nat) (s : State) : Host.Outcome State Fault Refusal :=
  let r := lookupPast s.tre tag key (s.tre.bad ++ bad)
  done s (r.2.foldl (fun s a => logPoison a s) (emit (.lookup r.1) (keepBad r.2 s)))

/-! ### The digest ring and the scrubber (R310 to R312) -/

/-- The digest of an empty bucket, which the shadow of one never changed holds. -/
def emptyDigest (_ : Nat) : Nat := crc16 (zeros 128)

/-- The shadow digest of a bucket; unlisted, that of an empty one. -/
def shadowOf (t : Tre) (arr b : Nat) : Nat := sget emptyDigest t.shadow (arr * 2 ^ 17 + b)

/-- Changes that waited run again, oldest first, while the ring has room. -/
def resumeWaiting : Nat → State → State
  | 0, s => s
  | n + 1, s =>
    match s.tre.waiting with
    | [] => s
    | .insert e :: l =>
      let r := insertNow e { s with tre := { s.tre with waiting := l } }
      if r.2 = .waits then s else resumeWaiting n r.1
    | .remove tag key :: l =>
      if deletable tag key s.tre then resumeWaiting n { s with tre := deleteEntry tag key { s.tre with waiting := l } } else s
    | .clear arr b k :: l =>
      if ¬ ringFull s.tre ∧ (clearSlot arr b k s.tre).ring.length ≤ 509 then resumeWaiting n { s with tre := clearSlot arr b k { s.tre with waiting := l } }
      else s

/-- Canvas applies the oldest notice: the shadow takes its digest and AP advances (R310). -/
def ringAdvance (s : State) : State :=
  match s.tre.ring with
  | [] => s
  | (arr, b, d, _) :: l =>
    let s1 := { s with tre := { s.tre with
      ring := l, ap := (s.tre.ap + 1) % 510
      shadow := sset emptyDigest s.tre.shadow (arr * 2 ^ 17 + b) d } }
    resumeWaiting s1.tre.waiting.length s1

/-- DIGEST_RING_ADVANCE (R310): while Canvas runs. -/
def execDigestRingAdvance (s : State) : Host.Outcome State Fault Refusal :=
  if s.ctl.domains[4]? = some .on then done s (ringAdvance s) else done s s

/-- Whether an entry was learned. -/
def learned (e : TEntry) : Bool := e.tag == 4 && e.flags % 2 == 0

/-- Whether an enabled row among the first `n` of a static table holds a key at an offset. -/
def staticHolds (s : State) (idx sub n off : Nat) (key : Octets) : Bool :=
  (List.range n).any (fun r => odField s idx sub r 0 1 == 1 && ((odGet s idx sub r).drop off).take key.length == key)

/-- Whether a STORED object, Canvas or Hedgerow control holds an entry (R297, R312; log entry 194). -/
def stillHeld (s : State) (e : TEntry) : Bool :=
  !learned e && (s.tre.owned.any (fun x => x.tag == e.tag && x.key == e.key) ||
    match e.tag with
    | 1 => odField s 0x5010 1 e.value 0 8 != 0 && beOct 8 (odField s 0x5010 1 e.value 0 8) == e.key
    | 2 => odField s 0x5010 1 e.value 0 8 != 0 &&
        beOct 2 (panField s (odField s 0x5010 1 e.value 8 1) 2 2) ++ beOct 2 (odField s 0x5010 1 e.value 10 2) == e.key
    | 3 => staticHolds s 0x6420 1 1024 16 e.key
    | 4 => staticHolds s 0x6410 4 64 2 e.key
    | _ => false)

/-- Canvas rebuilds a bucket after a mismatch: every entry is deleted, and every one that is still held is inserted again (R312). -/
def rebuildBucket (arr b : Nat) (s : State) : State :=
  let full := (List.range 4).filter (fun k => (slotGet s.tre arr b k).tag != 0)
  let s1 := full.foldl (fun s k => tableClear arr b k s) s
  ((full.map (slotGet s.tre arr b)).filter (stillHeld s)).foldl (fun s e => (tableInsert e s).1) s1

/-- The comparison of one bucket (R311). -/
def scrubCompare (arr b : Nat) (poisoned : Bool) (s : State) : State :=
  let d := bucketDigest s.tre arr b
  if d = shadowOf s.tre arr b ∧ ¬ poisoned then s
  else
    rebuildBucket arr b (bump 0x6400 3 10
      (logEvent 0x38 2 (beOct 1 arr ++ beOct 4 b ++ beOct 2 d ++ beOct 2 (shadowOf s.tre arr b)) s))

/-- Learned MAC entries of a bucket, and those of the stash that it is a candidate for (log entry 176), unseen for more than MAC_AGE leave
(R300). -/
def ageBucket (b : Nat) (s : State) : State :=
  let old (e : TEntry) : Bool := learned e && decide (odNat s 0x6410 3 < (macTime s + 65536 - e.aux) % 65536)
  let stashed := (tarray s.tre 1).stash.filter (fun e => bucketOf 0 4 e.key == b || bucketOf 1 4 e.key == b)
  ((List.range 4).map (slotGet s.tre 1 b) ++ stashed).foldl (fun s e =>
    if old e then tableDelete 4 e.key s else s) s

/-- The bucket after one in a walk: array 3 stands for the buckets left to the end. -/
def scrubNext (arr b : Nat) : Nat × Nat := if b + 1 < 2 * arrayNb arr then (arr, b + 1) else (arr + 1, 0)

/-- The end of a walk: its duration in ms, and the count of full walks. -/
def walkEnds (s : State) : State :=
  bump 0x6400 3 11 (odPut 0x6400 4 0 (beOct 4 ((s.clk.elapsed - s.tre.scrubSince) / msCycles)) { s with tre := { s.tre with
    scrubAt := (0, 0), scrubSince := s.clk.elapsed, scrubLate := [] } })

/-- SCRUB_BUCKET (R300, R311): the next bucket of the walk, or of those left to its end, of which one that a notice still names goes behind the
others; `poisoned` that its read was poisoned twice. -/
def execScrubBucket (poisoned : Bool) (s : State) : Host.Outcome State Fault Refusal :=
  if ¬ trellisRuns s then done s s
  else
    let arr := s.tre.scrubAt.1
    let b := s.tre.scrubAt.2
    if arr < 3 then
      let pendingNotice := s.tre.ring.any (fun n => n.1 == arr && n.2.1 == b)
      let s1 := if pendingNotice then { s with tre := { s.tre with scrubLate := s.tre.scrubLate ++ [(arr, b)] } }
        else scrubCompare arr b poisoned s
      let s2 := if arr = 1 then ageBucket b s1 else s1
      let nx := scrubNext arr b
      let s3 := { s2 with tre := { s2.tre with scrubAt := nx } }
      done s (if nx.1 = 3 ∧ s3.tre.scrubLate = [] then walkEnds s3 else s3)
    else
      match s.tre.scrubLate with
      | [] => done s (walkEnds s)
      | (a, b') :: l =>
        if s.tre.ring.any (fun n => n.1 == a && n.2.1 == b') then done s { s with tre := { s.tre with scrubLate := l ++ [(a, b')] } }
        else
          let s2 := scrubCompare a b' poisoned { s with tre := { s.tre with scrubLate := l } }
          done s (if l = [] then walkEnds s2 else s2)

/-! ### Trellis's ranges on the bus (Table 12-1) -/

/-- Whether an address lies in a range of Table 12-1. -/
def trellisRange (a : Nat) : Bool :=
  inRange a 0x80000000 0x1000000 || inRange a 0x20380000 0x80000 || inRange a 0x20340000 0x40000 || inRange a 0x2033C000 0x2000 ||
    inRange a 0x2033B000 0x1000

/-- The `o`-th octet of an array. -/
def arrayOctet (t : Tre) (arr o : Nat) : Option Byte := (entryOctets (slotGet t arr (o / 128) (o / 32 % 4)))[o % 32]?

/-- An octet of one of Trellis's ranges: arrays, shadow digests, and the digest ring with its header (R310). -/
def trellisGet (t : Tre) (a : Nat) : Option Byte :=
  if inRange a 0x80000000 0x1000000 then arrayOctet t 0 (a - 0x80000000)
  else if inRange a 0x20380000 0x40000 then arrayOctet t 1 (a - 0x20380000)
  else if inRange a 0x203C0000 0x40000 then arrayOctet t 2 (a - 0x203C0000)
  else if inRange a 0x20340000 0x40000 then (leOct 2 (shadowOf t 0 ((a - 0x20340000) / 2)))[a % 2]?
  else if inRange a 0x2033C000 0x2000 then
    (leOct 2 (shadowOf t (1 + (a - 0x2033C000) / 4096) ((a - 0x2033C000) / 2 % 2048)))[a % 2]?
  else if a < 0x2033B010 then (leOct 4 t.wr ++ leOct 4 t.ap ++ zeros 8)[a - 0x2033B000]?
  else (leOct 8 (sget (fun _ => 0) t.notices ((a - 0x2033B010) / 8)))[(a - 0x2033B010) % 8]?

/-- One octet of a shadow digest, by its number over the three arrays, as Canvas writes it (R290). -/
def shadowSet (k i : Nat) (b : Byte) (t : Tre) : Tre :=
  let v := sget emptyDigest t.shadow k
  { t with shadow := sset emptyDigest t.shadow k (if i = 0 then v / 256 * 256 + b.toNat else b.toNat * 256 + v % 256) }

/-- Modifies Trellis's state. -/
def modTre (f : Tre → Tre) (s : State) : State := { s with tre := f s.tre }

/-- The boot-control record in octets (Table 16-6). -/
def BootRec.encode (r : BootRec) : Octets :=
  let o := beOct 4 0x464C4243 ++ beOct 4 r.seq ++ beOct 1 r.confirmed ++ beOct 1 (r.pending.getD 0xFF) ++ beOct 1 (b2n r.trial) ++ beOct 1 (b2n r.raise) ++
    padTo 32 r.confDigest ++ padTo 32 r.pendDigest ++ padTo 32 r.rejDigest
  o ++ beOct 2 (crc16 o)

/-- An octet of external flash where Table 16-3 and the model give its content: the two copies of the boot-control record and the two
firmware banks; erased flash reads 0xFF (log entry 2). -/
def flashGet (s : State) (o : Nat) : Option Byte :=
  let copy (r : Option BootRec) (i : Nat) : Byte := ((r.bind (fun x => x.encode[i]?))).getD 0xFF
  let bank (b i : Nat) : Byte := ((s.fw.banks[b]?).bind (fun l => l[i]?)).getD 0xFF
  if o < 0x80000 then some (copy s.fw.copyA o)
  else if o < 0x100000 then some (copy s.fw.copyB (o - 0x80000))
  else if o < 0x1100000 then some (bank 0 (o - 0x100000))
  else if o < 0x2100000 then some (bank 1 (o - 0x1100000))
  else none

/-- An octet of memory as a bus master reads it: of a per-node state record (R237), of the capture buffer (R177), of the dwell mirror (R197), of
Trellis's ranges (R290), of flash (R387), or of what memory holds. -/
def storeGet (s : State) (a : Nat) : Byte :=
  if trellisRange a then (trellisGet s.tre a).getD 0
  else if inRange a 0x81000000 0x2000000 then
    let r := nodeRec s ((a - 0x81000000) / 256)
    let o := (a - 0x81000000) % 256
    if o < 128 then ((nodeOctets s ((a - 0x81000000) / 256))[o]?).getD 0 else (r.canvas[o - 128]?).getD 0
  else if inRange a 0x85E00000 0x1000000 then
    let i := (a - 0x85E00000) / 32
    if i < capturedNow s ∧ !s.pal.capBad.contains i then (((captureAt s.pal.capCfg s.pal.capBase i)[(a - 0x85E00000) % 32]?).getD 0) else 0
  else if inRange a 0x86F00000 0x100000 then (s.pri.mirror.flatten[a - 0x86F00000]?).getD 0
  else if inRange a 0x60000000 0x20000000 then (flashGet s (a - 0x60000000)).getD (memGet s a)
  else memGet s a

/-- A page fault (R399): the fetch completes with a bus error, and Shed logs the part and the page. -/
def pageFault (master addr part page : Nat) (s : State) : State := logEvent 0x13 3 (beOct 1 part ++ beOct 4 page) (emit (.busError master addr) s)

/-- A read of `n` octets of memory by a master: a read that R26 refuses returns zero, and so does a fetch of a page that fails its check (R399). -/
def busLoad (master a n : Nat) (s : State) : State × Octets :=
  if ¬ mayRead s master a n then (accessViolation master a s, zeros n)
  else match badPage s a n with
    | some x => (pageFault master a x.1 x.2 s, zeros n)
    | none => (s, (List.range n).map (fun i => storeGet s (a + i)))

/-- Canvas's half of a per-node state record with one octet written; a half of zeros is not listed. -/
def canvasHalf (o : Octets) (i : Nat) (b : Byte) : Octets :=
  let v := setAt (padTo 128 o) i b
  if v.all (· == 0) then [] else v

/-- A bus master writes an octet of memory: in the per-node state region, of Canvas's half of a record; octets 0 to 127 are Easel's, and a
write there has no effect (R237; log entry 165). Of Trellis's ranges Canvas writes the shadow digests; the others follow Trellis's own
commands (R290, R297). -/
def storeSet (a : Nat) (b : Byte) (s : State) : State :=
  if inRange a 0x81000000 0x2000000 then
    let o := (a - 0x81000000) % 256
    if o < 128 then s else modNode ((a - 0x81000000) / 256) (fun r => { r with canvas := canvasHalf r.canvas (o - 128) b }) s
  else if inRange a 0x20340000 0x40000 then modTre (shadowSet ((a - 0x20340000) / 2) ((a - 0x20340000) % 2) b) s
  else if inRange a 0x2033C000 0x2000 then
    modTre (shadowSet (2 ^ 17 + (a - 0x2033C000) / 2 % 2048 + 2 ^ 17 * ((a - 0x2033C000) / 4096)) (a % 2) b) s
  else if trellisRange a then s
  else memSet a b s

/-- A write of octets of memory by a master, or a refused one. -/
def busStore (master a : Nat) (v : Octets) (s : State) : State :=
  if mayWrite s master a v.length then v.zipIdx.foldl (fun s x => storeSet (a + x.2) x.1 s) s else accessViolation master a s

/-- A warm reset takes every learned MAC entry (R300). -/
def dropLearned (s : State) : State :=
  (arrayEntries s.tre 1).foldl (fun s e => if learned e then tableDelete 4 e.key s else s) s

end Sys2Proof.Machine
end

