-- ==== Sys2Proof/Machine/Riddle.lean ====
section
/-!
DEFINITION. Riddle (spec/13): meters, downlink queues and battery buckets, egress queues with shapers, the scheduler and the
time gates.
-/

namespace Sys2Proof.Machine

/-- Units of 1/3,200,000 octet: one cycle at 1 kbit/s fills one unit (R315, R325). -/
def octetUnits : Nat := 3200000

/-! ### Meters (R314 to R316) -/

/-- A meter's buckets now; a row nothing has used is full. -/
def meterNow (s : State) (m : Nat) : MeterSt :=
  let cbs := odField s 0x6820 1 m 4 4 * octetUnits
  let pbs := odField s 0x6820 1 m 12 4 * octetUnits
  match sfind s.rid.meters m with
  | none => { tc := cbs, tp := pbs, at_ := s.clk.elapsed }
  | some x =>
    let dt := s.clk.elapsed - x.at_
    { tc := min cbs (x.tc + odField s 0x6820 1 m 0 4 * dt), tp := min pbs (x.tp + odField s 0x6820 1 m 8 4 * dt)
      at_ := s.clk.elapsed }

/-- Colours of R315: 0 green, 1 yellow, 2 red; the frame's colour and the buckets after it. -/
def meterMark (x : MeterSt) (len : Nat) : Nat × MeterSt :=
  let l := len * octetUnits
  if x.tp < l then (2, x)
  else if x.tc < l then (1, { x with tp := x.tp - l })
  else (0, { x with tp := x.tp - l, tc := x.tc - l })

/-- Whether the first `n` bits of two 128-bit addresses agree. -/
def prefixEq (n a b : Nat) : Bool := a / 2 ^ (128 - n) == b / 2 ^ (128 - n)

/-- Whether a METER_RULE row matches a frame (R314). -/
def ruleMatches (s : State) (row port : Nat) (f : EthFrame) : Bool :=
  let o := odGet s 0x6820 2 row
  let lo := fieldNat o 2 1
  let hi := fieldNat o 3 1
  let plen := fieldNat o 5 1
  fieldNat o 0 1 == 1 && bit (fieldNat o 1 1) port &&
  (if f.kind = 1 then
    decide (lo ≤ f.packet.tclass / 4) && decide (f.packet.tclass / 4 ≤ hi) && prefixEq plen (fieldNat o 8 16) f.packet.src
   else lo == 0 && hi == 63 && plen == 0)

/-- The meter of a frame: that of the first row that matches. -/
def meterOf (s : State) (port : Nat) (f : EthFrame) : Option Nat :=
  ((List.range 64).find? (fun r => ruleMatches s r port f)).map (fun r => odField s 0x6820 2 r 4 1)

/-- Meters a frame: its colour, counted (R314, R315). -/
def meterFrame (port : Nat) (f : EthFrame) (s : State) : Nat × State :=
  match meterOf s port f with
  | none => (0, s)
  | some m =>
    let r := meterMark (meterNow s m) f.len
    (r.1, bump 0x6820 3 (3 * m + r.1) { s with rid := { s.rid with meters := sinsert m r.2 s.rid.meters } })

/-- A written meter row is full again (R316). -/
def meterRefill (m : Nat) (s : State) : State := { s with rid := { s.rid with meters := serase m s.rid.meters } }

/-! ### Downlink queues and buckets (R317 to R321) -/

/-- QUEUE_LIMIT, frames. -/
def dlLimit (s : State) (n : Nat) : Nat := odField s 0x6800 1 (dlRow s n) 8 1

/-- Sets a node's tokens as they stand at a cycle. -/
def setTokens (n v t : Nat) (s : State) : State := { s with rid := { s.rid with tokens := sinsert n (v, t) s.rid.tokens } }

/-- A node's tokens are set to zero now (R320). -/
def zeroTokens (n : Nat) (s : State) : State := setTokens n 0 s.clk.elapsed s

/-- A DL_PROFILE row was written: the tokens of every node that names it are zero (R320). -/
def zeroProfile (row : Nat) (s : State) : State :=
  { s with rid := { s.rid with
    tokens := s.rid.tokens.filter (fun e => dlRow s e.1 != row), profAt := setAt s.rid.profAt row s.clk.elapsed } }

/-- Sets a node's downlink queue. -/
def setDlQueue (n : Nat) (q : List DlFrame) (s : State) : State :=
  { s with rid := { s.rid with queues := sset (fun _ => []) s.rid.queues n q } }

/-- Octets that all of Riddle's queues hold in the packet buffers (R321). -/
def bufferOctets (s : State) : Nat :=
  (s.rid.queues.map (fun e => (e.2.map (·.charge)).foldl (· + ·) 0)).foldl (· + ·) 0 +
  (s.rid.group.map (·.charge)).foldl (· + ·) 0 +
  (s.rid.ports.map (fun p => (((p.ctrl :: p.cls).flatMap id).map (·.len)).foldl (· + ·) 0)).foldl (· + ·) 0

/-- Octets of the packet-buffer region (Table 01-6). -/
def bufferSize : Nat := 2 ^ 25

/-- Whether the region is filled to 90 % or more. -/
def congested (s : State) : Bool := decide (bufferSize * 9 ≤ bufferOctets s * 10)

/-- Whether a frame finds no room. -/
def noRoom (s : State) (len : Nat) : Bool := decide (bufferSize < bufferOctets s + len)

/-- PSDU length of a downlink frame around its payload, without notice sections: headers 9, 6 and 9, MIC 4, FCS 4 (Table 12-8). -/
def dlPsdu (payload : Octets) : Nat := 32 + payload.length

/-- The checks of R317 and their DL_EVENTS row; `fast` that the fast path resolved the packet, which counts a node that is
not available in TRELLIS_EVENTS row 9. -/
def dlEnqueue (n : Nat) (payload : Octets) (yellow fast : Bool) (s : State) : State :=
  let r := nodeRec s n
  let q := dlQueue s n
  let charge := dlPsdu payload
  if r.st = .free ∨ r.poisoned then (if fast then bump 0x6400 3 9 s else bump 0x6801 1 0 s)
  else if 0 < dlRate s n ∧ dlBurst s n < charge then bump 0x6801 1 1 s
  else if dlLimit s n ≤ q.length then bump 0x6801 1 2 s
  else if yellow ∧ congested s then bump 0x6801 1 4 s
  else if yellow ∧ (dlLimit s n + 1) / 2 ≤ q.length then bump 0x6801 1 3 s
  else if noRoom s charge then bump 0x6801 1 (if yellow then 4 else 5) s
  else setDlQueue n (q ++ [{ payload := payload, charge := charge, yellow := yellow, at_ := s.clk.elapsed }]) s

/-- A group frame: refused at 64 (R320), and under R321. -/
def groupEnqueue (payload : Octets) (yellow : Bool) (s : State) : State :=
  let charge := dlPsdu payload
  if 64 ≤ s.rid.group.length then bump 0x6801 1 7 s
  else if yellow ∧ congested s then bump 0x6801 1 4 s
  else if noRoom s charge then bump 0x6801 1 (if yellow then 4 else 5) s
  else { s with rid := { s.rid with
    group := s.rid.group ++ [{ payload := payload, charge := charge, yellow := yellow, at_ := s.clk.elapsed }] } }

/-! ### Egress queues (R322 to R327) -/

/-- Modifies a port's egress side. -/
def modEgPort (port : Nat) (f : EgPort → EgPort) (s : State) : State :=
  { s with rid := { s.rid with ports := modAt f s.rid.ports port } }

/-- A frame enters a control queue of 128 frames, where the packet buffers have room for it (R321, R322). -/
def ctrlPut (port : Nat) (f : EgFrame) (s : State) : State :=
  if 2 ≤ port then s
  else if 128 ≤ (egPort s port).ctrl.length ∨ noRoom s f.len then bump 0x6810 7 (32 + port) s
  else modEgPort port (fun p => { p with ctrl := p.ctrl ++ [f] }) s

/-- A class queue. -/
def classQueue (s : State) (port cls : Nat) : List EgFrame := ((egPort s port).cls[cls]?).getD []

/-- Sets a class queue. -/
def setClassQueue (port cls : Nat) (q : List EgFrame) (s : State) : State :=
  modEgPort port (fun p => { p with cls := setAt p.cls cls q }) s

/-- Heads that could never start under the operating list are dropped as GATE_OVERSIZE (R329). -/
def dropOversize (port cls : Nat) : Nat → State → State
  | 0, s => s
  | n + 1, s =>
    match classQueue s port cls, gateLongest (egPort s port).oper cls with
    | f :: l, some d =>
      if gatesRun s port ∧ ¬ txFits s port f.len d then
        dropOversize port cls n (bump 0x6830 5 port (setClassQueue port cls l s))
      else s
    | _, _ => s

/-- The same of every class of a port, once a head may have come to one (R329). -/
def trimHeads (port : Nat) (s : State) : State :=
  if ethUp s port then (List.range 8).foldl (fun s c => dropOversize port c (classQueue s port c).length s) s else s

/-- Octets a class queue holds. -/
def classOctets (s : State) (port cls : Nat) : Nat := ((classQueue s port cls).map (·.len)).foldl (· + ·) 0

/-- A frame enters a class queue within LIMIT and YELLOW_PCT (R326) and R321. -/
def classPut (port cls : Nat) (f : EgFrame) (s : State) : State :=
  let row := 8 * port + cls
  let limit := odField s 0x6810 1 row 0 4
  let after := classOctets s port cls + f.len
  if 2 ≤ port ∨ 8 ≤ cls then s
  else if limit < after ∨ (f.yellow ∧ limit * odField s 0x6810 1 row 4 1 < after * 100) ∨ (f.yellow ∧ congested s) ∨
      noRoom s f.len then
    bump 0x6810 7 (row + (if f.yellow then 16 else 0)) s
  else trimHeads port (setClassQueue port cls (classQueue s port cls ++ [f]) s)

/-- The class of a report on a port (Table 13-2). -/
def reportClass (s : State) (port : Nat) : Nat := odNat s 0x6810 5 port

/-- The ports that a frame of the unit's own leaves by (Table 12-5, the internal port's column): both for a group address or one that the MAC
table does not hold, else the entry's. -/
def ownPorts (s : State) (dst : Nat) : List Nat :=
  let ups := [0, 1].filter (ethUp s)
  if dst / 2 ^ 40 % 2 = 1 then ups
  else match lookup s.tre 4 (beOct 6 dst) with
    | some e => [e.value]
    | none => ups

/-- A frame of Canvas enters its queue on a port: the control queue, the report class, or the class of the unit's own ODAP or Hedgerow (R322,
Table 13-2). -/
def takeOverOn (f : EgFrame) (port : Nat) (s : State) : State :=
  match f.kind with
  | 5 => ctrlPut port f s
  | 1 => classPut port (reportClass s port) f s
  | 3 => classPut port (odNat s 0x6810 6 1) f s
  | _ => classPut port (odNat s 0x6810 6 0) f s

/-- The same on the port it names, or on those that the switch gives it (R302). -/
def takeOver (x : Option Nat × EgFrame) (s : State) : State :=
  ((x.1.map (fun p => [p])).getD (ownPorts s x.2.dst)).foldl (fun s p => takeOverOn x.2 p s) s

/-- Whether a report must wait: an earlier frame of its node is still held for a Glaze decision, or an earlier report of the node waits
(R120, R121; log entry 193). -/
def reportWaits (s : State) (kept : List (Option Nat × EgFrame)) (x : Option Nat × EgFrame) : Bool :=
  match x.2.node with
  | some n => (nodeRec s n).held.any (fun u => decide (u.stamp ≤ x.2.stamp)) || kept.any (fun y => y.2.node == some n)
  | none => false

/-- The frames that Canvas has handed over, reports up to a stamp where one is given, enter the queues in their order but for the reports that
wait (R120, R121, R323). -/
def takeOutbox (upTo : Option Nat) (s : State) : State :=
  let r := s.srv.outbox.foldl (fun (acc : State × List (Option Nat × EgFrame)) x =>
    if x.2.kind = 1 ∧ ((upTo.map (fun t => decide (t < x.2.stamp))).getD false ∨ reportWaits acc.1 acc.2 x) then (acc.1, acc.2 ++ [x])
    else (takeOver x acc.1, acc.2)) (s, [])
  { r.1 with srv := { r.1.srv with outbox := r.2 } }

/-- A frame enters a control queue, behind those that Canvas handed over. -/
def ctrlEnqueue (port : Nat) (f : EgFrame) (s : State) : State := ctrlPut port f (takeOutbox none s)

/-- A frame enters a class queue, behind those that Canvas handed over. -/
def classEnqueue (port cls : Nat) (f : EgFrame) (s : State) : State := classPut port cls f (takeOutbox none s)

/-- A report leaves in the report class of its port, behind the reports handed over whose stamps are not later (R120). -/
def reportEnqueue (port : Nat) (f : EgFrame) (s : State) : State :=
  classPut port (reportClass s port) { f with kind := 1 } (takeOutbox (some f.stamp) s)

/-- Every frame of a port's queues is discarded and counted (R327). -/
def discardPort (port : Nat) (s0 : State) : State :=
  let s := takeOutbox none s0
  let p := egPort s port
  let n := p.ctrl.length + (p.cls.map List.length).foldl (· + ·) 0
  if n = 0 then s
  else bump 0x6810 7 (34 + port) (modEgPort port (fun p => { p with ctrl := [], cls := List.replicate 8 [] }) s) n

/-- A shaper's tokens at a cycle, in units (R325). -/
def shaperTokens (s : State) (port cls : Nat) : Nat :=
  let row := 8 * port + cls
  let x := ((egPort s port).shapers[cls]?).getD (0, 0)
  min (odField s 0x6810 2 row 4 4 * octetUnits) (x.1 + odField s 0x6810 2 row 0 4 * (s.clk.elapsed - x.2))

/-- Sets a shaper's tokens as they stand now. -/
def setShaper (port cls v : Nat) (s : State) : State :=
  modEgPort port (fun p => { p with shapers := setAt p.shapers cls (v, s.clk.elapsed) }) s

/-- Whether a shaper lets a frame of `len` octets pass (R324). -/
def shaperPasses (s : State) (port cls len : Nat) : Bool :=
  odField s 0x6810 2 (8 * port + cls) 0 4 == 0 || decide ((len + 20) * octetUnits ≤ shaperTokens s port cls)

/-- Whether the gates let a class's frame start now (R324). -/
def gatePasses (s : State) (port cls len : Nat) : Bool :=
  !gatesRun s port ||
  (gateOpen (egPort s port).oper cls (nowNs s) &&
    (match gateClose (egPort s port).oper cls (nowNs s) with
     | none => true
     | some d => txFits s port len d))

/-- A frame leaves a port: its first octet crosses the PCS, and it is counted. -/
def sendFrame (port : Nat) (f : EgFrame) (s : State) : State :=
  emit (.eth port f) (bump 0xA100 4 (8 * port + 3) (bump 0xA100 4 (8 * port + 1) s) f.len)

/-- The class loop of R324, from class `c - 1` down. -/
def selectClass (port : Nat) : Nat → State → State
  | 0, s => s
  | c + 1, s =>
    match classQueue s port c with
    | [] => selectClass port c s
    | f :: l =>
      if gatePasses s port c f.len ∧ shaperPasses s port c f.len then
        let s1 := if odField s 0x6810 2 (8 * port + c) 0 4 = 0 then s
          else setShaper port c (shaperTokens s port c - (f.len + 20) * octetUnits) s
        trimHeads port (sendFrame port f (setClassQueue port c l s1))
      else selectClass port c s

/-- One selection on a port that can accept a frame (R324), of all that was handed over before it. -/
def egressSelect (port : Nat) (s0 : State) : State :=
  let s := takeOutbox none s0
  match (egPort s port).ctrl with
  | f :: l => sendFrame port f (modEgPort port (fun p => { p with ctrl := l }) s)
  | [] => selectClass port 8 (trimHeads port s)

/-- GATE_ENTRY_BOUNDARY (R329): time passes to the end of the entry in force, and the next takes force. -/
def execGateEntryBoundary (port : Nat) (s : State) : Host.Outcome State Fault Refusal :=
  if port < 2 ∧ gatesRun s port then
    let g := (egPort s port).oper
    let s1 := advanceNs (nowNs s + (gateAt g.entries (gatePhase g (nowNs s)) 0).2) s
    done s (modEgPort port (fun p => { p with entry := gateEntry g (nowNs s1) }) s1)
  else done s s

/-- The first instant BASE + n * cycle of a list at or after a time, in ns (R330). -/
def gateStart (g : GateList) (t : Nat) : Nat :=
  let cyc := max 1 (gateCycle g)
  ((g.base : Int) + ((((t : Int) - g.base) + cyc - 1) / cyc) * cyc).toNat

/-- The gate list a GATE_ADMIN value spells (Table 13-3). -/
def decodeGates (o : Octets) : GateList :=
  { base := fieldNat o 0 6 * 1000000000 + fieldNat o 6 4, change := fieldNat o 10 6 * 1000000000 + fieldNat o 16 4
    entries := (List.range (fieldNat o 20 2)).map (fun i => (fieldNat o (24 + 8 * i) 1, fieldNat o (28 + 8 * i) 4)) }

/-- A gate list in the form of Table 13-3. -/
def encodeGates (g : GateList) : Octets :=
  beOct 6 (g.base / 1000000000) ++ beOct 4 (g.base % 1000000000) ++ beOct 6 (g.change / 1000000000) ++
  beOct 4 (g.change % 1000000000) ++ beOct 2 g.entries.length ++ [0, 0] ++
  g.entries.flatMap (fun e => beOct 1 e.1 ++ [0, 0, 0] ++ beOct 4 e.2)

/-- Whether a GATE_ADMIN value is in the ranges of Table 13-3 and R328. -/
def gatesOk (o : Octets) : Bool :=
  let g := decodeGates o
  let n := fieldNat o 20 2
  decide (1 ≤ n) && decide (n ≤ 256) && o.length == 24 + 8 * n && decide (fieldNat o 6 4 < 1000000000) &&
  g.entries.all (fun e => decide (1000 ≤ e.2) && decide (e.2 ≤ 1000000000)) && decide (1000 ≤ gateCycle g) &&
  decide (gateCycle g ≤ 10000000000)

/-- A gate list committed: it waits for its switch time and replaces one that waits (R330). -/
def commitGates (port : Nat) (o : Octets) (s : State) : State :=
  let g := decodeGates o
  modEgPort port (fun p => { p with pend := some (g, gateStart g (max g.change (nowNs s + 1000000))) }) s

/-- GATE_LIST_SWITCH (R330): time passes to the switch time, and the pending list becomes the operating one. -/
def execGateListSwitch (port : Nat) (s : State) : Host.Outcome State Fault Refusal :=
  match (egPort s port).pend with
  | some (g, t) =>
    let s1 := advanceNs t s
    done s (modEgPort port (fun p => { p with oper := g, pend := none, entry := gateEntry g (nowNs s1) }) s1)
  | none => done s s

/-- SHAPER_TOKENS_REFILLED (R325): time passes until the tokens reach the size of the frame at the head of the class. -/
def execShaperTokensRefilled (port cls : Nat) (s : State) : Host.Outcome State Fault Refusal :=
  match classQueue s port cls with
  | [] => done s s
  | f :: _ =>
    let rate := odField s 0x6810 2 (8 * port + cls) 0 4
    let need := (f.len + 20) * octetUnits
    let have_ := shaperTokens s port cls
    if rate = 0 ∨ need ≤ have_ ∨ odField s 0x6810 2 (8 * port + cls) 4 4 < f.len + 20 then done s s
    else done s (advanceElapsed (s.clk.elapsed + (need - have_ + rate - 1) / rate) s)

end Sys2Proof.Machine
end

