-- ==== Sys2Proof/Machine/Keys.lean ====
section
/-!
DEFINITION. Keys (spec/15): handles and usage, counters and limits, imports, node keys, and the zeroisation by tamper.
-/

namespace Sys2Proof.Machine

/-- Counts in a SEC_COUNT row. -/
def secCount (row : Nat) (s : State) : State := bump 0x8040 1 row s

/-- Whether the life-cycle state admits the use of keys (R360). -/
def keysAllowed (s : State) : Bool := decide (1 ≤ s.chip.lifeCycle) && decide (s.chip.lifeCycle ≤ 3)

/-- Whether an armed tamper input is at its active level: Seedbank is held zeroed (R480). -/
def tamperHolds (s : State) : Bool := s.pwr.tamper.any (·.active)

/-! ### Derivations (R361, Table 15-3) -/

/-- KMAC256(K, X, L, S): L bits under a customisation (R361; log entry 6). -/
def kmac (k x : Octets) (bits : Nat) (cust : String) : Octets := padTo (bits / 8) (Config.crypto ("KMAC256 " ++ cust) bits [k, x])

/-- Whether the life-cycle state has a root (Table 15-2). -/
def hasRoot (s : State) : Bool := keysAllowed s

/-- The root of a life-cycle state: 1 FACTORY, 2 FIELD, 3 RETURN; BLANK and RETIRED have none. -/
def rootIn (lc : Nat) (s : State) : Octets := if lc = 0 then [] else (s.sec.roots[lc - 1]?).getD []

/-- The root that the life-cycle state selects. -/
def rootOf (s : State) : Octets := rootIn s.chip.lifeCycle s

/-- The KEK under a nonce. -/
def kekUnder (nonce : Octets) (s : State) : Octets := kmac (rootOf s) nonce 256 "FL96 KEK"

/-- The recovery wrapping key. -/
def recoveryKey (s : State) : Octets := kmac (rootOf s) s.chip.serial 256 "FL96 RECOVERY"

/-- FACTORY_KTK. -/
def factoryKtk (s : State) : Octets := kmac (rootIn 1 s) s.chip.serial 256 "FL96 KTK"

/-- FACTORY_PSK. -/
def factoryPsk (s : State) : Octets := kmac (rootIn 1 s) s.chip.serial 256 "FL96 FPSK"

/-- RETURN_PSK. -/
def returnPsk (s : State) : Octets := kmac (rootIn 3 s) s.chip.serial 256 "FL96 RPSK"

/-- The identity seed. -/
def identitySeed (s : State) : Octets := kmac (rootOf s) s.chip.serial 384 "FL96 IDENTITY"

/-- The DRBG personalisation. -/
def drbgSeed (s : State) : Octets := kmac (rootOf s) (beOct 8 s.hed.bootCount) 256 "FL96 DRBG"

/-- An identity signature (R401): by the key pair of the identity seed, which only a state with a root derives (R361); without one there is no
signature, and its 1,280 octets are zero (log entry 185). -/
def identitySign (pre : String) (o : Octets) (s : State) : Octets :=
  if hasRoot s then padTo 1280 (Config.crypto ("Falcon-1024 sign " ++ pre) 0 [identitySeed s, o]) else zeros 1280

/-- A node's join key under the JOIN_MASTER key of its PAN. -/
def joinKey (master : Octets) (eui : Nat) : Octets := kmac master (beOct 8 eui) 128 "FL96 JOIN"

/-! ### Handles (R358, R359) -/

/-- The key that a handle names: its slot is below 512, holds a key, and has the handle's generation. -/
def keyOf (s : State) (h : Nat) : Option KeySlot :=
  let k := slotAt s (h % 512)
  if h < 65536 ∧ h ≠ 0xFFFF ∧ k.held ∧ k.gen = h / 512 then some k else none

/-- The value of the key that a handle names. -/
def keyValue (s : State) (h : Nat) : Octets := ((keyOf s h).map (·.value)).getD []

/-- Whether a key's USAGE names a purpose (Table 15-1). -/
def usable (k : KeySlot) (purpose : Nat) : Bool := bit k.usage purpose

/-- A use of a current key for a purpose that its USAGE does not permit is counted (R359; log entry 54). -/
def wrongUse (h purpose : Nat) (s : State) : State :=
  match keyOf s h with
  | some k => if usable k purpose then s else secCount 6 s
  | none => s

/-- A use of a key: counted; at the soft limit KEY_CHANGE_REQUIRED is logged once (R376). -/
def countUse (h : Nat) (s : State) : State :=
  let n := h % 512
  let k := slotAt s n
  let s1 := setSlot n { k with uses := k.uses + 1 } s
  if k.uses + 1 = 2 ^ k.soft then secCount 9 (logEvent 0x40 1 (beOct 2 h) s1) else s1

/-- Why a key may not be used now: 0 none, else a status: stale or not for this purpose (ACCESS_DENIED), or KEY_LIMIT. -/
def useFault (s : State) (h purpose : Nat) : Nat :=
  match keyOf s h with
  | some k =>
    if ¬ keysAllowed s ∨ tamperHolds s ∨ ¬ usable k purpose then stAccessDenied
    else if 2 ^ k.hard ≤ k.uses then stKeyLimit else 0
  | none => stAccessDenied

/-- log2 of the limits of a key that stands in no slot. -/
def otherLimits (s : State) (id : Nat) : Nat × Nat := sget (fun _ => (30, 31)) s.sec.recLimits id

/-- Uses of a key that stands in no slot. -/
def otherUses (s : State) (id : Nat) : Nat := sget (fun _ => 0) s.sec.otherUses id

/-- Whether a key that stands in no slot has not reached its hard limit. -/
def otherUsable (s : State) (id : Nat) : Bool := decide (otherUses s id < 2 ^ (otherLimits s id).2)

/-- Whether such a key has passed its soft limit. -/
def otherSoft (s : State) (id : Nat) : Bool := decide (2 ^ (otherLimits s id).1 ≤ otherUses s id)

/-- A use of a key that stands in no slot: counted, and logged once at its soft limit (R376). -/
def useOther (id : Nat) (s : State) : State :=
  let n := otherUses s id + 1
  let s1 := { s with sec := { s.sec with otherUses := sset (fun _ => 0) s.sec.otherUses id n } }
  if n = 2 ^ (otherLimits s id).1 then secCount 9 (logEvent 0x40 1 (beOct 2 0xFFFF) s1) else s1

/-- Whether a key has passed its soft limit. -/
def softPassed (s : State) (h : Nat) : Bool :=
  match keyOf s h with
  | some k => decide (2 ^ k.soft ≤ k.uses)
  | none => false

/-! ### Outgoing counters (R365, R375) -/

/-- The counter of a BEACON or JOIN_MASTER key for one frame, or none where it is refused: its ceiling, its last value 0xFFFF_FFFE and its hard
limit; a ceiling within a quarter of its distance is raised in flash. -/
def takeCounter (h : Nat) (s : State) : Option Nat × State :=
  match keyOf s h with
  | none => (none, secCount 4 s)
  | some k =>
    if ¬ keysAllowed s ∨ tamperHolds s ∨ ¬ (usable k 0 ∨ usable k 1) ∨ k.ceiling ≤ k.outFc ∨ 0xFFFFFFFF ≤ k.outFc ∨ 2 ^ k.hard ≤ k.uses then
      (none, secCount 4 s)
    else
      let n := h % 512
      let fc := k.outFc + 1
      let ceil := if k.ceiling ≤ fc + 16384 then fc + 65536 else k.ceiling
      let s1 := setSlot n { k with outFc := fc, ceiling := ceil } s
      let s2 := { s1 with sec := { s1.sec with
        storeSlots := sset (fun _ => {}) s1.sec.storeSlots n { sget (fun _ => {}) s1.sec.storeSlots n with ceiling := ceil } } }
      (some k.outFc, countUse h s2)

/-! ### Node keys (R369, R377) -/

/-- Sets a node's key record in the wrapped-key region. -/
def setNodeKey (n : Nat) (k : NodeKey) (s : State) : State :=
  { s with sec := { s.sec with nodes := sset (fun _ => {}) s.sec.nodes n k } }

/-- Writes a node's key record to the key store too. -/
def storeNodeKey (n : Nat) (s : State) : State :=
  { s with sec := { s.sec with storeNodes := sset (fun _ => {}) s.sec.storeNodes n (nodeKey s n) } }

/-- Whether a node's record unwraps under the KEK; one that does not is treated as poisoned (R369). -/
def unwraps (s : State) (k : NodeKey) : Bool := s.sec.kek == some k.kek && !k.poisoned

/-- Whether a node has a usable key: a valid record that unwraps, and the hard limit not reached (R369, R374, R376, R383). -/
def nodeKeyUsable (s : State) (n : Nat) : Bool := keysAllowed s && !tamperHolds s && (nodeKey s n).valid && unwraps s (nodeKey s n) &&
  decide ((nodeKey s n).uses < 2 ^ odNat s 0x8020 5)

/-- A wake-up request: merged with one of the same type and address, the later
REASON standing (log entry 179), refused and counted where the queue is full (R201). -/
def queueWake (w : WakeEntry) (s : State) : State :=
  if s.pri.wake.any (fun x => x.type == w.type && x.addr == w.addr) then
    { s with pri := { s.pri with wake := s.pri.wake.map (fun x => if x.type = w.type ∧ x.addr = w.addr then { x with reason := w.reason } else x) } }
  else if 256 ≤ s.pri.wake.length then bump 0x3430 6 0 s
  else { s with pri := { s.pri with wake := s.pri.wake ++ [w] } }

/-- A wake-up request for a node: type 0 RESYNC, 1 REJOIN. -/
def wakeNode (type n : Nat) (s : State) (reason : Nat := 1) : State :=
  let r := nodeRec s n
  queueWake { type := type, addr := r.short, pan := r.pan, node := some n, reason := reason } s

/-- A REJOIN directive is owed with a reason in the node's next FL96 frame, and a REJOIN telegram queued (R268, R377). -/
def askRejoin (n reason : Nat) (s : State) : State := wakeNode 1 n (modNode n (fun r => { r with rejoin := some reason }) s) reason

/-- One use of a node's key: at the soft limit of a key that is not PINNED, SOFT_REACHED is set and the node owes a rejoin with
REASON 3; each soft limit is logged once (R376, R377). -/
def countNodeUse (n : Nat) (s : State) : State :=
  let k := nodeKey s n
  let u := k.uses + 1
  let hit := u == 2 ^ odNat s 0x8020 4
  let s1 := setNodeKey n { k with uses := u, softReached := k.softReached || (hit && !k.pinned) } s
  if hit then
    let s2 := secCount 9 (logEvent 0x40 1 (beOct 2 0xFFFF) s1)
    if k.pinned then s2 else askRejoin n 3 s2
  else s1

/-- A node has changed since the last mirror delta (R344). -/
def touchNode (n : Nat) (s : State) : State :=
  let add (l : List Nat) : List Nat := if l.contains n then l else l ++ [n]
  { s with hed := { s.hed with touched := add s.hed.touched, handing := s.hed.handing.map (fun h => { h with touched := add h.touched }) } }

/-- The outgoing counter of a node's key for one frame, or none where it is refused (R365, R375). -/
def takeNodeCounter (n : Nat) (s : State) : Option Nat × State :=
  let k := nodeKey s n
  if ¬ nodeKeyUsable s n ∨ k.ceiling ≤ k.outFc ∨ 0xFFFFFFFF ≤ k.outFc then (none, secCount 4 s)
  else
    let fc := k.outFc + 1
    let ceil := if k.ceiling ≤ fc + 256 then fc + 1024 else k.ceiling
    let s1 := setNodeKey n { k with outFc := fc, ceiling := ceil } s
    let s2 := if ceil = k.ceiling then s1 else storeNodeKey n s1
    (some k.outFc, touchNode n (countNodeUse n s2))

/-- The JOIN_MASTER key of a PAN under NODE_KEY_INDEX (R369). -/
def joinMaster (s : State) (pan : Nat) : Option Nat :=
  (s.sec.slots.find? (fun e => e.2.held && bit e.2.usage 1 && e.2.pan == pan && e.2.keyIndex == odNat s 0x8020 3 pan)).map
    (fun e => handleOf e.1 e.2)

/-- BEACON keys of a PAN, as handles. -/
def beaconKeys (s : State) (pan : Nat) : List Nat :=
  (s.sec.slots.filter (fun e => e.2.held && bit e.2.usage 0 && e.2.pan == pan)).map (fun e => handleOf e.1 e.2)

/-- The BEACON key of a PAN under a key index. -/
def beaconKey (s : State) (pan index : Nat) : Option Nat :=
  (beaconKeys s pan).find? (fun h => ((keyOf s h).map (·.keyIndex)) == some index)

/-- A session key is formed at a join (R369): the imported key, the pinned one kept, or 16 octets of the DRBG. A kept key
goes on with its counter and its uses, since no counter value is issued twice under one key (R365, R376; log entry 168). -/
def formNodeKey (n pan : Nat) (s : State) : State :=
  let k := nodeKey s n
  let idx := odNat s 0x8020 3 pan
  let base : NodeKey := { k with
    keyGen := (k.keyGen + 1) % 65536, keyIndex := idx, valid := true, softReached := false, uses := 0, imported := none
    outFc := 0, ceiling := 1024, poisoned := false, kek := s.sec.kek.getD [] }
  match k.imported with
  | some (v, fc, pin) =>
    storeNodeKey n (setNodeKey n { base with value := v, outFc := fc, ceiling := fc + 1024, pinned := pin } s)
  | none =>
    if k.pinned ∧ k.valid ∧ unwraps s k then
      storeNodeKey n (setNodeKey n { base with value := k.value, outFc := k.outFc, ceiling := k.ceiling, uses := k.uses } s)
    else
      let r := takeFree s
      storeNodeKey n (setNodeKey n { base with value := beOct 16 r.1, pinned := false } r.2)

/-! ### Poisoned reads of a node's records (R29) -/

/-- The occupant entries of a cell in an image: one per phase, none where the kind has no occupants (R213, R219). -/
def occupantEntries (c : Cell) : Nat := if c.kind ≤ 2 then 2 ^ c.k else 0

/-- The row of the cell whose entry, or an occupant of which, stands at an octet of the ACTIVE image: 64 + 16,384 octets, 8 per cell, then 4 per
occupant, both in the order of the rows (R219; log entry 162). -/
def imageRow (cs : List Cell) (o : Nat) : Option Nat :=
  if o < 16448 then none
  else if o < 16448 + 8 * cs.length then (cs[(o - 16448) / 8]?).map (·.row)
  else
    let k := (o - 16448 - 8 * cs.length) / 4
    let go := cs.foldl (fun (x : Nat × Option Nat) c =>
      (x.1 + occupantEntries c, if x.1 ≤ k ∧ k < x.1 + occupantEntries c then some c.row else x.2)) (0, none)
    go.2

/-- The frame or record in a region of buffers that a poisoned read hit, or none: the spec does not give the region's layout, so which of `n`
it is is free (log entry 162). -/
def poisonPick (n : Nat) (s : State) : Nat × State :=
  let r := takeFree s
  (r.1 % (n + 1), r.2)

/-- A poisoned packet buffer: the downlink frame in it is absent. -/
def poisonPacket (s : State) : State :=
  let slots := s.rid.queues.flatMap (fun q => (List.range q.2.length).map (fun i => (q.1, i)))
  let r := poisonPick slots.length s
  match slots[r.1]? with
  | some x => setDlQueue x.1 ((dlQueue s x.1).eraseIdx x.2) r.2
  | none => r.2

/-- A poisoned Glaze record is absent. -/
def poisonGlaze (s : State) : State :=
  let r := poisonPick s.gla.recs.length s
  { r.2 with gla := { r.2.gla with recs := r.2.gla.recs.eraseIdx r.1 } }

/-- A poisoned read of a capture block: reads of it give nothing from then on (R177). -/
def poisonCapture (i : Nat) (s : State) : State := { s with pal := { s.pal with capBad := i :: s.pal.capBad } }

/-- A poisoned read of a dwell-mirror record: it is not restored (R197). -/
def poisonMirror (i : Nat) (s : State) : State := { s with pri := { s.pri with mirrorBad := i :: s.pri.mirrorBad } }

/-- A poisoned read of the managed store at an address (R29): Shed logs it; a poisoned per-node state is as absent, its node FREE
until a NODE_REG write rebuilds it (R244); a poisoned wrapped key is unusable until the node's next join (R369); a cell whose entry is poisoned
is absent from the slot prepared; a poisoned packet buffer, Glaze record, capture block or dwell-mirror record is absent. -/
def poisonRead (a : Nat) (s : State) : State :=
  let s1 := logPoison a s
  if 0x80000000 ≤ a ∧ a < 0x81000000 then keepBad [a] s1
  else if 0x81000000 ≤ a ∧ a < 0x83000000 then
    let n := (a - 0x81000000) / 256
    setNode n { poisoned := true, held := (nodeRec s1 n).held } s1
  else if 0x83000000 ≤ a ∧ a < 0x83400000 then
    let n := (a - 0x83000000) / 32
    setNodeKey n { nodeKey s1 n with poisoned := true } s1
  else if 0x83400000 ≤ a ∧ a < 0x834E0000 then
    let row := imageRow (setCells s1 (setAtSlot s1 (s1.eas.next.getD s1.eas.asn))) (a - 0x83400000)
    { s1 with eas := { s1.eas with absent := row.toList ++ s1.eas.absent } }
  else if 0x83600000 ≤ a ∧ a < 0x85600000 then poisonPacket s1
  else if 0x85600000 ≤ a ∧ a < 0x85E00000 then poisonGlaze s1
  else if 0x85E00000 ≤ a ∧ a < 0x86E00000 then poisonCapture ((a - 0x85E00000) / 32) s1
  else if 0x86F00000 ≤ a ∧ a < 0x87000000 then poisonMirror ((a - 0x86F00000) / 272) s1
  else s1

/-! ### Imports (R367, R368) -/

/-- Octets of a key value by TYPE. -/
def keyValueLen (type : Nat) : Nat := if type = 1 then 16 else 32

/-- The wrapping key that WRAP of a blob names (Table 15-4). -/
def wrapKey (blob : Octets) (s : State) : Octets :=
  match fieldNat blob 1 1 with
  | 1 => factoryKtk s
  | 3 => s.sec.recKtk.getD []
  | _ => keyValue s (fieldNat blob 2 2)

/-- The key value that a blob carries: its ciphertext and tag opened under the wrapping key, with octets 0 to 47 as additional data. -/
def unwrapped (blob : Octets) (s : State) : Octets :=
  padTo (keyValueLen (fieldNat blob 12 1)) (Config.crypto "AES-256-GCM open" 256 [wrapKey blob s, (blob.drop 36).take 12, blob.take 48, blob.drop 48])

/-- The number under which accepted IMPORT_SEQ values of a wrapping key are kept. -/
def wrapId (blob : Octets) : Nat :=
  let w := fieldNat blob 1 1
  if w = 1 then 65536 else if w = 3 then 65537 else fieldNat blob 2 2

/-- Where a blob departs from the layout of Table 15-4, or none: the offset of its first field that does. A node key has TYPE 1, USAGE 0 and the NODE of its
row, a slot key NODE 0xFFFF_FFFF; the row of a recovery blob is ignored (log entry 186). -/
def blobFault (toNode : Bool) (row : Nat) (blob : Octets) : Option Nat :=
  let ty := fieldNat blob 12 1
  let soft := fieldNat blob 32 1
  let hard := fieldNat blob 33 1
  let recovery := bit (fieldNat blob 15 1) 3
  ([(fieldNat blob 0 1 != 1, 0), (decide (3 < fieldNat blob 1 1), 1),
    (bit (fieldNat blob 1 1) 0 && fieldNat blob 2 2 != 0xFFFF, 2),
    (decide (ty = 0) || decide (3 < ty) || (toNode && !recovery && ty != 1), 12),
    (toNode && !recovery && fieldNat blob 13 1 % 128 != 0, 13),
    (!recovery && fieldNat blob 28 4 != (if toNode then row else 0xFFFFFFFF), 28),
    (decide (32 < soft), 32), (decide (32 < hard) || (hard != 0 && decide (hard < soft)), 33),
    (blob.length != 64 + keyValueLen ty, min blob.length (64 + keyValueLen ty))].find? (·.1)).map (·.2)

/-- Whether a role may write a blob of its WRAP here (R368, step 2): roles 1 OPERATOR, 2 INSTALLER, 4 PEER, 8 VENDOR. -/
def wrapAllowed (role : Nat) (blob : Octets) (s : State) : Bool :=
  let w := fieldNat blob 1 1
  (role != 4 || (bit (fieldNat blob 15 1) 0 && w == 2)) && (w != 1 || s.chip.lifeCycle == 1) && (w != 3 || s.ctl.mode == .m2)

/-- Whether the recovery record opens: it is sealed under the recovery wrapping key of the root in use, which FACTORY and FIELD derive (R361, R366). -/
def recordOpens (s : State) : Bool := (s.chip.lifeCycle == 1 || s.chip.lifeCycle == 2) && s.sec.recWrap == recoveryKey s

/-- The status of the wrapping key of a blob (R368, step 3): 0 usable. A recovery blob also needs the recovery wrapping key, which RETURN and RETIRED do
not derive (R361). -/
def wrapFault (blob : Octets) (s : State) : Nat :=
  if bit (fieldNat blob 15 1) 3 ∧ s.chip.lifeCycle ≠ 1 ∧ s.chip.lifeCycle ≠ 2 then stKeyLimit
  else match fieldNat blob 1 1 with
  | 0 => if useFault s (fieldNat blob 2 2) 5 = 0 then 0 else stKeyLimit
  | 1 => if s.chip.lifeCycle = 1 ∧ otherUsable s 65536 then 0 else stKeyLimit
  | 2 => if useFault s (fieldNat blob 2 2) 6 = 0 then 0 else stKeyLimit
  | _ => if s.sec.recKtk.isSome ∧ recordOpens s ∧ otherUsable s 65537 then 0 else stKeyLimit

/-- The checks of R368 in order, and INVALID_STATE while a tamper input is active (R480). -/
def importFault (toNode : Bool) (row role : Nat) (blob : Octets) (tagOk : Bool) (s : State) : Option (Nat × Nat) :=
  let recovery := bit (fieldNat blob 15 1) 3
  if tamperHolds s then some (stInvalidState, s.ctl.mode.code)
  else if (blobFault toNode row blob).isSome then some (stFormatError, (blobFault toNode row blob).getD 0)
  else if ¬ wrapAllowed role blob s then some (stAccessDenied, roleNumber role)
  else if wrapFault blob s ≠ 0 then some (stKeyLimit, fieldNat blob 2 2)
  else if ¬ tagOk then some (stSignatureFail, 0)
  else if (blob.drop 4).take 8 ≠ s.chip.serial ∨ s.sec.importSeq.any (fun p => p.1 == wrapId blob && decide (fieldNat blob 20 4 ≤ p.2)) then
    some (stOutOfRange, 0)
  else if ¬ toNode ∧ ¬ recovery ∧ (slotAt s row).held then some (stBusy, 0)
  else if ¬ recovery ∧ bit (fieldNat blob 13 1) 0 ∧ 2 ≤ (beaconKeys s (fieldNat blob 18 1)).length then some (stTableFull, 0)
  else none

/-- log2 of the soft and hard limits that a blob states, each its default where it is 0 (Table 15-4). -/
def blobLimits (blob : Octets) : Nat × Nat :=
  let soft := fieldNat blob 32 1
  let hard := fieldNat blob 33 1
  (if soft = 0 then 30 else soft, if hard = 0 then 31 else hard)

/-- The slot that an accepted blob fills. -/
def blobSlot (gen : Nat) (value blob : Octets) : KeySlot :=
  { gen := gen, held := true, type := fieldNat blob 12 1, usage := fieldNat blob 13 1 % 128, masters := fieldNat blob 14 1 % 8
    flags := fieldNat blob 15 1 % 16, region := fieldNat blob 16 2, pan := fieldNat blob 18 1, keyIndex := fieldNat blob 19 1
    outFc := fieldNat blob 24 4, ceiling := fieldNat blob 24 4 + 65536, soft := (blobLimits blob).1
    hard := (blobLimits blob).2, value := value }

/-- What an accepted import does (R368): a recovery key, a shadow, a slot key, or a node key for the next join. -/
def importEffect (toNode : Bool) (row : Nat) (blob : Octets) (s : State) : State :=
  let flags := fieldNat blob 15 1
  let v := unwrapped blob s
  let s1 := { s with sec := { s.sec with importSeq := sinsert (wrapId blob) (fieldNat blob 20 4) s.sec.importSeq } }
  if bit flags 3 then
    let id := if bit (fieldNat blob 13 1) 4 then 65538 else 65537
    let s2 := { s1 with sec := { s1.sec with
      recWrap := recoveryKey s, otherUses := serase id s1.sec.otherUses, recLimits := sset (fun _ => (30, 31)) s1.sec.recLimits id (blobLimits blob) } }
    if id = 65538 then { s2 with sec := { s2.sec with recPsk := some v } }
    else { s2 with sec := { s2.sec with recKtk := some v, importSeq := serase 65537 s2.sec.importSeq } }
  else if bit flags 0 then
    let n := if toNode then some row else none
    let k := blobSlot 0 v blob
    let sh : KeyShadow := { region := k.region, node := n, type := k.type, usage := k.usage, masters := k.masters, flags := k.flags, pan := k.pan
                            keyIndex := k.keyIndex, outFc := k.outFc, soft := k.soft, hard := k.hard, value := v }
    let s2 := { s1 with sec := { s1.sec with shadows := s1.sec.shadows.filter (fun x => !(x.region == sh.region &&
      x.node == n && x.pan == sh.pan && x.keyIndex == sh.keyIndex && (n.isSome || x.usage == sh.usage))) ++ [sh] } }
    match n with
    | some n => setNodeKey n { nodeKey s2 n with shadow := true } s2
    | none => s2
  else if toNode then
    storeNodeKey row (setNodeKey row { nodeKey s1 row with imported := some (v, fieldNat blob 24 4, bit flags 1) } s1)
  else
    let k := blobSlot (slotAt s1 row).gen v blob
    let s2 := setSlot row k s1
    { s2 with sec := { s2.sec with storeSlots := sset (fun _ => {}) s2.sec.storeSlots row k } }

/-- One import: refused and counted, or done, with its use of the wrapping key (R368, R376). -/
def importKey (toNode : Bool) (row role : Nat) (blob : Octets) (tagOk : Bool) (s : State) : State × Nat × Nat :=
  match importFault toNode row role blob tagOk s with
  | some (st, d) => (secCount 8 s, st, d)
  | none =>
    let s1 := importEffect toNode row blob s
    if wrapId blob < 65536 then
      let h := fieldNat blob 2 2
      let s2 := countUse h s1
      (s2, if softPassed s2 h then (stKeyChangeRequired, h) else (stOk, 0))
    else
      let s2 := useOther (wrapId blob) s1
      (s2, if otherSoft s2 (wrapId blob) then (stKeyChangeRequired, 0xFFFF) else (stOk, 0))

/-! ### Destruction (R368, R382, R383) -/

/-- Whether a key is the beacon key in use of an enabled PAN. -/
def beaconInUse (s : State) (k : KeySlot) : Bool :=
  bit k.usage 0 && panUses k.pan k.keyIndex
where
  panUses (pan index : Nat) : Bool := odField s 0x4030 1 pan 0 1 == 1 && odField s 0x4030 1 pan 24 1 == index

/-- KEY_DESTROY: the slot is freed and the key-store entry erased. -/
def destroyKey (h : Nat) (s : State) : State :=
  let s1 := freeSlot (h % 512) s
  { s1 with sec := { s1.sec with storeSlots := serase (h % 512) s1.sec.storeSlots } }

/-- The dedicated hardware line of R382: every slot, the KEK, KEK_NONCE, the key registers of the lanes and the engine, the
DRBG. -/
def zeroise (s : State) : State :=
  let s1 := (s.sec.slots.map (·.1)).foldl (fun s n => freeSlot n s) s
  { s1 with
    sec := { s1.sec with kek := none, lanes := [none, none, none, none], drbg := none, destroyed := true
                         cipher := { s1.sec.cipher with key := none } }
    pwr := { s1.pwr with nonce := none } }

/-- A free slot for an ephemeral key: at most 32 at once (R357). -/
def ephemeralSlot (s : State) : Option Nat :=
  if 32 ≤ (s.sec.slots.filter (fun e => e.2.held && e.2.ephemeral)).length then none
  else (List.range 512).find? (fun n => !(slotAt s n).held)

/-- An ephemeral key takes a free slot for a session (R357). -/
def putEphemeral (n type usage : Nat) (session : Option Nat) (value : Octets) (s : State) : State :=
  setSlot n { gen := (slotAt s n).gen, held := true, type := type, usage := usage, value := value, ephemeral := true, session := session } s

end Sys2Proof.Machine
end

