-- ==== Sys2Proof/Machine/Cipher.lean ====
section
/-!
DEFINITION. The shared cipher engine (spec/15, R378 to R381): its lock, its key register, its commands.
-/

namespace Sys2Proof.Machine

/-- Modifies the engine. -/
def modCipher (f : Cipher → Cipher) (s : State) : State := { s with sec := { s.sec with cipher := f s.sec.cipher } }

/-- The lock's owner code of a master: 1 Gesso, 2 Canvas, 3 Shed; 0 of a master that can own no lock. -/
def cipherOwner (master : Nat) : Nat :=
  match master with
  | 1 => 1 | 2 => 2 | 4 => 3 | _ => 0

/-- The master of an owner code. -/
def ownerMaster (owner : Nat) : Nat := if owner = 3 then 4 else owner

/-- Whether the engine answers: D2 and D3 on (the engine serves Gesso, Canvas and Shed). -/
def cipherRuns (s : State) : Bool := s.ctl.domains[2]? == some .on && s.ctl.domains[3]? == some .on

/-- The lock is free: key register, IV and internal state are zeroed, and a waiting Gesso takes it (R379, R381). -/
def cipherFree (s : State) : State :=
  modCipher (fun c => { c with
    key := none, cmd := none, owner := if c.gessoWait then 1 else 0, gessoWait := false, idleSince := s.clk.elapsed }) s

/-- A register of the engine from CIPHER_SRC on. -/
def cipherReg (s : State) (k : Nat) : Nat := (s.sec.cipher.regs[k]?).getD 0

/-- The engine writes to memory with the rights of its owner (R378). -/
def cipherStore (a : Nat) (o : Octets) (s : State) : State := busStore (ownerMaster s.sec.cipher.owner) a o s

/-- Output octets a command writes: LEN from DST, zeroed (R380). -/
def zeroOutput (s : State) : State := cipherStore (cipherReg s 1) (zeros (cipherReg s 2)) s

/-- A command in progress is aborted before its commit point: its output is zeroed and STATE reads ABORTED (R380). -/
def cipherAbort (s : State) : State :=
  match s.sec.cipher.cmd with
  | some _ => modCipher (fun c => { c with cmd := none, st := 4, idleSince := s.clk.elapsed }) (zeroOutput s)
  | none => s

/-- The lock is released or forced free, a command in progress aborted. -/
def cipherRelease (s : State) : State := cipherFree (cipherAbort s)

/-- The lock is forced free, and the event logged and counted (R379). -/
def cipherForce (s : State) : State :=
  let o := s.sec.cipher.owner
  if o = 0 then s else cipherRelease (secCount 7 (logEvent 0x42 1 (beOct 1 o) s))

/-- The core of an owner is reset: the lock it holds is forced free (R379). -/
def cipherLost (owner : Nat) (s : State) : State := if s.sec.cipher.owner = owner then cipherForce s else s

/-- After a command: the lock is released where asked, or where Gesso waits (R381). -/
def cipherEnd (auto : Bool) (s : State) : State :=
  if auto ∨ s.sec.cipher.gessoWait then cipherFree s else s

/-- CIPHER_LOCK_READ (R378): a free engine is granted to the reader; Gesso's wait is recorded, and granted at once where no
command is in progress (log entry 29). -/
def execCipherLockRead (master : Nat) (s : State) : Host.Outcome State Fault Refusal :=
  let o := cipherOwner master
  let c := s.sec.cipher
  if ¬ cipherRuns s then done s s
  else if o ≠ 0 ∧ c.owner = 0 then
    done s (emit (.word master (2 ^ 31 + o)) (modCipher (fun c => { c with owner := o, idleSince := s.clk.elapsed }) s))
  else if o = 1 ∧ c.owner ≠ 1 then
    let s1 := modCipher (fun c => { c with gessoWait := true }) s
    let s2 := if c.cmd = none then cipherFree s1 else s1
    done s (emit (.word master (b2n (s2.sec.cipher.owner == 1) * 2 ^ 31 + b2n s2.sec.cipher.gessoWait * 2 ^ 30 +
      s2.sec.cipher.owner)) s2)
  else
    done s (emit (.word master (b2n (o != 0 && c.owner == o) * 2 ^ 31 + b2n c.gessoWait * 2 ^ 30 + c.owner)) s)

/-- CIPHER_LOCK_RELEASE (R379): only the owner's write of RELEASE frees the lock. -/
def execCipherLockRelease (master : Nat) (s : State) : Host.Outcome State Fault Refusal :=
  if cipherRuns s ∧ cipherOwner master ≠ 0 ∧ s.sec.cipher.owner = cipherOwner master then done s (cipherRelease s) else done s s

/-- An access by a master that is not the owner is a bus error (R378); else `f`. -/
def asOwner (master addr : Nat) (f : State → State) (s : State) : State :=
  if ¬ cipherRuns s then s
  else if cipherOwner master = 0 ∨ s.sec.cipher.owner ≠ cipherOwner master then accessViolation master addr s
  else f s

/-- The bit of MASTERS that stands for an owner (Table 15-4). -/
def masterBit (owner : Nat) : Nat := owner - 1

/-- A key is loaded over the key path where R379 admits it; else STATE reads KEY_REFUSED or KEY_LIMIT. -/
def cipherKey (h : Nat) (s : State) : State :=
  match keyOf s h with
  | some k =>
    if ¬ keysAllowed s ∨ tamperHolds s ∨ ¬ usable k 2 ∨ ¬ bit k.masters (masterBit s.sec.cipher.owner) then
      secCount 6 (modCipher (fun c => { c with key := none, st := 5 }) s)
    else if 2 ^ k.hard ≤ k.uses then modCipher (fun c => { c with key := none, st := 6 }) s
    else modCipher (fun c => { c with key := some h, st := 0, keyChange := softPassed s h }) s
  | none => secCount 6 (modCipher (fun c => { c with key := none, st := 5 }) s)

/-- CIPHER_KEY_WRITE (R379). -/
def execCipherKeyWrite (master handle : Nat) (s : State) : Host.Outcome State Fault Refusal :=
  done s (asOwner master 0x4C000004 (cipherKey handle) s)

/-- Whether a command's format is refused: a reserved mode, a length out of range, or one that its mode does not take. -/
def cipherFormat (mode : Nat) (regs : List Nat) : Bool :=
  let len := regs[2]?.getD 0
  let aad := regs[4]?.getD 0
  decide (4 < mode) || decide (16384 < len) || decide (1024 < aad) || (decide (mode ≤ 1) && len % 16 != 0)

/-- START: refused while busy, with PREEMPTED while Gesso waits, for the format, or for the key; else it runs and counts a use
(R376, R378, R381). -/
def cipherStart (cmd : Nat) (s : State) : State :=
  let c := s.sec.cipher
  let mode := cmd % 16
  if c.cmd.isSome then s
  else if c.gessoWait ∧ c.owner ≠ 1 then modCipher (fun c => { c with st := 7 }) s
  else match c.key with
    | none => secCount 6 (modCipher (fun c => { c with st := 5 }) s)
    | some h =>
      match keyOf s h with
      | none => secCount 6 (modCipher (fun c => { c with st := 5 }) s)
      | some k =>
        if 2 ^ k.hard ≤ k.uses then modCipher (fun c => { c with st := 6 }) s
        else if cipherFormat mode c.regs then modCipher (fun c => { c with st := 8 }) s
        else
          let s1 := countUse h s
          modCipher (fun c => { c with
            st := 1, tooLate := false, cmd := some (mode, bit cmd 4, cmd / 64 % 4, bit cmd 8), keyChange := softPassed s1 h }) s1

/-- CIPHER_CMD_START (R380, R381). -/
def execCipherCmdStart (master cmd : Nat) (s : State) : Host.Outcome State Fault Refusal :=
  done s (asOwner master 0x4C000008 (cipherStart cmd) s)

/-- ABORT: before the commit point the output is zeroed; after it TOO_LATE is set (R380). -/
def cipherAbortWrite (s : State) : State :=
  if s.sec.cipher.cmd.isSome then
    let auto := match s.sec.cipher.cmd with
      | some (_, _, _, a) => a
      | none => false
    cipherEnd auto (cipherAbort s)
  else if s.sec.cipher.st = 2 ∨ s.sec.cipher.st = 3 then modCipher (fun c => { c with tooLate := true }) s
  else s

/-- CIPHER_CMD_ABORT (R380). -/
def execCipherCmdAbort (master : Nat) (s : State) : Host.Outcome State Fault Refusal :=
  done s (asOwner master 0x4C000008 cipherAbortWrite s)

/-- Octets of a tag by TAG_LEN. -/
def tagOctets (t : Nat) : Nat := 4 * (t + 1)

/-- The ranges of memory that a command reads: input, additional data of CCM and GCM, the IV of every mode but ECB, and the tag that is verified. -/
def cipherReads (mode : Nat) (decrypt : Bool) (tagLen : Nat) (s : State) : List (Nat × Nat) :=
  [(cipherReg s 0, cipherReg s 2)] ++ (if 3 ≤ mode then [(cipherReg s 3, cipherReg s 4)] else []) ++
  (if mode = 0 then [] else [(cipherReg s 5, 16)]) ++ (if 3 ≤ mode ∧ decrypt then [(cipherReg s 6, tagOctets tagLen)] else [])

/-- The octets of a command's ranges, and the first range that its owner may not read. -/
def cipherInput (ranges : List (Nat × Nat)) (s : State) : List Octets × Option Nat :=
  let m := ownerMaster s.sec.cipher.owner
  (ranges.map (fun r => (busLoad m r.1 r.2 s).2), (ranges.find? (fun r => r.2 != 0 && !mayRead s m r.1 r.2)).map (·.1))

/-- The octets a command computes from its key and what it reads; the cipher is the environment's function (log entry 6). -/
def cipherOutput (mode : Nat) (decrypt : Bool) (h : Nat) (input : List Octets) (s : State) : Octets :=
  padTo (cipherReg s 2) (Config.crypto "AES" (mode * 2 + b2n decrypt) (keyValue s h :: input))

/-- A command ends (R380): a tag that fails zeroes the output; else output and, where one is generated, the tag are written, all with the
owner's rights (R378). After an access that they refuse STATE reads FORMAT (log entry 169). -/
def cipherComplete (authOk : Bool) (s : State) : State :=
  let c := s.sec.cipher
  match c.cmd, c.key with
  | some (mode, decrypt, tagLen, auto), some h =>
    let m := ownerMaster c.owner
    let x := cipherInput (cipherReads mode decrypt tagLen s) s
    let s1 :=
      match x.2 with
      | some a => modCipher (fun c => { c with st := 8 }) (accessViolation m a s)
      | none =>
        if decrypt ∧ 3 ≤ mode ∧ ¬ authOk then secCount 5 (modCipher (fun c => { c with st := 3 }) (zeroOutput s))
        else if ¬ mayWrite s m (cipherReg s 1) (cipherReg s 2) then
          modCipher (fun c => { c with st := 8 }) (accessViolation m (cipherReg s 1) s)
        else
          let o := cipherOutput mode decrypt h x.1 s
          let s2 := cipherStore (cipherReg s 1) o s
          let s3 := if 3 ≤ mode ∧ ¬ decrypt then
              cipherStore (cipherReg s 6) (padTo (tagOctets tagLen) (Config.crypto "AES tag" mode (keyValue s h :: o :: x.1))) s2
            else s2
          modCipher (fun c => { c with st := 2 }) s3
    cipherEnd auto (modCipher (fun c => { c with cmd := none, idleSince := s.clk.elapsed }) s1)
  | _, _ => s

/-- CIPHER_COMMAND_COMPLETE (R381). -/
def execCipherCommandComplete (authOk : Bool) (s : State) : Host.Outcome State Fault Refusal := done s (cipherComplete authOk s)

/-- CIPHER_LOCK_IDLE_EXPIRY (R379): 1 ms without a command. -/
def execCipherLockIdleExpiry (s : State) : Host.Outcome State Fault Refusal :=
  if s.sec.cipher.owner ≠ 0 ∧ s.sec.cipher.cmd = none then
    done s (cipherForce (advanceElapsed (s.sec.cipher.idleSince + msCycles) s))
  else done s s

end Sys2Proof.Machine
end

