-- ==== Sys2Proof/Machine/Switch.lean ====
section
/-!
DEFINITION. The cabinet switch and the forwarding fast path (spec/12): learning, forwarding, RFC 6282 compression, and the
resolution of packets to and from nodes.
-/

namespace Sys2Proof.Machine

/-! ### Compression (R304, R305) -/

/-- Contexts enabled for a PAN: number, prefix length, prefix. -/
def contexts (s : State) (pan : Nat) : List (Nat × Nat × Nat) :=
  (List.range 16).filterMap (fun c =>
    let o := odGet s 0x6430 1 (16 * pan + c)
    if fieldNat o 0 1 = 1 then some (c, fieldNat o 1 1, fieldNat o 2 16) else none)

/-- Whether an address lies under a context. -/
def underContext (s : State) (pan addr : Nat) : Bool := (contexts s pan).any (fun c => prefixEq c.2.1 c.2.2 addr)

/-- The address that a prefix and an IID give (RFC 6282): the bits the prefix covers from it, the rest from the IID, zeros between. -/
def underPrefix (len pfx iid : Nat) : Nat :=
  let free := 2 ^ (128 - min 128 len)
  pfx / free * free + iid % min free (2 ^ 64)

/-- The prefix of a link-local address, which the stateless forms use. -/
def linkLocal : Nat := 0xFE80 * 2 ^ 112

/-- The interface identifier of an address. -/
def iidOf (addr : Nat) : Nat := addr % 2 ^ 64

/-- The IID 0000:00FF:FE00:XXXX of a short address (R305). -/
def iidShort (short : Nat) : Nat := 0xFFFE000000 + short

/-- The IID of an EUI-64: its universal/local bit inverted. -/
def iidEui (eui : Nat) : Nat := if eui / 2 ^ 57 % 2 = 0 then eui + 2 ^ 57 else eui - 2 ^ 57

/-- Whether an IID has the form 0000:00FF:FE00:XXXX. -/
def isShortIid (iid : Nat) : Bool := iid / 65536 == 0xFFFE00

/-- Address mode (context bit, mode bits), inline octets and context of a unicast address: the shortest form that reproduces it, stateless
before the contexts and the lower-numbered context first (R305). `derived` holds the IIDs the link layer gives. -/
def addrForm (s : State) (pan addr : Nat) (derived : List Nat) : Nat × Nat × Octets × Nat :=
  let prefixes := (0, 0, 64, linkLocal) :: (contexts s pan).map (fun c => (1, c))
  let forms := [(3, ([] : Octets), derived), (2, beOct 2 addr, [iidShort (addr % 65536)]), (1, beOct 8 addr, [iidOf addr])]
  (forms.findSome? (fun f =>
    (prefixes.find? (fun p => f.2.2.any (fun i => underPrefix p.2.2.1 p.2.2.2 i == addr))).map (fun p =>
      (p.1, f.1, f.2.1, p.2.1)))).getD (0, 0, beOct 16 addr, 0)

/-- The same of a multicast destination. -/
def mcastForm (s : State) (pan addr : Nat) : Nat × Nat × Octets × Nat :=
  let sc := addr / 2 ^ 112 % 256
  let low := addr % 2 ^ 112
  if sc = 2 ∧ low < 256 then (0, 3, beOct 1 low, 0)
  else if low < 2 ^ 24 then (0, 2, beOct 1 sc ++ beOct 3 low, 0)
  else if low < 2 ^ 40 then (0, 1, beOct 1 sc ++ beOct 5 low, 0)
  else match (contexts s pan).find? (fun c => low / 2 ^ 96 % 256 == c.2.1 && low / 2 ^ 32 % 2 ^ 64 == c.2.2 / 2 ^ 64) with
    | some c => (1, 0, beOct 1 sc ++ beOct 1 (low / 2 ^ 104) ++ beOct 4 low, c.1)
    | none => (0, 0, beOct 16 addr, 0)

/-- Traffic class and flow label: TF bits and inline octets; ECN is the low two bits of the class. -/
def tfForm (p : Packet) : Nat × Octets :=
  let ecn := p.tclass % 4
  let dscp := p.tclass / 4
  if p.flow = 0 ∧ p.tclass = 0 then (3, [])
  else if p.flow = 0 then (2, beOct 1 (ecn * 64 + dscp))
  else if dscp = 0 then (1, beOct 3 (ecn * 2 ^ 22 + p.flow))
  else (0, beOct 4 ((ecn * 64 + dscp) * 2 ^ 24 + p.flow))

/-- Hop limit: HLIM bits and inline octets. -/
def hlimForm (h : Nat) : Nat × Octets :=
  if h = 1 then (1, []) else if h = 64 then (2, []) else if h = 255 then (3, []) else (0, beOct 1 h)

/-- UDP ports in the NHC form: P bits and inline octets. -/
def portForm (sp dp : Nat) : Nat × Octets :=
  if sp / 16 = 0xF0B ∧ dp / 16 = 0xF0B then (3, beOct 1 (sp % 16 * 16 + dp % 16))
  else if dp / 256 = 0xF0 then (1, beOct 2 sp ++ beOct 1 (dp % 256))
  else if sp / 256 = 0xF0 then (2, beOct 1 (sp % 256) ++ beOct 2 dp)
  else (0, beOct 2 sp ++ beOct 2 dp)

/-- Sum of 16-bit words, an odd last octet padded. -/
def wordSum : Octets → Nat
  | a :: b :: l => a.toNat * 256 + b.toNat + wordSum l
  | [a] => a.toNat * 256
  | [] => 0

/-- One's complement of the folded sum; 0xFFFF in place of 0. -/
def udpChecksum (p : Packet) : Nat :=
  let len := 8 + p.payload.length
  let t := wordSum (beOct 16 p.src ++ beOct 16 p.dst) + len + 17 + p.srcPort + p.dstPort + len + wordSum p.payload
  let f := t % 65536 + t / 65536
  let g := f % 65536 + f / 65536
  if g = 65535 then 65535 else 65535 - g

/-- A packet compressed for a node (R305): the source is the collector's short address 0x0000. -/
def compress (s : State) (r : NodeRec) (p : Packet) : Octets :=
  let tf := tfForm p
  let hl := hlimForm p.hopLimit
  let udp := p.nextHeader == 17
  let sa := if p.src = 0 then (1, 0, [], 0) else addrForm s r.pan p.src [iidShort 0]
  let m := p.dst / 2 ^ 120 == 255
  let da := if m then mcastForm s r.pan p.dst else addrForm s r.pan p.dst [iidShort r.short, iidEui r.eui]
  let cid := sa.2.2.2 != 0 || da.2.2.2 != 0
  let o1 := 0x60 + tf.1 * 8 + b2n udp * 4 + hl.1
  let o2 := b2n cid * 128 + sa.1 * 64 + sa.2.1 * 16 + b2n m * 8 + da.1 * 4 + da.2.1
  let pf := portForm p.srcPort p.dstPort
  beOct 1 o1 ++ beOct 1 o2 ++ (if cid then beOct 1 (sa.2.2.2 * 16 + da.2.2.2) else []) ++ tf.2 ++
  (if udp then [] else beOct 1 p.nextHeader) ++ hl.2 ++ sa.2.2.1 ++ da.2.2.1 ++
  (if udp then beOct 1 (0xF0 + pf.1) ++ pf.2 ++ beOct 2 p.checksum else []) ++ p.payload

/-! ### Decompression (R304, R306) -/

/-- What a node's packet decompresses to. -/
inductive Unpacked
  | packet (p : Packet)
  /-- It names a context not enabled for the PAN. -/
  | noContext
  /-- Its form lies outside Table 12-6. -/
  | canvas
  deriving DecidableEq, Repr

/-- The number that the next `n` octets hold, and what follows them. -/
def takeNum (n : Nat) (o : Octets) : Option (Nat × Octets) := if o.length < n then none else some (beNat (o.take n), o.drop n)

/-- Traffic class and flow label by their TF bits. -/
def tfRead (tf : Nat) (o : Octets) : Option ((Nat × Nat) × Octets) :=
  match tf with
  | 0 => (takeNum 4 o).map (fun x => ((x.1 / 2 ^ 24 % 64 * 4 + x.1 / 2 ^ 30, x.1 % 2 ^ 20), x.2))
  | 1 => (takeNum 3 o).map (fun x => ((x.1 / 2 ^ 22, x.1 % 2 ^ 20), x.2))
  | 2 => (takeNum 1 o).map (fun x => ((x.1 % 64 * 4 + x.1 / 64, 0), x.2))
  | _ => some ((0, 0), o)

/-- Hop limit by its HLIM bits. -/
def hlimRead (hlim : Nat) (o : Octets) : Option (Nat × Octets) :=
  match hlim with
  | 0 => takeNum 1 o
  | 1 => some (1, o)
  | 2 => some (64, o)
  | _ => some (255, o)

/-- An address under a prefix by its mode bits; `derived` is the IID of the link layer. -/
def addrRead (p : Nat × Nat) (mode derived : Nat) (o : Octets) : Option (Nat × Octets) :=
  match mode with
  | 1 => (takeNum 8 o).map (fun x => (underPrefix p.1 p.2 x.1, x.2))
  | 2 => (takeNum 2 o).map (fun x => (underPrefix p.1 p.2 (iidShort x.1), x.2))
  | _ => some (underPrefix p.1 p.2 derived, o)

/-- A source by SAC and SAM. -/
def srcRead (sac : Bool) (sam : Nat) (p : Nat × Nat) (derived : Nat) (o : Octets) : Option (Nat × Octets) :=
  if sam = 0 then (if sac then some (0, o) else takeNum 16 o) else addrRead p sam derived o

/-- A multicast destination by DAC and DAM. -/
def mcastRead (dac : Bool) (dam : Nat) (p : Nat × Nat) (o : Octets) : Option (Nat × Octets) :=
  let ff (sc low : Nat) : Nat := 0xFF * 2 ^ 120 + sc * 2 ^ 112 + low
  if dac then
    (takeNum 6 o).map (fun x =>
      (ff (x.1 / 2 ^ 40) (x.1 / 2 ^ 32 % 256 * 2 ^ 104 + p.1 * 2 ^ 96 + p.2 / 2 ^ 64 * 2 ^ 32 + x.1 % 2 ^ 32), x.2))
  else match dam with
    | 0 => takeNum 16 o
    | 1 => (takeNum 6 o).map (fun x => (ff (x.1 / 2 ^ 40) (x.1 % 2 ^ 40), x.2))
    | 2 => (takeNum 4 o).map (fun x => (ff (x.1 / 2 ^ 24) (x.1 % 2 ^ 24), x.2))
    | _ => (takeNum 1 o).map (fun x => (ff 2 x.1, x.2))

/-- A destination by M, DAC and DAM; the frame's link-layer destination is the collector, 0x0000. -/
def dstRead (m dac : Bool) (dam : Nat) (p : Nat × Nat) (o : Octets) : Option (Nat × Octets) :=
  if m then mcastRead dac dam p o
  else if dam = 0 then (if dac then none else takeNum 16 o)
  else addrRead p dam (iidShort 0) o

/-- Ports by the P bits of the UDP NHC. -/
def portsRead (p : Nat) (o : Octets) : Option ((Nat × Nat) × Octets) :=
  match p with
  | 0 => (takeNum 4 o).map (fun x => ((x.1 / 65536, x.1 % 65536), x.2))
  | 1 => (takeNum 3 o).map (fun x => ((x.1 / 256, 0xF000 + x.1 % 256), x.2))
  | 2 => (takeNum 3 o).map (fun x => ((0xF000 + x.1 / 65536, x.1 % 65536), x.2))
  | _ => (takeNum 1 o).map (fun x => ((0xF0B0 + x.1 / 16, 0xF0B0 + x.1 % 16), x.2))

/-- What follows the addresses of a compressed packet: the UDP NHC, with its checksum computed where C is set. -/
def nhcRead (p : Packet) (o : Octets) : Option Packet := do
  let (n, o) ← takeNum 1 o
  if n / 8 ≠ 0x1E then none
  else
    let (ports, o) ← portsRead (n % 4) o
    let q := { p with nextHeader := 17, srcPort := ports.1, dstPort := ports.2 }
    if bit n 2 then some { q with payload := o, checksum := udpChecksum { q with payload := o } }
    else (takeNum 2 o).map (fun x => { q with checksum := x.1, payload := x.2 })

/-- What follows an IPv6 header in full: a UDP header, or another payload. -/
def plainRead (p : Packet) (o : Octets) : Option Packet :=
  if p.nextHeader = 17 then
    (takeNum 8 o).map (fun x => { p with
      srcPort := x.1 / 2 ^ 48, dstPort := x.1 / 2 ^ 32 % 65536, checksum := x.1 % 65536, payload := x.2 })
  else some { p with payload := o }

/-- The fields of an IPHC packet after its contexts: `sp` and `dp` are the prefixes that they name. -/
def iphcRead (o1 o2 : Nat) (sp dp : Nat × Nat) (derived : Nat) (o : Octets) : Option Packet := do
  let (tf, o) ← tfRead (o1 / 8 % 4) o
  let (nh, o) ← if bit o1 2 then some (17, o) else takeNum 1 o
  let (hl, o) ← hlimRead (o1 % 4) o
  let (src, o) ← srcRead (bit o2 6) (o2 / 16 % 4) sp derived o
  let (dst, o) ← dstRead (bit o2 3) (bit o2 2) (o2 % 4) dp o
  let p : Packet := { src := src, dst := dst, tclass := tf.1, flow := tf.2, nextHeader := nh, hopLimit := hl }
  if bit o1 2 then nhcRead p o else plainRead p o

/-- An uncompressed IPv6 packet, after its dispatch 0x41. -/
def ipv6Read (o : Octets) : Option Packet := do
  let (v, o) ← takeNum 4 o
  let (_, o) ← takeNum 2 o
  let (nh, o) ← takeNum 1 o
  let (hl, o) ← takeNum 1 o
  let (src, o) ← takeNum 16 o
  let (dst, o) ← takeNum 16 o
  plainRead { src := src, dst := dst, tclass := v / 2 ^ 20 % 256, flow := v % 2 ^ 20, nextHeader := nh, hopLimit := hl } o

/-- The packet that was read, or Canvas's where the octets have no such form. -/
def unpacked : Option Packet → Unpacked
  | some p => .packet p
  | none => .canvas

/-- A node's packet decompressed (Table 12-6); the reserved combinations of M, DAC and DAM are no form of RFC 6282. -/
def decompress (s : State) (r : NodeRec) : Octets → Unpacked
  | a :: b :: rest =>
    let o1 := a.toNat
    let o2 := b.toNat
    if o1 = 0x41 then unpacked (ipv6Read (b :: rest))
    else if o1 / 32 ≠ 3 ∨ (bit o2 2 ∧ (if bit o2 3 then o2 % 4 ≠ 0 else o2 % 4 = 0)) then .canvas
    else
      let cid := if bit o2 7 then takeNum 1 rest else some (0, rest)
      match cid with
      | none => .canvas
      | some (c, o) =>
        let ctx (used : Bool) (n : Nat) : Option (Nat × Nat) :=
          if used then ((contexts s r.pan).find? (fun x => x.1 == n)).map (·.2) else some (64, linkLocal)
        match ctx (bit o2 6 && o2 / 16 % 4 != 0) (c / 16), ctx (bit o2 2) (c % 16) with
        | some sp, some dp => unpacked (iphcRead o1 o2 sp dp (iidShort r.short) o)
        | _, _ => .noContext
  | _ => .canvas

/-- Next headers that leave the fast path: IPv6 extension headers and IP-in-IP (Table 12-6). -/
def offProfile (p : Packet) : Bool := [0, 41, 43, 44, 50, 51, 60, 135, 139, 140].contains p.nextHeader || !p.wellFormed

/-! ### Resolution (R306, R307) -/

/-- A packet leaves the fast path for Canvas, and is counted. -/
def toCanvas (node : Option Nat) (p : Packet) (s : State) : State := emit (.packet 2 0 node p) (bump 0x6400 3 5 s)

/-- Length of an Ethernet frame that carries a packet, with OWN_VID's tag. -/
def frameLen (s : State) (p : Packet) : Nat :=
  14 + 40 + (if p.nextHeader = 17 then 8 else 0) + p.payload.length + 4 + tagLen s

/-- A packet leaves on the port that its entry names, to the next hop (R306): an uplink as a report with the stamp of its reception, any other by
its DSCP (Table 13-2). -/
def toPort (port next : Nat) (node : Option Nat) (p : Packet) (yellow : Bool) (s : State) : State :=
  let f : EgFrame := { len := frameLen s p, yellow := yellow, kind := if node.isSome then 1 else 4, body := p.payload, dst := next, src := ownMac s
                       tci := ownTci s, ip := p.dst, udp := p.dstPort, node := node, stamp := (node.map (fun n => (nodeRec s n).ulStamp)).getD (nowNs s) }
  let s1 := emit (.packet port next node p) s
  if node.isSome then reportEnqueue port f s1 else classEnqueue port (odNat s 0x6810 3 (p.tclass / 4 % 64)) f s1

/-- The DOWNLINK cells that a node occupies in any phase. -/
def dlCellsOf (s : State) (n : Nat) : List Cell :=
  (setCells s (odNat s 0x4010 1)).filter (fun c => c.kind == 1 &&
    (List.range (2 ^ c.k)).any (fun ph => odNat s 0x4013 1 (occRow c.row ph) == n))

/-- The smallest effective maximum of R207 over a node's DOWNLINK cells; none where it has no such cell (log entry 28). -/
def dlMax (s : State) (n : Nat) : Option Nat :=
  let maxOf (c : Cell) : Nat :=
    let p := profileOf s (classProfile s c.cls)
    effMax p p.coded (serveMode s).slotCode
  ((dlCellsOf s n).map maxOf).foldl (fun b m => some ((b.map (min m)).getD m)) none

/-- A packet resolved to a node: dropped and counted where it takes none, handed to Canvas where it does not fit, else queued
(R305, R307, R317). -/
def toNode (n : Nat) (p : Packet) (yellow : Bool) (s : State) : State :=
  let r := nodeRec s n
  if r.st = .free ∨ r.poisoned then bump 0x6400 3 9 s
  else if offProfile p then toCanvas none p s
  else
    let c := compress s r p
    if (dlMax s n).any (fun m => decide (m < dlPsdu c)) then toCanvas none p s else dlEnqueue n c yellow true s

/-- The IP6 entry of an address. -/
def ip6Entry (s : State) (addr : Nat) : Option TEntry := lookup s.tre 3 (beOct 16 addr)

/-- The keys by which step 4 of R306 resolves a destination. -/
def resolveKeys (s : State) (dst : Nat) : List (Nat × Octets) :=
  ((pansOn s).filter (fun pan => underContext s pan dst)).map (fun pan =>
    let iid := iidOf dst
    if isShortIid iid then (2, beOct 2 (panField s pan 2 2) ++ beOct 2 iid) else (1, beOct 8 (iidEui iid)))

/-- Step 4 of R306: a destination under a context of one of the unit's PANs resolved through SHORT or NODE. -/
def resolve (s : State) (dst : Nat) : Option Nat := (resolveKeys s dst).findSome? (fun k => (lookup s.tre k.1 k.2).map (·.value))

/-- What the reads of a packet's lookups leave: those of IP6, and where it has no entry those of SHORT and NODE (R29, R293). -/
def routeReads (dst : Nat) (s : State) : State :=
  let s1 := lookupReads 3 (beOct 16 dst) s
  if (ip6Entry s dst).isSome then s1 else (resolveKeys s dst).foldl (fun s k => lookupReads k.1 k.2 s) s1

/-- Step 5 of R306: DEFAULT_ROUTE, or the drop. -/
def byDefault (node : Option Nat) (p : Packet) (yellow : Bool) (s : State) : State :=
  let o := odGet s 0x6420 2 0
  if fieldNat o 0 1 = 1 then toPort (fieldNat o 1 1) (fieldNat o 2 6) node p yellow s else bump 0x6400 3 8 s

/-- KIND of an IP6 entry (Table 12-2). -/
def ip6Kind (e : TEntry) : Nat := e.flags / 2 % 4

/-- Whether an address is one of a node's own (R306). -/
def ownAddress (s : State) (n addr : Nat) : Bool :=
  let r := nodeRec s n
  (underContext s r.pan addr && (iidOf addr == iidShort r.short || iidOf addr == iidEui r.eui)) ||
  (match ip6Entry s addr with
   | some e => ip6Kind e == 0 && e.value == n
   | none => false)

/-- A packet of an uplink released as NEW is forwarded: steps 2 to 5 of R306. -/
def forwardUplink (n : Nat) (p : Packet) (s : State) : State :=
  if offProfile p then toCanvas (some n) p s
  else if ¬ ownAddress s n p.src then bump 0x6400 3 7 s
  else
    let t := routeReads p.dst s
    match ip6Entry s p.dst with
    | some e =>
      if ip6Kind e = 0 then toNode e.value p false t
      else if ip6Kind e = 1 then toPort e.value e.next (some n) p false t
      else toCanvas (some n) p t
    | none => match resolve s p.dst with
      | some m => toNode m p false t
      | none => byDefault (some n) p false t

/-- An uplink released as NEW: decompressed, and forwarded (R306). -/
def uplinkPacket (n : Nat) (o : Octets) (s : State) : State :=
  match decompress s (nodeRec s n) o with
  | .packet p => forwardUplink n p s
  | .noContext => bump 0x6400 3 6 s
  | .canvas => toCanvas (some n) { payload := o, wellFormed := false } s

/-- An IPv6 packet that reaches the internal port (R307). -/
def ingressPacket (p : Packet) (yellow : Bool) (s : State) : State :=
  if p.nextHeader = 17 ∧ (p.dstPort = odNat s 0xA010 1 ∨ p.dstPort = odNat s 0x7000 4) then toCanvas none p s
  else
    let t := routeReads p.dst s
    match ip6Entry s p.dst with
    | some e =>
      if ip6Kind e = 0 then toNode e.value p yellow t
      else if ip6Kind e = 1 then toPort e.value e.next none p yellow t
      else toCanvas none p t
    | none => match resolve s p.dst with
      | some m => toNode m p yellow t
      | none =>
        if (pansOn s).any (fun pan => underContext s pan p.dst) then toCanvas none p t else byDefault none p yellow t

/-! ### The switch (R298 to R302) -/

/-- Whether an Ethernet address is a group address. -/
def groupMac (m : Nat) : Bool := m / 2 ^ 40 % 2 == 1

/-- What learning makes of a frame: it goes on, or is dropped. -/
inductive Learned
  | on | drop
  deriving DecidableEq, Repr

/-- Learned entries of a port. -/
def learnedOn (s : State) (port : Nat) : Nat := ((arrayEntries s.tre 1).filter (fun e => learned e && e.value == port)).length

/-- A source that cannot be learned (R299). -/
def macExcess (port : Nat) (s : State) : State × Learned :=
  if odNat s 0x6410 2 port = 0 then (bump 0x6400 3 2 s, .drop) else (bump 0x6400 3 3 s, .on)

/-- Whether learning is as if off, for want of room in the digest ring (R310). -/
def learningOff (s : State) : Bool := ringFull s.tre || s.tre.waiting != []

/-- Learning of a frame's source (R298, R299, R310); a learned entry moves to a port only while that port is below its limit
(log entry 166), and under FLOOD its entry on the port it left goes, so that frames to it are flooded (R299). -/
def learn (port src : Nat) (s : State) : State × Learned :=
  let key := beOct 6 src
  if groupMac src ∨ src = ownMac s then (s, .on)
  else match lookup s.tre 4 key with
    | some e =>
      if ¬ learned e then (if e.value = port then (s, .on) else (bump 0x6400 3 1 s, .drop))
      else if learningOff s then (s, .on)
      else if e.value ≠ port ∧ odNat s 0x6410 1 port ≤ learnedOn s port then
        macExcess port (if odNat s 0x6410 2 port = 0 then s else tableDelete 4 key s)
      else
        let r := insertNow { e with aux := macTime s, value := port } s
        if r.2 = .waits then (s, .on) else (r.1, .on)
    | none =>
      if learningOff s then (s, .on)
      else if odNat s 0x6410 1 port ≤ learnedOn s port then macExcess port s
      else
        let r := insertNow { tag := 4, aux := macTime s, value := port, key := key } s
        match r.2 with
        | .ok => (r.1, .on)
        | .waits => (s, .on)
        | .tableFull => macExcess port r.1

/-- A transit frame's class on its egress port (Table 13-2). -/
def transitClass (s : State) (f : EthFrame) : Nat :=
  match f.tci with
  | some t => odNat s 0x6810 4 (t / 8192 % 8)
  | none => if f.kind = 1 then odNat s 0x6810 3 (f.packet.tclass / 4 % 64) else 0

/-- A frame goes out on the other Ethernet port, with its addresses and its tag (R301, R303). -/
def transit (out : Nat) (f : EthFrame) (s : State) : State :=
  classEnqueue out (transitClass s f) { len := f.len, kind := if f.kind = 1 then 4 else 0, body := f.packet.payload, dst := f.dst, src := f.src, tci := f.tci
                                        ip := f.packet.dst, udp := f.packet.dstPort, stamp := nowNs s } s

/-- A frame reaches the internal port: metered, and a packet goes to the fast path (R307, R314). -/
def toInternal (port : Nat) (f : EthFrame) (s : State) : State :=
  let r := meterFrame port f s
  if r.1 = 2 then r.2
  else if f.kind = 1 then ingressPacket f.packet (r.1 == 1) r.2
  else toCanvas none f.packet r.2

/-- Forwarding of a frame from an Ethernet port, the first matching row of Table 12-5. -/
def forward (port : Nat) (f : EthFrame) (s : State) : State :=
  let other := 1 - port
  if f.dst / 16 = 0x0180C200000 ∨ f.kind = 2 ∨ f.kind = 3 then s
  else if f.dst = ownMac s then toInternal port f s
  else if groupMac f.dst then
    let s1 := transit other f s
    if f.joined ∨ f.dst = 0xFFFFFFFFFFFF then toInternal port f s1 else s1
  else match lookup s.tre 4 (beOct 6 f.dst) with
    | some e => if e.value = port then s else if e.value = 2 then toInternal port f s else transit other f s
    | none => transit other f s

/-- A frame received whole on a port: the counters, and the frames that are dropped (R301, R432), then learning and forwarding. -/
def ethReceive (port : Nat) (f : EthFrame) (s : State) : State :=
  if ¬ f.fcsOk then bump 0x6400 3 4 (bump 0xA100 4 (8 * port + 4) s)
  else if 2048 < f.len then bump 0x6400 3 4 (bump 0xA100 4 (8 * port + 5) s)
  else
    let s1 := bump 0xA100 4 (8 * port + 2) (bump 0xA100 4 (8 * port) s) f.len
    if f.kind = 4 then bump 0xA100 4 (8 * port + 7) s1
    else
      let r := learn port f.src s1
      match r.2 with
      | .drop => r.1
      | .on => forward port f r.1

/-- ETH_FRAME_RECEIVED (R298 to R302, R314): on a port that is up, while Trellis runs. -/
def execEthFrameReceived (port : Nat) (f : EthFrame) (s : State) : Host.Outcome State Fault Refusal :=
  if port < 2 ∧ ethUp s port ∧ trellisRuns s then done s (ethReceive port f s) else done s s

end Sys2Proof.Machine
end

