-- ==== Sys2Proof/Machine/Recovery.lean ====
section
/-!
DEFINITION. The persisted log (R413), and the recovery ladder (R419 to R426): functions, their faults, the steps L1 and L2, and the
demand of a step L3 or L4, which WARM_RESET_ASSERT and POWER_CYCLE carry out.
-/

namespace Sys2Proof.Machine

/-! ### The persisted log (R413) -/

/-- The persisted log after an append, newest first: the oldest sectors of 128 entries are erased to make room in 65,536. -/
def flashTrim (l : List LogEntry) : List LogEntry :=
  if l.length ≤ 65536 then l else l.take (l.length - 128 * ((l.length - 65536 + 127) / 128))

/-- Copies the unpersisted entries that a test picks; each has PERSISTED set. -/
def persistWhere (pick : LogEntry → Bool) (s : State) : State :=
  let hit (e : LogEntry) : Bool := !e.persisted && pick e
  let mark (e : LogEntry) : LogEntry := { e with persisted := true }
  { s with shd := { s.shd with
    ring := s.shd.ring.map (fun e => if hit e then mark e else e)
    flashLog := flashTrim (((s.shd.ring.filter hit).map mark) ++ s.shd.flashLog) } }

/-- Copies every entry not yet persisted. -/
def persistAll (s : State) : State := persistWhere (fun _ => true) s

/-- LOG_PERSIST_TIMER (R413): every 600 s, while Shed runs. -/
def execLogPersistTimer (s : State) : Host.Outcome State Fault Refusal :=
  if s.ctl.mode = .m0 then done s s else done s (persistAll s)

/-- LOG_ENTRY_COPY (R413): entries whose severity is at least LOG_PERSIST_MIN. -/
def execLogEntryCopy (s : State) : Host.Outcome State Fault Refusal :=
  if s.ctl.mode = .m0 then done s s else done s (persistWhere (fun e => decide (odNat s 0x9100 4 ≤ e.sev)) s)

/-! ### Functions of Table 17-5 -/

def fnEngine : Nat := 1
def fnRfPath : Nat := 2
def fnEasel : Nat := 3
def fnTrellis : Nat := 4
def fnRiddle : Nat := 5
def fnGlaze : Nat := 6
def fnCore : Nat := 7
def fnEth : Nat := 8
def fnGesso : Nat := 9
def fnStore : Nat := 10
def fnDomain : Nat := 11
def fnCipher : Nat := 12

/-- Whether a function has an L1 by retry. -/
def hasL1 (fn : Nat) : Bool := fn == 4 || fn == 5 || fn == 6 || fn == 8

/-- Whether a function has an L2. -/
def hasL2 (fn : Nat) : Bool := (1 ≤ fn && fn ≤ 8) || fn == 12

/-- The bound of a function's L2 in ms. -/
def l2BoundMs (fn : Nat) : Nat :=
  match fn with
  | 2 => 25 | 3 => 60 | 4 => 5 | 5 => 5 | 6 => 5 | 7 => 100 | 8 => 10 | 12 => 1 | _ => 0

/-- Whether a function has an instance of a number. -/
def instExists (s : State) (fn inst : Nat) : Bool :=
  match fn with
  | 1 => decide (inst < 100)
  | 2 => decide (inst < (if s.chip.fPackage then 6 else 3))
  | 6 => inst == 0 && s.chip.hFabric
  | 7 => decide (inst < 4)
  | 8 => decide (inst < 2)
  | 11 => decide (2 ≤ inst) && decide (inst ≤ 11)
  | 3 | 4 | 5 | 9 | 10 | 12 => inst == 0
  | _ => false

/-- A field of a function's RECOVERY_CFG row. -/
def recCfg (s : State) (fn off size : Nat) : Nat := odField s 0x9400 1 fn off size

/-- A field of RECOVERY_LIMITS. -/
def recLim (s : State) (off size : Nat) : Nat := odField s 0x9400 2 0 off size

/-- Whether a step may be taken automatically (R421). -/
def autoAllowed (s : State) (step : Nat) : Bool := bit (odNat s 0x9400 3) (step - 3)

/-- Logs RECOVERY_STEP: outcome 0 cleared, 1 escalated, 2 withheld. -/
def logStep (fn inst step outcome : Nat) (s : State) : State :=
  logEvent 0x04 2 [BitVec.ofNat 8 fn, BitVec.ofNat 8 inst, BitVec.ofNat 8 step, BitVec.ofNat 8 outcome] s fn inst

/-- Counts a step taken (RECOVERY_COUNT). -/
def countStep (fn step : Nat) (s : State) : State := bump 0x9400 5 (4 * fn + step - 1) s

/-- The times of a history that lie within a window of seconds. -/
def pruned (now windowS : Nat) (l : List Nat) : List Nat := l.filter (fun t => decide (now < t + windowS * secCycles))

/-! ### The L4 history in backup memory (R421, R478) -/

/-- Backup octet `k`. -/
def backupAt (s : State) (k : Nat) : Nat := (s.pwr.backup[k]?).getD 0

/-- The current minute as the L4 history counts it. -/
def owMinute (s : State) : Nat := s.pwr.secs / 60 % 65536

/-- The valid entries of the L4 history within its window, newest first. -/
def l4Hist (s : State) : List Nat :=
  let all := (List.range 3).map (fun i => 256 * backupAt s (58 + 2 * i) + backupAt s (59 + 2 * i))
  (all.take (backupAt s 56)).filter (fun t => decide ((owMinute s + 65536 - t) % 65536 < recLim s 6 4 / 60))

/-- Writes the L4 history. -/
def setL4Hist (l : List Nat) (s : State) : State :=
  let at_ (i : Nat) : Nat := (l[i]?).getD 0
  let tail := [min l.length 3, 0] ++ (List.range 3).flatMap (fun i => [at_ i / 256, at_ i % 256])
  { s with pwr := { s.pwr with backup := s.pwr.backup.take 56 ++ tail } }

/-- Records an L4 step. -/
def recordL4 (s : State) : State := setL4Hist ((owMinute s :: l4Hist s).take 3) s

/-! ### L2 (R420) -/

/-- Key of a function and instance in the L2 histories. -/
def l2Key (fn inst : Nat) : Nat := 256 * fn + inst

/-- Whether a function is in L2. -/
def inL2 (s : State) (fn inst : Nat) : Bool := s.shd.l2.any (fun x => x.1 == fn && x.2.1 == inst)

/-- Whether a function stays out of service: in L2, or faulted after a halt or a withheld step. -/
def outOfService (s : State) (fn inst : Nat) : Bool := inL2 s fn inst || s.shd.faulted.contains (fn, inst)

/-- Glaze loses every record it holds, its requests and its decisions: records discarded as R288 states. -/
def glazeDiscard (s : State) : State :=
  { s with
    gla := { s.gla with recs := [], frames := [], reqs := [], decs := [] }
    nod := { s.nod with recs := s.nod.recs.map (fun p =>
      (p.1, { p.2 with held := p.2.held.filter (fun u => !u.awaiting) })) } }

/-- The Table 06-7 items of a path: those of a receive path, or of a transmit path (R141). -/
def pathItems (path : Nat) : List Nat := if path % 3 = 2 then [1, 3, 4, 5] else [1, 2]

/-- The synthesiser of an RF path: SYN_SGR, SYN_SGT, SYN_G2R, SYN_G2T. -/
def pathSynth (path : Nat) : Nat := 2 * (path / 3) + (if path % 3 = 2 then 1 else 0)

/-- An insertion that Trellis's reset finds in progress is undone as a refusal (R294, R420). -/
def undoInsertion (s : State) : State :=
  let t := { s with tre := { s.tre with reloc := {} } }
  match s.tre.waiting with
  | .insert _ :: l => bump 0x6400 3 0 { t with tre := { t.tre with waiting := l } }
  | _ => t

/-- The effect of an L2 at its start (Table 17-5). -/
def l2Start (fn inst : Nat) (s : State) : State :=
  match fn with
  | 1 => { s with pal := { s.pal with engines := modAt (fun e => { e with leaving := true, retest := true }) s.pal.engines inst } }
  | 3 => resetReceivers [3] { s with eas := { s.eas with restarting := true, overruns := 0, commitMark := none } }
  | 4 => undoInsertion s
  | 6 => glazeDiscard s
  | 7 => cipherLost 2 s
  | 8 => discardPort inst s
  | 12 => cipherForce s
  | _ => s

/-- Takes step L2 for a function; an engine's is the re-initialisation and test of R155, which ends with the test. -/
def doL2 (fn inst : Nat) (s : State) : State :=
  l2Start fn inst (countStep fn 2 (if fn = fnEngine then s
    else { s with shd := { s.shd with l2 := s.shd.l2 ++ [(fn, inst, s.clk.elapsed)] } }))

/-- The effect of an L2 at its end. -/
def l2End (fn inst : Nat) (s : State) : State :=
  match fn with
  | 2 =>
    { s with
      rf := { s.rf with
        synths := modAt (fun y => { y with locked := true, attempts := 0 }) s.rf.synths (pathSynth inst)
        items := s.rf.items.map (fun i => if i.path = inst then { i with running := false, fails := 0, lastAt := some s.clk.elapsed } else i) }
      shd := { s.shd with pdet := if inst % 3 = 2 then setAt s.shd.pdet (inst / 3) (0, 0) else s.shd.pdet } }
  | 3 => releaseReceiver 3 { s with eas := { s.eas with restarting := false } }
  | _ => s

/-- L2_COMPLETE (R420): at its bound, the function returns to service. -/
def execL2Complete (fn inst : Nat) (s : State) : Host.Outcome State Fault Refusal :=
  match s.shd.l2.find? (fun x => x.1 == fn && x.2.1 == inst) with
  | some x =>
    let s1 := advanceElapsed (x.2.2 + l2BoundMs fn * msCycles) s
    let s2 := { s1 with shd := { s1.shd with l2 := s1.shd.l2.filter (fun y => !(y.1 == fn && y.2.1 == inst)) } }
    done s (logStep fn inst 2 0 (l2End fn inst s2))
  | none => done s s

/-! ### Demand of L3 and L4 (R421, R426) -/

/-- Every L2 not yet completed is dropped and logged with outcome escalated (R426). -/
def dropL2s (s : State) : State :=
  s.shd.l2.foldl (fun s x => logStep x.1 x.2.1 2 1 s) { s with shd := { s.shd with l2 := [] } }

/-- Whether a demand for a step is not merged into one that is under way or due: an L4 pre-empts an L3 (R426). -/
def unmerged (step : Nat) (s : State) : Bool :=
  match s.shd.due with
  | some e => decide (e.step < step)
  | none => s.shd.cycleUntil.isNone && (s.shd.warm.isNone || step == 4)

/-- A step is demanded, or merged (R426). -/
def demand (d : DueStep) (s : State) : State :=
  if unmerged d.step s then { s with shd := { s.shd with due := some d } } else s

/-- The function stays faulted: after a halt, or while a step is withheld (R421). -/
def stayFaulted (fn inst : Nat) (s : State) : State :=
  { s with shd := { s.shd with faulted := if s.shd.faulted.contains (fn, inst) then s.shd.faulted else s.shd.faulted ++ [(fn, inst)] } }

/-- Step 4 of the pseudocode of R421: L4 within its limit, else ESCALATION_HALT. -/
def escalateL4 (fn inst : Nat) (s : State) : State :=
  if recLim s 5 1 ≤ (l4Hist s).length then
    stayFaulted fn inst (logEvent 0x05 3 [BitVec.ofNat 8 fn, BitVec.ofNat 8 inst]
      { s with shd := { s.shd with halted := true } } fn inst)
  else if autoAllowed s 4 then dropL2s (demand ⟨4, fn, inst, 2, s.clk.elapsed⟩ (if unmerged 4 s then recordL4 s else s))
  else stayFaulted fn inst (logStep fn inst 4 2 s)

/-- The pseudocode of R421 beyond L2. A demand that is merged takes no step of its own and enters no history (log entry 197). -/
def escalate (fn inst : Nat) (s : State) : State :=
  let hist := pruned s.clk.elapsed (recLim s 1 4) s.shd.l3Hist
  if fn = fnStore ∨ recLim s 0 1 ≤ hist.length then escalateL4 fn inst s
  else if autoAllowed s 3 then
    dropL2s (demand ⟨3, fn, inst, 1, s.clk.elapsed⟩ (if unmerged 3 s then { s with shd := { s.shd with l3Hist := s.clk.elapsed :: hist } } else s))
  else stayFaulted fn inst (logStep fn inst 3 2 s)

/-- Canvas cores that entered L2 within the last second. -/
def coresInL2 (s : State) : Nat :=
  (s.shd.l2.filter (fun x => x.1 == 7 && decide (s.clk.elapsed < x.2.2 + secCycles))).length

/-- The pseudocode of R421 from L2 on; all four Canvas cores in L2 within 1 s are an L3. -/
def ladder (fn inst : Nat) (s : State) : State :=
  if hasL2 fn then
    let k := l2Key fn inst
    let hist := pruned s.clk.elapsed (recCfg s fn 4 4) (sget (fun _ => []) s.shd.l2Hist k)
    if hist.length < recCfg s fn 3 1 then
      let s1 := doL2 fn inst { s with shd := { s.shd with
        l2Hist := sset (fun _ => []) s.shd.l2Hist k (s.clk.elapsed :: hist) } }
      if fn = fnCore ∧ 4 ≤ coresInL2 s1 then escalate fn inst s1 else s1
    else escalate fn inst s
  else escalate fn inst s

/-- Whether a fault is acted on now: the function exists, has no step under way and does not stay faulted; during a warm reset
only those that Shed detects itself (R426). -/
def faultTaken (s : State) (fn inst : Nat) : Bool :=
  instExists s fn inst && !outOfService s fn inst && s.ctl.mode != .m0 &&
  !(s.shd.l1.any (fun x => x.1 == fn && x.2.1 == inst)) &&
  (((s.shd.warm.map (·.easel)).getD true) || fn == fnStore || (fn == fnDomain && inst == 5))

/-- A function faults (R421): L1 where it has one, else the ladder from L2. -/
def fault (fn inst : Nat) (s : State) : State :=
  if faultTaken s fn inst then
    let tries := recCfg s fn 0 1
    if hasL1 fn ∧ 0 < tries then
      countStep fn 1 { s with shd := { s.shd with
        l1 := s.shd.l1 ++ [(fn, inst, tries, s.clk.elapsed + recCfg s fn 1 2 * msCycles)] } }
    else ladder fn inst s
  else s

/-- L1_RETRY_TIMER (R419): the failed operation is retried; a success is logged, the last failure goes on to L2. -/
def execL1RetryTimer (fn inst : Nat) (ok : Bool) (s : State) : Host.Outcome State Fault Refusal :=
  match s.shd.l1.find? (fun x => x.1 == fn && x.2.1 == inst) with
  | some x =>
    let s1 := advanceElapsed x.2.2.2 s
    let rest := s1.shd.l1.filter (fun y => !(y.1 == fn && y.2.1 == inst))
    let s2 := { s1 with shd := { s1.shd with l1 := rest } }
    if ok then done s (logStep fn inst 1 0 s2)
    else if 1 < x.2.2.1 then
      done s { s1 with shd := { s1.shd with
        l1 := rest ++ [(fn, inst, x.2.2.1 - 1, s1.clk.elapsed + recCfg s fn 1 2 * msCycles)] } }
    else done s (ladder fn inst s2)
  | none => done s s

/-! ### Detectors (Table 17-5) -/

/-- Whether a domain is powered and not held in reset. -/
def domainOn (s : State) (d : Nat) : Bool :=
  match s.ctl.domains[d]? with
  | some .on | some .hold | some .rx => true
  | _ => false

/-- EASEL_WATCHDOG_EXPIRY (R420). -/
def execEaselWatchdogExpiry (s : State) : Host.Outcome State Fault Refusal :=
  if s.eas.next.isSome then done s (fault fnEasel 0 s) else done s s

/-- EASEL_OVERRUN_LIMIT (R232): four consecutive overrun slots. -/
def execEaselOverrunLimit (s : State) : Host.Outcome State Fault Refusal :=
  if 4 ≤ s.eas.overruns then done s (fault fnEasel 0 { s with eas := { s.eas with overruns := 0 } }) else done s s

/-- CANVAS_CORE_WATCHDOG_EXPIRY (R420): while D4 is on. -/
def execCanvasCoreWatchdogExpiry (core : Nat) (s : State) : Host.Outcome State Fault Refusal :=
  if domainOn s 4 then done s (fault fnCore core s) else done s s

/-- GESSO_WATCHDOG_EXPIRY (R420): while D2 is on. -/
def execGessoWatchdogExpiry (s : State) : Host.Outcome State Fault Refusal :=
  if domainOn s 2 then done s (fault fnGesso 0 s) else done s s

/-- OPERATION_OVERDUE (R420): an operation of Trellis, Riddle, Glaze or the cipher engine, while D3 is on. -/
def execOperationOverdue (fn : Nat) (s : State) : Host.Outcome State Fault Refusal :=
  if domainOn s 3 ∧ (fn = fnTrellis ∨ fn = fnRiddle ∨ fn = fnGlaze ∨ (fn = fnCipher ∧ s.sec.cipher.cmd.isSome)) then
    done s (fault fn 0 s)
  else done s s

/-- STORE_POISON_BURST (R420): while D5 is on. -/
def execStorePoisonBurst (s : State) : Host.Outcome State Fault Refusal :=
  if domainOn s 5 then done s (fault fnStore 0 s) else done s s

/-- Supply window of a domain in mV: that of its rail (Table 19-1, log entry 195). -/
def domainWindow (d : Nat) : Nat × Nat :=
  match d with
  | 1 | 2 | 3 | 4 | 11 => (736, 864)
  | 5 => (1045, 1155)
  | 6 => (828, 972)
  | _ => (1140, 1260)

/-- DOMAIN_EXCURSION (R408, R458): a domain that is on has been outside its window for 20 us. -/
def execDomainExcursion (domain mv : Nat) (s : State) : Host.Outcome State Fault Refusal :=
  if 2 ≤ domain ∧ domainOn s domain ∧ (mv < (domainWindow domain).1 ∨ (domainWindow domain).2 < mv) then
    done s (fault fnDomain domain (logEvent 0x0B 2 (beOct 1 domain ++ beOct 2 mv) s fnDomain domain))
  else done s s

/-! ### Requests (R425) -/

/-- The checks of RECOVER_REQUEST that come after those of every write: OPERATOR may ask only for L2; the function, the
instance and the step must exist. -/
def recoverFault (role : Nat) (v : Octets) (s : State) : List (Nat × Nat) :=
  let fn := fieldNat v 0 1
  let step := fieldNat v 2 1
  failIf (role == 1 && step != 2) stAccessDenied (roleNumber role) ++
  failIf (step < 2 || 4 < step || !instExists s fn (fieldNat v 1 1) || (step == 2 && !hasL2 fn)) stOutOfRange

/-- A requested step: L2 at once, not entered in any history; L3 and L4 10 ms after the response (R425). -/
def recoverRequest (v : Octets) (s : State) : State :=
  let fn := fieldNat v 0 1
  let inst := fieldNat v 1 1
  let step := fieldNat v 2 1
  if step = 2 then (if inL2 s fn inst then s else doL2 fn inst s)
  else demand ⟨step, fn, inst, 6, s.clk.elapsed + 10 * msCycles⟩ s

/-- RECOVER_REQUEST_ASSERT (R425, R426): the requested step falls due, and every L2 under way is dropped. -/
def execRecoverRequestAssert (s : State) : Host.Outcome State Fault Refusal :=
  match s.shd.due with
  | some d =>
    if d.cause = 6 then
      let s1 := advanceElapsed d.at_ s
      done s (dropL2s { s1 with shd := { s1.shd with due := some { d with at_ := s1.clk.elapsed } } })
    else done s s
  | none => done s s

/-- RECOVERY_RELEASE (R421): ends the halt and clears the L3 and L4 histories. -/
def recoveryRelease (s : State) : State :=
  setL4Hist [] { s with shd := { s.shd with halted := false, l3Hist := [], faulted := [] } }

end Sys2Proof.Machine
end

