-- ==== Sys2Proof/Machine/Rf.lean ====
section
/-!
DEFINITION. The RF front end (spec/06): die temperatures, synthesisers with their calibration tables, the gain plan, the power
table, and the calibration items with their due times. Paths of `rf.paths` are 0 sub-GHz A, 1 sub-GHz B, 2 2.4 GHz A, 3 2.4 GHz B;
a path of Table 17-5 is 3 * band + 0 A, 1 B, 2 transmit.
-/

namespace Sys2Proof.Machine

/-- The sensor of a path of Table 17-5 (Table 17-1). -/
def pathSensor (path : Nat) : Nat := if path < 2 then 1 else if path = 2 then 2 else 3

/-! ### Synthesisers and their calibration tables (R127 to R129) -/

/-- Modifies a synthesiser. -/
def modSynth (y : Nat) (f : Synth → Synth) (s : State) : State := { s with rf := { s.rf with synths := modAt f s.rf.synths y } }

/-- The power domain of a synthesiser. -/
def synthDomain (y : Nat) : Nat := if y = 0 then 7 else if y = 1 then 9 else 10

/-- The window centre that the objects give a synthesiser; the 2.4 GHz one is fixed (Table 06-1). -/
def objCentre (s : State) (y : Nat) : Nat := if y = 0 then odNat s 0x3000 1 else if y = 1 then odNat s 0x3000 2 else 2442500000

/-- Whether a centre has a valid entry now. -/
def centreValid (s : State) (y centre : Nat) : Bool :=
  (calTab s y).any (fun e => e.centre == centre && entryValid e (dieTempQ s (synthSensor y)))

/-- Centres of pending writes of a synthesiser's window (R71, R128). -/
def pendingCentres (s : State) (y : Nat) : List Nat :=
  (s.srv.pend.filter (fun w => w.idx == 0x3000 && w.sub == y + 1)).map (fun w => beNat w.val)

/-- The entry that a calibration of a centre fills: its own, an empty one, else the least recently used that is neither the current
nor a pending centre (R128). -/
def entryFor (s : State) (y centre : Nat) : Nat :=
  let tab := calTab s y
  let held := ((synth s y).centre :: pendingCentres s y)
  let free := (List.range tab.length).filter (fun i => !held.contains (((tab[i]?).map (·.centre)).getD 0))
  match tab.findIdx? (fun e => e.centre == centre && e.state != 0), tab.findIdx? (fun e => e.state == 0) with
  | some i, _ => i
  | none, some i => i
  | none, none => free.foldl (fun best i =>
      if ((tab[i]?).map (·.used)).getD 0 < ((tab[best]?).map (·.used)).getD 0 then i else best) (free.headD 0)

/-- The pre-distortion set of a transmit synthesiser's calibration entry (R190). -/
def dpdSetOf (y entry : Nat) : Option Nat := if y = 1 then some entry else if y = 3 then some 8 else none

/-- The octets of a part of the running firmware set, by its TYPE (Tables 16-4, 16-5). -/
def runningPart (s : State) (type : Nat) : Octets :=
  match s.fw.running with
  | some b =>
    let m := manifest s b
    match (List.range 7).find? (fun i => fieldNat m (24 + 52 * i) 1 == type) with
    | some i => (((s.fw.banks[b]?).getD []).drop (fieldNat m (32 + 52 * i) 4)).take (fieldNat m (36 + 52 * i) 4)
    | none => []
  | none => []

/-- The coefficients that the Primer pre-distortion defaults part of the running firmware set gives a pre-distortion set; the spec gives the
part no layout, so they are a free function of its octets (R193, log entry 15). -/
def defaultCoefs (s : State) (k : Nat) : List (Int × Int) :=
  let o := padTo 64 (Config.crypto "Primer pre-distortion defaults" k [runningPart s 6])
  let at_ (i : Nat) : Int := fieldInt o (2 * i) 2
  (List.range 16).map (fun i => (at_ (2 * i), at_ (2 * i + 1)))

/-- A pre-distortion set in DEFAULT. -/
def defaultSet (s : State) (k : Nat) : DpdSet := { coef := defaultCoefs s k }

/-- The Knife sets of a transmit calibration entry are empty and untrained once it is evicted or made for another centre (R173). -/
def dropKnife (y i : Nat) (s : State) : State :=
  let sets := if y = 1 then [i, 8 + i] else [16, 17]
  { s with pal := { s.pal with knife := s.pal.knife.mapIdx (fun k x => if sets.contains k then {} else x) } }

/-- A full VCO calibration of a centre: its entry is created or renewed; a created entry's pre-distortion set is in DEFAULT (R193). -/
def calibrate (y centre : Nat) (s0 : State) : State :=
  let i := entryFor s0 y centre
  let fresh := match (calTab s0 y)[i]? with
    | some e => e.state == 0 || e.centre != centre
    | none => false
  let s := match dpdSetOf y i with
    | some k => if fresh then dropKnife y i { s0 with pri := { s0.pri with dpd := setAt s0.pri.dpd k (defaultSet s0 k) } } else s0
    | none => s0
  let e : CalEntry := { centre := centre, temp := dieTempQ s (synthSensor y), state := 1, used := s.rf.useCount + 1, at_ := s.clk.elapsed }
  { s with rf := { s.rf with
    calTab := modAt (fun t => setAt t i e) s.rf.calTab y
    useCount := s.rf.useCount + 1 } }

/-- Marks a centre's entry as used. -/
def useEntry (y centre : Nat) (s : State) : State :=
  { s with rf := { s.rf with
    calTab := modAt (fun t => t.map (fun e => if e.centre = centre ∧ e.state ≠ 0 then { e with used := s.rf.useCount + 1 } else e)) s.rf.calTab y
    useCount := s.rf.useCount + 1 } }

/-- A window move empties the floors of its band (R166). -/
def clearFloors (s : State) : State := { s with pal := { s.pal with floors := s.pal.floors.filter (fun e => decide (512 ≤ e.1)) } }

/-- The floors after a window of SYN_SGR has moved. -/
def movedFloors (y centre : Nat) (s : State) : State := if y = 0 ∧ (synth s y).centre ≠ centre then clearFloors s else s

/-- Moves a window with a full calibration where its entry is not valid, as in M3 and M4 and at power-up (R128). -/
def moveCentre (y centre : Nat) (s0 : State) : State :=
  let s := movedFloors y centre s0
  if centre = 0 then modSynth y (fun z => { z with centre := 0, locked := false, attempts := 0 }) s
  else
    let s1 := if centreValid s y centre then useEntry y centre s else calibrate y centre s
    modSynth y (fun z => { z with centre := centre, locked := true, attempts := 0 }) s1

/-- Moves a window at a slot start in service: where the entry turned stale, the slot runs quiet on its paths while the full
calibration is made, and the synthesiser is locked again at the next slot start (R129). -/
def moveCentreAt (y centre : Nat) (s0 : State) : State :=
  let s := movedFloors y centre s0
  if centre = 0 then modSynth y (fun z => { z with centre := 0, locked := false, attempts := 0 }) s
  else if centreValid s y centre then modSynth y (fun z => { z with centre := centre, locked := true, attempts := 0 }) (useEntry y centre s)
  else modSynth y (fun z => { z with centre := centre, locked := false, attempts := 0 }) (calibrate y centre s)

/-- A synthesiser that was calibrated through a slot is locked from the next slot start (R129). -/
def resumeSynths (s : State) : State :=
  { s with rf := { s.rf with synths := s.rf.synths.map (fun z => if z.attempts = 0 ∧ z.centre ≠ 0 then { z with locked := true } else z) } }

/-- The synthesisers as the power domains are: locked on their centre where the domain is powered, else off (R31, R127). -/
def powerSynths (s : State) : State :=
  [0, 1, 2, 3].foldl (fun s y =>
    if domainOn s (synthDomain y) then (if (synth s y).centre = 0 then moveCentre y (objCentre s y) s else s)
    else modSynth y (fun _ => {}) s) s

/-! ### The gain plan (R136 to R138) -/

/-- FS(G) of a band, dBm Q8 (Table 06-4). -/
def fullScale (band g : Nat) : Int := ((if band = 0 then -40 else -36) + 2 * (23 - (g : Int))) * 256

/-- The highest gain whose full scale is at least a level, 0 if none; a level of none is minus infinity (R137). -/
def gainFor (band : Nat) (x : Option Int) : Nat :=
  match x with
  | none => 23
  | some x => ((List.range 24).filter (fun g => decide (x ≤ fullScale band g))).foldl max 0

/-- A band's signed Q8 object of its RF group (R146). -/
def rfQ (s : State) (band idx sub : Nat) : Int := odInt s (bandIdx band idx) sub

/-- The largest of some levels. -/
def maxInt : List Int → Option Int
  | [] => none
  | x :: l => some (l.foldl max x)

/-- The environment's level on a path: the highest peak of the last SG_GAIN_HIST measured blocks. -/
def envLevel (s : State) (p : Nat) : Option Int :=
  maxInt ((rxPath s p).peaks.take (odNat s (bandIdx (p / 2) 0x3020) 2))

/-- g_env of R137, limited to 3 steps above the last. -/
def envGain (s : State) (p : Nat) : Nat :=
  let band := p / 2
  let g := match envLevel s p with
    | none => odNat s (bandIdx band 0x3020) 6
    | some e => gainFor band (some (e + 256 * odNat s (bandIdx band 0x3020) 1))
  min g ((rxPath s p).envLast + 3)

/-- Whether a receive path is powered: D7, D8, and D10 for both paths of 2.4 GHz (Table 06-1). -/
def pathPowered (s : State) (p : Nat) : Bool := domainOn s (if p = 0 then 7 else if p = 1 then 8 else 10)

/-- The gain of a path for a slot with the levels of its band's carriers and its transmit aerial (R137): the gain, none where the
path is blanked or off, and g_env_last after it. -/
def planGain (s : State) (p : Nat) (levels : List Int) (txAerial : Option Nat) : Option Nat × Nat :=
  let band := p / 2
  if ¬ pathPowered s p then (none, (rxPath s p).envLast)
  else if odNat s (bandIdx band 0x3020) 7 = 1 ∧ (s.ctl.mode = .m3 ∨ s.ctl.mode = .m4) then
    (some (odNat s (bandIdx band 0x3020) 6), (rxPath s p).envLast)
  else
    let ge := envGain s p
    match dbSum levels, txAerial with
    | some c, some a =>
      if a = p % 2 then (none, ge)
      else
        let self := c + rfQ s band 0x3020 3 - rfQ s band 0x3020 4
        let both := match envLevel s p with
          | some e => dbSum [e, self]
          | none => some self
        (some (min ge (gainFor band (both.map (· + 256 * odNat s (bandIdx band 0x3020) 1)))), ge)
    | _, _ => (some ge, ge)

/-- The checks of R138 on COMPOSITE_MAX, PA_GAIN, ISOLATION and HEADROOM as they would stand. -/
def compositeOk (band : Nat) (composite gain isolation : Int) (headroom : Nat) : Bool :=
  decide (composite + gain - isolation + 256 * headroom ≤ fullScale band 0)

/-! ### The power table and the front end (R126, R139) -/

/-- Level of a power-table row, dBm Q8. -/
def rowLevel (band row : Nat) : Int := (if band = 0 then 6 else 10) * 256 - 128 * (63 - (row : Int))

/-- Whether Primer may select a row (R139). -/
def rowUsable (s : State) (band row : Nat) : Bool :=
  bit (odNat s (bandIdx band 0x3030) 2 row) 0 && decide (rowLevel band row ≤ rfQ s band 0x3030 1)

/-- The transmit aerial of a band in slot `a` (R126). -/
def txAerialOf (s : State) (band a : Nat) : Nat :=
  if modeAt s a = .m8 ∧ band = 0 then 1
  else
    let f := odNat s (bandIdx band 0x3010) 1 / 16 % 4
    if f = 2 then sfIndex s a % 2 else f

/-- Modifies a band's front end. -/
def modFe (band : Nat) (f : FrontEnd → FrontEnd) (s : State) : State := { s with rf := { s.rf with fe := modAt f s.rf.fe band } }

/-- A band's front end at a slot start with its transmit aerial, if it transmits (R133, R134): an aerial's LNA is enabled where
external LNAs are fitted, its path is powered and it is not the transmit aerial. -/
def feSlot (band : Nat) (tx : Option Nat) (s : State) : State :=
  let ext := bit (odNat s (bandIdx band 0x3010) 1) 6
  modFe band (fun _ =>
    { highZ := false
      lnaA := ext && pathPowered s (2 * band) && tx != some 0
      lnaB := ext && pathPowered s (2 * band + 1) && tx != some 1
      trsw := tx.isSome, aselB := tx == some 1 }) s

/-- Every control ball of both bands inactive (R135, R422). -/
def feIdle (s : State) : State :=
  { s with rf := { s.rf with fe := s.rf.fe.map (fun _ => { highZ := false }) } }

/-! ### Calibration items (R141, R142) -/

/-- A calibration item of a path. -/
def calItem (s : State) (item path : Nat) : CalItem :=
  (s.rf.items.find? (fun i => i.item == item && i.path == path)).getD { item := item, path := path }

/-- Sets a calibration item. -/
def setItem (i : CalItem) (s : State) : State :=
  { s with rf := { s.rf with items := s.rf.items.filter (fun j => !(j.item == i.item && j.path == i.path)) ++ [i] } }

/-- The RF paths of a synthesiser, as Table 17-5 numbers them. -/
def synthPaths (y : Nat) : List Nat := if y = 0 then [0, 1] else if y = 1 then [2] else if y = 2 then [3, 4] else [5]

/-- Centres that a VCO_CAL calibrates: the current one and the pending ones (R129). -/
def calCentres (s : State) (y : Nat) : List Nat := (((synth s y).centre :: pendingCentres s y).filter (· != 0)).dedup

/-- Duration of an item of a path in us (Table 06-7): a VCO_CAL takes 1.2 ms for each entry. -/
def itemUs (s : State) (item path : Nat) : Nat :=
  if item = 1 then 1200 * (calCentres s (pathSynth path)).length else if item = 2 then 3000 else if item = 3 then 4000 else if item = 4 then 2000 else 1000

/-- Interval of an item in s. -/
def itemInterval (item : Nat) : Nat := if item = 1 then 14400 else if item = 5 then 3600 else 600

/-- Entries of a synthesiser that its current and pending centres use. -/
def usedEntries (s : State) (y : Nat) : List CalEntry :=
  (calTab s y).filter (fun e => e.state != 0 && ((synth s y).centre :: pendingCentres s y).contains e.centre)

/-- How long an item of a path has been due, in cycles; none where it is not due (R129, R141). R141 gives triggers since the last run only:
that an item which has not run since the boot is due since elapsed time 0 is the model's choice (DESIGN CHOICE, log entry 177). -/
def itemDue (s : State) (item path : Nat) : Option Nat :=
  let late (t : Nat) : Option Nat :=
    let due := t + itemInterval item * secCycles
    if due ≤ s.clk.elapsed then some (s.clk.elapsed - due) else none
  if item = 1 then
    let t := dieTempQ s (synthSensor (pathSynth path))
    ((usedEntries s (pathSynth path)).map (fun e =>
      if 2560 ≤ (t - e.temp).natAbs then some ((late e.at_).getD 0) else late e.at_)).foldl (fun a b => match a, b with
        | none, x => x
        | x, none => x
        | some x, some y => some (max x y)) none
  else
    let i := calItem s item path
    match i.lastAt with
    | none => some s.clk.elapsed
    | some t =>
      if (item = 2 ∨ item = 3) ∧ 1280 ≤ (dieTempQ s (pathSensor path) - i.lastTemp).natAbs then some ((late t).getD 0) else late t

/-- An item starts on a path, `us` from the slot's start. -/
def startItem (item path us : Nat) (s : State) : State := setItem { calItem s item path with running := true, startUs := us } s

/-- What an item adjusts, where its result is plausible (Table 06-7): a VCO_CAL every entry it was for, an FB_CAL the feedback receiver,
which lets HELD sets converge anew (R193). -/
def itemEffect (item path : Nat) (s : State) : State :=
  if item = 1 then (calCentres s (pathSynth path)).foldl (fun s c => calibrate (pathSynth path) c s) s
  else if item = 4 then
    { s with pri := { s.pri with
      fbCal := setAt s.pri.fbCal (path / 3) true
      dpd := s.pri.dpd.mapIdx (fun k d => if d.st = 3 ∧ (k = 8 ↔ path / 3 = 1) then { d with st := 1, good := 0 } else d) } }
  else s

/-- Whether the result of an item of a path is plausible (R142): an FB_CAL of the sub-GHz band fails where the coupled level at FB_SUBG lies outside
-35 to -5 dBm (R189); the other limits are the part's. -/
def plausible (item path : Nat) (seen : ItemSeen) : Bool :=
  seen.ok && (item != 4 || decide (3 ≤ path) || (decide (-8960 ≤ seen.level) && decide (seen.level ≤ -1280)))

/-- An item of a path ends (R142): a plausible result is adopted and RF_CAL_LAST notes it; else the path keeps its values and the failure is
logged, the third in a row being an RF_PATH fault. Either way the item has run: R141's intervals count from here. -/
def itemResult (item path : Nat) (ok : Bool) (s : State) : State :=
  let i := calItem s item path
  if ok then
    itemEffect item path (odPut (bandIdx (path / 3) 0x3040) 1 (item - 1) (beOct 8 s.eas.asn)
      (setItem { i with running := false, fails := 0, lastAt := some s.clk.elapsed, lastTemp := dieTempQ s (pathSensor path) } s))
  else
    let ran : CalItem := { i with running := false, lastAt := some s.clk.elapsed, lastTemp := dieTempQ s (pathSensor path) }
    let s1 := logEvent 0x21 2 [BitVec.ofNat 8 item, BitVec.ofNat 8 path] (setItem { ran with fails := i.fails + 1 } s)
    if 3 ≤ i.fails + 1 then fault fnRfPath path (setItem { ran with fails := 0 } s1) else s1

/-- Ends the queued request that an item served (R418), with its outcome logged as CALIBRATION: 0 done, 1 failed. -/
def endRequest (item target : Nat) (ok : Bool) (s : State) : State :=
  match s.shd.cal.findIdx? (fun r => r.st == 1 && r.item == item && r.target == target && r.committed) with
  | some i =>
    logEvent 0x50 1 [BitVec.ofNat 8 item, BitVec.ofNat 8 target, if ok then 0 else 1]
      { s with shd := { s.shd with cal := modAt (fun r => { r with st := if ok then 2 else 3 }) s.shd.cal i } }
  | none => s

end Sys2Proof.Machine
end

