-- ==== Sys2Proof/Machine/Wake.lean ====
section
/-!
DEFINITION. The wake-up queue (R201), desynchronisation of a node (R251, R255) and the notices that a node must confirm (R43, R255).
-/

namespace Sys2Proof.Machine

/-- Removes a node's wake-up requests. -/
def dropWake (n : Nat) (s : State) : State :=
  { s with pri := { s.pri with wake := s.pri.wake.filter (fun w => w.node != some n) } }

/-- Counts in a LINK_EVENTS row (R268). -/
def linkEvent (row : Nat) (s : State) : State := bump 0x5020 1 row s

/-- Logs one of the node events that exist from stepping B0 (R411). -/
def nodeLog (type n : Nat) (s : State) : State := if 0x4200 ≤ s.chip.stepping then logEvent type 1 (beOct 4 n) s else s

/-- An ACTIVE node enters DESYNC, which is logged, and is queued a RESYNC (R251, R255). -/
def desyncNode (n : Nat) (s : State) : State :=
  wakeNode 0 n (nodeLog 0x80 n (linkEvent 8 (touchNode n (modNode n (fun r => { r with st := .desync, wakeTries := 0 }) s))))

/-- A request for a GROUP telegram to every node of the TAG; its follow-up leaves on the lowest PAN that is enabled (R201, R252). -/
def wakeGroup (s : State) : State := queueWake { type := 2, addr := 0xFFFF, pan := (pansOn s).headD 0 } s

/-- DL_QUEUE_FROM_CANVAS (R317, R320): while Canvas and Riddle run; a group frame that is taken asks for its telegram. -/
def execDlQueueFromCanvas (node : Option Nat) (payload : Octets) (yellow : Bool) (s : State) :
    Host.Outcome State Fault Refusal :=
  if s.ctl.domains[4]? = some .on then
    match node with
    | some n => done s (dlEnqueue n payload yellow false s)
    | none =>
      let s1 := groupEnqueue payload yellow s
      done s (if s.rid.group.length < s1.rid.group.length then wakeGroup s1 else s1)
  else done s s

/-- A mode notice begins: MODE_INFORMED is cleared at every node (R255). -/
def clearModeInformed (s : State) : State :=
  { s with nod := { s.nod with recs := s.nod.recs.map (fun p => (p.1, { p.2 with modeInformed := false })) } }

/-- A map notice begins: it clears MAP_INFORMED of every node (R255). -/
def clearMapInformed (s : State) : State :=
  { s with nod := { s.nod with recs := s.nod.recs.map (fun p => (p.1, { p.2 with mapInformed := false })) } }

/-- At a notice's effective ASN every ACTIVE node that a test finds uninformed enters DESYNC (R43, R255). -/
def desyncUninformed (late : NodeRec → Bool) (s : State) : State :=
  (s.nod.recs.filter (fun p => p.2.st == .active && late p.2)).foldl (fun s p => desyncNode p.1 s) s

end Sys2Proof.Machine
end

