-- ==== Sys2Proof/Machine/Capture.lean ====
section
/-!
DEFINITION. The SURVEY capture of spec/07 (R177 to R180), and the block quantiser that it shares with the soft records of spec/11.
-/

namespace Sys2Proof.Machine

/-! ### Capture (R177 to R180) -/

/-- A capture ends in a state, with the blocks it has. -/
def endCapture (st : Nat) (s : State) : State := { s with pal := { s.pal with capState := st, capDone := capturedNow s } }

/-- A capture starts, by CAPTURE_CFG as it stands: its buffer is empty, and its samples are the free values from here on. -/
def startCapture (s : State) : State :=
  let cfg := odGet s 0x3300 1
  { s with
    pal := { s.pal with capState := 2, capDone := 0, capBad := [], capCfg := cfg, capBase := s.free, capFrom := s.clk.elapsed }
    free := s.free + 32 * captureLimit cfg }

/-- CAPTURE_START (R180): the slot of START_ASN starts. -/
def execCaptureStart (s : State) : Host.Outcome State Fault Refusal :=
  if s.pal.capState = 1 ∧ s.ctl.mode = .m4 ∧ odField s 0x3300 1 0 18 5 ≤ s.eas.asn then done s (startCapture s) else done s s

/-- CAPTURE_STOP (R180): the time comes at which BLOCKS blocks have been written, or the buffer is full. -/
def execCaptureStop (s : State) : Host.Outcome State Fault Refusal :=
  if s.pal.capState = 2 then
    let cfg := s.pal.capCfg
    let n := max 1 (captureSources cfg).length
    done s (endCapture 3 (advanceElapsed (s.pal.capFrom + (captureLimit cfg + n - 1) / n * capturePeriod cfg) s))
  else done s s

/-- Leaving M4 ends a capture, with the blocks written by then, and the spectrum's averages (R180). -/
def leaveSurvey (s : State) : State :=
  let s1 := if s.pal.capState = 1 ∨ s.pal.capState = 2 then endCapture 4 s else s
  { s1 with pal := { s1.pal with survey := [] } }

/-- CAPTURE_CFG with the reserved bits of SOURCES ignored (R5, Table 07-9). -/
def captureCfg (v : Octets) : Octets := setField v 0 1 (fieldNat v 0 1 % 8)

/-- The checks of CAPTURE_CFG (Table 07-9); its mode is checked with the object's. SOURCES that names no source is refused with OUT_OF_RANGE too,
which Table 07-9 does not state (DESIGN CHOICE, log entry 178). -/
def captureChecks (v : Octets) : List (Nat × Nat) :=
  let f := fieldNat v 0 1 % 8
  let n := fieldNat v 1 1
  failIf (f == 0 || (bit f 2 && f != 4) || (bit f 2 && (n == 0 || 8 < n)) || (!bit f 2 && n != 0) ||
    fieldNat v 23 4 == 0 || 524288 < fieldNat v 23 4) stOutOfRange

/-- CAPTURE_CFG takes effect: the capture is armed, or starts at once where START_ASN is 0; one that runs ends (log entry 161). -/
def captureCommit (v : Octets) (s : State) : State :=
  let s1 := odPut 0x3300 1 0 v s
  if fieldNat v 18 5 = 0 then startCapture s1 else endCapture 1 s1

end Sys2Proof.Machine
end

