-- ==== Sys2Proof/Machine/Modes.lean ====
section
/-!
DEFINITION. The operating modes (spec/02): which requests are legal and from whom, how an accepted change waits, is announced,
cancelled, abandoned and takes effect, the end of service, and what powering domains down loses.
-/

namespace Sys2Proof.Machine

/-! ### What a mode brings (R31) -/

/-- Every carrier of the slot in progress ends, and the front end goes inactive. -/
def silence (s : State) : State :=
  feIdle { s with eas := { s.eas with
    active := { s.eas.active with tx := s.eas.active.tx.map (fun c => if c.stage < 2 then { c with stage := 3 } else c) } } }

/-- What the domains that are off hold is lost (R31): gains and block peaks of receive paths, Palette and Knife but for the capture buffer
in the managed store, and with D4 Canvas's Hedgerow control. -/
def loseDomains (s : State) : State :=
  let s1 := { s with rf := { s.rf with paths := s.rf.paths.mapIdx (fun i x => if domainOn s (if i < 2 then 7 + i else 10) then x else {}) } }
  let p := s1.pal
  let s2 := if domainOn s 11 then s1 else
    { s1 with pal := { capState := p.capState, capDone := p.capDone, capCfg := p.capCfg, capBase := p.capBase, capFrom := p.capFrom, capBad := p.capBad } }
  if domainOn s 4 then s2 else { s2 with hed := { bootCount := s2.hed.bootCount } }

/-- Trial time starts at the entry to M3 or above (R396). -/
def settleTrial (s : State) : State :=
  if s.fw.trialSince.isNone ∧ trialRuns s ∧ 3 ≤ s.ctl.mode.code then
    { s with fw := { s.fw with trialSince := some s.clk.elapsed } }
  else s

/-- The initial training on entry to a mode that emits: FB_CAL on each transmit path that is powered; the coupled level, and whether its result
is plausible otherwise, are measured, so free (R189, R193; log entry 8). -/
def trainFb (s : State) : State :=
  [0, 1].foldl (fun s b =>
    if domainOn s (9 + b) then
      let r := takeFree s
      itemResult 4 (3 * b + 2) (plausible 4 (3 * b + 2) { ok := bit r.1 16, level := signed 2 (r.1 % 65536) }) r.2
    else s) s

/-- The ODAP server stops: every session ends (R93). -/
def stopServer (s0 : State) : State :=
  let s := freeKeysOf (fun _ => true) s0
  { s with srv := { s.srv with up := false, sessions := [], txns := [], blocks := [], subs := [] } }

/-- The ODAP server comes up, with the sessions that need no handshake: the internal channel, and the PCIe descriptor pair on an F
package (R76, Table 04-5). Shed's boot ROM serves the service UART alone (R395). -/
def startServer (s : State) : State :=
  let id := s.srv.nextSession
  let internal : Session := { id := id, transport := 4, role := 16, lastMsg := s.clk.elapsed }
  let pcie : List Session := if s.chip.fPackage then
      [{ id := id + 1, transport := 2, role := if odNat s 0xA010 5 = 1 then 2 else 1, lastMsg := s.clk.elapsed }] else []
  { s with srv := { s.srv with up := true, sessions := if s.shd.bootRom then [] else internal :: pcie, nextSession := id + 2 } }

/-- On the way into M2, Canvas loses what its server held, and Shed's server takes its place; on the way out the other way round (R31,
R93; log entry 152). -/
def moveServer (m : Mode) (old s : State) : State :=
  if s.srv.up && 2 ≤ old.ctl.mode.code && (m == .m2) != (old.ctl.mode == .m2) then startServer (stopServer s) else s

/-- A mode is entered: a capture ends with M4; then the mode's domains, its working mode, the slots (R30, R31, R70, R180). M1 keeps the
domains until M1_POWER_DOWN. -/
def enterMode (m : Mode) (s : State) : State :=
  let s0 := if s.ctl.mode = .m4 ∧ m ≠ .m4 then leaveSurvey s else s
  let s1 := { s0 with ctl := { s0.ctl with mode := m, work := if m.working then m else s0.ctl.work } }
  let s2 := if m = .m1 then
      stopServer { s1 with ctl := { s1.ctl with powerDownAt := some (s1.clk.elapsed + 100 * msCycles) } }
    else moveServer m s (loseDomains (powerSynths { s1 with ctl := { s1.ctl with domains := m.domains s.chip.fPackage } }))
  settleTrial (settleWaiting (settleSlots (if m.emits then trainFb s2 else silence s2)))

/-- Logs MODE_CHANGE_DROPPED: reason 0 abandoned, 1 overridden, 2 reset. -/
def logDropped (target : Mode) (reason : Nat) (s : State) : State :=
  logEvent 0x2D 1 [BitVec.ofNat 8 target.code, BitVec.ofNat 8 reason] s

/-- A pending change is discarded and logged (R44, R46). -/
def dropChange (reason : Nat) (s : State) : State :=
  match s.ctl.change with
  | some c => logDropped c.target reason { s with ctl := { s.ctl with change := none } }
  | none => s

/-- A pending change takes effect at its ASN: the announced epoch is adopted, the schedule set becomes the active one, the mode is
entered, and the nodes that were not informed are desynchronised (R42, R43). -/
def takeChange (c : ModeChange) (s : State) : State :=
  let s1 := { s with ctl := { s.ctl with change := none } }
  let s2 := if c.epoch = {} then s1 else adoptEpoch c.epoch s1
  let s3 := if c.target.working then odPut 0x4010 1 0 (beOct 1 c.set) s2 else s2
  let s4 := enterMode c.target s3
  if c.kind = .announced then desyncUninformed (fun r => !r.modeInformed) s4 else s4

/-- Whether an ASN is the slot in progress or the next, or no slots run: where an effect of that ASN can come about. -/
def atSlot (s : State) (e : Nat) : Bool := !s.eas.running || decide (e ≤ s.eas.asn + 1)

/-- Time passes to the start of a slot. -/
def advanceToSlot (e : Nat) (s : State) : State := advanceNs (startNs s e).toNat s

/-- MODE_CHANGE_EFFECTIVE (R42). -/
def execModeChangeEffective (s : State) : Host.Outcome State Fault Refusal :=
  match s.ctl.change with
  | some c =>
    if (c.kind = .announced ∧ c.announced ∨ c.kind = .atSlot) ∧ atSlot s c.eff then done s (takeChange c (advanceToSlot c.eff s))
    else done s s
  | none => done s s

/-- MODE_CHANGE_ABANDON (R44): no announcing beacon was emitted by the slot before the effective ASN. -/
def execModeChangeAbandon (s : State) : Host.Outcome State Fault Refusal :=
  match s.ctl.change with
  | some c => if c.kind = .announced ∧ ¬ c.announced ∧ atSlot s c.eff then done s (dropChange 0 s) else done s s
  | none => done s s

/-- END_OF_SERVICE_COMPLETE (R47). -/
def execEndOfServiceComplete (s : State) : Host.Outcome State Fault Refusal :=
  match s.ctl.change with
  | some c => if c.kind = .endOfService ∧ atSlot s c.eff then done s (takeChange c (advanceToSlot c.eff s)) else done s s
  | none => done s s

/-! ### Requests (R36, R39 to R47) -/

/-- Targets a role may request (Table 02-5). -/
def targetAllowed (role : Nat) (m : Mode) : Bool :=
  match m with
  | .m0 => false
  | .m1 | .m3 | .m4 => role == 2 || role == 8
  | .m2 => role == 2 || role == 8 || role == 16
  | .m5 | .m6 | .m7 | .m8 => role == 1 || role == 2 || role == 8
  | .m9 | .m10 => role == 4
  | .m11 => role == 8

/-- Whether the life-cycle state allows a mode (Table 15-2); M1 is a supply state, allowed in every one. -/
def lifeCycleAllows (lc : Nat) (m : Mode) : Bool :=
  match lc with
  | 0 => m == .m0 || m == .m1 || m == .m2 || m == .m11
  | 1 | 3 => m.code ≤ 4 || m == .m11
  | 2 => true
  | _ => m == .m0 || m == .m1 || m == .m2

/-- How a requested transition takes effect (Table 02-7); none where the table has no such request. -/
def changeKind (m target : Mode) (role : Nat) : Option ChangeKind :=
  let leaves : ChangeKind := if m.emits then .endOfService else .atSlot
  if m.code < 2 then none
  else match target with
    | .m0 | .m10 => none
    | .m1 => some leaves
    | .m2 => if m = .m2 then none else if role = 16 then some .atSlot else some leaves
    | .m3 => if m = .m4 then some .atSlot else if m.working then some .endOfService else none
    | .m4 => if m = .m3 then some .atSlot else if m.working then some .endOfService else none
    | .m5 | .m6 | .m7 | .m8 =>
      if m = .m3 ∨ m = .m4 then some .waiting else if m.working ∧ m ≠ target then some .announced else none
    | .m9 => if m.working ∨ m = .m10 then some .atSlot else none
    | .m11 => if m = .m2 ∨ m = .m3 then some .atSlot else none

/-- Whether VENDOR may enter M11: in FACTORY, or by a test authorisation, of which the spec gives no form (a free value). -/
def testAuthorised (s : State) : Bool := s.chip.lifeCycle == 1 || Config.freeValue (2 ^ 98 + s.clk.elapsed) % 2 == 1

/-- The checks on MODE_REQUEST that are its own (R32, R36, R39, R360). -/
def modeChecks (role : Nat) (v : Octets) (s : State) : List (Nat × Nat) :=
  match modeOf (beNat v) with
  | none => [(stAccessDenied, roleNumber role)]
  | some t =>
    if t.working ∧ (s.hed.handing.bind (·.eff)).isSome then failIf (!targetAllowed role t) stAccessDenied (roleNumber role) ++ [(stBusy, 0)]
    else
    failIf (!targetAllowed role t) stAccessDenied (roleNumber role) ++
    failIf (!s.chip.hFabric && (t == .m9 || t == .m10)) stUnsupported ++
    failIf (t != s.ctl.mode && (changeKind s.ctl.mode t role).isNone) stInvalidState s.ctl.mode.code ++
    failIf (!lifeCycleAllows s.chip.lifeCycle t || (!s.chip.valid && 2 < t.code)) stInvalidState s.ctl.mode.code ++
    failIf (t == .m11 && t != s.ctl.mode && !testAuthorised s) stInvalidState s.ctl.mode.code

/-- MODE_LEAD. -/
def modeLead (s : State) : Nat := odNat s 0x1200 3

/-- The set that MODE_SCHEDULE_SET names. -/
def namedSet (s : State) : Nat := odNat s 0x1200 7

/-- A change between working modes is accepted (R41): E lies MODE_LEAD superframes after the first boundary, with a new epoch there. -/
def announceChange (t : Mode) (s : State) : State × Answer :=
  let first := firstBoundaryAt s (nowNs s + 1)
  let e := first + modeLead s * sfSlots (curEpoch s).code
  let t0 := (startNs s e).toNat
  let ep : Epoch := { asn0 := e, secs := t0 / 1000000000, nanos := t0 % 1000000000, code := t.slotCode }
  (clearModeInformed { s with ctl := { s.ctl with
      change := some { target := t, kind := .announced, eff := e, first := first, set := namedSet s, epoch := ep } } }, effA e)

/-- The end of service is accepted (R47): one final superframe from the next boundary carries the mark. -/
def endService (t : Mode) (s : State) : State × Answer :=
  let first := nextSuperframeE s
  let e := first + sfSlots (curEpoch s).code
  ({ s with ctl := { s.ctl with change := some { target := t, kind := .endOfService, eff := e, first := first } } }, effA e)

/-- A change that needs no notice: at the next slot, a PEER's M9 at a superframe boundary, at once where no slots run (Table 02-7). -/
def slotChange (t : Mode) (s : State) : State × Answer :=
  if s.eas.running then
    let e := if t = .m9 then nextSuperframeE s else nextSlotE s
    ({ s with ctl := { s.ctl with change := some { target := t, kind := .atSlot, eff := e } } }, effA e)
  else (takeChange { target := t, kind := .atSlot, eff := s.eas.asn } s, effA effNoSlots)

/-- An entry to a working mode from M3 or M4: it waits for valid time and a valid epoch (R39). -/
def enterWorking (t : Mode) (s : State) : State × Answer :=
  let s1 := settleWaiting { s with ctl := { s.ctl with change := some { target := t, kind := .waiting, eff := 0, set := namedSet s } } }
  (s1, match s1.ctl.change with
    | some c => if c.kind = .atSlot then effA c.eff else effA effNoSlots
    | none => effA effNoSlots)

/-- A cancel: before the commit point the change ends, after it TOO_LATE (R44, R89). -/
def cancelChange (s : State) : State × Answer :=
  match s.ctl.change with
  | some c => if c.committed then (s, errA stTooLate) else ({ s with ctl := { s.ctl with change := none } }, effA (effNow s))
  | none => (s, errA stInvalidState s.ctl.mode.code)

/-- What a write of MODE_REQUEST asks for (R39, R41, R45, R46). -/
def modeAsk (role : Nat) (v : Octets) (s : State) : State × Answer :=
  match modeOf (beNat v) with
  | none => (s, errA stOutOfRange)
  | some t =>
    if t = s.ctl.mode then cancelChange s
    else match s.ctl.change with
      | some c => if c.target = t then (s, effA c.eff) else (s, errA stBusy)
      | none =>
        match changeKind s.ctl.mode t role with
        | none => (s, errA stInvalidState s.ctl.mode.code)
        | some k =>
          match k, (if t.working then scheduleFit s (namedSet s) t else none) with
          | _, some o => (s, errA stScheduleMismatch o)
          | .announced, none => announceChange t s
          | .endOfService, none => endService t s
          | .waiting, none => enterWorking t s
          | .atSlot, none => slotChange t s

/-- MODE_REQUEST at its commit point: an accepted request is what the object reads from then on (R37). -/
def modeCommit (role : Nat) (v : Octets) (s : State) : State × Answer :=
  let r := modeAsk role v s
  if r.2.status = stOk then (odPut 0x1200 2 0 v r.1, r.2) else r

/-- Gesso's own request for M2 (R47, R383): a pending change is overridden, and emission stops from the next slot. -/
def gessoSafe (s : State) : State :=
  if s.ctl.mode.code < 3 then s
  else
    let s1 := dropChange 1 s
    match s1.eas.running, s1.eas.next with
    | true, some e => { s1 with ctl := { s1.ctl with change := some { target := .m2, kind := .atSlot, eff := e, committed := true } } }
    | _, _ => takeChange { target := .m2, kind := .atSlot, eff := s1.eas.asn } s1

/-! ### Powering down -/

/-- Generations of the key slots, which outlast a loss of power so that a stale handle stays stale (R358). -/
def keptGens (s : State) : List (Nat × KeySlot) :=
  (s.sec.slots.filter (fun p => p.2.gen != 0)).map (fun p => (p.1, { gen := p.2.gen }))

/-- The interfaces as D2 to D11 leave them when they go off: links down, the channels between the other receivers lost with D3, and those
of SHED, with its doorbell in D1, flushed with notice (R441, R449, R450). -/
def hostOff (h : HostIf) : HostIf :=
  { chans := h.chans.mapIdx (fun i c => if i / 5 = 4 ∨ i % 5 = 4 then c else {})
    pages := h.pages.mapIdx (fun i p => if i = 4 then p else {}) }

/-- D2 to D11 go off with their contents: the ODAP server, the managed store, Easel, Trellis, Riddle, Seedbank and the interfaces;
what D0, D1 and flash hold stays (R31). -/
def dropDomains (s : State) : State :=
  let s1 := resetReceivers [0, 1, 2, 3] (feIdle (stopServer s))
  { s1 with
    ctl := { mode := .m1, work := .m5, domains := Mode.m1.domains s.chip.fPackage }
    srv := { pend := s.srv.pend, importStaged := s.srv.importStaged }
    rf := { s1.rf with synths := [{}, {}, {}, {}], paths := [{}, {}, {}, {}], items := [], lateDrops := [0, 0] }
    pal := {}, pri := { dpd := s.pri.dpd }, nod := {}, eas := {}, gla := {}, tre := {}, rid := {}
    hed := { bootCount := s.hed.bootCount }
    sec := { slots := keptGens s, storeSlots := s.sec.storeSlots, storeNodes := s.sec.storeNodes, shadows := s.sec.shadows, importSeq := s.sec.importSeq
             recPsk := s.sec.recPsk, recKtk := s.sec.recKtk, recWrap := s.sec.recWrap, shadowSeq := s.sec.shadowSeq, storeState := s.sec.storeState, roots := s.sec.roots
             destroyed := s.sec.destroyed, lcDue := s.sec.lcDue, otherUses := s.sec.otherUses, recLimits := s.sec.recLimits }
    fw := { s.fw with running := none, trialSince := none, report := [], formedAt := none }
    shd := { s.shd with cal := List.replicate 16 {}, l1 := [], l2 := [], warm := none, due := none, booting := none }
    host := hostOff s1.host
    mem := [] }

/-- M1_POWER_DOWN (R39): 100 ms after the effective point of a change to M1. -/
def execM1PowerDown (s : State) : Host.Outcome State Fault Refusal :=
  match s.ctl.powerDownAt with
  | some _ => if s.ctl.mode = .m1 then done s (dropDomains s) else done s s
  | none => done s s

/-! ### Reboot (R38) -/

/-- REBOOT is refused outside M2 and M3. -/
def rebootChecks (s : State) : List (Nat × Nat) := failIf (s.ctl.mode != .m2 && s.ctl.mode != .m3) stInvalidState s.ctl.mode.code

/-- REBOOT at its commit point: the log is copied, and the reboot falls due 10 ms after the response. -/
def rebootCommit (s : State) : State × Answer :=
  let s1 := persistAll s
  ({ s1 with ctl := { s1.ctl with rebootAt := some (s1.clk.elapsed + 10 * msCycles) } }, effA (effNow s))

/-- A boot begins from M1 with a cause of RESET_CAUSE: D2 comes on (Table 02-7). -/
def beginBoot (cause : Nat) (s : State) : State :=
  { s with shd := { s.shd with booting := some cause }, ctl := { s.ctl with domains := setAt s.ctl.domains 2 .on } }

/-- REBOOT_ASSERT (R38): D2 to D11 off for 100 ms, then the boot from M1. -/
def execRebootAssert (s : State) : Host.Outcome State Fault Refusal :=
  match s.ctl.rebootAt with
  | some t =>
    let s1 := dropDomains (advanceElapsed t s)
    done s (beginBoot 6 (advanceElapsed (s1.clk.elapsed + 100 * msCycles) s1))
  | none => done s s

end Sys2Proof.Machine
end

