-- ==== Sys2Proof/Machine/HrSend.lean ====
section
/-!
DEFINITION. Sending a Hedgerow message (R336 to R338, R341): its sequence number, the key use, the ports it leaves by and its queue.
-/

namespace Sys2Proof.Machine

/-- Whether Hedgerow control runs: enabled since boot, on Canvas, and not during a warm reset (R334, R422). -/
def hrRuns (s : State) : Bool := s.hed.st != 0 && domainOn s 4 && s.shd.warm.isNone

/-- The handle that sends and checks messages: the lowest HR_KEY row that names a usable key (R336). -/
def hrKeyRow (s : State) : Option Nat := [0, 1].find? (fun r => useFault s (odNat s 0x7000 6 r) 3 == 0)

/-- Octets of an own address that names no unit: all units. -/
def hrAll : Nat := 0xFFFF

/-- Where a datagram goes: the ports it leaves by, its Ethernet and IPv6 destinations, and its UDP port. -/
structure HrTo where
  ports : List Nat
  mac : Nat
  ip : Nat
  udp : Nat
  deriving DecidableEq, Repr

/-- Where a message to a home address goes (R336, R338, R341): 0xFFFF is the group FF02::5A1 on each port that is up; else the adjacency's port or
the FABRIC entry's, to the address of the unit's LSA. -/
def hrTo (s : State) (dst : Nat) : HrTo :=
  let ups := [0, 1].filter (ethUp s)
  let udp := odNat s 0x7000 4
  let ip := ((s.hed.lsdb.find? (fun l => l.origin == dst)).map (·.ipv6)).getD 0
  if dst = hrAll then { ports := ups, mac := 0x3333000005A1, ip := 0xFF0200000000000000000000000005A1, udp := udp }
  else match hrAdjOf s dst with
    | some x => { ports := [x.port], mac := x.mac, ip := ip, udp := udp }
    | none => match lookup s.tre 5 (beOct 2 dst) with
      | some e => { ports := [e.value], mac := e.next, ip := ip, udp := udp }
      | none => { ports := ups, mac := 0, ip := ip, udp := udp }

/-- Where a message to a row of HR_SEED or HR_EVENT_SINK goes: its ADDR and PORT, by the IP6 entry of the address or DEFAULT_ROUTE, else on each port
that is up (DESIGN CHOICE, log entry 190). -/
def hrRowTo (s : State) (idx sub row : Nat) : HrTo :=
  let ip := odField s idx sub row 4 16
  let udp := odField s idx sub row 2 2
  match ip6Entry s ip with
  | some e => { ports := [e.value % 2], mac := e.next, ip := ip, udp := udp }
  | none =>
    if odField s 0x6420 2 0 0 1 = 1 then { ports := [odField s 0x6420 2 0 1 1], mac := odField s 0x6420 2 0 2 6, ip := ip, udp := udp }
    else { ports := [0, 1].filter (ethUp s), mac := 0, ip := ip, udp := udp }

/-- The queue that a message leaves by (R322, Table 13-2): the control queue, the report class, OWN_CLASS for ODAP or for another Hedgerow message,
or as a packet of another unit that is forwarded. -/
inductive HrQueue
  | control | report | odap | own | transit
  deriving DecidableEq, Repr

/-- Whether a message type is time-critical (Table 14-2): it leaves through the control queue. -/
def hrCritical (type : Nat) : Bool := [0x01, 0x10, 0x11, 0x12, 0x13, 0x40, 0x41, 0x42, 0x43].contains type

/-- The queue of a message type; an EVENT that names a node is a report. -/
def hrQueue (type : Nat) (body : Octets) : HrQueue :=
  if hrCritical type then .control
  else if type = 0x30 ∧ fieldNat body 0 4 ≠ 0xFFFFFFFF then .report
  else if type = 0x50 ∨ type = 0x51 then .odap
  else .own

/-- A frame of the Hedgerow enters its queue on a port; a report joins those handed over, in the order of their stamps (R120). -/
def hrEnqueue (c : HrQueue) (p : Nat) (f : EgFrame) (s : State) : State :=
  match c with
  | .control => ctrlEnqueue p f s
  | .report => { s with srv := { s.srv with outbox := outboxPut (some p, { f with kind := 1 }) s.srv.outbox } }
  | .odap => classEnqueue p (odNat s 0x6810 6 0) f s
  | .own => classEnqueue p (odNat s 0x6810 6 1) f s
  | .transit => classEnqueue p (odNat s 0x6810 3 0) f s

/-- The epoch at which the unit speaks for a region: that of a region it holds, else the highest it knows (R336). -/
def hrEpoch (s : State) (region : Nat) : Nat :=
  if region = 0xFFFF then 0
  else match s.hed.held.find? (fun h => h.1 == region) with
    | some h => h.2
    | none => sget (fun _ => 0) s.hed.known region

/-- The envelope of a message (Table 14-1). -/
def envelope (type flags keyId domain src dst region epoch : Nat) (unit : Octets) (seq len : Nat) : Octets :=
  beOct 1 1 ++ beOct 1 type ++ beOct 1 flags ++ beOct 1 keyId ++ beOct 2 domain ++ beOct 2 src ++ beOct 2 dst ++ beOct 2 region ++
  beOct 4 epoch ++ padTo 8 unit ++ beOct 8 seq ++ beOct 2 len

/-- The datagram of a message of the unit (R336): the envelope, and the body and tag by AES-128-GCM under the key of KEY_ID, with UNIT and SEQ as
IV and the envelope as additional data, its FLAGS octet zero (log entry 6). -/
def hrDatagram (s : State) (row type dst region epoch : Nat) (body : Octets) : Octets :=
  let env (flags : Nat) : Octets :=
    envelope type flags row (odNat s 0x7000 3) s.hed.home dst region epoch s.chip.serial s.hed.seq body.length
  env 0xF0 ++ padTo (body.length + 16)
    (Config.crypto "AES-128-GCM seal" 0 [keyValue s (odNat s 0x7000 6 row), padTo 8 s.chip.serial ++ beOct 8 s.hed.seq, env 0, body])

/-- The pieces of at most `n` octets that octets are cut into. -/
def pieces (n : Nat) : Nat → Octets → List Octets
  | 0, o => [o]
  | k + 1, o => if o.length ≤ n then [o] else o.take n :: pieces n k (o.drop n)

/-- The unit's own IPv6 address (log entry 190). -/
def ownIpv6 : Nat := beNat ((Config.crypto "own IPv6 address" 0 []).take 16)

/-- A datagram with its UDP header, from and to a UDP port. -/
def udpDatagram (src : Nat) (path : HrTo) (datagram : Octets) : Octets :=
  beOct 2 src ++ beOct 2 path.udp ++ beOct 2 (8 + datagram.length) ++
    beOct 2 (udpChecksum { src := ownIpv6, dst := path.ip, nextHeader := 17, srcPort := src, dstPort := path.udp, payload := datagram }) ++ datagram

/-- The Ethernet frames of a datagram: one, or the IPv6 fragments that a path MTU below it asks for (R336); with the UDP header, the IPv6
header, in fragments the fragment header, the Ethernet header with its tag and the FCS. -/
def hrFrames (s : State) (dst : Nat) (path : HrTo) (node : Option Nat) (stamp : Nat) (datagram : Octets) : List EgFrame :=
  let mtu := max 1280 (Config.pathMtu dst)
  let o := udpDatagram (odNat s 0x7000 4) path datagram
  let frame (extra : Nat) (o : Octets) : EgFrame :=
    { len := 14 + tagLen s + 40 + extra + o.length + 4, kind := 3, body := o, dst := path.mac, src := ownMac s, tci := ownTci s, ip := path.ip, udp := path.udp
      node := node, stamp := stamp }
  if 40 + o.length ≤ mtu then [frame 0 o] else (pieces ((mtu - 48) / 8 * 8) o.length o).map (frame 8)

/-- The frames of a datagram enter their queue on each port. -/
def hrLeave (c : HrQueue) (dst : Nat) (path : HrTo) (node : Option Nat) (stamp : Nat) (datagram : Octets) (s : State) : State :=
  path.ports.foldl (fun t p => (hrFrames s dst path node stamp datagram).foldl (fun t f => hrEnqueue c p f t) t) s

/-- Sends one message (R336): SEQ rises, the key is used, and its frames enter their queues. Nothing is sent without a key; one that an HR_KEY row names for
another purpose is counted (R359). -/
def hrSendTo (type dst region epoch : Nat) (c : HrQueue) (path : HrTo) (node : Option Nat) (stamp : Nat) (body : Octets) (s : State) : State :=
  match hrRuns s, hrKeyRow s with
  | true, some row =>
    let s1 := countUse (odNat s 0x7000 6 row) (emit (.hedgerow type dst region epoch s.hed.seq body)
      { s with hed := { s.hed with seq := s.hed.seq + 1 } })
    hrLeave c dst path node stamp (hrDatagram s row type dst region epoch body) s1
  | true, none => [0, 1].foldl (fun s r => wrongUse (odNat s 0x7000 6 r) 3 s) s
  | _, _ => s

/-- Sends one message to a home address. -/
def hrSendAs (type dst region epoch : Nat) (c : HrQueue) (body : Octets) (s : State) : State :=
  hrSendTo type dst region epoch c (hrTo s dst) none (nowNs s) body s

/-- Sends a message that speaks for a region, 0xFFFF for none. -/
def hrSend (type dst region : Nat) (body : Octets) (s : State) : State :=
  hrSendAs type dst region (hrEpoch s region) (hrQueue type body) body s

/-- The region a message may speak for: a fenced unit names none (R336). -/
def spoken (s : State) (region : Nat) : Nat := if s.hed.st = 3 then 0xFFFF else region

/-- The region whose PANs the unit serves, and its epoch: the one being taken up, else the last it took, else its own (R333, R347). -/
def servedRegion (s : State) : Nat × Nat :=
  match s.hed.incoming with
  | some i => if i.adopted then (i.region, i.epoch) else (s.hed.held.getLast?).getD (s.hed.home, 0)
  | none => (s.hed.held.getLast?).getD (s.hed.home, 0)

/-- The region that a message of no region's concern speaks for: the home region, none while fenced or without an address (R336). -/
def homeRegion (s : State) : Nat := spoken s s.hed.home

/-! ### What the unit owes (R120, R338, R355) -/

/-- An EVENT of a log entry to every enabled sink; a node's event speaks for its region (R338). -/
def sendEvent (e : LogEntry) (s : State) : State :=
  let sinks := [0, 1, 2, 3].filter (fun r => odField s 0x7003 1 r 0 1 == 1)
  let region := if e.node.isSome then spoken s (servedRegion s).1 else homeRegion s
  let body := beOct 4 (e.node.getD 0xFFFFFFFF) ++ e.encode
  sinks.foldl (fun s r => hrSendTo 0x30 hrAll region (hrEpoch s region) (hrQueue 0x30 body) (hrRowTo s 0x7003 1 r) e.node
    (e.secs * 1000000000 + e.nanos) body s) s

/-- The events logged since the last one sent. -/
def sendEvents (s : State) : State :=
  let s1 := ((s.shd.ring.filter (fun e => decide (s.hed.eventSeq < e.seq))).reverse).foldl (fun s e => sendEvent e s) s
  { s1 with hed := { s1.hed with eventSeq := s.shd.seq } }

/-- The notifications owed to peers, as reports (R323, R355). -/
def sendNotes (s : State) : State :=
  let region := homeRegion s
  s.srv.peerNotes.foldl (fun t x => match findSession t x.1 with
    | some u => hrSendTo 0x51 u.peer region (hrEpoch s region) .report (hrTo s u.peer) (notifNode s x.2) (x.2.secs * 1000000000 + x.2.nanos) x.2.message t
    | none => t) { s with srv := { s.srv with peerNotes := [] } }

/-- The events and notifications that the unit owes are handed over. -/
def sendOwed (s : State) : State := if ¬ hrRuns s ∨ s.hed.home = 0xFFFF then s else sendNotes (sendEvents s)

/-- EGRESS_SELECT (R120, R324): on a port whose link is up, with every report that is owed in its queue. -/
def execEgressSelect (port : Nat) (s : State) : Host.Outcome State Fault Refusal :=
  if port < 2 ∧ ethUp s port then done s (egressSelect port (sendOwed s)) else done s s

/-! ### Key shadows (R371) -/

/-- A request of the unit's own (Tables 04-7, 04-8). -/
def odapRequest (op rid : Nat) (body : Octets) : Octets :=
  beOct 1 1 ++ beOct 1 op ++ beOct 2 0 ++ beOct 4 rid ++ beOct 4 0 ++ beOct 2 0 ++ beOct 2 body.length ++ body

/-- The KTK_PEER key under which the unit seals its shadows: that of the lowest slot that holds a usable one (log entry 170). -/
def ktkPeer (s : State) : Option Nat :=
  ((s.sec.slots.map (fun e => handleOf e.1 e.2)).find? (fun h => useFault s h 6 == 0))

/-- A SHADOW blob (Table 15-4): a key sealed for the unit of a serial, under a KTK_PEER and the next IMPORT_SEQ, with a fresh IV. -/
def shadowBlob (ktk : Nat) (serial : Octets) (region : Nat) (node : Option Nat) (k : KeySlot) (s : State) : Octets × State :=
  let seq := s.sec.shadowSeq + 1
  let d := takeFree s
  let head := beOct 1 1 ++ beOct 1 2 ++ beOct 2 ktk ++ padTo 8 serial ++ beOct 1 k.type ++ beOct 1 k.usage ++ beOct 1 k.masters ++ beOct 1 (k.flags / 2 * 2 + 1) ++
    beOct 2 region ++ beOct 1 k.pan ++ beOct 1 k.keyIndex ++ beOct 4 seq ++ beOct 4 k.outFc ++ beOct 4 (node.getD 0xFFFFFFFF) ++
    beOct 1 k.soft ++ beOct 1 k.hard ++ zeros 2 ++ beOct 12 d.1
  let key := padTo (if k.type = 1 then 16 else 32) k.value
  (head ++ padTo (key.length + 16) (Config.crypto "AES-256-GCM seal" 256 [keyValue s ktk, beOct 12 d.1, head, key]),
   countUse ktk { d.2 with sec := { d.2.sec with shadowSeq := seq } })

/-- The next request of a shadow write, under a REQUEST_ID of its own (R83): BLOCK_START of the key's row, BLOCK_SEG, BLOCK_END. -/
def sendShadowStep (w : ShadowWrite) (s : State) : State :=
  let rid := (s.hed.ownRid + 1) % 2 ^ 32
  let idx := if w.node.isSome then 0x8020 else 0x8010
  let sub := if w.node.isSome then 1 else 2
  let m := match w.step with
    | 0 => odapRequest 0x10 rid (beOct 2 idx ++ beOct 1 sub ++ [0] ++ beOct 4 (w.node.getD w.row) ++ beOct 1 1 ++ zeros 3 ++ beOct 4 w.blob.length)
    | 1 => odapRequest 0x11 rid (beOct 2 w.block ++ zeros 2 ++ beOct 4 0 ++ w.blob)
    | _ => odapRequest 0x12 rid (beOct 2 w.block ++ zeros 2)
  hrSend 0x50 w.dst w.region m
    { s with hed := { s.hed with ownRid := rid, shadowOut := s.hed.shadowOut ++ [{ w with rid := rid }] } }

/-- A node's session key as a shadow carries it. -/
def nodeKeySlot (s : State) (n : Nat) : KeySlot :=
  let k := nodeKey s n
  { type := 1, flags := 2 * b2n k.pinned, pan := (nodeRec s n).pan, keyIndex := k.keyIndex, outFc := k.outFc, soft := 0, hard := 0, value := k.value }

/-- The key that a shadow due carries, while the unit still holds it. -/
def shadowKey (s : State) (d : ShadowDue) : Option KeySlot :=
  match d.node with
  | some n => if (nodeKey s n).valid then some (nodeKeySlot s n) else none
  | none => if (slotAt s d.slot).held then some (slotAt s d.slot) else none

/-- A shadow write begins (R371). Without a KTK_PEER or an adjacency it rests until the next superframe. -/
def startShadow (d : ShadowDue) (s : State) : State :=
  match shadowKey s d, ktkPeer s, hrAdjOf s d.dst with
  | some k, some ktk, some x =>
    let region := spoken s (servedRegion s).1
    let b := shadowBlob ktk x.serial region d.node k s
    sendShadowStep { rid := 0, node := d.node, slot := d.slot, row := d.row, sf := sfIndex s s.eas.asn, dst := d.dst, region := region, blob := b.1 } b.2
  | some _, _, _ => { s with hed := { s.hed with shadowDue := s.hed.shadowDue ++ [{ d with rest := true }] } }
  | none, _, _ => s

/-- As many shadow writes of a unit begin as its session has block transfers free, 2 of them (Table 04-10; log entry 187). -/
def pumpShadows (dst : Nat) (s : State) : State :=
  let go := (s.hed.shadowDue.filter (fun d => d.dst == dst && !d.rest)).take (2 - (s.hed.shadowOut.filter (fun w => w.dst == dst)).length)
  go.foldl (fun s d => startShadow d s) { s with hed := { s.hed with shadowDue := s.hed.shadowDue.filter (fun d => !go.contains d) } }

/-- A shadow falls due, in place of one of the same key; a new session key's goes first. -/
def oweShadow (first : Bool) (d : ShadowDue) (s : State) : State :=
  let l := s.hed.shadowDue.filter (fun x => !(x.dst == d.dst && x.node == d.node && x.slot == d.slot))
  pumpShadows d.dst { s with hed := { s.hed with shadowDue := if first then d :: l else l ++ [d] } }

/-- The units that hold shadows of the region's keys (R371): its spare and, from step 1 of a handover, the target. -/
def shadowUnits (s : State) : List Nat :=
  let l := s.hed.spare.toList
  match s.hed.handing with
  | some h => if l.contains h.target then l else l ++ [h.target]
  | none => l

/-- A BEACON or JOIN_MASTER key that has been imported is shadowed at once (R371). -/
def shadowImported (toNode : Bool) (row : Nat) (s : State) : State :=
  let k := slotAt s row
  if ¬ toNode ∧ k.held ∧ (bit k.usage 0 ∨ bit k.usage 1) then
    (shadowUnits s).foldl (fun s a => oweShadow false { dst := a, slot := row, row := row } s) s
  else s

/-- Once in each superframe the shadows that rest, and the writes that two superframes have left without an answer, are tried again, each towards a unit that
still holds the region's shadows (log entry 187). -/
def retryShadows (s : State) : State :=
  let units := shadowUnits s
  let late : ShadowWrite → Bool := fun w => decide (w.sf + 2 ≤ sfIndex s s.eas.asn)
  let again := (s.hed.shadowOut.filter late).map (fun w => ({ dst := w.dst, node := w.node, slot := w.slot, row := w.row } : ShadowDue))
  let due := (s.hed.shadowDue.map (fun d => ({ d with rest := false } : ShadowDue)) ++ again).filter (fun d => units.contains d.dst)
  units.foldl (fun s a => pumpShadows a s) { s with hed := { s.hed with shadowOut := s.hed.shadowOut.filter (fun w => !late w), shadowDue := due } }

end Sys2Proof.Machine
end

