-- ==== Sys2Proof/Machine/Psdu.lean ====
section
/-!
DEFINITION. Received frames as octets: the FCS (R165), the MAC and security headers of Table 10-3, the uplink header of Table 10-4, and the
nonce under which a lane opens a frame (R373).
-/

namespace Sys2Proof

/-- `size` octets of a frame from `off` on as a number, least significant octet first, as air frames carry it (R6). -/
def leField (o : Octets) (off size : Nat) : Nat := (((o.drop off).take size).reverse).foldl (fun acc b => acc * 256 + b.toNat) 0

/-- FRAME_CONTROL, and whether it is a join request's, which has an EUI-64 as its source. -/
def RxFrame.control (f : RxFrame) : Nat := leField f.psdu 0 2
def RxFrame.ofEui (f : RxFrame) : Bool := f.control == 0xE849

/-- SEQ, the destination PAN identifier and short address, and the source: a short address, or an EUI-64. -/
def RxFrame.seq (f : RxFrame) : Nat := leField f.psdu 2 1
def RxFrame.panId (f : RxFrame) : Nat := leField f.psdu 3 2
def RxFrame.dest (f : RxFrame) : Nat := leField f.psdu 5 2
def RxFrame.srcShort (f : RxFrame) : Nat := leField f.psdu 7 2
def RxFrame.srcEui (f : RxFrame) : Nat := leField f.psdu 7 8

/-- The security header: SEC_CONTROL, FRAME_COUNTER, and KEY_INDEX of key identifier mode 1. -/
def RxFrame.secAt (f : RxFrame) : Nat := if f.ofEui then 15 else 9
def RxFrame.security (f : RxFrame) : Nat := leField f.psdu f.secAt 1
def RxFrame.counter (f : RxFrame) : Nat := leField f.psdu (f.secAt + 1) 4
def RxFrame.keyIndex (f : RxFrame) : Nat := leField f.psdu 14 1

/-- Octets of the headers. -/
def RxFrame.head (f : RxFrame) : Nat := if f.ofEui then 20 else 15

/-- Whether the frame has a header of Table 10-3 and a security header that matches it, of level 5 (R239, R373, R374): a join request has SEQ 0 and
key identifier mode 0, any other node frame mode 1; the uplink header, the MIC and the FCS follow. -/
def RxFrame.formOk (f : RxFrame) : Bool :=
  f.dest == 0 && decide (f.head + 6 + 4 + 4 ≤ f.psdu.length) &&
  ((f.control == 0xA849 && f.security == 0x0D) || (f.ofEui && f.security == 0x05 && f.seq == 0))

/-- The body once decrypted, of the length that the PSDU leaves it: what stands between the headers and the MIC. -/
def RxFrame.plain (f : RxFrame) : Octets :=
  let n := f.psdu.length - f.head - 8
  (f.body ++ List.replicate (n - f.body.length) 0).take n

/-- The uplink header of Table 10-4, PHY_CAPS of a join request, and the packet of an uplink. -/
def RxFrame.ztype (f : RxFrame) : Nat := leField f.plain 0 1
def RxFrame.syncAsn (f : RxFrame) : Nat := leField f.plain 1 3
def RxFrame.dlAck (f : RxFrame) : Nat := leField f.plain 4 1
def RxFrame.uflags (f : RxFrame) : Nat := leField f.plain 5 1
def RxFrame.phyCaps (f : RxFrame) : Nat := leField f.plain 6 1
def RxFrame.packet (f : RxFrame) : Octets := f.plain.drop 6

namespace Machine

/-- The 2-octet FCS of a PSDU: the CRC-16 of IEEE 802.15.4, sent least significant octet first (PRESUMED, log entry 157). -/
def fcsShort (o : Octets) : Octets :=
  let step (r : BitVec 16) (_ : Nat) : BitVec 16 := if r.getLsbD 0 then (r >>> 1) ^^^ 0x8408#16 else r >>> 1
  leOct 2 (o.foldl (fun (r : BitVec 16) b => (List.range 8).foldl step (r ^^^ b.setWidth 16)) 0#16).toNat

/-- Whether the FCS of a PSDU, of 2 or of 4 octets as its PHR says, passes (R165, R168). -/
def fcsPasses (short : Bool) (psdu : Octets) : Bool :=
  let n := if short then 2 else 4
  let data := psdu.take (psdu.length - n)
  decide (n ≤ psdu.length) && psdu.drop (psdu.length - n) == (if short then fcsShort data else fcs32 data)

/-- The nonce of a node's frame (R373): the node's EUI-64, the frame counter and the security level. -/
def nodeNonce (eui : Nat) (f : RxFrame) : Octets := beOct 8 eui ++ beOct 4 f.counter ++ beOct 1 (f.security % 8)

/-- Whether the MIC of a frame verifies under a key and a nonce: it is sealed under them, and no octet of it has changed (R374, log entry 6). -/
def micVerifies (f : RxFrame) (key nonce : Octets) : Bool := f.intact && decide (f.sealKey = key) && decide (f.sealNonce = nonce)

end Machine

end Sys2Proof
end

