-- ==== Sys2Proof/Machine/GlazeRec.lean ====
section
/-!
DEFINITION. Soft records of Glaze (R275 to R278, R287): the block quantiser, a record's size and room, keeping one, and what a
partner forwards when it decodes a frame in a listen cell (R274).
-/

namespace Sys2Proof.Machine

/-- One block of up to 32 soft values (R277): its exponent and mantissas. -/
def quantise (thin : Bool) (xs : List Int) : Nat × List Int :=
  let mmax := if thin then 1 else 7
  let e := blockExp mmax ((xs.map Int.natAbs).foldl max 0) 16 0
  (e, xs.map (mantissa e))

/-- Soft values cut into blocks of 32, the last padded with zeros. -/
def blocksOf (thin : Bool) : Nat → List Int → List (Nat × List Int)
  | 0, _ => []
  | n + 1, xs => quantise thin ((xs ++ List.replicate 32 0).take 32) :: blocksOf thin n (xs.drop 32)

/-- Dequantised values of a record: m times 2^e (R277). -/
def recordValues (r : GlazeRec) : List Int := (r.blocks.flatMap (fun b => b.2.map (fun m => m * 2 ^ b.1))).take r.nbits

/-- Octets of the Glaze region (Table 01-6). -/
def glazeRoom : Nat := 8 * 1048576

/-- Counts in a GLAZE_COUNT row. -/
def glazeCount (row : Nat) (s : State) : State := bump 0x6010 1 row s

/-- A record is kept, or refused and counted where it finds no room (R287). -/
def keepRecord (r : GlazeRec) (s : State) : State :=
  if glazeRoom < glazeUsed s + recordSize r then glazeCount 4 s
  else glazeCount 3 { s with gla := { s.gla with recs := s.gla.recs ++ [r] } }

/-- Whether the unit records in the thin format (Table 02-3); of a listen cell in M9, by the mode of its owner (R269). -/
def thinMode (s : State) (c : RxCell) : Bool := (if c.partner then (ourMode s c.owner).getD (serveMode s) else serveMode s) == .m8

/-- The record of soft values kept in a cell (R171, R275): `reason` 0 CRC failed, 1 LENGTH, 2 FADE; discarded at
start(a + RETAIN + 1), by the owner's RETAIN on a listen cell. -/
def softRecord (s : State) (c : RxCell) (e : Engine) (reason : Nat) (rssi : Int) (soft : List Int) : GlazeRec :=
  let p := cellProfile s c
  let xs := (soft.map (clampInt (-127) 127)).take (payloadBits p true p.maxLen)
  let retain := if c.partner then c.retain else odNat s 0x6000 2
  { owner := if c.partner then c.owner else 0xFFFF, asn := s.eas.asn, entry := if c.partner then c.entry else 0xFFFF
    thin := thinMode s c, aerialB := e.aerial == 1, reason := reason, stamp := e.sfdNs, nbits := max 1 xs.length
    metric := (255 * e.cbar + 32768) / 65536, rssi := clampInt (-128) 127 ((rssi + 128) / 256)
    blocks := blocksOf (thinMode s c) ((max 1 xs.length + 31) / 32) xs
    until_ := (startNs s (s.eas.asn + retain + 1)).toNat, node := c.node.getD 0 }

/-- Whether a reception's soft values are kept (R171): H variant, a Glaze-recorded cell, FEC on, not PHY 5. -/
def keepsSoft (s : State) (c : RxCell) (coded : Bool) : Bool :=
  s.chip.hFabric && c.glaze && coded && (cellProfile s c).phy != 5

/-- The body of a GLAZE_FRAME (Table 11-3) for a frame decoded in a listen cell; ASN is the owner's (R274). -/
def glazeFrameBody (asn entry stamp : Nat) (f : RxFrame) (aerialB : Bool) (psdu : Octets) : Octets :=
  beOct 5 asn ++ beOct 2 entry ++ beOct 4 stamp ++ beInt 2 f.rssi ++ beOct 1 f.lq ++ beOct 1 (b2n aerialB) ++
  beOct 2 psdu.length ++ psdu

/-- OWNER_EPOCH of an owner's lists that is in force at an instant of network time: the newest that starts by then. -/
def ownerEpoch (s : State) (owner t : Nat) : Option Epoch :=
  let es := (s.gla.epochs.filter (fun x => x.1 == owner)).map (·.2)
  match (es.filter (fun e => decide (epochT0 e ≤ t))).getLast? with
  | some e => some e
  | none => es.head?

/-- The owner's ASN of a slot of this unit, through OWNER_EPOCH (R112, R273). -/
def ownerAsn (s : State) (owner a : Nat) : Nat :=
  match ownerEpoch s owner (startNs s a).toNat with
  | some e => epochFirstAt e (startNs s a).toNat
  | none => a

/-- Start of an owner's slot in ns of network time, by the newest OWNER_EPOCH that it does not precede; none where no list was ever adopted. -/
def ownerStart (s : State) (owner a : Nat) : Option Int :=
  let es := (s.gla.epochs.filter (fun x => x.1 == owner)).map (·.2)
  match (es.filter (fun e => decide (e.asn0 ≤ a))).getLast? with
  | some e => some (epochStart e a)
  | none => es.head?.map (fun e => epochStart e a)

/-- OWNER_EPOCH of an adopted list is kept, with the one before it. -/
def noteEpoch (owner : Nat) (e : Epoch) (s : State) : State :=
  let es := s.gla.epochs.filter (fun x => x.1 == owner)
  if (es.getLast?).map (·.2) = some e then s
  else { s with gla := { s.gla with epochs := s.gla.epochs.filter (fun x => x.1 != owner) ++ es.drop (es.length - 1) ++ [(owner, e)] } }

/-- The region of an owner that a message about its cells concerns (R336): of a mirror of it, else the last that its heartbeats say it holds, else
its home region. -/
def ownerRegion (s : State) (owner : Nat) : Nat :=
  match s.hed.mirrors.find? (fun m => m.holder == owner && s.hed.mirroring.contains m.region) with
  | some m => m.region
  | none => (((s.hed.adj.find? (fun x => x.addr == owner)).bind (fun x => x.held.getLast?)).map (·.1)).getD owner

/-- A frame decoded in a listen cell: GLAZE_FRAME to the owner, and the body kept to answer a request (R274, R281). -/
def forwardFrame (c : RxCell) (e : Engine) (f : RxFrame) (s : State) : State :=
  let asn := ownerAsn s c.owner s.eas.asn
  let body := glazeFrameBody asn c.entry e.sfdNs f (e.aerial == 1) f.psdu
  glazeCount 2 (hrSend 0x41 c.owner (spoken s (ownerRegion s c.owner)) body
    { s with gla := { s.gla with frames := s.gla.frames ++ [⟨c.owner, asn, c.entry, e.sfdNs, body⟩] } })

/-- A partner's record of slot `a` carries the owner's ASN (Table 11-4); an own one the SEQ of a reception that ran to its end. `report` is the
report with which Palette hands the soft values on (R171). -/
def keepSoft (c : RxCell) (e : Engine) (reason : Nat) (rssi : Int) (soft : List Int) (report : Octets) (s : State) (seq : Option Nat := none) : State :=
  let r := { softRecord s c e reason rssi soft with seq := if c.partner then none else seq, report := report }
  keepRecord (if c.partner then { r with asn := ownerAsn s c.owner s.eas.asn } else r) s

end Sys2Proof.Machine
end

