-- ==== Sys2Proof/Machine/Palette.lean ====
section
/-!
DEFINITION. Palette and Knife (spec/07): engines in rotation and test, the states of a channel receiver from its window to its report,
noise floors, and Knife's coefficient sets.
-/

namespace Sys2Proof.Machine

/-! ### Engines -/

/-- Modifies an engine. -/
def modEngine (i : Nat) (f : Engine → Engine) (s : State) : State :=
  { s with pal := { s.pal with engines := modAt f s.pal.engines i } }

/-- The cell an engine serves in the slot in progress. -/
def engineCell (s : State) (i : Nat) : Option RxCell := (engine s i).cell.bind (fun k => s.eas.active.rx[k]?)

/-- The sets of R154 over a list of healthy units: in service, and in self-test; at most `cap` in test, `q` the rotation. -/
def rotation (h : List Nat) (need cap q : Nat) : List Nat × List Nat :=
  let n := h.length
  let pick (i : Nat) : Nat := (h[i % n]?).getD 0
  if n = 0 then ([], [])
  else
    let t := if n ≤ need then 0 else min cap (n - need)
    ((List.range (min need n)).map (fun i => pick (q + 1 + i)), (List.range t).map (fun j => pick (q + n * (j + 1) - j)))

/-- Engines in service and in self-test for a slot start at network time `t` ns (R154). -/
def engineSets (s : State) (t : Nat) : List Nat × List Nat :=
  if pairsMode s then
    let r := rotation (healthyPairs s) (needed s) 2 (t / 32000000000)
    (r.1.flatMap (fun j => [2 * j, 2 * j + 1]), r.2.flatMap (fun j => [2 * j, 2 * j + 1]))
  else rotation (healthyEngines s) (needed s) 4 (t / 16000000000)

/-- What an engine can be given a cell from: in M6 the even engine of each pair in service. -/
def servingEngines (s : State) (t : Nat) : List Nat :=
  let r := (engineSets s t).1
  (if pairsMode s then r.filter (fun i => i % 2 == 0) else r).mergeSort (· ≤ ·)

/-! ### Channels and their bins (R147) -/

/-- NOISE_FLOOR row of a bin of a receive path. -/
def floorRow (p k : Nat) : Nat := if p < 2 then 256 * p + k else 512 + 16 * (p - 2) + k

/-- Bins of a channel: the lowest, and how many (R147, Table 07-1); a 2.4 GHz channel is one. -/
def channelBins (s : State) (band freq phy : Nat) : Nat × Nat :=
  if band = 1 then ((freq - 2405000000) / 5000000, 1)
  else
    let n := phyBins phy
    ((freq + 25600000 - (n - 1) * 100000 - (synth s 0).centre) / 200000, n)

/-- A channel's floor on an aerial: the power sum of its bins' floors. -/
def channelFloor (s : State) (c : RxCell) (aerial : Nat) : Int :=
  let b := channelBins s c.band c.freq (cellProfile s c).phy
  (dbSum ((List.range b.2).map (fun k => noiseFloor s (floorRow (2 * c.band + aerial) (b.1 + k))))).getD 0

/-- The unit's own engine found an SFD in a node's Glaze-recorded cell (R249, R262), with the SEQ of a reception that ran to its end. What is
older than the longest retention is forgotten. -/
def noteSfd (c : RxCell) (ns : Nat) (seq : Option Nat) (s : State) : State :=
  match c.partner, c.glaze, c.node with
  | false, true, some n =>
    { s with gla := { s.gla with sfds := s.gla.sfds.filter (fun x => decide (s.eas.asn ≤ x.1 + 32) && !(x.1 == s.eas.asn && x.2.1 == n)) ++
      [(s.eas.asn, n, ns, seq)] } }
  | _, _, _ => s

/-- The reception of an engine ends: its bins held it in this 1 ms block (R166). -/
def noteReception (i : Nat) (s : State) : State :=
  match engineCell s i with
  | some c =>
    let b := channelBins s c.band c.freq (cellProfile s c).phy
    let old := s.pal.recent.filter (fun x => decide (s.clk.elapsed < x.2.2.2 + msCycles))
    noteSfd c (engine s i).sfdNs none { s with pal := { s.pal with recent := (c.band, b.1, b.2, s.clk.elapsed) :: old } }
  | none => s

/-- A reception ends with nothing delivered: its reason is counted, and the engine goes on searching while the window is open. -/
def abandon (i reason : Nat) (s : State) : State :=
  bump 0x3110 1 reason (modEngine i (fun e => { e with
    st := if e.window then .search else .idle, frozen := false, watch := false, len := 0 }) (noteReception i s))

/-- Whether an engine is in a reception. -/
def Engine.receiving (e : Engine) : Bool := e.st == .header || e.st == .payload

/-- Receptions at the end of their slot are abandoned with SLOT_END (R158). -/
def endReceptions (s : State) : State :=
  (List.range 100).foldl (fun s i => if (engine s i).receiving then abandon i 3 s else s) s

/-- Every reception of a band is abandoned with UNLOCK and counted (R132, R158). -/
def cutReceptions (band : Nat) (s : State) : State :=
  (List.range 100).foldl (fun s i =>
    if (engine s i).receiving && (engineCell s i).map (·.band) == some band then
      bump (bandIdx band 0x3050) 3 0 (abandon i 4 s)
    else s) s

/-- The place in a plan of the cell that an engine is given. -/
def givenCell (plan : SlotPlan) (i : Nat) : Option Nat := plan.rx.findIdx? (fun c => c.engine == i)

/-- Whether an engine, or in M6 the other of its pair, leaves service at this slot start (R155). -/
def leavesService (s : State) (i : Nat) : Bool :=
  (engine s i).leaving || (pairsMode s && (engine s (if i % 2 = 0 then i + 1 else i - 1)).leaving)

/-- An engine at a slot start (Table 07-4, R154, R155); `lone` says that the other of its pair leaves service. -/
def engineAtSlot (plan : SlotPlan) (serving testing : List Nat) (lone : Bool) (i : Nat) (e : Engine) : Engine :=
  if e.st = .faulty then e
  else if e.leaving ∨ e.retest then { st := .test, fails := e.fails, retest := true, gainA := e.gainA, gainB := e.gainB }
  else if lone then { st := .off, fails := e.fails }
  else if serving.contains i then
    match givenCell plan i with
    | some k => { st := .armed, cell := some k, fails := e.fails, gainA := e.gainA, gainB := e.gainB }
    | none => { st := .idle, fails := e.fails, gainA := e.gainA, gainB := e.gainB }
  else if testing.contains i then { st := .test, fails := e.fails }
  else { st := .off, fails := e.fails }

/-- The engines in service and in test at a slot start: those that the slot's banks were prepared with, and while they are fewer than the count,
which an engine healthy again restores at the next slot start, others that R154 now names (R156). -/
def slotEngines (plan : SlotPlan) (s : State) : List Nat × List Nat :=
  let now := engineSets s (startNs s plan.asn).toNat
  if plan.quiet then now
  else
    let need := if pairsMode s then 2 * needed s else needed s
    let stay := plan.engines.1.filter (fun i => !leavesService s i)
    let more := (now.1.filter (fun i => !plan.engines.1.contains i)).take (need - stay.length)
    (plan.engines.1 ++ more, plan.engines.2.filter (fun i => !more.contains i))

/-- ENGINE_ROTATION at a slot start (R154 to R156): a cell whose engine left service late goes unserved and is counted. -/
def rotateEngines (plan : SlotPlan) (s : State) : State :=
  let sets := slotEngines plan s
  let lost := (plan.rx.filter (fun c => leavesService s c.engine)).length
  let s1 := { s with pal := { s.pal with
    engines := s.pal.engines.mapIdx (fun i e => engineAtSlot plan sets.1 sets.2 (leavesService s i) i e) } }
  if lost = 0 then s1 else bump 0x3110 2 1 s1 lost

/-- CAPACITY_LOSS is logged, with the count, when the healthy engines or pairs fall below the number needed (R156). -/
def noteCapacity (old new : State) : State :=
  if needed old ≤ healthyCount old ∧ healthyCount new < needed new then logEvent 0x29 2 (beOct 1 (healthyCount new)) new else new

/-- ENGINE_SELF_TEST_COMPLETE (R155). -/
def execEngineSelfTestComplete (i : Nat) (pass : Bool) (s : State) : Host.Outcome State Fault Refusal :=
  let e := engine s i
  if e.st ≠ .test then done s s
  else if pass then
    let s1 := endRequest 6 i true (odPut 0x3100 4 i (beOct 8 s.eas.asn) (modEngine i (fun e => { e with fails := 0, retest := false }) s))
    done s (if e.retest then logStep fnEngine i 2 0 s1 else s1)
  else if e.fails = 0 ∧ ¬ e.retest then
    done s (noteCapacity s (countStep fnEngine 2 (modEngine i (fun e => { e with fails := 1, retest := true }) s)))
  else
    let s1 := endRequest 6 i false (logEvent 0x28 2 (beOct 1 i) (modEngine i (fun _ => { st := .faulty, fails := 2 }) s) fnEngine i)
    done s (noteCapacity s s1)

/-- The engine that holds the reception of an engine: in M6 the even one of its pair (R154). -/
def holderEngine (s : State) (i : Nat) : Nat := if pairsMode s then i / 2 * 2 else i

/-- ENGINE_INTERNAL_FAULT (R155): the reception ends, of the pair in M6, and the engine leaves service at the next slot start. Until then its state
is that of Table 07-4: SEARCH or IDLE after an abandonment, else as it was. -/
def execEngineInternalFault (i : Nat) (s : State) : Host.Outcome State Fault Refusal :=
  let e := engine s i
  if e.st = .off ∨ e.st = .test ∨ e.st = .faulty then done s s
  else
    let j := holderEngine s i
    let s1 := if (engine s j).receiving then abandon j 6 s else s
    done s (noteCapacity s (countStep fnEngine 2 (modEngine i (fun e => { e with leaving := true, retest := true }) s1)))

/-! ### Detection (R159 to R163) -/

/-- Symbols of a correlation segment and samples per symbol (Table 07-5). -/
def segSamples (phy : Nat) : Nat := if phy ≤ 2 then 32 else if phy ≤ 4 then 16 else 128

/-- Segments of a correlation (Table 07-5). -/
def segCountOf (s : State) (phy : Nat) : Nat :=
  let m := if phy = 5 then 3 else 4
  if pairsMode s then 2 * m else m

/-- The product of a complex number and the conjugate of another. -/
def mulConj (a b : Int × Int) : Int × Int := (a.1 * b.1 + a.2 * b.2, a.2 * b.1 - a.1 * b.2)

/-- The squared magnitude of a complex number. -/
def sqMag (z : Int × Int) : Nat := (z.1 * z.1 + z.2 * z.2).toNat

/-- The sum of complex numbers. -/
def sumC (l : List (Int × Int)) : Int × Int := l.foldl (fun a z => (a.1 + z.1, a.2 + z.2)) (0, 0)

/-- The squared magnitudes of the segment correlations x_m (R159): `m` segments of `n` samples. -/
def segPowers (n : Nat) : Nat → List ((Int × Int) × (Int × Int)) → List Nat
  | 0, _ => []
  | m + 1, l => sqMag (sumC ((l.take n).map (fun x => mulConj x.1 x.2))) :: segPowers n m (l.drop n)

/-- The metric of R159 in Q0.16, saturated: the template's unit is 2^14. -/
def metric (s : State) (phy : Nat) (x : Corr) : Nat :=
  let n := segSamples phy * segCountOf s phy
  let energy := ((x.samples.take n).map sqMag).foldl (· + ·) 0
  if energy = 0 then 0
  else
    min 65535 ((segPowers (segSamples phy) (segCountOf s phy) ((x.samples.zip x.template).take n)).foldl (· + ·) 0 * 65536 /
      (segSamples phy * energy * 2 ^ 28))

/-- Whether an aerial of a band receives in the slot in progress: powered, locked and not blanked (R125, R129). -/
def aerialOn (s : State) (band aerial : Nat) : Bool :=
  pathPowered s (2 * band + aerial) && (synth s (2 * band)).locked && ((s.eas.active.txAerial[band]?).getD none) != some aerial &&
  !(s.eas.active.released.contains (3 * band + aerial)) && !outOfService s fnRfPath (3 * band + aerial)

/-- The metric of an aerial, 0 where it does not receive. -/
def aerialMetric (s : State) (c : RxCell) (aerial : Nat) (x : Corr) : Nat :=
  if aerialOn s c.band aerial then metric s (cellProfile s c).phy x else 0

/-- Samples of a hold of 8 bits (Table 07-5): 8, 4 or 2 symbols of 4 samples each, or of 32 chips of 4 samples. -/
def holdSamples (phy : Nat) : Nat := if phy ≤ 2 then 32 else if phy ≤ 4 then 16 else 256

/-- The mean metric of an aerial over a hold: its samples are those after the detection, as many as the hold has (R161). -/
def meanMetric (s : State) (c : RxCell) (aerial : Nat) (hold : List (Corr × Corr)) : Nat :=
  let n := holdSamples (cellProfile s c).phy
  ((hold.take n).map (fun x => aerialMetric s c aerial (if aerial = 0 then x.1 else x.2))).foldl (· + ·) 0 / n

/-- Whether the samples of a hold are all in. -/
def holdOver (s : State) (c : RxCell) (hold : List (Corr × Corr)) : Bool := decide (holdSamples (cellProfile s c).phy ≤ hold.length)

/-- The aerial that a hold keeps, its mean metric, and whether only one aerial received (R161). -/
def keptAerial (s : State) (c : RxCell) (hold : List (Corr × Corr)) : Nat × Nat × Bool :=
  let ca := meanMetric s c 0 hold
  let cb := meanMetric s c 1 hold
  if ¬ aerialOn s c.band 1 then (0, ca, true)
  else if ¬ aerialOn s c.band 0 then (1, cb, true)
  else if cb ≤ ca then (0, ca, false) else (1, cb, false)

/-- The SFDs of a profile, uncoded and coded (R151); the 16-bit values are the standard's, by phySunFskSfd (PRESUMED, log 31). -/
def sfdValues (p : Profile) : Nat × Nat :=
  if p.sfdLen = 24 then (0x3A5E71, 0xC5A18E)
  else if p.sfdLen = 32 then (0x2D3A9E61, 0xD2C5619E)
  else if p.sfdSel = 0 then (0x904E, 0x6F4E) else (0x7A0E, 0x632D)

/-- Bits in which two SFDs differ. -/
def sfdErrors (len a b : Nat) : Nat := popcount len (a % 2 ^ len ^^^ b)

/-- Which SFD the last bits match: some true the coded one, some false the uncoded one (R163). The two 16-bit SFDs of one SFD_SEL lie 8 or 6 bits
apart, so with SFD_TOL 3 or 4 one pattern can match both: that it then counts as the uncoded one is the model's choice (DESIGN CHOICE, log entry
178). -/
def sfdMatch (p : Profile) (bits : Nat) (oqpskOk : Bool) : Option Bool :=
  if p.phy = 5 then (if oqpskOk then some false else none)
  else if sfdErrors p.sfdLen bits (sfdValues p).1 ≤ p.sfdTol then some false
  else if p.coded ∧ sfdErrors p.sfdLen bits (sfdValues p).2 ≤ p.sfdTol then some true
  else none

/-- One update of a digital gain in half dB toward -12 dBFS mean power, at most 3 dB (R162); powers in half dBFS. -/
def gainStep (g : Nat) (power : Int) : Nat := (clampInt 0 126 (g + clampInt (-6) 6 (-24 - power - (g : Int)))).toNat

/-- The digital gains after the updates that `powers` call for, one for every 4 symbols: mean powers of aerials A and B before the gain, in half
dBFS; the gain that is frozen stays (R162). -/
def trackGain (powers : List (Int × Int)) (e : Engine) : Engine :=
  { e with
    gainA := if e.frozen && e.aerial == 0 then e.gainA else powers.foldl (fun g p => gainStep g p.1) e.gainA
    gainB := if e.frozen && e.aerial == 1 then e.gainB else powers.foldl (fun g p => gainStep g p.2) e.gainB }

/-- The Knife coefficient set of a band in the slot in progress (R173): by transmit aerial and calibration entry. -/
def knifeSet (s : State) (band : Nat) : Option Nat :=
  match (s.eas.active.txAerial[band]?).getD none with
  | some a =>
    if band = 1 then some (16 + a)
    else some (8 * a + ((calTab s 1).findIdx? (fun e => e.state != 0 && e.centre == (synth s 1).centre)).getD 0)
  | none => none

/-- Marks the sets that the slot which ends has used (R173), and the slot whose leakage KNIFE_LEAK reports (R176). -/
def markKnife (s : State) : State :=
  [0, 1].foldl (fun s band =>
    match knifeSet s band with
    | some i => { s with pal := { s.pal with
        knife := modAt (fun k => { k with usedAt := some s.clk.elapsed, temp := dieTempQ s 0 }) s.pal.knife i
        leakAsn := setAt s.pal.leakAsn band (some s.eas.asn) } }
    | none => s) s

/-- Whether a frame whose SFD ends at an offset is received while its band's set trains (R173). -/
def trainingAt (s : State) (band ns : Nat) : Bool :=
  match knifeSet s band with
  | some i =>
    let first := ((s.eas.active.tx.filter (fun c => c.band == band && c.stage != 3)).map (·.tc)).min?
    !knifeTrained s i && (match first with
      | some tc => decide (ns < tc * 1000 + 2000000)
      | none => false)
  | none => false

/-- RECEIVE_WINDOW_OPEN (R157): at its offset, an ARMED engine searches. -/
def execReceiveWindowOpen (i : Nat) (s : State) : Host.Outcome State Fault Refusal :=
  match engineCell s i with
  | some c =>
    if (engine s i).st = .armed then
      done s (modEngine i (fun e => { e with st := .search, window := true, sfdSeen := false })
        (advanceNs ((startNs s s.eas.asn).toNat + c.openUs * 1000) s))
    else done s s
  | none => done s s

/-- Nanoseconds of the 8-bit hold, two symbols for O-QPSK (Table 07-5). -/
def holdNs (phy : Nat) : Nat := if phy = 5 then 32000 else 8000000 / phyRate phy

/-- From a detection to the earliest end of its SFD: 8 + SFD_LEN bits, or 4 symbols on O-QPSK (R163). -/
def leastNs (p : Profile) : Nat := if p.phy = 5 then 64000 else airNs p.phy (8 + p.sfdLen)

/-- PREAMBLE_DETECT (R160): either aerial's metric reaches PD_THRESH, at `seen.offsetNs` into the slot. -/
def execPreambleDetect (i : Nat) (seen : PreambleSeen) (powers : List (Int × Int)) (s : State) : Host.Outcome State Fault Refusal :=
  match engineCell s i with
  | some c =>
    let th := (cellProfile s c).pdThresh
    if (engine s i).st = .search ∧ (th ≤ aerialMetric s c 0 seen.a ∨ th ≤ aerialMetric s c 1 seen.b) then
      done s (modEngine i (fun e => { trackGain powers e with st := .decide, frozen := false, detNs := seen.offsetNs })
        (advanceNs ((startNs s s.eas.asn).toNat + seen.offsetNs) s))
    else done s s
  | none => done s s

/-- AERIAL_HOLD_END (R161), once the samples of the hold are in. -/
def execAerialHoldEnd (i : Nat) (hold : HoldSeen) (powers : List (Int × Int)) (s : State) : Host.Outcome State Fault Refusal :=
  match engineCell s i with
  | some c =>
    if (engine s i).st = .decide ∧ holdOver s c hold.hold then
      let k := keptAerial s c hold.hold
      done s (modEngine i (fun e => { trackGain powers e with st := .hunt, aerial := k.1, cbar := k.2.1, single := k.2.2 })
        (advanceNs ((startNs s s.eas.asn).toNat + (engine s i).detNs + holdNs (cellProfile s c).phy) s))
    else done s s
  | none => done s s

/-- SFD_FOUND (R163): within tolerance, within the window and with every bit decided in HUNT, the gain freezes and the engine enters
HEADER. -/
def execSfdFound (i bits : Nat) (oqpskOk : Bool) (offsetNs : Nat) (powers : List (Int × Int)) (s : State) :
    Host.Outcome State Fault Refusal :=
  match engineCell s i with
  | some c =>
    if (engine s i).st = .hunt ∧ (engine s i).window ∧ (engine s i).detNs + leastNs (cellProfile s c) ≤ offsetNs then
      match sfdMatch (cellProfile s c) bits oqpskOk with
      | some coded =>
        let s1 := advanceNs ((startNs s s.eas.asn).toNat + offsetNs) s
        done s (modEngine i (fun e => { trackGain powers e with
          st := .header, coded := coded, sfdNs := offsetNs, sfdSeen := true, frozen := true, watch := false
          training := trainingAt s c.band offsetNs }) s1)
      | none => done s s
    else done s s
  | none => done s s

/-- Bit positions of the hunt span (R163): those at which c stays at PD_THRESH or above, and 64 more. -/
def huntSpan (s : State) (c : RxCell) (aerial : Nat) (cs : List Corr) : Nat :=
  (cs.takeWhile (fun x => decide ((cellProfile s c).pdThresh ≤ aerialMetric s c aerial x))).length + 64

/-- HUNT_SPAN_END (R163): `hunt.span` gives the kept aerial's correlator at each bit position of the hunt so far; once its span is over, the engine
goes to SEARCH, or to IDLE where the window has closed. -/
def execHuntSpanEnd (hunt : HuntSeen) (s : State) : Host.Outcome State Fault Refusal :=
  match engineCell s hunt.eng with
  | some c =>
    let e := engine s hunt.eng
    let n := huntSpan s c e.aerial hunt.span
    if e.st = .hunt ∧ n ≤ hunt.span.length then
      done s (modEngine hunt.eng (fun e => { trackGain hunt.powers e with st := if e.window then .search else .idle, frozen := false })
        (advanceNs ((startNs s s.eas.asn).toNat + e.detNs + holdNs (cellProfile s c).phy + airNs (cellProfile s c).phy n) s))
    else done s s
  | none => done s s

/-! ### Header, payload, report (R165 to R171) -/

/-- Whether a new hold average beats the current one by a margin in dB (R167): rho is c / (1 - c). -/
def marginMet (new cur margin : Nat) : Bool :=
  decide (dbToLin (256 * margin) * cur * (65536 - new) ≤ dbToLin 0 * new * (65536 - cur))

/-- Whether a second frame takes over from the one an engine receives (R167): the watch, which starts at the current SFD, reaches PD_THRESH,
holds, and finds an SFD within 64 bits of the current one while the window is open, with WATCH_MARGIN met. -/
def watchTakes (s : State) (c : RxCell) (e : Engine) (w : WatchSeen) (offsetNs : Nat) : Bool :=
  let p := cellProfile s c
  decide (p.pdThresh ≤ aerialMetric s c 0 w.a ∨ p.pdThresh ≤ aerialMetric s c 1 w.b) && decide (e.sfdNs ≤ w.detNs) &&
  decide (w.detNs + leastNs p ≤ offsetNs) && holdOver s c w.hold && decide (offsetNs ≤ e.sfdNs + airNs p.phy 64) &&
  marginMet (keptAerial s c w.hold).2.1 e.cbar p.watchMargin

/-- WATCH_TAKEOVER (R167), once per reception: the current one is abandoned with reason WATCH, and the gain freezes again on the new SFD. -/
def execWatchTakeover (i : Nat) (w : WatchSeen) (bits offsetNs : Nat) (powers : List (Int × Int)) (s : State) : Host.Outcome State Fault Refusal :=
  match engineCell s i with
  | some c =>
    let e := engine s i
    let k := keptAerial s c w.hold
    if e.receiving ∧ ¬ e.watch ∧ e.window ∧ watchTakes s c e w offsetNs then
      match sfdMatch (cellProfile s c) bits w.oqpskOk with
      | some coded =>
        done s (bump 0x3110 1 2 (modEngine i (fun e => { trackGain powers e with
          st := .header, aerial := k.1, cbar := k.2.1, single := k.2.2, coded := coded, sfdNs := offsetNs, frozen := true
          watch := true, len := 0, training := trainingAt s c.band offsetNs })
            (advanceNs ((startNs s s.eas.asn).toNat + offsetNs) s)))
      | none => done s s
    else done s s
  | none => done s s

/-! ### Reports (R168 to R171) -/

/-- RSSI in dBm Q8 (R169): the mean power over the SFD, through the frozen digital gain and the slot's FS(G). -/
def rssiOf (s : State) (c : RxCell) (e : Engine) (power : Int) : Int :=
  let g := ((rxPath s (2 * c.band + e.aerial)).gain).getD 0
  clampInt (-32768) 32767 (power - 128 * (if e.aerial = 0 then e.gainA else e.gainB) + fullScale c.band g)

/-- LQ of a ratio in dB Q8 (R169): 4 (snr + 10), rounded, from 0 to 255. -/
def lqOf (snr : Int) : Nat := (clampInt 0 255 ((snr + 2592) / 64)).toNat

/-- Symbols of the SFD and the PSDU, over which the carrier offset is averaged (R170). -/
def offsetSymbols (p : Profile) (coded : Bool) (len : Nat) : Nat :=
  if p.phy = 5 then 2 + 2 * len
  else (p.sfdLen + payloadBits p coded len - (if coded then 32 else 16)) / (if p.phy ≤ 2 then 1 else 2)

/-- FOFF in units of 4 Hz (R170): -32,768 where the average spans fewer than 16 symbols. -/
def foffOf (p : Profile) (coded : Bool) (len : Nat) (hz : Int) : Int :=
  if offsetSymbols p coded len < 16 then -32768 else clampInt (-32767) 32767 ((hz + 2) / 4)

/-- The frame as its reception gave it, of the length that the PHR gave, with the report's measured fields computed. -/
def measured (s : State) (c : RxCell) (e : Engine) (m : RxMeas) (f : RxFrame) : RxFrame :=
  { f with rssi := rssiOf s c e m.power, lq := lqOf m.snr, foff := foffOf (cellProfile s c) e.coded e.len m.offset, psdu := padTo e.len f.psdu }

/-- CHANNEL of a report (Table 07-7): a sub-GHz half-bin index, or the 2.4 GHz channel. -/
def reportChannel (s : State) (c : RxCell) : Nat :=
  if c.band = 1 then 32768 + 11 + (c.freq - 2405000000) / 5000000 else (c.freq + 25600000 - (synth s 0).centre) / 100000

/-- The receive report of Table 07-7, most significant octet first; `crc` says that the CRC passed, `soft` that the reception's soft values are
kept. -/
def reportOct (s : State) (i : Nat) (c : RxCell) (f : RxFrame) (len : Nat) (crc soft : Bool) : Octets :=
  let e := engine s i
  let flags := e.aerial + 2 * b2n crc + 4 * b2n e.watch + 8 * b2n e.training + 16 * b2n e.single + 32 * b2n soft + 64 * b2n e.coded
  beOct 5 s.eas.asn ++ beOct 4 e.sfdNs ++ beOct 1 i ++ beOct 2 (reportChannel s c) ++ beOct 1 (cellProfile s c).phy ++ beOct 1 flags ++
  beInt 2 f.rssi ++ beInt 2 f.foff ++ beOct 1 f.lq ++ beOct 1 ((255 * e.cbar + 32768) / 65536) ++ beOct 2 len ++ zeros 2

/-- An abandonment for LENGTH (reason 0) or FADE (reason 1): where R171 has its soft values kept, they go to Glaze with the reception's report, which
flags SOFT_KEPT and has the PHR's length; FOFF spans the SFD and what followed it. -/
def abandonSoft (i reason : Nat) (c : RxCell) (len : Nat) (soft : SoftSeen) (s : State) : State :=
  let e := engine s i
  let p := cellProfile s c
  let symbols := (p.sfdLen + soft.soft.length) / (if p.phy ≤ 2 then 1 else 2)
  let f : RxFrame := { rssi := rssiOf s c e soft.meas.power, lq := lqOf soft.meas.snr
                       foff := if symbols < 16 then -32768 else clampInt (-32767) 32767 ((soft.meas.offset + 2) / 4) }
  let s1 := abandon i reason s
  if keepsSoft s c e.coded then keepSoft c e (reason + 1) f.rssi soft.soft (reportOct s i c f len false true) s1 else s1

/-- PHR_DECODED (R165): MODE_SWITCH, LENGTH, or PAYLOAD; a PHR whose MS bit is set gives no length (DEDUCED, log entry 159). -/
def execPhrDecoded (i len : Nat) (modeSwitch fcs2 : Bool) (soft : SoftSeen) (s : State) : Host.Outcome State Fault Refusal :=
  match engineCell s i with
  | some c =>
    let e := engine s i
    if e.st ≠ .header then done s s
    else if modeSwitch then done s (abandon i 5 s)
    else if (if e.coded then c.maxCoded else c.maxPlain) < len ∨ len < (if fcs2 then 2 else 4) then
      done s (abandonSoft i 0 c len soft s)
    else done s (modEngine i (fun e => { e with st := .payload, len := len, fcs2 := fcs2 }) s)
  | none => done s s

/-- FADE_ABANDON (R166): the last 32 symbols lie below floor plus FADE_MARGIN; `powers` are the symbols' mean powers, dBm Q8. -/
def execFadeAbandon (i : Nat) (powers : List Int) (soft : SoftSeen) (s : State) : Host.Outcome State Fault Refusal :=
  match engineCell s i with
  | some c =>
    let e := engine s i
    let lim := channelFloor s c e.aerial + 256 * (cellProfile s c).fadeMargin
    if e.st = .payload ∧ 32 ≤ powers.length ∧ (powers.drop (powers.length - 32)).all (fun p => decide (p < lim)) then
      done s (abandonSoft i 1 c e.len soft s)
    else done s s
  | none => done s s

/-- A frame whose CRC passed, for a lane. -/
def macFrame (s : State) (i : Nat) (c : RxCell) (f : RxFrame) : MacFrame :=
  let e := engine s i
  { frame := f, cell := c, asn := s.eas.asn, offsetNs := e.sfdNs, fcs2 := e.fcs2, report := reportOct s i c f e.len true false }

/-- Where a reception that reached REPORT goes (R168, R171, R274): its report and PSDU to Canvas; a frame whose CRC passed also to the owner of
a listen cell, or but for M4 to a lane; one that failed keeps its soft values where R171 has them. -/
def handOn (i : Nat) (c : RxCell) (f : RxFrame) (s : State) : State :=
  let e := engine s i
  let crc := fcsPasses e.fcs2 f.psdu
  let soft := !crc && keepsSoft s c e.coded
  let report := reportOct s i c f e.len crc soft
  let s1 := emit (.report report f.psdu) s
  if ¬ crc then (if soft then keepSoft c e 0 f.rssi f.soft report (noteSfd c e.sfdNs (some f.seq) s1) (some f.seq) else s1)
  else if c.partner then forwardFrame c e f s1
  else if s.ctl.mode = .m4 then s1
  else { s1 with nod := { s1.nod with mac := s1.nod.mac ++ [macFrame s1 i c f] } }

/-- FRAME_END (R168): the engine hands on the frame and its report, and goes to IDLE, or after a failed CRC on searching while the window is
open. -/
def execFrameEnd (i : Nat) (r : Reception) (s : State) : Host.Outcome State Fault Refusal :=
  match engineCell s i with
  | some c =>
    let e := engine s i
    if e.st ≠ .payload then done s s
    else
      let ns := (startNs s s.eas.asn).toNat + e.sfdNs + airNs (cellProfile s c).phy (payloadBits (cellProfile s c) e.coded e.len)
      let f := measured s c e r.meas r.frame
      let crc := fcsPasses e.fcs2 f.psdu
      let s1 := noteReception i (bump 0x3110 3 (if crc then 0 else 1) (advanceNs ns s))
      done s (modEngine i (fun e => { e with
        st := if crc then .idle else if e.window then .search else .idle, frozen := false, watch := false })
        (handOn i c f s1))
  | none => done s s

/-! ### Measurement blocks and floors (R136, R166, R180) -/

/-- Whether a block that ends now is measured on a path: powered, not blanked or released, its band carries nothing in the slot, and it
does not overlap the settle interval (R136). -/
def blockMeasured (s : State) (p : Nat) : Bool :=
  let off := (nowNs s : Int) - startNs s s.eas.asn
  pathPowered s p &&
  (!s.eas.running || (((s.eas.active.txAerial[p / 2]?).getD none).isNone && !(decide (0 < off) && decide (off < 1200000))))

/-- Whether a bin of a path's band holds a reception, or held one within the 1 ms block that ends now (R166). -/
def binBusy (s : State) (p k : Nat) : Bool :=
  s.pal.recent.any (fun x => x.1 == p / 2 && decide (x.2.1 ≤ k) && decide (k < x.2.1 + x.2.2.1) && decide (s.clk.elapsed < x.2.2.2 + msCycles)) ||
  (List.range 100).any (fun i => (engine s i).receiving && match engineCell s i with
    | some c =>
      let b := channelBins s c.band c.freq (cellProfile s c).phy
      c.band == p / 2 && decide (b.1 ≤ k) && decide (k < b.1 + b.2)
    | none => false)

/-- One bin's power enters its floor, and in M4 its survey. -/
def takeBin (p : Nat) (x : Nat × Int) (s : State) : State :=
  if (if p < 2 then 256 else 16) ≤ x.1 then s
  else
    let row := floorRow p x.1
    let s1 := if binBusy s p x.1 then s
      else { s with pal := { s.pal with floors := sinsert row ((x.2 :: floorBlocks s row).take 16) s.pal.floors } }
    if s.ctl.mode = .m4 ∧ p < 2 then
      { s1 with pal := { s1.pal with
        survey := sinsert row ((x.2 :: sget (fun _ => []) s1.pal.survey row).take (odNat s 0x3300 5)) s1.pal.survey } }
    else s1

/-! ### Knife (R172) -/

/-- Knife's estimate of the leakage at one sample, and the sample after the subtraction and the updated coefficients (R172); coefficients are
in units of 2^-24, and every quotient is rounded down (log entry 160). -/
def knifeStep (x : KnifeBin) (v : KnifeSample) : KnifeBin × (Int × Int) :=
  let f := v.f :: x.hist.take 3
  let est := sumC ((x.taps.zip f).map (fun z => (z.1.1 * z.2.1 - z.1.2 * z.2.2, z.1.1 * z.2.2 + z.1.2 * z.2.1)))
  let e := (v.y.1 - est.1 / 2 ^ 24, v.y.2 - est.2 / 2 ^ 24)
  let den : Int := ((f.map sqMag).foldl (· + ·) 0 + Config.knifeEps : Nat)
  ({ taps := (x.taps.zip f).map (fun z =>
       (z.1.1 + Config.knifeMu * (mulConj e z.2).1 / den, z.1.2 + Config.knifeMu * (mulConj e z.2).2 / den))
     hist := f.take 3 }, e)

/-- Knife over a block of samples, oldest first: the coefficients after it, and the samples after the subtraction. -/
def knifeRun : KnifeBin → List KnifeSample → KnifeBin × List (Int × Int)
  | x, [] => (x, [])
  | x, v :: vs =>
    let r := knifeStep x v
    let t := knifeRun r.1 vs
    (t.1, r.2 :: t.2)

/-- Whether a bin of a path's band is assigned in the slot in progress: it belongs to the channel of a cell that an engine serves. -/
def binAssigned (s : State) (p k : Nat) : Bool :=
  s.eas.active.rx.any (fun c =>
    let b := channelBins s c.band c.freq (cellProfile s c).phy
    c.band == p / 2 && decide (b.1 ≤ k) && decide (k < b.1 + b.2))

/-- Knife works on a bin of the receiving aerial in a slot in which the band transmits (R172). -/
def knifeBin (p set : Nat) (x : Nat × List KnifeSample) (s : State) : State :=
  if ¬ binAssigned s p x.1 then s
  else
    let r := knifeRun (sget (fun _ => {}) (((s.pal.knife[set]?).map (·.bins)).getD []) x.1) x.2
    { s with pal := { s.pal with
      knife := modAt (fun k => { k with bins := sinsert x.1 r.1 k.bins }) s.pal.knife set
      residual := sinsert (floorRow p x.1) r.2 s.pal.residual } }

/-- What a block brings in a slot in which the path's band transmits: Knife's work on the receiving aerial. -/
def knifeBlock (p : Nat) (xs : List (Nat × List KnifeSample)) (s : State) : State :=
  match knifeSet s (p / 2) with
  | some i => if aerialOn s (p / 2) (p % 2) then xs.foldl (fun s x => knifeBin p i x s) s else s
  | none => s

/-- MEASUREMENT_BLOCK_END (R136, R166, R172): the peak of a measured 1 ms block, FS + 6 dB where it clipped, and its bins' powers; `block.knife` gives
the samples of bins and their feedback where the band transmits. -/
def execMeasurementBlockEnd (p : Nat) (peak : Int) (clipped : Bool) (block : BlockSeen)
    (s : State) : Host.Outcome State Fault Refusal :=
  if 4 ≤ p then done s s
  else if ¬ blockMeasured s p then done s (knifeBlock p block.knife s)
  else
    let fs := fullScale (p / 2) (((rxPath s p).gain).getD (odNat s (bandIdx (p / 2) 0x3020) 6))
    let v := if clipped then fs + 6 * 256 else peak
    let s1 := { s with rf := { s.rf with paths := modAt (fun x => { x with peaks := (v :: x.peaks).take 64 }) s.rf.paths p } }
    let s2 := if clipped then bump (bandIdx (p / 2) 0x3050) 4 (p % 2) s1 else s1
    done s (block.powers.foldl (fun s x => takeBin p x s) s2)

end Sys2Proof.Machine
end

