-- ==== Sys2Proof/Machine/Primer.lean ====
section
/-!
DEFINITION. Primer (spec/08): admission of carriers, power per carrier, dwell accounts, what an emission or a drop does, the
synthesisers' loss of lock and relocks (spec/06), and pre-distortion.
-/

namespace Sys2Proof.Machine

/-! ### Dwell accounts (R194 to R197) -/

/-- The elapsed-time counter when the clock reads `ns`, to within the rate correction. -/
def elapsedAt (s : State) (ns : Nat) : Nat := s.clk.elapsed + (ns - nowNs s) * 2 / 5

/-- Whether a carrier matches a rule, edges included (R194). -/
def ruleCovers (s : State) (rule : Nat) (c : Carrier) : Bool :=
  dwellField s rule 0 1 != 0 && dwellField s rule 1 1 == c.band &&
  decide (2 * dwellField s rule 4 4 ≤ 2 * c.freq + c.width) && decide (2 * c.freq ≤ 2 * dwellField s rule 8 4 + c.width)

/-- Rules that a carrier matches. -/
def rulesOf (s : State) (c : Carrier) : List Nat := (List.range 16).filter (fun r => ruleCovers s r c)

/-- The centre that names a carrier's account under a rule: its own under CHANNEL, 0 under GROUP. -/
def accCentre (s : State) (rule : Nat) (c : Carrier) : Nat := if dwellField s rule 0 1 = 1 then c.freq else 0

/-- The account of a rule and centre. -/
def accOf (s : State) (rule centre : Nat) : Option DwellAcc :=
  s.pri.dwell.find? (fun a => a.rule == rule && a.centre == centre)

/-- An account takes a charge in a bucket. -/
def accCharge (b us : Nat) (a : DwellAcc) : DwellAcc :=
  if a.charges.any (fun x => x.1 == b) then { a with charges := a.charges.map (fun x => if x.1 = b then (b, x.2 + us) else x) }
  else { a with charges := a.charges ++ [(b, us)] }

/-- Sets an account. -/
def setAcc (a : DwellAcc) (s : State) : State :=
  { s with pri := { s.pri with dwell := s.pri.dwell.filter (fun x => !(x.rule == a.rule && x.centre == a.centre)) ++ [a] } }

/-- CHANNEL accounts of a band. -/
def channelAccs (s : State) (band : Nat) : Nat := (s.pri.dwell.filter (fun a => a.band == band && a.centre != 0)).length

/-- An account is created at its first use after a cold boot or a rule write, with BOOT_PRELOAD charged to the bucket in progress
(R197). -/
def touchAcc (rule centre band : Nat) (s : State) : State :=
  match s.pri.preload.find? (fun p => p.1 == rule) with
  | some p =>
    if p.2.contains centre ∨ (accOf s rule centre).isSome ∨ (centre ≠ 0 ∧ 1024 ≤ channelAccs s band) then s
    else
      let us := (dwellField s rule 16 4 - dwellField s rule 20 4) * dwellField s rule 24 1 / 100
      let s1 := { s with pri := { s.pri with
        preload := s.pri.preload.map (fun q => if q.1 = rule then (rule, q.2 ++ [centre]) else q) } }
      if us = 0 then s1
      else setAcc { rule := rule, band := band, centre := centre, charges := [(bucketAt s rule s.clk.elapsed, us)] } s1
  | none => s

/-- The dwell charge of a carrier, us (R195). -/
def chargeOf (c : Carrier) : Nat := c.te - c.tc

/-- Whether two carriers share the account of a rule. -/
def sameAcc (s : State) (rule : Nat) (c d : Carrier) : Bool := ruleCovers s rule d && accCentre s rule c == accCentre s rule d

/-- CHANNEL accounts that carriers need and that do not exist yet: rule and centre. -/
def newAccs (s : State) (cs : List Carrier) : List (Nat × Nat) :=
  cs.flatMap (fun c => ((rulesOf s c).filter (fun r => accCentre s r c != 0 && (accOf s r (accCentre s r c)).isNone)).map (fun r => (r, accCentre s r c)))

/-- The dwell test of a candidate of slot `a` against the carriers admitted before it (R195, R196). -/
def dwellOk (s : State) (a : Nat) (c : Carrier) (admitted : List Carrier) : Bool :=
  (rulesOf s c).all (fun r =>
    let b := bucketAt s r (elapsedAt s ((startNs s a).toNat + c.te * 1000))
    let held := match accOf s r (accCentre s r c) with
      | some x => accUsed x b
      | none => 0
    let slot := ((admitted.filter (sameAcc s r c)).map chargeOf).foldl (· + ·) 0
    let res := if c.kind = .beacon ∨ c.kind = .tick then 0 else dwellField s r 20 4
    decide (held + slot + chargeOf c + res ≤ dwellField s r 16 4)) &&
  (newAccs s [c] == [] ||
    decide (channelAccs s c.band + (newAccs s (admitted.filter (fun d => d.band == c.band) ++ [c])).dedup.length ≤ 1024))

/-- Creates the preloaded accounts that a candidate meets. -/
def touchAccs (c : Carrier) (s : State) : State := (rulesOf s c).foldl (fun s r => touchAcc r (accCentre s r c) c.band s) s

/-- A carrier of slot `a` is charged to its account under a rule. -/
def chargeUnder (a : Nat) (c : Carrier) (s : State) (rule : Nat) : State :=
  let b := bucketAt s rule (elapsedAt s ((startNs s a).toNat + c.te * 1000))
  let acc := (accOf s rule (accCentre s rule c)).getD { rule := rule, band := c.band, centre := accCentre s rule c }
  setAcc (accCharge b (chargeOf c) acc) s

/-- The charges of a slot's carriers are written (R196). -/
def chargeSlot (a : Nat) (cs : List Carrier) (s : State) : State := cs.foldl (fun s c => (rulesOf s c).foldl (chargeUnder a c) s) s

/-- The charges of slot `a`'s carriers under a rule that was rewritten with effect at its start, on the rule's new accounts (R196, R197). -/
def chargeRule (a : Nat) (cs : List Carrier) (s : State) (rule : Nat) : State :=
  (cs.filter (ruleCovers s rule)).foldl (fun s c => chargeUnder a c (touchAcc rule (accCentre s rule c) c.band s) rule) s

/-- Charges that have left their accounts, and accounts that hold nothing, go (R195, R196). -/
def pruneAccs (s : State) : State :=
  { s with pri := { s.pri with
    dwell := (s.pri.dwell.map (fun a => { a with
      charges := a.charges.filter (fun x => decide (bucketAt s a.rule s.clk.elapsed ≤ x.1 + 64)) })).filter (fun a => a.charges != []) } }

/-- DWELL_BUCKET_ADVANCE (R195): time passes to the next bucket of an account, and what is 65 buckets old leaves. -/
def execDwellBucketAdvance (s : State) : Host.Outcome State Fault Refusal :=
  match (s.pri.dwell.map (fun a => (bucketAt s a.rule s.clk.elapsed + 1) * bucketCycles s a.rule)).min? with
  | some t => done s (pruneAccs (advanceElapsed t s))
  | none => done s s

/-- The accounts are discarded and start anew with their preload: at a cold boot, or of one rule when it is rewritten (R197). A GROUP
account is created at once. -/
def resetRule (rule : Nat) (s : State) : State :=
  let s1 := { s with pri := { s.pri with
    dwell := s.pri.dwell.filter (fun a => a.rule != rule)
    preload := s.pri.preload.filter (fun p => p.1 != rule) ++ [(rule, [])] } }
  if dwellField s rule 0 1 = 2 then touchAcc rule 0 (dwellField s rule 1 1) s1 else s1

/-- Charge of an account in a bucket. -/
def DwellAcc.at_ (a : DwellAcc) (b : Nat) : Nat := ((a.charges.find? (fun x => x.1 == b)).map (·.2)).getD 0

/-- The 65 buckets of an account up to bucket `b`, oldest first. -/
def DwellAcc.buckets (a : DwellAcc) (b : Nat) : List Nat := (List.range 65).map (fun i => if 64 ≤ b + i then a.at_ (b + i - 64) else 0)

/-- The mirror record of an account whose bucket in progress is `b` (R197): 272 octets. -/
def DwellAcc.encode (a : DwellAcc) (b : Nat) : Octets :=
  beOct 1 a.rule ++ beOct 1 a.band ++ zeros 2 ++ beOct 4 a.centre ++ zeros 4 ++ (a.buckets b).flatMap (beOct 4)

/-- The account that a mirror record holds, its bucket in progress being `b`. -/
def DwellAcc.decode (o : Octets) (b : Nat) : DwellAcc :=
  { rule := fieldNat o 0 1, band := fieldNat o 1 1, centre := fieldNat o 4 4
    charges := (List.range 65).filterMap (fun i =>
      let v := fieldNat o (12 + 4 * i) 4
      if v = 0 ∨ b + i < 64 then none else some (b + i - 64, v)) }

/-- The mirror at the end of each slot (R197). -/
def mirrorDwell (s : State) : State :=
  { s with pri := { s.pri with
    mirror := s.pri.dwell.map (fun a => a.encode (bucketAt s a.rule s.clk.elapsed)), mirrorAt := s.clk.elapsed, mirrorBad := [] } }

/-- The accounts that the mirror holds, which a warm reset restores (R197). -/
def restoredDwell (s : State) : List DwellAcc :=
  ((s.pri.mirror.zipIdx.filter (fun o => !s.pri.mirrorBad.contains o.2)).map (·.1)).map (fun o => DwellAcc.decode o (bucketAt s (fieldNat o 0 1) s.pri.mirrorAt))

/-! ### Admission (R182 to R184) -/

/-- Whether a carrier lies in its band's transmit window (R182). -/
def inWindow (s : State) (c : Carrier) : Bool :=
  if c.band = 0 then
    let w := objCentre s 1
    w != 0 && decide (2 * c.freq + c.width ≤ 2 * w + 48000000) && decide (2 * w ≤ 2 * c.freq + 48000000 - c.width)
  else s.chip.fPackage && decide (2405000000 ≤ c.freq) && decide (c.freq ≤ 2480000000)

/-- Whether two carriers of one band lie less than 200 kHz apart, edge to edge (R183). -/
def tooClose (c d : Carrier) : Bool :=
  c.band == d.band && decide (2 * ((c.freq : Int) - d.freq).natAbs < c.width + d.width + 400000)

/-- Whether the working mode's limits leave no room for a carrier of its band (R183). -/
def countFull (s : State) (c : Carrier) (admitted : List Carrier) : Bool :=
  let lim := carrierLimits (serveMode s)
  let n := (admitted.filter (fun d => d.band == c.band)).length
  decide (lim.1 ≤ admitted.length) || decide ((if c.band = 0 then lim.2.1 else lim.2.2) ≤ n)

/-- Slot length of slot `a` in ns. -/
def slotLen (s : State) (a : Nat) : Nat := slotNs (epochFor s a).code

/-- The OUT_OF_SLOT test of R184 on an end of burst, us. -/
def inSlot (s : State) (a band te : Nat) : Bool :=
  decide (te + odNat s (bandIdx band 0x3010) 3 + 100 ≤ slotLen s a / 1000)

/-- The highest usable row at or below a row (R185). -/
def usableRow (s : State) (band row : Nat) : Option Nat :=
  ((List.range (row + 1)).filter (fun r => decide (r ≤ 63) && rowUsable s band r)).max?

/-- Why a candidate is dropped at its admission, as its place in a band's rows of TX_DROPPED; none where it is admitted. -/
def dropReason (s : State) (a : Nat) (c : Carrier) (admitted : List Carrier) : Option Nat :=
  if ¬ inWindow s c then some 0
  else if admitted.any (tooClose c) then some 1
  else if countFull s c admitted then some 2
  else if ¬ inSlot s a c.band c.te then some 3
  else if ¬ dwellOk s a c admitted then some 4
  else if (usableRow s c.band c.powerRow).isNone then some 5
  else none

/-! ### What a drop or an emission does (R131, R201, R250, R260) -/

/-- A wake-up entry waits again (R201). -/
def returnWake (e : Nat × Nat) (s : State) : State :=
  { s with pri := { s.pri with wake := s.pri.wake.map (fun w => if w.type = e.1 ∧ w.addr = e.2 then { w with sent := none } else w) } }

/-- A wake-up entry leaves the queue. -/
def endWake (e : Nat × Nat) (s : State) : State :=
  { s with pri := { s.pri with wake := s.pri.wake.filter (fun w => !(w.type == e.1 && w.addr == e.2)) } }

/-- A dropped or cut carrier, by its kind (R131, R132): a telegram or follow-up leaves its entry at the head of its type; a downlink frame
never left its queue; an acknowledgement and a beacon are not repeated; a JOIN directive waits for its next offer. -/
def dropCarrier (c : Carrier) (s : State) : State :=
  match c.entry with
  | some e => returnWake e s
  | none => s

/-- Counts a drop of R184. -/
def countDrop (c : Carrier) (reason : Nat) (s : State) : State := bump 0x3400 4 (7 * c.band + reason) s

/-- The follow-up of a telegram has been emitted (R201, R252, R253). -/
def followed (c : Carrier) (e : Nat × Nat) (s : State) : State :=
  let w := s.pri.wake.find? (fun w => w.type == e.1 && w.addr == e.2)
  let s1 := endWake e s
  match c.node, w.bind (·.sent) with
  | some n, some st =>
    if e.1 = 0 then modNode n (fun r => { r with followup := some st, resyncs := (r.resyncs + 1) % 65536 }) s1 else s1
  | _, _ =>
    if e.1 = 2 then
      let s2 := { s1 with rid := { s1.rid with group := s1.rid.group.drop 1 } }
      if s2.rid.group = [] then s2 else queueWake { type := 2, addr := e.2, pan := c.pan } s2
    else s1

/-- A directive has been emitted: its CODE 1 is no longer owed, nor a REJOIN (R242, R246, R268). -/
def directed (c : Carrier) (s : State) : State :=
  match c.node with
  | some n =>
    if c.code = 1 then { s with nod := { s.nod with joins := s.nod.joins.filter (fun j => j.node != n) } }
    else if c.code = 2 then modNode n (fun r => { r with rejoin := none }) s
    else s
  | none => s

/-- A beacon has been emitted: its SEQ is spent with the first of its PAN in the slot, and it may have announced a change (R44, R222). -/
def beaconed (c : Carrier) (s : State) : State :=
  let first := (s.eas.active.tx.filter (fun d => (d.kind == .beacon || d.kind == .tick) && d.pan == c.pan && d.stage == 2)).length ≤ 1
  let s1 := if first then
      { s with eas := { s.eas with beaconSeq := modAt (fun q => (q + 1) % 256) s.eas.beaconSeq c.pan } } else s
  match s1.ctl.change with
  | some m =>
    if m.first ≤ s.eas.asn ∧ s.eas.asn < m.eff ∧ (m.kind = .endOfService ∨ (m.kind = .announced ∧ offsetOf s s.eas.asn = 0)) then
      { s1 with ctl := { s1.ctl with change := some { m with announced := true } } }
    else s1
  | none => s1

/-- The PSDU that a lane makes of a frame (R222, R239): its headers, its body, which is encrypted but for a beacon's, a MIC of 4 octets and
the FCS. The nonce is the collector's source address, the frame counter and the security level (R373); what the cipher gives
is `Config.crypto`'s (log entry 6). -/
def psduOnAir (s : State) (c : Carrier) : Octets :=
  let open_ := c.kind == .beacon || c.kind == .tick
  let nonce := [0xFE#8, 0x96#8] ++ zeros 4 ++ beOct 2 (panField s c.pan 2 2) ++ beOct 4 c.counter ++ beOct 1 (if open_ then 1 else 5)
  let body := if open_ then c.frame.drop c.head
    else padTo (c.frame.length - c.head) (Config.crypto "CCM* encrypt" 5 [c.key, c.frame.take c.head, c.frame.drop c.head, nonce])
  let m := c.frame.take c.head ++ body ++ padTo 4 (Config.crypto "CCM* MIC-32" (if open_ then 1 else 5) [c.key, c.frame.take c.head, c.frame.drop c.head, nonce])
  m ++ fcs32 m

/-- The chips of a telegram, on true (R198): each bit, most significant first, is two chips, a 1 on-off and a 0 off-on. -/
def manchester (o : Octets) : List Bool := o.flatMap (fun b => (List.range 8).flatMap (fun i => [b.getLsbD (7 - i), !b.getLsbD (7 - i)]))

/-- The stamp of a carrier: its SFD's last bit at the ball (R118, Table 08-1), or the end of WSYNC (R200). -/
def airStamp (c : Carrier) (s : State) : Nat := (startNs s s.eas.asn).toNat + c.tc * 1000 + c.sfdNs

/-- What a carrier put on the air. -/
def airOutput (c : Carrier) (s : State) : Output :=
  if c.kind = .wake then .telegram c.freq s.eas.asn c.frame (manchester c.frame) (airStamp c s)
  else .air c.kind c.pan c.freq s.eas.asn c.frame c.sfd (airStamp c s) (psduOnAir s c)

/-- What the end of an emission does, by kind. -/
def emitted (c : Carrier) (s : State) : State :=
  let s1 := emit (airOutput c s) s
  let s2 := c.presume.foldl (fun s n => touchNode n (modNode n (fun r => { r with presumed := s.eas.asn }) s)) s1
  let s3 := match c.kind, c.node with
    | .ack, some n | .downlink, some n | .directive, some n => modNode n (fun r => { r with pendingSent := c.pend }) s2
    | _, _ => s2
  match c.kind with
  | .beacon | .tick => beaconed c s3
  | .wake => bump 0x3430 5 0 s3
  | .downlink =>
    match c.node with
    | some n =>
      let seq := (nodeRec s3 n).dlSeq
      match dlQueue s3 n with
      | f :: l =>
        let s4 := if f.sent = 0 then touchNode n (modNode n (fun r => { r with dlSeq := (seq + 1) % 256 }) s3) else s3
        setDlQueue n ({ f with sent := f.sent + 1, wait := true, dlSeq := if f.sent = 0 then seq else f.dlSeq } :: l) s4
      | [] => s3
    | none => s3
  | .directive | .group =>
    let s4 := directed c s3
    match c.entry with
    | some e => followed c e s4
    | none => s4
  | _ => s3

/-! ### Carriers on the air (R130, R131, R134, R187) -/

/-- The transmit synthesiser of a band. -/
def txSynth (band : Nat) : Nat := 2 * band + 1

/-- Modifies a carrier of the slot in progress. -/
def modCarrier (idx : Nat) (f : Carrier → Carrier) (s : State) : State :=
  { s with eas := { s.eas with active := { s.eas.active with tx := modAt f s.eas.active.tx idx } } }

/-- CARRIER_RAMP_START (R187): at t_c the carrier rises, or it is dropped whole where the synthesiser is not locked (R131). -/
def execCarrierRampStart (idx : Nat) (s : State) : Host.Outcome State Fault Refusal :=
  match s.eas.active.tx[idx]? with
  | some c =>
    if c.stage ≠ 0 then done s s
    else
      let s1 := advanceNs ((startNs s s.eas.asn).toNat + c.tc * 1000) s
      if (synth s (txSynth c.band)).locked then
        done s (modCarrier idx (fun c => { c with stage := 1 }) s1)
      else
        let s2 := bump (bandIdx c.band 0x3050) 1 0 (dropCarrier c (modCarrier idx (fun c => { c with stage := 3 }) s1))
        done s { s2 with rf := { s2.rf with lateDrops := modAt (· + 1) s2.rf.lateDrops c.band } }
  | none => done s s

/-- Whether an instant, in us from the slot start, lies within a burst of a band as PA_LEAD, PA_LAG and PA_HOLD extend it (R134, R135):
between two bursts of which the second starts within PA_HOLD of the first's end, PA_EN does not fall. Only the bursts of the slot in progress are
looked at: that one of the next slot within PA_HOLD of t_e does not hold PA_EN over the slot boundary is the model's choice (DESIGN CHOICE, log
entry 177). -/
def inBurst (s : State) (band t : Nat) : Bool :=
  let fe (sub : Nat) : Nat := odNat s (bandIdx band 0x3010) sub
  let cs := s.eas.active.tx.filter (fun c => c.band == band && c.stage != 3)
  cs.any (fun c => decide (c.tc ≤ t + fe 2) && decide (t < c.te + fe 3)) ||
    cs.any (fun c => decide (c.te ≤ t) && cs.any (fun d => decide (t < d.tc) && decide (d.tc ≤ c.te + fe 4)))

/-- PA_EN of a band now (R130, R134, R135): TRSW, set 2 us after the slot start, has been in the transmit position for 5 us, the
synthesiser is locked, and the time lies within an extended burst. -/
def paEn (s : State) (band : Nat) : Bool :=
  let t := (((nowNs s : Int) - startNs s s.eas.asn) / 1000).toNat
  ((s.rf.fe[band]?).getD {}).trsw && decide (7 ≤ t) && (synth s (txSynth band)).locked && inBurst s band t

/-- The levels of a band's control balls, high true, under the polarities of FE_CFG (Table 06-6): PA_EN, LNA_EN_A, LNA_EN_B, TRSW, ASEL;
none while they are high-impedance (R135). -/
def balls (s : State) (band : Nat) : Option (List Bool) :=
  let f := (s.rf.fe[band]?).getD {}
  let cfg := odNat s (bandIdx band 0x3010) 1
  if f.highZ then none
  else some [paEn s band != bit cfg 0, f.lnaA != bit cfg 1, f.lnaB != bit cfg 1, f.trsw != bit cfg 2, f.aselB != bit cfg 3]

/-- BURST_END (R134, R187): at t_e the carrier is down, and the emission has its effect. -/
def execBurstEnd (idx : Nat) (s : State) : Host.Outcome State Fault Refusal :=
  match s.eas.active.tx[idx]? with
  | some c =>
    if c.stage ≠ 1 then done s s
    else
      let s1 := modCarrier idx (fun c => { c with stage := 2 }) (advanceNs ((startNs s s.eas.asn).toNat + c.te * 1000) s)
      done s (emitted c s1)
  | none => done s s

/-- At the end of a slot its drops for a late synthesiser are logged, once per band (R131). -/
def logLate (s : State) : State :=
  let s1 := [0, 1].foldl (fun s b =>
    match s.rf.lateDrops[b]? with
    | some n => if n = 0 then s else logEvent 0x22 1 [BitVec.ofNat 8 b, BitVec.ofNat 8 n] s
    | none => s) s
  { s1 with rf := { s1.rf with lateDrops := [0, 0] } }

/-! ### Loss of lock (R130, R132) -/

/-- Every carrier of a band on the air is cut, counted, and handled as a drop. -/
def cutCarriers (band : Nat) (s : State) : State :=
  let hit := s.eas.active.tx.filter (fun c => c.band == band && c.stage == 1)
  let s1 := { s with eas := { s.eas with active := { s.eas.active with
    tx := s.eas.active.tx.map (fun c => if c.band = band ∧ c.stage = 1 then { c with stage := 3 } else c) } } }
  let s2 := hit.foldl (fun s c => dropCarrier c s) s1
  if hit = [] then s2 else bump (bandIdx band 0x3050) 2 0 s2 hit.length

/-- SYNTH_LOCK_LOSS (R130, R132): transmissions or receptions of the band are cut, and the first relock begins. -/
def execSynthLockLoss (y : Nat) (s : State) : Host.Outcome State Fault Refusal :=
  if 4 ≤ y ∨ ¬ (synth s y).locked then done s s
  else
    let s1 := logEvent 0x20 2 (beOct 1 y) (modSynth y (fun z => { z with locked := false, attempts := 1 }) s)
    done s (if y % 2 = 1 then cutCarriers (y / 2) s1 else cutReceptions (y / 2) s1)

/-- SYNTH_RELOCK_ATTEMPT_END (R132): two relocks of 80 us, then a full calibration of 1.2 ms; the third failure is a fault of each path. -/
def execSynthRelockAttemptEnd (y : Nat) (locked : Bool) (s : State) : Host.Outcome State Fault Refusal :=
  let z := synth s y
  if 4 ≤ y ∨ z.locked ∨ z.attempts = 0 ∨ 4 ≤ z.attempts then done s s
  else
    let s1 := advanceNs (nowNs s + (if z.attempts < 3 then 80000 else 1200000)) s
    if locked then
      done s (modSynth y (fun z => { z with locked := true, attempts := 0 }) (if z.attempts = 3 then calibrate y z.centre s1 else s1))
    else
      let s2 := modSynth y (fun z => { z with attempts := z.attempts + 1 }) s1
      done s (if z.attempts < 3 then s2 else (synthPaths y).foldl (fun s p => fault fnRfPath p s) s2)

/-! ### Power (R185, R186) -/

/-- The pre-distortion set in use in a band: that of the current calibration entry (R190). -/
def dpdInUse (s : State) (band : Nat) : Nat :=
  if band = 1 then 8
  else ((calTab s 1).findIdx? (fun e => e.state != 0 && e.centre == objCentre s 1)).getD 0

/-- Whether pre-distortion is enabled in a band. -/
def dpdOn (s : State) (band : Nat) : Bool := odNat s 0x3410 1 band == 1

/-- The ceiling of a band's power sum, dBm Q8 (R186, R193). -/
def powerCeiling (s : State) (band : Nat) : Int :=
  rfQ s band 0x3030 1 - (if dpdOn s band && (dpdSet s (dpdInUse s band)).st == 0 then odInt s 0x3410 6 else 0)

/-- Rows to shed, the ceiling of twice an excess in Q8 dB. -/
def rowsToShed (excess : Int) : Nat := ((2 * excess + 255) / 256).toNat

/-- The loop of R186 over one band's admitted carriers in order, with their requested rows: what stays, and what is dropped. -/
def backoff (s : State) (band : Nat) : Nat → List Carrier → List (Option Nat) → List Carrier → List Carrier × List Carrier
  | 0, cs, rows, lost => ((cs.zip rows).map (fun x => { x.1 with powerRow := x.2.getD 0 }), lost)
  | fuel + 1, cs, rows, lost =>
    let total := (dbSum (rows.map (fun r => rowLevel band (r.getD 0)))).getD (-51200)
    if cs = [] ∨ total ≤ powerCeiling s band then ((cs.zip rows).map (fun x => { x.1 with powerRow := x.2.getD 0 }), lost)
    else
      let d := rowsToShed (total - powerCeiling s band)
      let next := cs.map (fun c => if c.powerRow < d then none else usableRow s band (c.powerRow - d))
      let bad := (cs.zip next).any (fun x => match x.2 with
        | none => true
        | some r => x.1.kind != .beacon && x.1.kind != .tick && decide (r < odNat s 0x3400 3 band))
      if bad then
        let keep := cs.dropLast
        backoff s band fuel keep (keep.map (fun c => some c.powerRow)) (cs.getLast?.toList ++ lost)
      else backoff s band fuel cs next lost

/-- R186 on one band's admitted carriers, whose rows R185 has settled. -/
def powerBackoff (s : State) (band : Nat) (cs : List Carrier) : List Carrier × List Carrier :=
  backoff s band (2 * cs.length + 2) cs (cs.map (fun c => some c.powerRow)) []

/-- One candidate through R184. -/
def admitOne (a : Nat) (x : State × List Carrier) (c : Carrier) : State × List Carrier :=
  let s1 := touchAccs c x.1
  match dropReason s1 a c x.2 with
  | some r => (dropCarrier c (countDrop c r s1), x.2)
  | none => (s1, x.2 ++ [{ c with powerRow := (usableRow s1 c.band c.powerRow).getD 0 }])

/-- The candidates of a slot in order, admitted and backed off (R184, R186). -/
def admitAll (a : Nat) (cs : List Carrier) (s : State) : State × List Carrier :=
  let r := cs.foldl (admitOne a) (s, [])
  let p0 := powerBackoff r.1 0 (r.2.filter (fun c => c.band == 0))
  let p1 := powerBackoff r.1 1 (r.2.filter (fun c => c.band == 1))
  ((p0.2 ++ p1.2).foldl (fun s c => dropCarrier c (countDrop c 5 s)) r.1, p0.1 ++ p1.1)

/-! ### Pre-distortion (R188 to R193) -/

/-- Every pre-distortion set of a band enters DEFAULT (Table 08-2). -/
def dpdDefault (band : Nat) (s : State) : State :=
  { s with pri := { s.pri with dpd := s.pri.dpd.mapIdx (fun k d => if k / 8 = band then { defaultSet s k with temp := d.temp } else d) } }

/-- The identity coefficients of R188. -/
def identityCoefs : List (Int × Int) := (16384, 0) :: List.replicate 15 (0, 0)

/-- The coefficients that Primer applies in a band: the current set's, or the identity while DPD_ENABLE is 0 (R188, R193). -/
def appliedCoefs (s : State) (band : Nat) : List (Int × Int) := if dpdOn s band then (dpdSet s (dpdInUse s band)).coef else identityCoefs

/-- The term a * x * |x|^(2j) of R188, a in Q2.14 and x in Q1.15, in units of 2^-119 for every j up to 3. -/
def dpdTerm (a x : Int × Int) (j : Nat) : Int × Int :=
  let m := (x.1 * x.1 + x.2 * x.2) ^ j * 2 ^ (30 * (3 - j))
  ((a.1 * x.1 - a.2 * x.2) * m, (a.1 * x.2 + a.2 * x.1) * m)

/-- One sample of z from x[n] and the three before it, newest first (R188), in units of 2^-119 of full scale. -/
def dpdSample (a : List (Int × Int)) (xs : List (Int × Int)) : Int × Int :=
  (List.range 16).foldl (fun z i =>
    let t := dpdTerm ((a[i]?).getD (0, 0)) ((xs[i % 4]?).getD (0, 0)) (i / 4)
    (z.1 + t.1, z.2 + t.2)) (0, 0)

/-- Whether a sample of z lies above full scale and is clipped: its magnitude exceeds 1 (R188, log entry 158). -/
def clippedZ (z : Int × Int) : Bool := decide (2 ^ 238 < z.1 * z.1 + z.2 * z.2)

/-- Samples of z that are clipped for a run of x; `past` holds the samples before it, newest first. -/
def clipsOf (a : List (Int × Int)) : List (Int × Int) → List (Int × Int) → Nat
  | _, [] => 0
  | past, x :: l => b2n (clippedZ (dpdSample a (x :: past))) + clipsOf a ((x :: past).take 3) l

/-- Square of a coefficient's magnitude, Q2.14 squared. -/
def mag2 (c : Int × Int) : Int := c.1 * c.1 + c.2 * c.2

/-- The limits of R191 on a coefficient set. -/
def coefOk (l : List (Int × Int)) : Bool :=
  match l with
  | c :: rest => decide (8192 * 8192 ≤ mag2 c) && decide (mag2 c ≤ 32768 * 32768) && rest.all (fun d => decide (mag2 d ≤ 16384 * 16384))
  | [] => false

/-- The solved coefficients of an update: the fit is the environment's, so a_new is free (log entry 8). -/
def freeCoefs (base : Nat) : List (Int × Int) :=
  (List.range 16).map (fun i => (signed 2 (Config.freeValue (base + 2 * i) % 65536), signed 2 (Config.freeValue (base + 2 * i + 1) % 65536)))

/-- a + 0.5 (a_new - a). -/
def halfStep (a b : List (Int × Int)) : List (Int × Int) := (a.zip b).map (fun x => (x.1.1 + (x.2.1 - x.1.1) / 2, x.1.2 + (x.2.2 - x.1.2) / 2))

/-- Modifies a pre-distortion set. -/
def modDpd (k : Nat) (f : DpdSet → DpdSet) (s : State) : State := { s with pri := { s.pri with dpd := modAt f s.pri.dpd k } }

/-- A rejected update: counted; the third in a row holds the set (R191). -/
def dpdReject (band k : Nat) (err : Int) (s : State) : State :=
  let d := dpdSet s k
  let s1 := bump 0x3410 7 band (modDpd k (fun d => { d with captured := 0, nmse := err, good := 0, check := none, rejected := d.rejected + 1 }) s)
  if 3 ≤ d.rejected + 1 then
    logEvent 0x23 2 [BitVec.ofNat 8 band, BitVec.ofNat 8 k] (modDpd k (fun d => { d with st := 3, rejected := 0 }) s1)
  else s1

/-- An accepted update (R190, R193): the set has the normalised error `err`, Q8 dB, with it. -/
def dpdAccept (k : Nat) (err : Int) (s : State) : State :=
  let t := dieTempQ s (pathSensor (if k = 8 then 5 else 2))
  modDpd k (fun d =>
    let good := if err ≤ odInt s 0x3410 5 then d.good + 1 else 0
    let st := if d.st = 0 ∨ d.st = 3 then 1 else d.st
    { d with
      st := if 3 ≤ good then 2 else st, good := if 3 ≤ good then 3 else good, rejected := 0, nmse := err, check := none
      temp := if 3 ≤ good ∧ st ≠ 2 then t else d.temp }) s

/-- The first capture after an update measures the error with it, which is the environment's (log entry 8): the update stands, or it is
undone at the next slot start and counted as rejected (R191). -/
def dpdVerify (band k : Nat) (s : State) : State :=
  match (dpdSet s k).next, (dpdSet s k).check with
  | none, some (old, before) =>
    let r := takeFree s
    let err : Int := signed 2 (r.1 % 65536)
    if before + 256 < err then dpdReject band k err (modDpd k (fun d => { d with next := some old, check := none }) r.2)
    else dpdAccept k err r.2
  | _, _ => s

/-- DPD_UPDATE (R190, R191): after DPD_UPDATE_SLOTS captured slots the current set is solved anew. `err` is the normalised error of its
captures, Q8 dB, and `re` and `im` the parts of the samples of the composite that they took, Q1.15. -/
def execDpdUpdate (k : Nat) (err : Int) (re im : List Int) (s : State) : Host.Outcome State Fault Refusal :=
  let band := if k = 8 then 1 else 0
  let d := dpdSet s k
  let xs := re.zip im
  if 9 ≤ k ∨ ¬ dpdOn s band ∨ ¬ (s.pri.fbCal[band]?).getD false ∨ dpdInUse s band ≠ k ∨ d.captured < odNat s 0x3410 4 then done s s
  else
    let clipped := clipsOf d.coef [] xs
    let s1 := { s with
      free := s.free + 32, pri := { s.pri with clips := modAt (· + clipped) s.pri.clips band } }
    let coef := halfStep d.coef (freeCoefs s.free)
    if ¬ coefOk coef ∨ xs.length < 10000 * clipped then done s (dpdReject band k err s1)
    else done s (modDpd k (fun d => { d with next := some coef, check := some (d.coef, err), captured := 0, nmse := err }) s1)

/-- At a slot start whose banks are exchanged the solved sets take effect (R13, R17, R190), and a set whose die moved 10 degrees since it
converged converges anew (R193). -/
def dpdSlot (exchanged : Bool) (s : State) : State :=
  { s with pri := { s.pri with dpd := s.pri.dpd.mapIdx (fun k d =>
    let moved := d.st == 2 && decide (2560 ≤ (dieTempQ s (pathSensor (if k = 8 then 5 else 2)) - d.temp).natAbs)
    { d with coef := if exchanged then d.next.getD d.coef else d.coef, next := if exchanged then none else d.next, st := if moved then 1 else d.st, good := if moved then 0 else d.good }) } }

/-- A slot whose admitted carriers sum to at least COMPOSITE_MAX - 12 dB is captured, within a burst that was emitted (R190). -/
def dpdCapture (s : State) : State :=
  [0, 1].foldl (fun s band =>
    let cs := s.eas.active.tx.filter (fun c => c.band == band)
    match dbSum (cs.map (fun c => rowLevel band c.powerRow)) with
    | some x =>
      if rfQ s band 0x3030 1 - 12 * 256 ≤ x ∧ cs.any (fun c => c.stage == 2) ∧ dpdOn s band ∧ (s.pri.fbCal[band]?).getD false then
        modDpd (dpdInUse s band) (fun d => { d with captured := d.captured + 1 }) (dpdVerify band (dpdInUse s band) s)
      else s
    | none => s) s

end Sys2Proof.Machine
end

