-- ==== Sys2Proof/Machine/Frames.lean ====
section
/-!
DEFINITION. The frames that the FL96 emits (spec/08, spec/09, spec/10): beacons with their sections, acknowledgements, downlink frames,
directives, and the wake-up telegram. A frame is held as header and body in plaintext; what its lane adds, encryption, MIC and FCS, is
not in it (log entry 6).
-/

namespace Sys2Proof.Machine

/-- Octets that a lane adds: MIC and FCS. -/
def laneOctets : Nat := 8

/-- Fields of Table 05-5 as air frames carry them. -/
def airEpoch (e : Epoch) : Octets := leOct 5 e.asn0 ++ leOct 6 e.secs ++ leOct 4 e.nanos ++ leOct 1 e.code

/-- Octets of a PAN's channel map. -/
def mapLen (s : State) (pan : Nat) : Nat := (panField s pan 12 2 + 7) / 8

/-- HOP_ID of a PAN (Table 09-5). -/
def hopId (s : State) (pan : Nat) : Nat :=
  let l := odNat s 0x4031 2 pan
  (crc32c 0xFFFFFFFF#32 (beOct 2 l ++ (List.range l).flatMap (fun i => beOct 2 (odNat s 0x4031 1 (1024 * pan + i))))).toNat % 65536

/-! ### The grid of special slots (R204, R226) -/

/-- Whether slot `a` is a beacon slot. -/
def beaconSlot (s : State) (a : Nat) : Bool := offsetOf s a == 0

/-- Whether slot `a` is a tick slot. -/
def tickSlot (s : State) (a : Nat) : Bool := offsetOf s a % 64 == 0 && offsetOf s a != 0

/-- Whether slot `a` is a maintenance slot. -/
def maintSlot (s : State) (a : Nat) : Bool := bit (odNat s 0x4001 1) (offsetOf s a % 64)

/-- m of R226. -/
def maintCount (s : State) (a : Nat) : Nat :=
  let pat := odNat s 0x4001 1
  let r := (epochFor s a).asn0 % 64
  a / 64 * popcount 64 pat + ((List.range (a % 64)).filter (fun x => bit pat ((x + 64 - r) % 64))).length

/-- Paths of Table 17-5 that maintenance slot `a` releases (R226). -/
def maintPaths (s : State) (a : Nat) : List Nat :=
  if maintSlot s a then (if maintCount s a % 2 = 0 then [0, 2, 3, 5] else [1, 2, 4, 5]) else []

/-- Paths that quiet notices silence in slot `a` (R234). -/
def quietPaths (s : State) (a : Nat) : List Nat :=
  let hit := s.eas.notices.filter (fun q => decide (q.first ≤ a) && decide (a < q.first + q.slots))
  (List.range 6).filter (fun p => hit.any (fun q => bit q.paths p))

/-! ### Group acknowledgement (R224) -/

/-- Cells of the set in force in slot `a` whose class has AWAIT_GACK. -/
def gackCells (s : State) (a : Nat) : List Cell := (setCells s (setAtSlot s a)).filter (fun c => classFlag s c.cls 0)

/-- The highest CELL_GACK of the set in force in slot `a`, where a cell has one. -/
def highGack (s : State) (a : Nat) : Option Nat := (((setCells s (setAtSlot s a)).map (·.gack)).filter (· != 0xFFFF)).max?

/-- First and last slot that the GACK section of slot `t` covers. -/
def gackSpan (s : State) (t : Nat) : Nat × Nat := (t - 64 - odNat s 0x4001 2, t - odNat s 0x4001 2 - 1)

/-- Accepted pairs that the section of slot `t` covers. -/
def gackHits (s : State) (t : Nat) : List (Nat × Nat) :=
  let sp := gackSpan s t
  s.eas.gack.filter (fun p => decide (sp.1 ≤ p.1) && decide (p.1 ≤ sp.2))

/-- A bitmap of `n` octets with the bits of a list set. -/
def bitmap (n : Nat) (bits : List Nat) : Octets :=
  (List.range n).map (fun o => BitVec.ofNat 8 (((List.range 8).filter (fun b => bits.contains (8 * o + b))).map (2 ^ ·)).sum)

/-- The GACK section of slot `t`; empty where no cell has AWAIT_GACK. -/
def gackSection (s : State) (t : Nat) : Octets :=
  if gackCells s t = [] then []
  else match highGack s t with
  | some hi => leOct 1 (odNat s 0x4001 2) ++ leOct 1 (hi / 8 + 1) ++ bitmap (hi / 8 + 1) ((gackHits s t).map (·.2))
  | none => []

/-- Nodes of a PAN whose bits the section of slot `t` carries set (R250). -/
def gackNodes (s : State) (t pan : Nat) : List Nat :=
  ((gackHits s t).flatMap (fun p =>
    ((gackCells s t).filter (fun c => c.gack == p.2 && c.slot == offsetOf s p.1 && c.pan == pan)).filterMap
      (fun c => occupantAt s c p.1))).dedup

/-! ### Beacons (R221 to R224) -/

/-- The pending map of a PAN that the full beacon of slot `a` announces. -/
def mapNotice (s : State) (pan a : Nat) : Option MapChange :=
  s.eas.maps.find? (fun m => m.pan == pan && decide (m.first ≤ a) && decide (a < m.eff))

/-- The announced change between working modes that slot `a` carries (R41, R43). -/
def modeNotice (s : State) (a : Nat) : Option ModeChange :=
  match s.ctl.change with
  | some m => if m.kind = .announced ∧ m.first ≤ a ∧ a < m.eff then some m else none
  | none => none

/-- Whether slot `a` lies in the final superframe of R47. -/
def endMark (s : State) (a : Nat) : Bool :=
  match s.ctl.change with
  | some m => m.kind == .endOfService && decide (m.first ≤ a) && decide (a < m.eff)
  | none => false

/-- Quiet notices whose slots have not all passed by slot `a` (R223). -/
def openNotices (s : State) (a : Nat) : List Quiet := s.eas.notices.filter (fun q => decide (a < q.first + q.slots))

/-- OWNER and REGION_EPOCH of the beacon body: 0xFFFF and 0 on L variants. -/
def ownerFields (s : State) : Octets :=
  if s.chip.hFabric then leOct 2 (servedRegion s).1 ++ leOct 4 (servedRegion s).2 else leOct 2 0xFFFF ++ leOct 4 0

/-- The beacon of a PAN in slot `a` with a counter: header, body and sections (Tables 09-4 to 09-6). -/
def beaconFrame (s : State) (pan a counter : Nat) : Octets :=
  let full := beaconSlot s a
  let mode := if full then modeNotice s a else none
  let map := if full then mapNotice s pan a else none
  let quiet := openNotices s a
  let gack := gackSection s a
  let flags := b2n (endMark s a) + 2 * b2n mode.isSome + 4 * b2n map.isSome + 8 * b2n (quiet != []) + 16 * (panField s pan 25 1 % 2) +
    32 * b2n (gack != [])
  leOct 2 0xA008 ++ leOct 1 ((s.eas.beaconSeq[pan]?).getD 0) ++ leOct 2 (panField s pan 2 2) ++ leOct 2 0 ++ leOct 1 0x09 ++
  leOct 4 counter ++ leOct 1 (panField s pan 24 1) ++
  leOct 1 (if full then 1 else 2) ++ leOct 5 a ++ leOct 1 flags ++ ownerFields s ++
  (if full then airEpoch (epochFor s a) ++ leOct 8 (odNat s 0x4001 1) ++ leOct 2 (hopId s pan) ++ leOct 1 (mapLen s pan) ++
    (mapAt s pan a).take (mapLen s pan) else []) ++
  (match mode with
    | some m => leOct 1 m.target.code ++ leOct 5 m.eff ++ airEpoch m.epoch
    | none => []) ++
  (match map with
    | some m => leOct 5 m.eff ++ m.map.take (mapLen s pan)
    | none => []) ++
  (if quiet = [] then [] else leOct 1 quiet.length ++ quiet.flatMap (fun q => leOct 5 q.first ++ leOct 1 q.slots ++ leOct 1 q.paths)) ++
  gack

/-- The profile of a PAN's beacons. -/
def beaconProfile (s : State) (pan : Nat) : Profile := profileOf s (panField s pan 14 1 % 16)

/-- A carrier of a frame: width, PHY and SFD of its profile, t_e and the SFD's end by Table 08-1; the SFD of O-QPSK is the standard's
(R151; PRESUMED, log entry 31). -/
def frameCarrier (kind : TxKind) (s : State) (pan freq row tc : Nat) (p : Profile) (frame : Octets) : Carrier :=
  { kind := kind, pan := pan, band := panBand s pan, freq := freq, width := phyWidth p.phy, phy := p.phy, powerRow := row, tc := tc
    te := tc + (burstNs p p.coded (frame.length + laneOctets) + 999) / 1000, frame := frame
    sfd := if p.phy = 5 then 0xA7 else if p.coded then (sfdValues p).2 else (sfdValues p).1, sfdNs := 8000 + airNs p.phy (headBits p) }

/-- The beacons of a PAN in slot `a`, one per beacon channel, with their counters taken in ascending channel order (R221, R375); one
whose counter is refused is not built. Each is paired with its position in BEACON_CH. -/
def buildBeacons (pan a : Nat) (s : State) : State × List (Nat × Carrier) :=
  let chans := beaconChans s pan
  let order := (List.range chans.length).mergeSort (fun i j => decide ((chans[i]?).getD 0 ≤ (chans[j]?).getD 0))
  match beaconKey s pan (panField s pan 24 1) with
  | none => (s, [])
  | some h =>
    let row := odNat s 0x3400 1 (panBand s pan)
    order.foldl (fun x i =>
      match takeCounter h x.1 with
      | (some fc, s1) =>
        let kind : TxKind := if beaconSlot s a then .beacon else .tick
        let c := frameCarrier kind s pan (chanFreq s pan ((chans[i]?).getD 0)) row 250 (beaconProfile s pan) (beaconFrame s pan a fc)
        (s1, x.2 ++ [(i, { c with counter := fc, key := keyValue s h, head := 13, presume := gackNodes s a pan })])
      | (none, s1) => (s1, x.2)) (s, [])

/-- Every beacon of slot `a`, by position and then PAN row (R184). -/
def slotBeacons (a : Nat) (s : State) : State × List Carrier :=
  if beaconSlot s a ∨ tickSlot s a then
    let r := (pansOn s).foldl (fun x pan => let y := buildBeacons pan a x.1; (y.1, x.2 ++ y.2)) (s, [])
    (r.1, [0, 1, 2, 3].flatMap (fun i => (r.2.filter (fun p => p.1 == i)).map (·.2)))
  else (s, [])

/-! ### Node frames (R239 to R243) -/

/-- A cell descriptor (Table 10-6). -/
def cellDescriptor (s : State) (x : Cell × Nat) : Octets :=
  let c := x.1
  let p := profileOf s (classProfile s c.cls)
  leOct 2 c.slot ++ leOct 2 c.choff ++ leOct 1 (c.kind + 16 * c.k + 128 * b2n (classFlag s c.cls 0)) ++ leOct 1 x.2 ++ leOct 2 c.gack ++
  leOct 1 p.phy ++ leOct 1 (p.fec + 8 * (if p.sfdLen = 16 then 0 else if p.sfdLen = 24 then 1 else 2) + 32 * (p.sfdSel % 2))

/-- A count of cells and their descriptors. -/
def cellList (s : State) (set n : Nat) : Octets :=
  let l := nodeCells s set n
  leOct 1 l.length ++ l.flatMap (cellDescriptor s)

/-- The NOTICE section that slot `a` would carry for a node (R43). -/
def noticeSection (s : State) (n a : Nat) : Octets :=
  match modeNotice s a with
  | some m => leOct 5 m.eff ++ leOct 1 m.target.code ++ airEpoch m.epoch ++ cellList s m.set n
  | none => []

/-- The MAP_NOTICE section. -/
def mapSection (s : State) (pan a : Nat) : Octets :=
  match mapNotice s pan a with
  | some m => leOct 5 m.eff ++ leOct 1 (mapLen s pan) ++ m.map.take (mapLen s pan)
  | none => []

/-- Offset of t_c of a DOWNLINK or ACK frame in us (Table 09-1). -/
def dlStart (s : State) (a : Nat) : Nat := (if (epochFor s a).code = 0 then 3000 else 5200) - 8

/-- What a frame to a node is: kind, ZTYPE, SEQ, destination (its octets and the frame control), and its own fields. -/
structure NodeFrame where
  kind : TxKind
  ztype : Nat
  seq : Nat := 0
  timeCorr : Int := -32768
  code : Nat := 0
  own : Octets
  deriving DecidableEq, Repr

/-- The MAC header of a frame to a node (Table 10-3): a JOIN directive goes to the EUI-64 under the join key. -/
def nodeHeader (s : State) (pan : Nat) (f : NodeFrame) (short eui counter index : Nat) : Octets :=
  if f.code = 1 then
    leOct 2 0xAC49 ++ leOct 1 0 ++ leOct 2 (panField s pan 2 2) ++ leOct 8 eui ++ leOct 2 0 ++ leOct 1 0x05 ++ leOct 4 counter
  else
    leOct 2 0xA849 ++ leOct 1 f.seq ++ leOct 2 (panField s pan 2 2) ++ leOct 2 short ++ leOct 2 0 ++ leOct 1 0x0D ++ leOct 4 counter ++
    leOct 1 index

/-- Header and sections of the body (Table 10-5). -/
def nodeBody (a : Nat) (f : NodeFrame) (pend ends : Bool) (notice map : Octets) : Octets :=
  leOct 1 f.ztype ++ leOct 5 a ++ leInt 2 f.timeCorr ++
  leOct 1 (b2n pend + 2 * b2n (notice != []) + 4 * b2n (map != []) + 8 * b2n ends) ++ f.own ++ notice ++ map

/-- Sections chosen for a frame: NOTICE, then MAP_NOTICE, each only where the frame still passes the OUT_OF_SLOT test (R243). -/
def chosen (s : State) (a band tc : Nat) (p : Profile) (len : Nat) (notice map : Octets) : Octets × Octets :=
  let fits (n : Nat) : Bool := inSlot s a band (tc + (burstNs p p.coded n + 999) / 1000)
  let nt := if fits (len + notice.length) then notice else []
  let mp := if fits (len + nt.length + map.length) then map else []
  (nt, mp)

/-- The key that secures a frame to a node: of a JOIN directive the node's join key (R369, R370), of any other its session key. -/
def airKey (s : State) (n : Nat) (f : NodeFrame) : Octets :=
  if f.code = 1 then joinKey (((joinMaster s (nodeRec s n).pan).map (keyValue s)).getD []) (nodeRec s n).eui else (nodeKey s n).value

/-- A frame to a node in slot `a` on a channel and profile, with the counter that its key gives; none where the key is refused. -/
def buildNode (a n pan freq profileRow : Nat) (f : NodeFrame) (s : State) : State × Option Carrier :=
  let r := nodeRec s n
  let taken := if f.code = 1 then
      (match joinMaster s r.pan with
        | some h => takeCounter h s
        | none => (none, secCount 4 s))
    else takeNodeCounter n s
  match taken with
  | (none, s1) => (s1, none)
  | (some fc, s1) =>
    let p := profileOf s profileRow
    let tc := dlStart s a
    let head := nodeHeader s pan f r.short r.eui fc (nodeKey s n).keyIndex
    let pend := dlQueue s n != []
    let plain := (nodeBody a f pend (endMark s a) [] []).length
    let sec := if f.kind = .directive then ([], [])
      else chosen s a (panBand s pan) tc p (head.length + plain + laneOctets) (noticeSection s n a) (mapSection s pan a)
    let row := if r.txRow = 0xFF then odNat s 0x3400 2 (panBand s pan) else r.txRow
    let c := frameCarrier f.kind s pan freq row tc p (head ++ nodeBody a f pend (endMark s a) sec.1 sec.2)
    (s1, some { c with node := some n, counter := fc, key := airKey s n f, head := head.length, code := f.code, pend := pend, presume := [n] })

/-- The JOIN directive's own fields (Tables 10-7, 15-5; R370). -/
def joinFields (s : State) (n : Nat) : Octets :=
  let r := nodeRec s n
  let k := nodeKey s n
  let keys := (beaconKeys s r.pan).filterMap (keyOf s)
  let key := leOct 2 k.keyGen ++ padTo 16 k.value ++ leOct 1 keys.length ++ keys.flatMap (fun b => leOct 1 b.keyIndex ++ padTo 16 b.value)
  leOct 1 1 ++ leOct 2 r.short ++ leOct 2 r.supSf ++ leOct 1 (odNat s 0x5001 5) ++ cellList s (odNat s 0x4010 1) n ++
  leOct 1 key.length ++ key

/-- The RESYNC directive's own fields. -/
def resyncFields (s : State) (n a : Nat) : Octets :=
  let pan := (nodeRec s n).pan
  leOct 1 3 ++ airEpoch (epochFor s a) ++ leOct 2 (hopId s pan) ++ leOct 1 (mapLen s pan) ++ (mapAt s pan a).take (mapLen s pan) ++
  cellList s (setAtSlot s a) n

/-- A directive of a CODE. -/
def directive (code : Nat) (own : Octets) : NodeFrame := { kind := .directive, ztype := 0x23, code := code, own := own }

/-- The REJOIN directive with a REASON. -/
def rejoinFrame (reason : Nat) : NodeFrame := directive 2 (leOct 1 2 ++ leOct 1 reason)

/-! ### Telegrams (R198 to R201) -/

/-- One bit of the CRC-8 of Table 08-6. -/
def crc8Bit (r : BitVec 8) (b : Bool) : BitVec 8 :=
  let x := r <<< 1
  if r.getLsbD 7 != b then x ^^^ 0x07#8 else x

/-- CRC-8 of an octet string: x^8 + x^2 + x + 1, initial value 0. -/
def crc8 (o : Octets) : Byte :=
  o.foldl (fun r b => (List.range 8).foldl (fun r i => crc8Bit r (b.getLsbD (7 - i))) r) 0

/-- A telegram's 9 octets (Table 08-6). -/
def telegram (type tag addr asn lead : Nat) : Octets :=
  let mid := beOct 1 (type * 16 + tag % 16) ++ beOct 2 addr ++ beOct 2 (asn % 4096 * 16 + lead)
  [0xAA, 0xE2, 0x9B] ++ mid ++ [crc8 mid]

/-- The smallest LEAD whose follow-up slot and the next are neither beacon, tick nor maintenance slots (R252). -/
def leadFor (s : State) (a : Nat) : Option Nat :=
  let free (x : Nat) : Bool := offsetOf s x % 64 != 0 && !maintSlot s x
  (List.range 16).find? (fun l => decide (odNat s 0x5001 6 ≤ l) && free (a + l + 1) && free (a + l + 2))

/-- The entry whose turn it is: RESYNC, then REJOIN, then GROUP, first in first out (R201). -/
def nextWake (s : State) : Option WakeEntry :=
  [0, 1, 2].findSome? (fun t => s.pri.wake.find? (fun w => w.type == t && w.sent.isNone))

/-- Row that stands for a cell which no schedule set holds: a sync confirm or a standing listener. -/
def noRow : Nat := 2 ^ 32 - 1

/-- Cells of slot `a` whose PAN is enabled. -/
def slotCells (s : State) (a : Nat) : List Cell := (cellsAt s (setAtSlot s a) (offsetOf s a)).filter (fun c => panOn s c.pan && !s.eas.absent.contains c.row)

/-- The telegram of slot `a`, where its schedule holds a WAKE cell and the generator is enabled (R198, R200, R252). -/
def buildTelegram (a : Nat) (s : State) : State × List Carrier :=
  if ¬ (slotCells s a).any (fun c => c.kind == 4) ∨ odNat s 0x3430 1 = 0 then (s, [])
  else match nextWake s, leadFor s a with
    | some w, some l =>
      let s1 := { s with pri := { s.pri with wake := s.pri.wake.map (fun x => if x = w then { x with sent := some (a, l) } else x) } }
      (s1, [{ kind := .wake, pan := w.pan, node := w.node, freq := odNat s 0x3430 1, width := 200000, powerRow := odNat s 0x3430 3
              tc := 1000, te := 10004, sfdNs := 3000000, frame := telegram w.type (odNat s 0x3430 2) w.addr a l, entry := some (w.type, w.addr) }])
    | _, _ => (s, [])

end Sys2Proof.Machine
end

