-- ==== Sys2Proof/Machine/Listen.lean ====
section
/-!
DEFINITION. Glaze partnerships as a slot is prepared (R48, R269, R270), and the listen cells of the partners' lists (R273).
-/

namespace Sys2Proof.Machine

/-! ### Partnerships (R269, R270) -/

/-- A request to a partner no longer awaits answers; decisions that await none are ready (R270, R283). -/
def settleDecisions (s : State) : State :=
  let waits (d : GlazeDec) : Bool :=
    d.entries.any (fun e => s.gla.reqs.any (fun r => r.partner == e.1 && r.asn == d.asn && r.awaited.contains e.2))
  { s with gla := { s.gla with decs := s.gla.decs.map (fun d => { d with ready := d.ready || !waits d }) } }

/-- Every answer awaited from a partner counts as in. -/
def dropAwaited (addr : Nat) (s : State) : State :=
  if s.gla.reqs.any (fun r => r.partner == addr) then
    settleDecisions { s with gla := { s.gla with reqs := s.gla.reqs.filter (fun r => r.partner != addr) } }
  else s

/-- Requests between this unit and a unit of which one is fenced count as answered (R270). -/
def settleFenced (s : State) : State := (s.gla.reqs.map (·.partner)).dedup.foldl (fun s p => if fencedEnd s p then dropAwaited p s else s) s

/-- The partnerships as the preparation window of slot `a` opens (R269, R270): a list of a partner that is no longer active is dropped, and the
slots for which the partnership was active are remembered while records of them may stand. -/
def settlePartners (a : Nat) (s : State) : State :=
  let now := s.gla.partners.filter (fun p => partnerState s p == 1)
  let since (p : Nat) : Nat := ((s.gla.active.find? (fun x => x.1 == p)).map (·.2)).getD a
  let gone := s.gla.active.filter (fun (x : Nat × Nat) => !now.contains x.1)
  settleFenced { s with gla := { s.gla with
    active := now.map (fun p => (p, since p))
    spans := s.gla.spans.filter (fun (x : Nat × Nat × Nat) => decide (a ≤ x.2.2 + 33)) ++ gone.map (fun (x : Nat × Nat) => (x.1, x.2, a))
    adopted := s.gla.adopted.filter (fun l => now.contains l.peer)
    coming := s.gla.coming.filter (fun l => now.contains l.peer) } }

/-- Partners whose records of slot `a` are asked for (R270): the partnership was active as the slot began, and where it no longer is neither end is
fenced. -/
def askedPartners (s : State) (a : Nat) : List Nat :=
  (s.gla.active.filter (fun (p : Nat × Nat) => decide (p.2 ≤ a))).map (·.1) ++
  (s.gla.spans.filter (fun (p : Nat × Nat × Nat) => decide (p.2.1 ≤ a) && decide (a < p.2.2) && !fencedEnd s p.1)).map (·.1)

/-- Whether Glaze is to decide the cell of node `n` in slot `a` where the unit itself accepts nothing there: a list that it sent to a partner that it
asks holds the cell (R280). -/
def glazeListed (s : State) (a n : Nat) : Bool :=
  (askedPartners s a).any (fun p => ((s.gla.sent.find? (fun l => l.peer == p && l.sf == sfIndex s a)).map (·.entries)).any
    (fun es => es.any (fun x => x.offset == offsetOf s a && x.node == n)))

/-! ### Listen cells (R271, R273) -/

/-- CO of Table 09-1 in us. -/
def cellOffset (s : State) (a : Nat) : Nat := if (epochFor s a).code = 0 then 3000 else 5200

/-- The centre of a CHANNEL field in Hz (Table 11-2). -/
def listFreq (ch : Nat) : Nat := if ch / 32768 = 1 then 2405000000 + (ch % 32 - 11) * 5000000 else ch % 32768 * 100000

/-- The cells that an adopted list sets in slot `a`. -/
def listCells (s : State) (a : Nat) (l : ListenList) : List RxCell :=
  let off := epochOffset l.epoch (epochFirstAt l.epoch (startNs s a).toNat)
  let code := (epochFor s a).code
  if l.sf ≠ sfIndex s a then []
  else (l.entries.filter (fun e => e.offset == off)).map (fun e =>
    let p := listProfile l e.profile
    { listProf := (l.profiles[e.profile]?).getD [], retain := l.retain, engine := 0, partner := true, owner := l.peer, entry := e.num, kind := kUplink, band := e.band, freq := e.freq, profile := e.profile
      maxCoded := effMax p true code, maxPlain := effMax p false code
      openUs := cellOffset s a - 10 * e.w, closeUs := cellOffset s a + 10 * e.w, glaze := true })

/-- Every listen cell of slot `a`, of active partners. -/
def listenCells (s : State) (a : Nat) : List RxCell :=
  (s.gla.adopted.filter (fun l => s.gla.active.any (fun p => p.1 == l.peer))).flatMap (listCells s a)

end Sys2Proof.Machine
end

