-- ==== Sys2Proof/Machine/Firmware.lean ====
section
/-!
DEFINITION. Firmware sets (spec/16): the manifest, its checks, the boot-control record, the boot decision, confirmation and rejection.
What a manifest's signature verifies to is the environment's verdict (log entry 6).
-/

namespace Sys2Proof.Machine

/-! ### The manifest (R388, R389) -/

/-- DIGEST of a part. -/
def partDigest (m : Octets) (t : Nat) : Octets :=
  match partAt m t with
  | some i => (m.drop (24 + 52 * i + 20)).take 32
  | none => []

/-- Whether a manifest begins with MAGIC. -/
def hasMagic (s : State) (b : Nat) : Bool := fieldNat (manifest s b) 0 4 == 0x464C4D46

/-- REVOKE. -/
def revokes (m : Octets) : Nat := fieldNat m 20 1 % 8

/-- Whether a manifest has WARM_OK. -/
def warmOk (m : Octets) : Bool := bit (fieldNat m 6 2) 0

/-- The vendor root whose fused digest is that of SIGNER and that is not revoked (R390). -/
def signingRoot (s : State) (m : Octets) : Option Nat :=
  (List.range 3).find? (fun r => s.chip.rootDigests[r]? == some (shake ((m.drop 388).take 1793)) && !bit s.chip.rootRevoked r)

/-- Whether the signing root of a manifest is one that it may have (R390, R391). -/
def rootFine (s : State) (m : Octets) : Bool :=
  match signingRoot s m with
  | some r => !bit (revokes m) r && (s.chip.rootRevoked ||| revokes m) != 7
  | none => false

/-- Whether every page of a page-checked part matches its table, and the table its DIGEST (R389). -/
def pagesMatch (s : State) (b t : Nat) : Bool :=
  let m := manifest s b
  let size := partField m t 12 4
  let pages := (size + 4095) / 4096
  let table := pageTable s b t
  shake table == partDigest m t && (List.range pages).all (fun i =>
    pageEntry i (bankOctets s b (partField m t 8 4 + 4096 * i) (min 4096 (size - 4096 * i))) == (table.drop (16 * i)).take 16)

/-- Whether a part of a bank matches its DIGEST; the Canvas image and the OD schema by their pages (R389). -/
def partMatches (s : State) (b t : Nat) : Bool :=
  let m := manifest s b
  if t = 2 ∨ t = 7 then pagesMatch s b t else shake (bankOctets s b (partField m t 8 4) (partField m t 12 4)) == partDigest m t

/-- The place of the unit's code in Table 00-1. -/
def variantPlace (c : Chip) : Option Nat :=
  match c.package, c.channels, c.fabric, c.grade with
  | 0, 0, 1, 0 => some 0 | 0, 0, 1, 1 => some 1 | 0, 0, 0, 0 => some 2
  | 0, 1, 1, 0 => some 3 | 0, 1, 1, 1 => some 4 | 0, 1, 0, 0 => some 5
  | 1, 0, 1, 0 => some 6 | 1, 0, 0, 0 => some 7 | 1, 1, 1, 0 => some 8
  | 1, 1, 0, 0 => some 9 | 1, 2, 0, 0 => some 10 | 1, 2, 0, 1 => some 11
  | _, _, _, _ => none

/-- Whether a manifest serves the unit (R394). -/
def servesUnit (s : State) (m : Octets) : Bool :=
  (match variantPlace s.chip with
    | some i => bit (fieldNat m 16 2) i
    | none => false) && decide (fieldNat m 18 2 ≤ s.chip.stepping)

/-- SVN of a group in a manifest: that of its lowest part. -/
def groupSvn (m : Octets) (g : Nat) : Nat := (((partTypes.filter (fun t => partGroup t == g)).map (fun t => partField m t 2 1)).head?).getD 0

/-- Whether the security versions of a manifest are current (R392). -/
def svnOk (s : State) (m : Octets) : Bool :=
  partTypes.all (fun t => partField m t 2 1 == groupSvn m (partGroup t)) &&
  [0, 1, 2, 3].all (fun g => decide (groupSvn m g ≤ 128) && decide ((s.chip.svn[g]?).getD 0 ≤ groupSvn m g))

/-- Whether no release lies below that of a confirmed manifest (R392). -/
def releasesOk (m ref : Octets) : Bool := partTypes.all (fun t => decide (partField ref t 4 4 ≤ partField m t 4 4))

/-- Whether a manifest's releases are current against the confirmed one, if there is one (R392). -/
def currentTo (s : State) (m : Octets) (ref : Option Nat) : Bool :=
  match ref with
  | some r => releasesOk m (manifest s r)
  | none => true

/-- check() of R394: 0 where a bank passes, else the REASON of Table 16-11. -/
def checkBank (s : State) (b : Nat) (v : BankVerdict) (ref : Option Nat) : Nat :=
  let m := manifest s b
  if ¬ manifestFormed m then 1
  else if ¬ rootFine s m then 2
  else if ¬ v.sigOk then 3
  else if ¬ servesUnit s m then 4
  else if ¬ svnOk s m then 5
  else if ¬ currentTo s m ref then 6
  else if ¬ partTypes.all (partMatches s b) then 7
  else 0

/-! ### The boot-control record (R393) -/

/-- Writes the record: its two copies alternately, and SEQ rises by one (R393). -/
def writeRec (f : BootRec → BootRec) (s : State) : State :=
  let r := bootRec s
  let n := some { f r with seq := r.seq + 1 }
  { s with fw := if newestIsA s.fw then { s.fw with copyB := n } else { s.fw with copyA := n } }

/-- The counters raised to a manifest's security versions, and its roots revoked (R391, R392, R396). -/
def blowFuses (m : Octets) (c : Chip) : Chip :=
  { c with svn := c.svn.mapIdx (fun g x => max x (groupSvn m g)), rootRevoked := c.rootRevoked ||| revokes m }

/-- The fuses that RAISE records are blown, and RAISE is cleared (R394, R396). -/
def raiseFuses (s : State) : State :=
  if (bootRec s).raise then
    writeRec (fun r => { r with raise := false }) { s with chip := blowFuses (manifest s (bootRec s).confirmed) s.chip }
  else s

/-- A bank is confirmed: the record, then the fuses (R396). -/
def confirmBank (b : Nat) (s : State) : State :=
  let s1 := writeRec (fun r => { r with
    confirmed := b, trial := false, pending := none, raise := true, confDigest := shake (manifest s b), pendDigest := [] }) s
  raiseFuses { s1 with fw := { s1.fw with trialSince := none, rejected := setAt s1.fw.rejected b false } }

/-- The pending set is rejected. -/
def rejectBank (b : Nat) (s : State) : State :=
  let s1 := writeRec (fun r => { r with rejDigest := r.pendDigest, pendDigest := [], pending := none, trial := false }) s
  { s1 with fw := { s1.fw with rejected := setAt s1.fw.rejected b true, trialSince := none } }

/-! ### The boot decision (R394, R395) -/

/-- What a decision ends in: a bank that runs, safe mode, or a request for a cold boot; with OUTCOME, REASON and BANK. -/
inductive Decision
  | run (bank : Nat)
  | safe
  | coldBoot
  deriving DecidableEq, Repr

/-- FW_LAST_DECISION and its log entry. -/
def noteDecision (outcome reason bank : Nat) (warm : Bool) (s : State) : State :=
  let v := beOct 1 outcome ++ beOct 1 reason ++ beOct 1 bank ++ beOct 1 (b2n warm) ++ beOct 6 (nowSecs s)
  logEvent 0x15 (if outcome = 3 then 3 else 1) (beOct 1 outcome ++ beOct 1 reason ++ beOct 1 bank) (odPut 0x8800 5 0 v s) (source := 0x09)

/-- The verdict on a bank's signature. -/
def verdictOf (a b : BankVerdict) (k : Nat) : BankVerdict := if k = 0 then a else b

/-- The branch that runs the confirmed set, or the other bank where none is confirmed, or none; `rej` is the bank that this decision
rejected and why. -/
def decideConfirmed (warm : Bool) (va vb : BankVerdict) (rej : Option (Nat × Nat)) (s : State) : State × Decision :=
  let c := (bootRec s).confirmed
  let other := 1 - c
  let r := checkBank s c (verdictOf va vb c) none
  let note (outcome reason bank : Nat) (s : State) : State :=
    match rej with
    | some (b, why) => if outcome = 0 then noteDecision 2 why b warm s else noteDecision outcome reason bank warm s
    | none => noteDecision outcome reason bank warm s
  if r = 0 then (note 0 0 c s, .run c)
  else if ¬ confExists s ∧ checkBank s other (verdictOf va vb other) none = 0 then (note 0 0 other (confirmBank other s), .run other)
  else (note 3 r c s, .safe)

/-- The pseudocode of R394. -/
def bootDecision (warm : Bool) (va vb : BankVerdict) (s0 : State) : State × Decision :=
  let s := raiseFuses s0
  match (bootRec s).pending with
  | none => decideConfirmed warm va vb none s
  | some p =>
    let m := manifest s p
    if (bootRec s).trial then
      let s1 := rejectBank p s
      if warm ∧ ¬ warmOk m then (noteDecision 2 8 p warm s1, .coldBoot) else decideConfirmed warm va vb (some (p, 8)) s1
    else if warm ∧ ¬ (warmOk m ∧ partDigest m 4 = s.fw.shedDigest) then decideConfirmed warm va vb none s
    else
      let ref := if confExists s then some (bootRec s).confirmed else none
      let r := checkBank s p (verdictOf va vb p) ref
      if r = 0 then
        (noteDecision 1 0 p warm (writeRec (fun x => { x with trial := true, pendDigest := shake m }) s), .run p)
      else decideConfirmed warm va vb (some (p, r)) (rejectBank p s)

/-- The Shed image after a cold boot (R395): of the bank that runs, else of the first bank, the confirmed one first, whose manifest is
genuine and whose image matches. -/
def shedBank (va vb : BankVerdict) (d : Decision) (s : State) : Option Nat :=
  match d with
  | .run b => some b
  | _ =>
    let c := (bootRec s).confirmed
    [c, 1 - c].find? (fun b => manifestFormed (manifest s b) && rootFine s (manifest s b) &&
      (verdictOf va vb b).sigOk && partMatches s b 4)

/-- The page tables of a bank that is to run are loaded (Table 16-8, R399). -/
def loadTables (b : Nat) (s : State) : State := { s with fw := { s.fw with tables := [(2, pageTable s b 2), (7, pageTable s b 7)] } }

/-- Release of the OD schema part that runs (Table 03-6). -/
def schemaRelease (s : State) : Nat :=
  match s.fw.running with
  | some b => partField (manifest s b) 7 4 4
  | none => 0

end Sys2Proof.Machine
end

