-- ==== Sys2Proof/Machine/Regions.lean ====
section
/-!
DEFINITION. Configuration exports and what is made of one: an import at the next boot, or a region's air configuration (R55 to R61, R343,
R348, R372); and the tables that Trellis builds from the configuration (R296).
-/

namespace Sys2Proof.Machine

/-! ### Export (R59) -/

/-- The store with every accepted write applied, as the configuration store holds it (R59, R71). -/
def configStore (s : State) : State := s.srv.pend.foldl (fun s w => odPut w.idx w.sub w.row w.val s) s

/-- Whether a row of the store belongs to a STORED object (R67). -/
def isStored (key : Nat) : Bool := (odFind (key / 2 ^ 40) (key / 2 ^ 32 % 256)).map (·.pers) == some .stored

/-- Whether a row is part of section 2: cells, occupants and the ASN epoch. -/
def isSchedule (key : Nat) : Bool := [0x4012, 0x4013].contains (key / 2 ^ 40) || key / 2 ^ 32 == 0x210001

/-- A value as it leaves the unit: key handles read 0xFFFF (R59; KEY_HANDLE of Table 04-6 at offset 2). -/
def exportValue (key : Nat) (v : Octets) : Octets :=
  if key / 2 ^ 32 = 0x700006 then [0xFF, 0xFF] else if key / 2 ^ 32 = 0xA01101 then setField v 2 2 0xFFFF else v

/-- One entry of a section (log entry 60): INDEX, SUBINDEX, ROW, LEN and the value. -/
def exportEntry (key : Nat) (v : Octets) : Octets :=
  beOct 2 (key / 2 ^ 40) ++ beOct 1 (key / 2 ^ 32 % 256) ++ beOct 4 (key % 2 ^ 32) ++ beOct 2 v.length ++ v

/-- Rows of an object that section 1 holds: every row that exists on the unit, but of the schedule sets only those in use (log entry 60). -/
def exportRows (s : State) (d : ObjDesc) : List Nat :=
  if d.idx = 0x4012 ∨ d.idx = 0x4013 then s.od.filterMap (fun e => if e.1 / 2 ^ 32 = d.idx * 256 + d.sub then some (e.1 % 2 ^ 32) else none)
  else (List.range (d.maxRow + 1)).filter (fun r => rowExists d r && !rowAbsent s.chip d r)

/-- A stored value as the configuration store holds it: a default that the chip gives stands where none was written (R59). -/
def heldValue (c : State) (idx sub row : Nat) : Octets :=
  match idx, sub with
  | 0x1000, 5 => beOct 2 (compatLevel c)
  | 0x6410, 5 => beOct 6 (ownMac c)
  | 0x9000, 6 => beInt 2 (tempWarn c)
  | _, _ => odGet c idx sub row

/-- Section 1: every STORED object that exists on the unit. -/
def section1 (s : State) : Octets :=
  let c := configStore s
  (odTable.filter (fun d => d.pers == .stored && !objAbsent s.chip d.idx d.sub)).flatMap (fun d => (exportRows c d).flatMap (fun r =>
    exportEntry (odKey d.idx d.sub r) (exportValue (odKey d.idx d.sub r) (heldValue c d.idx d.sub r))))

/-- Section 2: the schedule mirror, with the short addresses of the nodes that cells name. -/
def section2 (s : State) : Octets :=
  let c := configStore s
  let cells := c.od.filter (fun e => isSchedule e.1 && e.1 != odKey 0x2100 1 0)
  let rows := cells ++ [(odKey 0x2100 1 0, odGet c 0x2100 1)]
  let nodes := ((rows.filter (fun e => e.1 / 2 ^ 40 == 0x4013)).map (fun e => beNat e.2)).dedup
  rows.flatMap (fun e => exportEntry e.1 e.2) ++
  nodes.flatMap (fun n => exportEntry (odKey 0x5010 1 n) (beOct 2 (odField c 0x5010 1 n 10 2)))

/-- An export (Table 03-6); `mirror` sets bit 0 of FLAGS. -/
def exportOf (mirror : Bool) (s : State) : Octets :=
  let a := section1 s
  let b := section2 s
  let body := beOct 4 0x464C4358 ++ beOct 2 1 ++ s.chip.variantCode ++ beOct 2 s.chip.stepping ++ beOct 2 (compatLevel s) ++
    beOct 4 (schemaRelease s) ++ beOct 8 s.eas.asn ++ beOct 2 (if s.chip.hFabric then odNat s 0x7000 2 else 0xFFFF) ++
    beOct 2 (b2n mirror) ++ beOct 4 a.length ++ beOct 4 b.length ++ a ++ b ++ padTo 1793 s.fw.pubkey ++ s.chip.serial ++
    padTo 4354 s.fw.chain ++ padTo 1793 (Config.crypto "vendor root key" (fieldNat s.fw.chain 0 1) [])
  body ++ identitySign "FL96-EXPORT" body s

/-- The export of a region: its epoch in HR_REGION_EPOCH (R343). -/
def regionExport (epoch : Nat) (s : State) : Octets := exportOf true (odPut 0x7010 1 0 (beOct 4 epoch) s)

/-! ### Reading an export -/

/-- Lengths of the two sections. -/
def exportLens (v : Octets) : Nat × Nat := (fieldNat v 38 4, fieldNat v 42 4)

/-- Whether an export has the length that its sections give it. -/
def exportWhole (v : Octets) : Bool := v.length == 46 + (exportLens v).1 + (exportLens v).2 + 1793 + 8 + 4354 + 1793 + 1280

/-- The entries of a section, read within `fuel`; a value that has not the object's encoding is not one of the object's. -/
def readEntries : Nat → Octets → List (Nat × Octets)
  | 0, _ => []
  | fuel + 1, o =>
    if o.length < 9 then []
    else
      let n := fieldNat o 7 2
      let e := (odKey (fieldNat o 0 2) (fieldNat o 2 1) (fieldNat o 3 4), (o.drop 9).take n)
      let rest := readEntries fuel (o.drop (9 + n))
      if isStored e.1 ∧ (odFind (e.1 / 2 ^ 40) (e.1 / 2 ^ 32 % 256)).any (fun d => encodingOk d e.2) then e :: rest else rest

/-- Every entry of an export. -/
def exportEntries (v : Octets) : List (Nat × Octets) :=
  let l := exportLens v
  let o := (v.drop 46).take (l.1 + l.2)
  readEntries (l.1 / 9 + 1) (o.take l.1) ++ readEntries (l.2 / 9 + 1) (o.drop l.1)

/-- The region epoch that an export carries. -/
def exportEpoch (v : Octets) : Nat :=
  (((exportEntries v).find? (fun e => e.1 == odKey 0x7010 1 0)).map (fun e => beNat e.2)).getD 0

/-- CHAIN and VENDOR_KEY of an export (Table 03-6). -/
def exportChain (v : Octets) : Octets := (v.drop (46 + (exportLens v).1 + (exportLens v).2 + 1801)).take 4354
def exportVendorKey (v : Octets) : Octets := (v.drop (46 + (exportLens v).1 + (exportLens v).2 + 6155)).take 1793

/-- What R60 asks of an export's identity beyond its three signatures: VENDOR_KEY has the fused digest of the root that CHAIN names, that
root is not revoked, and FIELD_SIG is not all zero (Table 16-9). -/
def identityOk (v : Octets) (c : Chip) : Bool :=
  let root := fieldNat (exportChain v) 0 1
  c.rootDigests[root]? == some (shake (exportVendorKey v)) && !bit c.rootRevoked root && ((exportChain v).drop 3074).any (· != 0)

/-- The checks of R60 after the mode, in its order, with the DETAIL of each: a FORMAT_ERROR gives the offset in the value of MAGIC, of
FORMAT, or of the lengths that disagree with the value's own (log entry 148). `sigOk` is the verdict on the three signatures. -/
def exportFault (v : Octets) (sigOk : Bool) (s : State) : Option (Nat × Nat) :=
  if fieldNat v 0 4 ≠ 0x464C4358 then some (stFormatError, 0)
  else if fieldNat v 4 2 ≠ 1 then some (stFormatError, 4)
  else if ¬ exportWhole v then some (stFormatError, 38)
  else if ¬ (sigOk ∧ identityOk v s.chip) then some (stSignatureFail, 0)
  else if (v.drop 6).take 12 ≠ s.chip.variantCode then some (stVariantMismatch, 0)
  else if s.chip.stepping < fieldNat v 18 2 then some (stSteppingMismatch, 0)
  else if schemaRelease s < fieldNat v 22 4 then some (stSchemaMismatch, 0)
  else none

/-- PUBKEY of an export. -/
def exportPubkey (v : Octets) : Octets := (v.drop (46 + (exportLens v).1 + (exportLens v).2)).take 1793

/-- Puts entries in the store. -/
def putEntries (es : List (Nat × Octets)) (s : State) : State :=
  es.foldl (fun s e => { s with od := sset odDefault s.od e.1 e.2 }) s

/-- An import at a boot (R61): every STORED object is the import's, ODAP_PSK rows disabled, COMPAT_LEVEL from COMPAT; or none of it, where
it no longer passes the checks of R60. IMPORT_SOURCE changes here, not when the import is staged (log entry 148). -/
def adoptImport (v : Octets) (s : State) : State :=
  if exportFault v true s = none then
    let es := (exportEntries v).map (fun e => if e.1 / 2 ^ 32 = 0xA01101 then (e.1, setField e.2 0 1 0) else e)
    let s1 := putEntries es { s with od := s.od.filter (fun e => !isStored e.1) }
    odPut 0x1100 4 0 [2] (odPut 0x1100 5 0 (shake (exportPubkey v)) (odPut 0x1000 5 0 (beOct 2 (fieldNat v 20 2)) s1))
  else odPut 0x1100 4 0 [3] s

/-! ### Nodes and tables from the configuration (R244, R296) -/

/-- Fields of a NODE_REG row. -/
def regEui (s : State) (n : Nat) : Nat := odField s 0x5010 1 n 0 8
def regPan (s : State) (n : Nat) : Nat := odField s 0x5010 1 n 8 1
def regShort (s : State) (n : Nat) : Nat := odField s 0x5010 1 n 10 2

/-- Rows of NODE_REG that register a node, ascending. -/
def regRows (s : State) : List Nat :=
  s.od.filterMap (fun e => if e.1 / 2 ^ 32 = 0x501001 ∧ fieldNat e.2 0 8 ≠ 0 then some (e.1 % 2 ^ 32) else none)

/-- The record of a registered node (R244). -/
def regRecord (s : State) (n : Nat) : NodeRec :=
  { st := .registered, pan := regPan s n, short := regShort s n, eui := regEui s n, supSf := odField s 0x5010 1 n 12 2
    txRow := odField s 0x5010 1 n 14 1, halfWidth := 0 }

/-- Key octets of the SHORT table (Table 12-3). -/
def shortKey (s : State) (pan short : Nat) : Octets := beOct 2 (panField s pan 2 2) ++ beOct 2 short

/-- The NODE and SHORT entries of a row. -/
def nodeEntries (s : State) (n : Nat) : List TEntry :=
  [{ tag := 1, flags := 1, value := n, key := beOct 8 (regEui s n) },
   { tag := 2, flags := 1, value := n, key := shortKey s (regPan s n) (regShort s n) }]

/-- The entry of an IP6_STATIC row. -/
def ip6StaticEntry (o : Octets) : TEntry :=
  let kind := fieldNat o 1 1
  { tag := 3, flags := 1 + 2 * kind, value := if kind = 0 then fieldNat o 4 4 else if kind = 1 then fieldNat o 2 1 else 0
    next := if kind = 1 then fieldNat o 8 6 else 0, key := (o.drop 16).take 16 }

/-- The entry of a MAC_STATIC row. -/
def macStaticEntry (o : Octets) : TEntry := { tag := 4, flags := 1, value := fieldNat o 1 1, key := (o.drop 2).take 6 }

/-- Inserts entries in order. -/
def insertAll (es : List TEntry) (s : State) : State := es.foldl (fun s e => (tableInsert e s).1) s

/-- The entries that the configuration gives the node array, in the order of R296: of registered nodes, then of IP6_STATIC. -/
def nodeArrayEntries (s : State) : List TEntry :=
  (regRows s).flatMap (nodeEntries s) ++
  ((List.range 1024).map (fun r => odGet s 0x6420 1 r)).filterMap (fun o => if fieldNat o 0 1 = 1 then some (ip6StaticEntry o) else none)

/-- The node array filled from the configuration (R296). Of an array that holds entries already, those leave that neither the configuration nor
Canvas holds (R297); each change has its notice (R310). -/
def buildNodeArray (s : State) : State :=
  let es := nodeArrayEntries s
  let stays (x : TEntry) : Bool := es.any (fun e => e.tag == x.tag && e.key == x.key) || s.tre.owned.any (fun e => e.tag == x.tag && e.key == x.key)
  let s1 := ((arrayEntries s.tre 0).filter (fun x => x.tag != 0 && !stays x)).foldl (fun s x => tableDelete x.tag x.key s) s
  insertAll (es.filter (fun e => lookup s.tre e.tag e.key != some e)) s1

/-- The MAC array built from MAC_STATIC (R296). -/
def buildMacArray (s : State) : State :=
  insertAll (((List.range 64).map (fun r => odGet s 0x6410 4 r)).filterMap (fun o => if fieldNat o 0 1 = 1 then some (macStaticEntry o) else none)) s

/-- Every registered node at REGISTERED, every other FREE (R238). -/
def registerNodes (s : State) : State :=
  { s with nod := { s.nod with recs := (regRows s).map (fun n => (n, regRecord s n)) } }

/-! ### Taking up a region (R348, R372) -/

/-- Whether an index belongs to the air configuration of a region. -/
def isAir (idx : Nat) : Bool :=
  idx == 0x2100 || (0x3000 ≤ idx && idx ≤ 0x5FFF) || (0x6000 ≤ idx && idx ≤ 0x67FF) || (0x6800 ≤ idx && idx ≤ 0x6FFF)

/-- State of a Table 10-2 code. -/
def nodeStOf (c : Nat) : NodeSt :=
  match c with
  | 1 => .registered | 2 => .joining | 3 => .active | 4 => .desync | 5 => .lost | _ => .free

/-- A node's record after its latest delta (R348). -/
def deltaRecord (r : NodeRec) (d : DeltaRec) : NodeRec :=
  { r with
    st := nodeStOf d.st, lastSeq := d.lastSeq, dlSeq := d.dlSeq, dlAcked := d.dlAcked, highFc := d.highFc, joinFc := d.joinFc
    lastRx := d.lastRx, syncAsn := d.syncAsn, presumed := d.syncAsn, res := d.res, stepAdd := 0, seqValid := true, fcValid := true
    jfcValid := bit d.flags 6 }

/-- HR_FC_GUARD. -/
def fcGuard (s : State) : Nat := odNat s 0x7001 6

/-- The lowest free Seedbank slot. -/
def freeSlotNo (s : State) : Option Nat := (List.range 512).find? (fun n => !(slotAt s n).held)

/-- The slot that a shadow fills: that of the same key where Seedbank holds it, else the lowest free one. -/
def shadowSlot (s : State) (k : KeyShadow) : Option Nat :=
  match s.sec.slots.find? (fun e => e.2.held && e.2.usage == k.usage && e.2.pan == k.pan && e.2.keyIndex == k.keyIndex) with
  | some e => some e.1
  | none => freeSlotNo s

/-- A slot key's shadow is loaded with its counter (R348, R372). -/
def loadSlotShadow (m : Mirror) (s : State) (k : KeyShadow) : State :=
  match shadowSlot s k with
  | some n =>
    let fc := (if bit k.usage 0 ∧ panField s k.pan 24 1 = k.keyIndex then max k.outFc ((m.beaconFc[k.pan]?).getD 0) else k.outFc) + fcGuard s
    let key : KeySlot := { gen := (slotAt s n).gen, held := true, type := k.type, usage := k.usage, masters := k.masters, flags := k.flags / 2 * 2
                           region := k.region, pan := k.pan, keyIndex := k.keyIndex, outFc := fc, ceiling := fc + 65536, soft := k.soft, hard := k.hard
                           value := k.value }
    let s1 := setSlot n key s
    { s1 with sec := { s1.sec with storeSlots := sset (fun _ => {}) s1.sec.storeSlots n key } }
  | none => s

/-- A node key's shadow is loaded (R372). -/
def loadNodeShadow (n : Nat) (s : State) (k : KeyShadow) : State :=
  let fc := k.outFc + fcGuard s
  storeNodeKey n (setNodeKey n { valid := true, pinned := bit k.flags 1, keyIndex := k.keyIndex, outFc := fc, ceiling := fc + 1024, value := k.value
                                 kek := s.sec.kek.getD [] } s)

/-- The shadows of a region are loaded before its first slot (R372). -/
def loadShadows (m : Mirror) (s : State) : State :=
  (s.sec.shadows.filter (fun k => k.region == m.region)).foldl (fun s k =>
    match k.node with
    | some n => loadNodeShadow n s k
    | none => loadSlotShadow m s k) s

/-- The outgoing counter of a node's key after a delta: OUT_FC + HR_FC_GUARD (R348). -/
def setDeltaFc (s : State) (x : Nat × DeltaRec) : State :=
  let k := nodeKey s x.1
  if k.valid then
    let fc := x.2.outFc + fcGuard s
    storeNodeKey x.1 (setNodeKey x.1 { k with outFc := fc, ceiling := fc + 1024 } s)
  else s

/-- Riddle with the profiles, meters, shapers and gate lists of an adopted configuration, each as freshly written (R316, R320, R325, R330). -/
def adoptRiddle (s : State) : State :=
  let fresh : Rid := { s.rid with
    queues := [], tokens := [], group := [], meters := [], profAt := List.replicate 16 s.clk.elapsed
    ports := s.rid.ports.map (fun p => { p with shapers := List.replicate 8 (0, s.clk.elapsed) }) }
  [0, 1].foldl (fun s p => commitGates p (odGet s 0x6830 1 p) s) { s with rid := fresh }

/-- The static MAC entries of an adopted configuration in place of those that stood (R297). -/
def adoptMacs (s : State) : State :=
  let old := (arrayEntries s.tre 1).filter (fun e => e.tag == 4 && e.flags % 2 == 1)
  buildMacArray (old.foldl (fun s e => tableDelete 4 e.key s) s)

/-- The window centres of an adopted configuration, where they differ from those in force (R128). -/
def adoptCentres (old s : State) : State :=
  [0, 1].foldl (fun s y =>
    if objCentre old y = objCentre s y then s
    else if s.eas.running then moveCentreAt y (objCentre s y) s else moveCentre y (objCentre s y) s) s

/-- The dwell rules of an adopted configuration, each that differs as freshly written (R197). -/
def adoptDwell (old s : State) : State :=
  (List.range 16).foldl (fun s r => if odGet old 0x3420 1 r = odGet s 0x3420 1 r then s else resetRule r s) s

/-- A unit adopts a region's export as its air configuration, with its nodes, counters and keys (R348, R372). -/
def adoptRegion (m : Mirror) (s : State) : State :=
  match m.snapshot with
  | none => s
  | some v =>
    let floor := odNat s 0x2100 4
    let air (key : Nat) : Bool := isAir (key / 2 ^ 40) && isStored key
    let es := (exportEntries v).filter (fun e => air e.1)
    let s1 := putEntries es { s with
      od := s.od.filter (fun e => !air e.1), srv := { s.srv with pend := s.srv.pend.filter (fun w => !isAir w.idx) } }
    let s2 := odPut 0x2100 4 0 (beOct 8 (max floor (odNat s1 0x2100 4))) s1
    let s3 := registerNodes { s2 with
      eas := { s2.eas with changes := [], maps := [], notices := [], gack := m.gackTail }
      pri := { s2.pri with wake := [] }, nod := { joinRate := s2.nod.joinRate } }
    let s4 := m.recs.foldl (fun s x => modNode x.1 (fun r => deltaRecord r x.2) s) s3
    let s5 := { s4 with sec := { s4.sec with nodes := [] } }
    adoptDwell s (adoptCentres s (adoptMacs (buildNodeArray (m.recs.foldl setDeltaFc (loadShadows m (adoptRiddle s5))))))

end Sys2Proof.Machine
end

