-- ==== Sys2Proof/Machine/Easel.lean ====
section
/-!
DEFINITION. Easel's preparation window (spec/09, with R137 of spec/06, R147, R153, R174 of spec/07, R184 of spec/08, R243 to R260 of
spec/10 and R319 of spec/13): what slot `a` will hold, from the state as that slot will find it, and its commit mark.
-/

namespace Sys2Proof.Machine

/-! ### The state as slot `a` will find it (R69, R71) -/

/-- Pending writes that are in force in slot `a`. -/
def aheadWrites (a : Nat) (s : State) : List PendWrite :=
  s.srv.pend.filter (fun w => match w.eff with
    | some e => decide (e ≤ a)
    | none => false)

/-- Dwell rules whose rewriting takes effect with slot `a`. -/
def rewrittenRules (a : Nat) (s : State) : List Nat :=
  ((aheadWrites a s).filter (fun w => w.idx == 0x3420 && w.sub == 1)).map (·.row)

/-- A pending write as planning sees it: the value, the sets that DPD_ENABLE puts in DEFAULT, and the accounts that a dwell rule starts anew with
(R186, R193, R197). -/
def aheadWrite (s : State) (w : PendWrite) : State :=
  let t := odPut w.idx w.sub w.row w.val s
  match w.idx, w.sub with
  | 0x3410, 1 => if beNat w.val = 1 ∧ odNat s 0x3410 1 w.row ≠ 1 then dpdDefault w.row t else t
  | 0x3420, 1 => resetRule w.row t
  | _, _ => t

/-- The configuration and mode that slot `a` will find. -/
def ahead (a : Nat) (s : State) : State :=
  let m := modeAt s a
  let s1 := (aheadWrites a s).foldl aheadWrite s
  if m = s.ctl.mode then s1
  else { s1 with ctl := { s1.ctl with mode := m, work := if m.working then m else s1.ctl.work, domains := m.domains s.chip.fPackage } }

/-- What planning on `ahead a s` made of the state, with configuration, mode and what pending writes start anew as they are in `s` again. -/
def unahead (a : Nat) (s t : State) : State :=
  let t1 := (aheadWrites a s).foldl (fun t w => odPut w.idx w.sub w.row (odGet s w.idx w.sub w.row) t) t
  let rules := rewrittenRules a s
  { t1 with
    pri := { t1.pri with
      dpd := s.pri.dpd
      dwell := t1.pri.dwell.filter (fun x => !rules.contains x.rule) ++ s.pri.dwell.filter (fun x => rules.contains x.rule)
      preload := t1.pri.preload.filter (fun x => !rules.contains x.1) ++ s.pri.preload.filter (fun x => rules.contains x.1) }
    ctl := { t1.ctl with mode := s.ctl.mode, work := s.ctl.work, domains := s.ctl.domains } }

/-! ### Who serves what (R30, R214, R238, R347, R352) -/

/-- Whether the unit takes up a region whose first slot has not come: it serves nothing of it yet. -/
def waitingTaker (s : State) : Bool :=
  match s.hed.incoming with
  | some i => !i.adopted
  | none => false

/-- H of R352 in slots. -/
def handSlots (s : State) : Nat := if s.chip.hFabric && odNat s 0x6000 1 == 1 then odNat s 0x6000 2 + 4 else 4

/-- Whether slot `a` lies at or after E - H of a handover that the unit makes. -/
def quiescedAt (s : State) (a : Nat) : Bool :=
  match s.hed.handing with
  | some h => h.quiesced || (match h.eff with
    | some e => decide (e ≤ a + handSlots s)
    | none => false)
  | none => false

/-- Whether slot `a` lies at or after E of a handover that the unit makes. -/
def handedAt (s : State) (a : Nat) : Bool :=
  match s.hed.handing with
  | some h => (match h.eff with
    | some e => decide (e ≤ a)
    | none => false)
  | none => false

/-- Whether carriers are offered in slot `a`. -/
def offersTx (s : State) (a : Nat) : Bool := s.ctl.mode.emits && !waitingTaker s && !handedAt s a

/-- Whether own receive cells are served in slot `a`. -/
def offersRx (s : State) (a : Nat) : Bool :=
  (s.ctl.mode.emits || s.ctl.mode == .m3 || s.ctl.mode == .m4) && !waitingTaker s && !quiescedAt s a

/-- Whether a node's state admits its UPLINK and ACK cells in slot `a` (Table 10-2). -/
def admitsUp (r : NodeRec) (a : Nat) : Bool :=
  match r.st with
  | .joining | .active | .desync => true
  | .lost => decide (a < r.qend)
  | _ => false

/-! ### Paths (R225 to R228, R234, R420) -/

/-- Paths of Table 17-5 released or silenced in slot `a`. -/
def releasedPaths (s : State) (a : Nat) : List Nat := (maintPaths s a ++ quietPaths s a).dedup

/-- Why a path carries nothing in slot `a`: 1 released or silenced, 2 out of service, 0 free. -/
def pathBlocked (s : State) (a path : Nat) : Nat :=
  if (releasedPaths s a).contains path then 1 else if outOfService s fnRfPath path then 2 else 0

/-- Transmit path of a band as Table 17-5 numbers it. -/
def txPath (band : Nat) : Nat := 2 + 3 * band

/-- Why a band transmits nothing in slot `a`. -/
def txBlocked (s : State) (a band : Nat) : Nat := pathBlocked s a (txPath band)

/-- Counts cells that a blocked path leaves unserved. -/
def countBlocked (why n : Nat) (s : State) : State :=
  if n = 0 ∨ why = 0 then s else if why = 1 then bump 0x4014 2 0 s n else bump 0x9400 8 0 s n

/-- Band of a cell: WAKE cells are sub-GHz. -/
def cellBand (s : State) (c : Cell) : Nat := if c.kind = 4 then 0 else panBand s c.pan

/-- Whether a transmit cell would be served but for its path. -/
def txCellWanted (s : State) (a : Nat) (c : Cell) : Bool :=
  match c.kind with
  | 1 => (match occupantAt s c a with
    | some n => (nodeRec s n).st == .active && !(nodeKey s n).poisoned
    | none => false)
  | 2 => (match occupantAt s c a with
    | some n => admitsUp (nodeRec s n) a && !(nodeKey s n).poisoned
    | none => false)
  | 4 => true
  | _ => false

/-- Transmit cells that slot `a` leaves unserved for their path, counted. -/
def countTxBlocked (a : Nat) (s : State) : State :=
  [0, 1].foldl (fun t b => countBlocked (txBlocked s a b)
    ((slotCells s a).filter (fun c => cellBand s c == b && txCellWanted s a c)).length t) s

/-! ### Candidates (R184, R246, R252, R256, R257, R260, R267, R319) -/

/-- One frame that slot `a` owes: the node, channel, profile, and what it is; its wake-up entry; its charge. -/
structure TxJob where
  node : Nat
  pan : Nat
  freq : Nat
  profile : Nat
  frame : NodeFrame
  entry : Option (Nat × Nat) := none
  charge : Nat := 0
  /-- Row of the SHARED cell that a JOIN directive takes. -/
  shared : Option Nat := none
  deriving DecidableEq, Repr

/-- Acknowledgements and directives at the acknowledgement position of slot `a`; a REJOIN that the node is owed takes the place of its
acknowledgement (R268). -/
def ackJobs (s : State) (a : Nat) : List TxJob :=
  (s.nod.acks.filter (fun d => d.asn == a)).map (fun d =>
    { node := d.node, pan := d.pan, freq := chanFreq s d.pan (hopChannel s d.pan a d.choff), profile := d.profile
      frame := match d.rejoin <|> (nodeRec s d.node).rejoin with
        | some r => rejoinFrame r
        | none => { kind := .ack, ztype := 0x21, seq := d.seq, timeCorr := d.timeCorr, own := leOct 1 (b2n d.dup) } })

/-- Whether a node listens at its DOWNLINK cells (R260). -/
def listens (s : State) (set n : Nat) : Bool :=
  if (nodeCells s set n).any (fun x => x.1.kind == 2) then (nodeRec s n).pendingSent else true

/-- What a DOWNLINK cell of slot `a` carries: a REJOIN that the node is owed, or the head of its queue where its tokens cover it; an
ineligible head is counted (R260, R268, R319). -/
def downlinkJob (a : Nat) (x : State × List TxJob) (c : Cell) : State × List TxJob :=
  let s := x.1
  match occupantAt s c a with
  | none => x
  | some n =>
    let r := nodeRec s n
    if r.st ≠ .active ∨ (nodeKey s n).poisoned ∨ ¬ listens s (setAtSlot s a) n then x
    else
      let job (f : NodeFrame) (charge : Nat) : TxJob :=
        { node := n, pan := c.pan, freq := chanFreq s c.pan (hopChannel s c.pan a c.choff), profile := classProfile s c.cls, frame := f
          charge := charge }
      match r.rejoin, dlQueue s n with
      | some why, _ => (s, x.2 ++ [job (rejoinFrame why) 0])
      | none, f :: _ =>
        if f.wait then x
        else if dlRate s n ≠ 0 ∧ dlTokensAt s n s.clk.elapsed < f.charge * 65536 then (bump 0x6801 1 6 s, x.2)
        else
          let seq := if f.sent = 0 then r.dlSeq else f.dlSeq
          (s, x.2 ++ [job { kind := .downlink, ztype := 0x20, seq := seq, own := f.payload } f.charge])
      | none, [] => x

/-- JOIN directives owed in slot `a`, one per SHARED cell (R246, R371). -/
def joinJobs (s : State) (a : Nat) : List TxJob :=
  let due := s.nod.joins.filter (fun j => j.slot == offsetOf s a && decide (j.sf < sfIndex s a) && decide (sfIndex s a ≤ j.sf + 4) &&
    !s.hed.shadowWait.any (fun w => w.1 == j.node))
  let frame (j : JoinDir) : NodeFrame := directive 1 (joinFields s j.node)
  due.filterMap (fun j =>
    if j.row = noRow then
      if panOn s j.pan then some { node := j.node, pan := j.pan, freq := j.freq, profile := j.profile, frame := frame j } else none
    else ((slotCells s a).find? (fun c => c.row == j.row && c.kind == 3)).map (fun c =>
      { node := j.node, pan := c.pan, freq := chanFreq s c.pan (hopChannel s c.pan a c.choff), profile := classProfile s c.cls, frame := frame j
        shared := some j.row }))

/-- Centre of BEACON_CH[0] of a PAN. -/
def beaconFreq0 (s : State) (pan : Nat) : Nat := chanFreq s pan ((beaconChans s pan).headD 0)

/-- Wake-up entries whose follow-up belongs to slot `a`. -/
def dueFollowups (s : State) (a : Nat) : List WakeEntry :=
  s.pri.wake.filter (fun w => match w.sent with
    | some x => x.1 + x.2 + 1 == a
    | none => false)

/-- RESYNC and REJOIN follow-ups of slot `a` (R252). -/
def followJobs (s : State) (a : Nat) : List TxJob :=
  (dueFollowups s a).filterMap (fun w =>
    match w.node with
    | some n =>
      some { node := n, pan := w.pan, freq := beaconFreq0 s w.pan, profile := panField s w.pan 14 1 % 16, entry := some (w.type, w.addr)
             frame := if w.type = 0 then directive 3 (resyncFields s n a) else rejoinFrame w.reason }
    | none => none)

/-- Jobs in ascending node index. -/
def byNode (l : List TxJob) : List TxJob := l.mergeSort (fun x y => decide (x.node ≤ y.node))

/-- Builds a job's frame; one whose key is refused is handled as a drop (R365, R375). -/
def buildJob (a : Nat) (x : State × List Carrier) (j : TxJob) : State × List Carrier :=
  match buildNode a j.node j.pan j.freq j.profile j.frame x.1 with
  | (s, some c) => (s, x.2 ++ [{ c with entry := j.entry, charge := j.charge }])
  | (s, none) => ((match j.entry with
      | some e => returnWake e s
      | none => s), x.2)

/-- The GROUP follow-up of slot `a`: the downlink frame at the head of the group queue, to 0xFFFF under the PAN's beacon key (R239, R252;
log entry 61). -/
def groupFollowup (a : Nat) (s : State) : State × List Carrier :=
  match (dueFollowups s a).find? (fun w => w.type == 2), s.rid.group with
  | some w, f :: _ =>
    match beaconKey s w.pan (panField s w.pan 24 1) with
    | none => (returnWake (2, w.addr) s, [])
    | some h =>
      match takeCounter h s with
      | (none, s1) => (returnWake (2, w.addr) s1, [])
      | (some fc, s1) =>
        let frame := leOct 2 0xA849 ++ leOct 1 0 ++ leOct 2 (panField s w.pan 2 2) ++ leOct 2 0xFFFF ++ leOct 2 0 ++ leOct 1 0x0D ++
          leOct 4 fc ++ leOct 1 (panField s w.pan 24 1) ++
          nodeBody a { kind := .group, ztype := 0x20, own := f.payload } (s.rid.group.length != 1) (endMark s a) [] []
        let c := frameCarrier .group s w.pan (beaconFreq0 s w.pan) (odNat s 0x3400 2 (panBand s w.pan)) (dlStart s a) (beaconProfile s w.pan) frame
        (s1, [{ c with counter := fc, key := keyValue s h, head := 15, entry := some (2, w.addr) }])
  | some w, [] => (returnWake (2, w.addr) s, [])
  | none, _ => (s, [])

/-- Jobs whose band transmits in slot `a`; the others are handled as drops (R225, R228). -/
def freeJobs (a : Nat) (js : List TxJob) (s : State) : State × List TxJob :=
  let ok (j : TxJob) : Bool := txBlocked s a (panBand s j.pan) == 0
  ((js.filter (fun j => !ok j)).foldl (fun s j => match j.entry with
    | some e => returnWake e s
    | none => s) s, js.filter ok)

/-- Every candidate of slot `a` in the order of R184. -/
def candidates (a : Nat) (s : State) : State × List Carrier :=
  let b := slotBeacons a s
  let beacons := b.2.filter (fun c => txBlocked s a c.band == 0)
  let w := if quiescedAt s a ∨ txBlocked s a 0 ≠ 0 then (b.1, []) else buildTelegram a b.1
  let fa := freeJobs a (byNode (ackJobs w.1 a)) w.1
  let acks := fa.2.foldl (buildJob a) (fa.1, [])
  let dl := if quiescedAt s a then (acks.1, []) else
    ((slotCells acks.1 a).filter (fun c => c.kind == 1 && txBlocked s a (panBand s c.pan) == 0)).foldl (downlinkJob a) (acks.1, [])
  let fd := freeJobs a (byNode (dl.2 ++ joinJobs dl.1 a ++ followJobs dl.1 a)) dl.1
  let downs := fd.2.foldl (buildJob a) (fd.1, [])
  let g := if ((dueFollowups downs.1 a).find? (fun w => w.type == 2 && txBlocked s a (panBand s w.pan) != 0)).isSome then
      (((dueFollowups downs.1 a).filter (fun w => w.type == 2)).foldl (fun s w => returnWake (2, w.addr) s) downs.1, [])
    else groupFollowup a downs.1
  (g.1, beacons ++ w.2 ++ acks.2 ++ downs.2 ++ g.2)

/-- Follow-ups of a slot that offers nothing go back to the queue (R225, R252). -/
def returnFollowups (a : Nat) (s : State) : State := (dueFollowups s a).foldl (fun s w => returnWake (w.type, w.addr) s) s

/-! ### Receive cells (R147, R153, R174, R206, R214, R217, R251, R253) -/

/-- ceil((P + W) / R) of a profile in us. -/
def headUs (p : Profile) : Nat := (headBits p * 1000 + phyRate p.phy - 1) / phyRate p.phy

/-- w_need of R251 for an uplink cell of slot `a`. -/
def needW (s : State) (a : Nat) (r : NodeRec) (p : Profile) : Nat :=
  let dt := (startNs s a - startNs s r.presumed).toNat
  odNat s 0x5001 1 + headUs p + ((r.res + odNat s 0x5001 2) * dt + 99999999999) / 100000000000 + r.stepAdd

/-- The half-width of a node's uplink cell, recorded in HALF_WIDTH; an ACTIVE node beyond 2,500 us enters DESYNC (R251). -/
def halfWidth (a n : Nat) (p : Profile) (s : State) : State × Nat :=
  let r := nodeRec s n
  let need := needW s a r p
  match r.st with
  | .active =>
    if need ≤ 2500 then
      let w := max 100 need
      (modNode n (fun r => { r with halfWidth := w }) s, w)
    else (modNode n (fun r => { r with halfWidth := 2500 }) (desyncNode n s), 2500)
  | .joining =>
    let w := max 100 (min 2500 need)
    (modNode n (fun r => { r with halfWidth := w }) s, w)
  | _ => (modNode n (fun r => { r with halfWidth := 2500 }) s, 2500)

/-- A receive cell of slot `a` on a channel, with its window. -/
def rxCell (s : State) (a : Nat) (row kind pan freq profile w : Nat) : RxCell :=
  let p := profileOf s profile
  let code := (epochFor s a).code
  { engine := 0, row := row, kind := kind, pan := pan, band := panBand s pan, freq := freq, profile := profile
    maxCoded := effMax p true code, maxPlain := effMax p false code, openUs := cellOffset s a - w, closeUs := cellOffset s a + w }

/-- One own cell of slot `a`, where it is to be served. -/
def ownCell (a : Nat) (taken : List Nat) (x : State × List RxCell) (c : Cell) : State × List RxCell :=
  let s := x.1
  let freq := chanFreq s c.pan (hopChannel s c.pan a c.choff)
  let prof := classProfile s c.cls
  let mk (w : Nat) (n : Option Nat) : RxCell :=
    { rxCell s a c.row c.kind c.pan freq prof w with node := n, glaze := classFlag s c.cls 2, gack := c.gack }
  if c.kind = 3 then (if taken.contains c.row then x else (s, x.2 ++ [mk 2500 none]))
  else if c.kind = 0 then
    match occupantAt s c a with
    | some n =>
      if admitsUp (nodeRec s n) a ∧ ¬ (nodeKey s n).poisoned then
        let h := halfWidth a n (profileOf s prof) s
        (h.1, x.2 ++ [mk h.2 (some n)])
      else x
    | none => x
  else x

/-- Receive cells for the sync confirms expected in slot `a` (R253). -/
def confirmCells (s : State) (a : Nat) : List RxCell :=
  s.nod.recs.filterMap (fun e =>
    match e.2.followup with
    | some x =>
      if x.1 + x.2 + 2 = a then
        let prof := panField s e.2.pan 14 1 % 16
        some { rxCell s a noRow 0 e.2.pan (beaconFreq0 s e.2.pan) prof (odNat s 0x5001 1 + headUs (profileOf s prof)) with node := some e.1 }
      else none
    | none => none)

/-- Cells in ascending order of band, centre and row (R153). -/
def rxOrder (l : List RxCell) : List RxCell :=
  l.mergeSort (fun x y => decide (x.band < y.band) || (x.band == y.band && (decide (x.freq < y.freq) || (x.freq == y.freq && decide (x.row ≤ y.row)))))

/-- Whether a channel can be received in the window of SG_RX_CENTRE (R147). A profile whose PHY does not belong to the PAN's band cannot be, and its
cell is unserved and counts in RX_UNSERVED row 0: the spec does not say (DESIGN CHOICE, log entry 178). -/
def onGrid (s : State) (c : RxCell) : Bool :=
  if ((cellProfile s c).phy == 5) != (c.band == 1) then false
  else if c.band = 1 then s.chip.fPackage
  else
    let n : Int := phyBins (cellProfile s c).phy
    let d : Int := (c.freq : Int) - objCentre s 0 - (if n % 2 = 0 then 100000 else 0)
    let k : Int := 128 + d / 200000
    let lo : Int := if n % 2 = 0 then k - n / 2 + 1 else k - (n - 1) / 2
    decide (d % 200000 = 0) && decide (4 ≤ lo) && decide (lo + n - 1 ≤ 251)

/-- Whether a carrier of the slot excludes a receive cell (R174). -/
def excluded (s : State) (c : RxCell) (cs : List Carrier) : Bool :=
  cs.any (fun d => d.band == c.band &&
    decide (2 * ((c.freq : Int) - d.freq).natAbs < phyWidth (cellProfile s c).phy + d.width + 2000000))

/-- Receive paths of a band, and their numbers in Table 17-5. -/
def rxPaths (band : Nat) : List (Nat × Nat) := if band = 0 then [(0, 0), (1, 1)] else [(2, 3), (3, 4)]

/-- Why no receive path of a band serves slot `a`: 0 one does, 1 released or silenced, 2 out of service, 3 none is powered. -/
def rxBlocked (s : State) (a band : Nat) : Nat :=
  let st := ((rxPaths band).filter (fun p => pathPowered s p.1)).map (fun p => pathBlocked s a p.2)
  if st.contains 0 then 0 else if st.contains 1 then 1 else if st.contains 2 then 2 else 3

/-- The outcome of one cell: served by the next free engine, or unserved and counted. -/
structure Assign where
  free : List Nat
  given : List RxCell := []
  deriving DecidableEq, Repr

/-- Gives one cell an engine, or counts why not (R147, R153, R156, R175, R217, R228); a listen cell is also counted as served or unserved
(R273), and for want of a spare engine only there while capacity is whole. -/
def assignCell (a : Nat) (cs : List Carrier) (x : State × Assign) (c : RxCell) : State × Assign :=
  let s := if c.partner then glazeCount 1 x.1 else x.1
  let why := rxBlocked s a c.band
  if why = 1 ∨ why = 2 then (countBlocked why 1 s, x.2)
  else if why = 3 ∨ ¬ onGrid s c then (bump 0x3110 2 0 s, x.2)
  else if x.2.given.any (fun d => d.band == c.band && d.freq == c.freq) then (bump 0x4014 1 0 s, x.2)
  else if excluded s c cs then (bump 0x3200 2 0 s, x.2)
  else match x.2.free with
    | e :: rest =>
      (if c.partner then glazeCount 0 x.1 else s, { free := rest, given := x.2.given ++ [{ c with engine := e }] })
    | [] => (if c.partner ∧ needed s ≤ healthyCount s then s else bump 0x3110 2 1 s, x.2)

/-- Engines of slot `a` given to its cells: own cells, then listen cells (R153). -/
def assignRx (a : Nat) (taken : List Nat) (cs : List Carrier) (s : State) : State × List RxCell :=
  let own := if offersRx s a then (slotCells s a).foldl (ownCell a taken) (s, []) else (s, [])
  let cells := rxOrder (own.2 ++ (if offersRx s a then confirmCells own.1 a else []))
  let free := servingEngines own.1 (startNs s a).toNat
  let x := cells.foldl (assignCell a cs) (own.1, { free := free })
  let y := (rxOrder (listenCells x.1 a)).foldl (assignCell a cs) x
  (y.1, y.2.given)

/-! ### Gains (R125, R126, R137) -/

/-- Band of a receive path. -/
def pathBand (p : Nat) : Nat := p / 2

/-- The transmit aerial of each band that carries something in slot `a`. -/
def slotAerials (s : State) (a : Nat) (cs : List Carrier) : List (Option Nat) :=
  [0, 1].map (fun b => if cs.any (fun c => c.band == b) then some (txAerialOf s b a) else none)

/-- The gains of slot `a`, with g_env_last as they leave it. -/
def slotGains (cs : List Carrier) (aer : List (Option Nat)) (s : State) : State × List (Option Nat) :=
  [0, 1, 2, 3].foldl (fun x p =>
    let levels := (cs.filter (fun c => c.band == pathBand p)).map (fun c => rowLevel c.band c.powerRow)
    let g := planGain x.1 p levels ((aer[pathBand p]?).getD none)
    ({ x.1 with rf := { x.1.rf with paths := modAt (fun q => { q with envLast := g.2 }) x.1.rf.paths p } }, x.2 ++ [g.1])) (s, [])

/-! ### The plan and its commit mark (R17, R196, R229, R319) -/

/-- Prepares slot `a` on the state that it will find. -/
def planSlot (a : Nat) (s : State) : State × SlotPlan :=
  let s0 := countTxBlocked a s
  let tx := if offersTx s a then candidates a s0 else (returnFollowups a s0, [])
  let adm := admitAll a tx.2 tx.1
  let taken := (joinJobs s a).filterMap (fun j => if adm.2.any (fun c => c.code == 1 && c.node == some j.node) then j.shared else none)
  let rx := assignRx a taken adm.2 adm.1
  let aer := slotAerials rx.1 a adm.2
  let g := slotGains adm.2 aer rx.1
  (g.1, { asn := a, quiet := false, rx := rx.2, tx := adm.2, txAerial := aer, gains := g.2, released := releasedPaths s a
          engines := engineSets rx.1 (startNs s a).toNat })

/-- Tokens deducted for the downlink frames of a slot (R319). -/
def deductTokens (cs : List Carrier) (s : State) : State :=
  cs.foldl (fun s c =>
    match c.kind, c.node with
    | .downlink, some n =>
      if dlRate s n = 0 then s else setTokens n (dlTokensAt s n s.clk.elapsed - c.charge * 65536) s.clk.elapsed s
    | _, _ => s) s

/-- What the commit mark of a slot with a beacon commits: an announced change or the end-of-service mark (R44, R47), and the quiet notices
that the beacon carries (R418). -/
def commitNotices (a : Nat) (p : SlotPlan) (s : State) : State :=
  if p.tx.any (fun c => c.kind == .beacon || c.kind == .tick) then
    let full := p.tx.any (fun c => c.kind == .beacon)
    let carried := (full && (modeNotice s a).isSome) || endMark s a
    let s1 := match s.ctl.change with
      | some c => if carried then { s with ctl := { s.ctl with change := some { c with committed := true } } } else s
      | none => s
    let rows := (openNotices s1 a).map (·.calRow)
    { s1 with
      eas := { s1.eas with notices := s1.eas.notices.map (fun q => { q with committed := true }) }
      shd := { s1.shd with cal := s1.shd.cal.mapIdx (fun i r => if r.force ∧ r.st = 1 ∧ rows.contains i then { r with committed := true } else r) } }
  else s

/-- The commit mark of slot `a`, with the dwell charges and the token deductions. -/
def commitSlot (a : Nat) (p : SlotPlan) (s : State) : State :=
  let s1 := commitNotices a p (deductTokens p.tx (chargeSlot a p.tx s))
  { s1 with eas := { s1.eas with commitMark := some a } }

/-! ### What else a preparation window does -/

/-- At the opening of the window of slot E - 1 a step's amount is fixed, or the request ends without effect (R108). -/
def fixStep (a : Nat) (s : State) : State :=
  match s.clk.stepReq with
  | some r =>
    if r.fixed.isNone ∧ r.slot ≤ a + 1 then
      if s.clk.stepPending then
        { s with clk := { s.clk with stepReq := some { r with fixed := some s.clk.stepAmount } }, eas := { s.eas with stepSlot := some a } }
      else logEvent 0x19 1 (beInt 8 s.clk.offset) { s with clk := { s.clk with stepReq := none } }
    else s
  | none => s

/-- A region is taken up as the window of its first slot opens (R347, R348, R351, R352): its configuration is adopted, and slots are numbered
by its epoch. A change still pending is overridden and logged (R46). -/
def takeUp (i : Incoming) (s : State) : State :=
  let s1 := match i.kind, s.hed.mirrors.find? (fun m => m.region == i.region) with
    | 1, _ => s
    | _, some m => { adoptRegion m s with clk := { s.clk with oldEpochs := [], ran := none } }
    | _, none => s
  let s1 := dropChange 1 s1
  { s1 with
    hed := { s1.hed with incoming := some { i with adopted := true } }
    eas := { s1.eas with next := s1.eas.next.map (fun _ => i.eff) }
    ctl := { s1.ctl with change := (modeOf i.mode).map (fun m =>
      { target := m, kind := .atSlot, eff := i.eff, set := odNat s1 0x4010 1, committed := true }) } }

/-- Network time of E of a region that is on its way to the unit, by the region's epoch. -/
def incomingStart (i : Incoming) (s : State) : Int :=
  match i.kind, (s.hed.mirrors.find? (fun m => m.region == i.region)).bind (·.snapshot) with
  | 1, _ => startNs s i.eff
  | _, some v =>
    match (exportEntries v).find? (fun e => e.1 == odKey 0x2100 1 0) with
    | some e => epochStart (decodeEpoch e.2) i.eff
    | none => startNs s i.eff
  | _, none => startNs s i.eff

/-- Takes up an incoming region whose E is at or before the start of slot `a`. -/
def takeUpDue (a : Nat) (s : State) : State :=
  match s.hed.incoming with
  | some i => if ¬ i.adopted ∧ incomingStart i s ≤ startNs s a then takeUp i s else s
  | none => s

/-- Staged operations of slot `a`'s offset are applied, and records that have none left are freed (R220). -/
def applyStaged (a : Nat) (s : State) : State :=
  let off := offsetOf s a
  { s with eas := { s.eas with
    changes := (s.eas.changes.map (fun r => if r.eff ≤ a then { r with offsets := r.offsets.filter (fun o => o != off) } else r)).filter
      (fun r => r.offsets != []) } }

/-- Whether a node's uplink of slot `b` was accepted or is still on its way. -/
def heardIn (s : State) (b n : Nat) : Bool :=
  let r := nodeRec s n
  r.lastRx == b || r.held.any (fun u => u.asn == b) || s.nod.mac.any (fun m => m.asn == b && m.cell.node == some n)

/-- The presumption of a node goes back to what it reported (R250). -/
def withdrawPresumed (n : Nat) (s : State) : State := modNode n (fun r => { r with presumed := r.syncAsn }) s

/-- Served uplink cells of the slot in progress in which nothing is accepted (R250); a cell that Glaze is to decide waits for the decision. -/
def withdrawSilent (s : State) : State :=
  if s.eas.active.quiet then s
  else (s.eas.active.rx.filter (fun c => !c.partner && c.kind == 0)).foldl (fun s c =>
    match c.node with
    | some n => if heardIn s s.eas.active.asn n || glazeListed s s.eas.active.asn n then s else withdrawPresumed n s
    | none => s) s

/-- The standing quiet configuration (R231): a listener on each beacon channel of each enabled PAN that the window can receive (R147). -/
def standingCells (a : Nat) (s : State) : List RxCell :=
  let cells := ((pansOn s).flatMap (fun pan => (beaconChans s pan).map (fun i =>
    rxCell s a noRow 3 pan (chanFreq s pan i) (panField s pan 14 1 % 16) 2500))).filter (onGrid s)
  (cells.zip (servingEngines s (startNs s a).toNat)).map (fun x => { x.1 with engine := x.2 })

/-- Calibration requests whose opportunity is slot `a` are past their commit point (R418). -/
def commitCal (a : Nat) (s : State) : State :=
  { s with shd := { s.shd with cal := s.shd.cal.map (fun r => if ¬ r.force ∧ r.st = 1 ∧ r.asn = a then { r with committed := true } else r) } }

/-- EASEL_PREP_LAST and EASEL_PREP_MAX (R230). -/
def notePrep (us : Nat) (s : State) : State :=
  let u := min us 65535
  odPut 0x4000 3 0 (beOct 2 (max u (odNat s 0x4000 3))) (odPut 0x4000 2 0 (beOct 2 u) s)

/-- What is done before the slot is planned. -/
def prepareState (a : Nat) (s : State) : State :=
  let s1 := commitCal a (withdrawSilent (settlePartners a (applyStaged a (fixStep a s))))
  if beaconSlot s1 a then { s1 with eas := { s1.eas with standing := standingCells a (ahead a s1) } } else s1

/-- Prepares slot `a`; an overrun leaves its commit mark unwritten (R17, R231), and a step slot is prepared quiet (R109). -/
def prepareSlot (a prepUs : Nat) (overrun : Bool) (s : State) : State :=
  let s1 := prepareState a s
  let clean (t : State) : State := { t with nod := { t.nod with acks := t.nod.acks.filter (fun d => decide (a < d.asn)) } }
  if s1.eas.stepSlot = some a then
    notePrep prepUs (clean (returnFollowups a { s1 with eas := { s1.eas with nextPlan := { asn := a } } }))
  else
    let p := planSlot a (ahead a s1)
    let t := p.1
    let t1 := { t with eas := { t.eas with nextPlan := p.2 } }
    notePrep prepUs (clean (unahead a s1 (if overrun then t1 else commitSlot a p.2 t1)))

/-- The step that is fixed for the slot after the one in progress, where there is one. -/
def stepDue (s : State) : Option (Int × Nat) :=
  match s.clk.stepReq with
  | some r =>
    match r.fixed with
    | some d => if s.eas.next = some r.slot ∧ s.eas.asn + 1 = r.slot then some (d, r.slot) else none
    | none => none
  | none => none

/-- Time passes to the opening of slot `a`'s preparation window, 2 ms before the slot starts (R229). Before a step of R109 the slot starts
when the clock that is not yet stepped reads start - d; a step back by 2 ms or more comes before the window. None where the step ends
slot E - 1 early and passes over slots. -/
def openWindow (a : Nat) (s : State) : Option State :=
  match stepDue s with
  | some (d, e) =>
    if e ≠ a ∨ d = 0 then some (advanceNs (startNs s a - 2000000).toNat s)
    else if (slotNs (epochFor s (e - 1)).code : Int) - 200000 < d then none
    else if d ≤ -2000000 then
      let t := applyStep d (advanceNs (startNs s e).toNat s)
      some (advanceNs (startNs t a - 2000000).toNat t)
    else some (advanceNs (startNs s a - d - 2000000).toNat s)
  | none => some (advanceNs (startNs s a - 2000000).toNat s)

/-- PREPARATION_WINDOW_OPEN (R229): 2 ms before the next slot, once; a patch routine that trapped leaves its commit mark unwritten (R400);
`bad` gives the managed-store addresses whose reads in the window are poisoned (R29). -/
def execPreparationWindowOpen (prepUs : Nat) (overrun : Bool) (bad : List Nat) (s : State) : Host.Outcome State Fault Refusal :=
  match s.eas.next with
  | some a0 =>
    if s.eas.restarting ∨ s.eas.nextPlan.asn = a0 then done s s
    else match openWindow a0 s with
    | none => done s s
    | some s0 =>
      let s1 := takeUpDue a0 s0
      let s2 := bad.foldl (fun s a => poisonRead a s) { s1 with eas := { s1.eas with trapped := false } }
      let s3 := prepareSlot (s1.eas.next.getD a0) prepUs (overrun || s.eas.trapped) s2
      done s { s3 with eas := { s3.eas with absent := [] } }
  | none => done s s

end Sys2Proof.Machine
end

