-- ==== Sys2Proof/Machine/Nodes.lean ====
section
/-!
DEFINITION. Nodes (spec/10, with R369, R371 and R374 of spec/15): what a lane makes of a received frame, joining, classification of
uplinks, acknowledgement, supervision, quarantine, registration; and the end of a receive window.
-/

namespace Sys2Proof.Machine

/-! ### Where a frame was heard -/

/-- The profile row under which an uplink was received. -/
def ulProfile (s : State) (pan : Nat) (u : UlRec) : Nat := if u.row = noRow then panField s pan 14 1 % 16 else classProfile s u.cls

/-- Whether the unit can still offer an acknowledgement in slot `a`: its preparation window has not opened (R208, R257). -/
def inTimeFor (s : State) (a : Nat) : Bool := s.eas.next == some a && s.eas.nextPlan.asn != a

/-- The profile row of a frame at the position of R256 in slot `a`: that of the ACK cell there (R215); of the uplink cell itself where a REJOIN
answers a cell that has none (log entry 163). -/
def ackProfile (s : State) (a : Nat) (c : Cell) : Nat :=
  match (slotCells s a).find? (fun k => k.kind == 2 && k.pan == c.pan && k.choff == c.choff) with
  | some k => classProfile s k.cls
  | none => classProfile s c.cls

/-- An acknowledgement or directive at the position of R256 for an uplink of a node. -/
def offerAck (n : Nat) (u : UlRec) (dup : Bool) (rejoin : Option Nat) (s : State) : State :=
  let c := cellOf s u.row
  if u.row = noRow ∨ ¬ inTimeFor s (u.asn + 1) ∨ s.nod.acks.any (fun d => d.asn == u.asn + 1 && d.node == n) then s
  else
    { s with nod := { s.nod with acks := s.nod.acks ++
      [{ asn := u.asn + 1, node := n, pan := c.pan, choff := c.choff, profile := ackProfile s (u.asn + 1) c, seq := u.frame.seq, dup := dup
         timeCorr := if u.timed then (nodeRec s n).timeCorr else -32768, rejoin := rejoin }] } }

/-! ### Joining (R245, R246, R369, R371) -/

/-- The PAN row of a PAN identifier, among those enabled. -/
def panRowOf (s : State) (panId : Nat) : Option Nat := (pansOn s).find? (fun p => panField s p 2 2 == panId)

/-- A node enters JOINING with an accepted join request (R245). -/
def enterJoining (n asn fc : Nat) (s : State) : State :=
  touchNode n (dropWake n (modNode n (fun r => { r with
    st := .joining, joinFc := fc, jfcValid := true, seqValid := false, fcValid := false, modeInformed := false, mapInformed := false
    wakeTries := 0, qend := 0, quarantine := false, lastRx := asn, first := true, rejoin := none, followup := none }) s))

/-- The shadow of a new session key goes to the region's spare, and its directive waits for the answer (R371). -/
def sendNodeShadow (n sf : Nat) (s : State) : State :=
  let s1 := if s.hed.spare.isSome then { s with hed := { s.hed with shadowWait := s.hed.shadowWait.filter (fun w => w.1 != n) ++ [(n, sf)] } } else s
  (shadowUnits s).foldl (fun s a => oweShadow true { dst := a, node := some n } s) s1

/-- An authenticated join request (R245), in its order; PAN is that of the SHARED cell, or of the standing listener (R231), that heard it. -/
def joinRequest (m : MacFrame) (s : State) : State :=
  let f := m.frame
  let pan := m.cell.pan
  let sf := sfIndex s m.asn
  if m.cell.kind ≠ 3 ∨ panField s pan 25 1 ≠ 1 then linkEvent 13 s
  else
    let seen := (s.nod.joinRate[pan]?).getD (0, 0)
    let count := if seen.2 = sf then seen.1 + 1 else 1
    let s1 := { s with nod := { s.nod with joinRate := setAt s.nod.joinRate pan (count, sf) } }
    if odNat s 0x5001 3 < count then linkEvent 4 s1
    else
      let n := (lookup s.tre 1 (beOct 8 f.srcEui)).map (·.value)
      let stale := match n with
        | some n => (nodeRec s n).jfcValid && decide (f.counter ≤ (nodeRec s n).joinFc)
        | none => false
      if stale then linkEvent 1 s1
      else match n with
        | some n =>
          if ¬ (nodeRec s n).poisoned ∧ (nodeCells s (odNat s 0x4010 1) n).any (fun x => x.1.kind == 0) then
            let s2 := formNodeKey n (nodeRec s1 n).pan (enterJoining n m.asn f.counter s1)
            let s3 := { s2 with nod := { s2.nod with joins := s2.nod.joins.filter (fun j => j.node != n) ++
              [{ node := n, row := m.cell.row, sf := sf, slot := offsetOf s m.asn, pan := pan, freq := m.cell.freq, profile := m.cell.profile }] } }
            sendNodeShadow n sf s3
          else linkEvent 3 (logEvent 0x30 1 (beOct 8 f.srcEui) s1)
        | none => linkEvent 3 (logEvent 0x30 1 (beOct 8 f.srcEui) s1)

/-- The PAN row whose JOIN_MASTER key gives the join key of an EUI-64 (R369): the node's, where it is registered, else that of the frame. -/
def joinPan (f : RxFrame) (s : State) : Option Nat :=
  match lookup s.tre 1 (beOct 8 f.srcEui) with
  | some e => some (regPan s e.value)
  | none => panRowOf s f.panId

/-- A frame of key identifier mode 0 at its lane (R374): the join key of the EUI-64 and the MIC, then R245; with no key that is usable it counts in row 2,
and a body that is no join request in row 11 (log entry 180). -/
def laneJoin (m : MacFrame) (s : State) : State :=
  match (joinPan m.frame s).bind (joinMaster s) with
  | none => secCount 2 s
  | some h =>
    if useFault s h 1 ≠ 0 ∨ s.chip.lifeCycle ≠ 2 then secCount 2 s
    else
      let s1 := countUse h s
      if ¬ micVerifies m.frame (joinKey (keyValue s h) m.frame.srcEui) (nodeNonce m.frame.srcEui m.frame) then secCount 0 s1
      else if m.frame.ztype = 0x11 then joinRequest m s1
      else secCount 11 s1

/-! ### A frame at its lane (R374) -/

/-- The release record of a node's uplink. -/
def ulRec (s : State) (m : MacFrame) (n : Nat) : UlRec :=
  { frame := m.frame, asn := m.asn, stamp := (startNs s m.asn).toNat + m.offsetNs, row := m.cell.row
    cls := if m.cell.row = noRow then 0 else (cellOf s m.cell.row).cls, gack := m.cell.gack, ownCell := m.cell.node == some n
    shared := m.cell.kind == 3 }

/-- Whether the class of a release record has a flag. -/
def ulFlag (s : State) (u : UlRec) (b : Nat) : Bool := u.row != noRow && classFlag s u.cls b

/-- Whether an uplink is stale by R261. -/
def isStale (r : NodeRec) (f : RxFrame) : Bool :=
  r.fcValid && decide (f.counter ≤ r.highFc) && !(r.seqValid && f.seq == r.lastSeq)

/-- A frame that is held back behind a Glaze decision is acknowledged when it arrives (R19, R257). -/
def ackHeldBack (n : Nat) (u : UlRec) (s : State) : State :=
  let r := nodeRec s n
  if r.held.any (·.awaiting) ∧ ulFlag s u 1 ∧ ¬ u.shared ∧ ¬ isStale r u.frame then
    offerAck n { u with timed := false } ((r.seqValid && u.frame.seq == r.lastSeq) || r.held.any (fun h => h.awaiting && h.heldSeq == some u.frame.seq)) none s
  else s

/-- The node that an uplink under a short address comes from, by its session key: its index, its use and the MIC (R374), and that its body is an
uplink (log entry 180); each refusal is counted. -/
def authUplink (f : RxFrame) (s : State) : State × Option Nat :=
  match lookup s.tre 2 (beOct 2 f.panId ++ beOct 2 f.srcShort) with
  | none => (linkEvent 2 s, none)
  | some e =>
    let n := e.value
    if f.keyIndex ≠ (nodeKey s n).keyIndex then (secCount 1 s, none)
    else if ¬ nodeKeyUsable s n then (secCount 2 s, none)
    else if ¬ micVerifies f (nodeKey s n).value (nodeNonce (nodeRec s n).eui f) then (secCount 0 s, none)
    else if f.ztype ≠ 0x10 ∧ f.ztype ≠ 0x12 then (secCount 11 s, none)
    else (s, some n)

/-- Frames of a node that Glaze still holds and whose SEQ a frame decoded directly carries are superseded: their decisions are withdrawn and
counted (R262). -/
def supersede (n seq : Nat) (s : State) : State :=
  let out (u : UlRec) : Bool := u.awaiting && u.heldSeq == some seq
  let gone := (nodeRec s n).held.filter out
  gone.foldl (fun s u => linkEvent 5 { s with gla := { s.gla with
      decs := s.gla.decs.filter (fun d => !(d.asn == u.asn && d.node == n))
      recs := s.gla.recs.filter (fun r => !(r.owner == 0xFFFF && r.asn == u.asn && r.node == n)) } })
    (modNode n (fun r => { r with held := r.held.filter (fun u => !out u) }) s)

/-- An uplink under a short address enters its node's release order. -/
def laneUplink (m : MacFrame) (s : State) : State :=
  match authUplink m.frame s with
  | (s1, some n) =>
    let u := ulRec s1 m n
    modNode n (fun r => { r with held := r.held ++ [u] }) (supersede n m.frame.seq (ackHeldBack n u s1))
  | (s1, none) => s1

/-- A received frame at its lane, in the order of R374. -/
def laneFrame (m : MacFrame) (s : State) : State :=
  if ¬ m.frame.formOk ∨ m.fcs2 then secCount 11 s
  else if m.frame.counter = 0xFFFFFFFF then secCount 3 s
  else if m.frame.ofEui then laneJoin m s
  else laneUplink m s

/-- CCM_LANE_FRAME (R374): one of the eight lanes takes the oldest frame waiting. -/
def execCcmLaneFrame (lane : Nat) (s : State) : Host.Outcome State Fault Refusal :=
  match s.nod.mac with
  | m :: rest => if lane < 8 then done s (laneFrame m { s with nod := { s.nod with mac := rest } }) else done s s
  | [] => done s s

/-! ### Timing (R240, R249) -/

/-- SYNC_ASN expanded to the highest ASN at or below the slot of reception (R240). -/
def expandSync (asn low : Nat) : Nat :=
  let v := asn / 2 ^ 24 * 2 ^ 24 + low % 2 ^ 24
  if v ≤ asn then v else v - 2 ^ 24

/-- e of R249 in ns. -/
def timingError (s : State) (pan : Nat) (u : UlRec) : Int :=
  let p := profileOf s (ulProfile s pan u)
  (u.stamp : Int) - (startNs s u.asn + cellOffset s u.asn * 1000 + headBits p * 1000000 / phyRate p.phy)

/-- The residual-drift estimate after a measurement (R249). -/
def newRes (r : NodeRec) (e : Int) (dtNs : Nat) : Nat :=
  if dtNs < 10000000000 then r.res
  else
    let m := (e.natAbs * 100000000 + dtNs - 1) / dtNs
    if r.first ∨ r.res ≤ m then m else r.res - (r.res - m) / 8

/-- TIME_CORR of an error: minus its nearest whole number of us, clamped. -/
def corrOf (e : Int) : Int := clampInt (-32767) 32767 (-((e + 500) / 1000))

/-- The update of R249. -/
def timingUpdate (n : Nat) (u : UlRec) (s : State) : State :=
  if ¬ u.timed then s
  else
    let r := nodeRec s n
    let e := timingError s r.pan u
    let sync := expandSync u.asn u.frame.syncAsn
    let missed := decide (sync < r.presumed)
    let s1 := modNode n (fun r => { r with
      res := min 65535 (newRes r e (startNs s u.asn - startNs s sync).toNat), timeCorr := corrOf e, presumed := sync, syncAsn := sync, stepAdd := 0
      first := false, syncMiss := if missed then (r.syncMiss + 1) % 65536 else r.syncMiss }) s
    if missed then linkEvent 7 s1 else s1

/-! ### Release (R254, R255, R257, R260 to R263, R266, R267) -/

/-- What the node's DL_ACK says of the downlink frame at the head of its queue; one given up is counted (R260). -/
def dlAckProcess (n ack : Nat) (s : State) : State :=
  let s1 := modNode n (fun r => { r with dlAcked := ack }) s
  match dlQueue s1 n with
  | f :: rest =>
    if f.sent = 0 then s1
    else if (ack + 256 - f.dlSeq) % 256 < 128 then setDlQueue n rest s1
    else if odNat s 0x5001 7 < f.sent then setDlQueue n rest { s1 with nod := { s1.nod with dlGivenUp := (s1.nod.dlGivenUp + 1) % 2 ^ 32 } }
    else setDlQueue n ({ f with wait := false } :: rest) s1
  | [] => s1

/-- MODE_SEEN and MAP_SEEN, while the matching notice is pending (R255). -/
def noteSeen (n flags : Nat) (s : State) : State :=
  let mode := match s.ctl.change with
    | some c => c.kind == .announced
    | none => false
  modNode n (fun r => { r with
    modeInformed := r.modeInformed || (bit flags 0 && mode)
    mapInformed := r.mapInformed || (bit flags 1 && s.eas.maps != []) }) s

/-- The state of a node after an accepted uplink (Table 10-2). -/
def acceptState (n : Nat) (s : State) : State :=
  let r := nodeRec s n
  match r.st with
  | .joining => modNode n (fun r => { r with st := .active }) s
  | .desync => modNode n (fun r => { r with st := .active, wakeTries := 0, followup := none }) s
  | .lost => nodeLog 0x81 n (linkEvent 11 (modNode n (fun r => { r with st := .active, qend := 0, quarantine := false }) s))
  | _ => s

/-- The PSDU of an accepted uplink is kept by the slot and row of its cell, against what partners decoded there (R285); what is older than the
longest retention is forgotten (log entry 198). -/
def keepAccepted (u : UlRec) (s : State) : State :=
  if ¬ s.chip.hFabric then s
  else { s with gla := { s.gla with accepted := s.gla.accepted.filter (fun x => decide (u.asn ≤ x.1 + 33)) ++ [(u.asn, u.row, u.frame.psdu)] } }

/-- An accepted uplink, new or duplicate: its node's record, timing and state, the GACK bit, the downlink queue and the acknowledgement. -/
def acceptUplink (n : Nat) (u : UlRec) (dup : Bool) (s : State) : State :=
  let s1 := modNode n (fun r => { r with lastRx := max r.lastRx u.asn, ulStamp := u.stamp, rssi := u.frame.rssi, lq := u.frame.lq }) s
  let s2 := timingUpdate n u (acceptState n s1)
  let s3 := dlAckProcess n u.frame.dlAck (noteSeen n u.frame.uflags s2)
  let s4 := if u.ownCell ∧ ulFlag s u 0 ∧ u.gack ≠ 0xFFFF then { s3 with eas := { s3.eas with gack := s3.eas.gack ++ [(u.asn, u.gack)] } } else s3
  let s5 := keepAccepted u s4
  let heldToo := (nodeRec s n).held.any (fun h => h.awaiting && h.heldSeq == some u.frame.seq)
  touchNode n (if ulFlag s u 1 ∧ ¬ u.shared then offerAck n u (dup || heldToo) none s5 else s5)

/-- An uplink of an ACTIVE, DESYNC or JOINING node, or of a LOST one that R266 admits, counted where the node is not the cell's occupant (R263), and
classified (R261). -/
def classify (n : Nat) (u : UlRec) (s0 : State) : State :=
  let s := if u.ownCell then s0 else linkEvent 6 s0
  let r := nodeRec s n
  let f := u.frame
  if isStale r f then linkEvent 1 s
  else if r.seqValid ∧ f.seq = r.lastSeq then
    let s1 := modNode n (fun r => { r with highFc := max r.highFc f.counter, duplicates := (r.duplicates + 1) % 2 ^ 32 }) s
    acceptUplink n u true (linkEvent 0 s1)
  else
    let s1 := modNode n (fun r => { r with lastSeq := f.seq, highFc := f.counter, seqValid := true, fcValid := true }) s
    let s2 := acceptUplink n u false s1
    if f.ztype = 0x10 then uplinkPacket n f.packet (sendOwed s2) else s2

/-- A LOST or REGISTERED node speaks (R267): a REJOIN directive at the acknowledgement position, and a REJOIN telegram. -/
def staleSpeaker (n : Nat) (u : UlRec) (s : State) : State :=
  wakeNode 1 n (offerAck n { u with timed := false } false (some 1) (nodeLog 0x82 n (linkEvent 12 s)))

/-- The uplink at the head of a node's release order is released, unless Glaze still holds it (R19, R261). -/
def releaseHead (n : Nat) (s : State) : State :=
  let r := nodeRec s n
  match r.held with
  | u :: rest =>
    if u.awaiting then s
    else
      let s1 := modNode n (fun r => { r with held := rest }) s
      match r.st with
      | .free => linkEvent 2 s1
      | .registered => staleSpeaker n u s1
      | .lost => if u.ownCell ∧ u.asn < r.qend then classify n u s1 else staleSpeaker n u s1
      | _ => classify n u s1
  | [] => s

/-- UPLINK_RELEASE (R261). -/
def execUplinkRelease (n : Nat) (s : State) : Host.Outcome State Fault Refusal := done s (releaseHead n s)

/-! ### The end of a receive window (R157, R250) -/

/-- RECEIVE_WINDOW_CLOSE (R157): an engine still searching returns to IDLE, and a node that was not heard is no longer presumed in step
(R250). -/
def execReceiveWindowClose (i : Nat) (s : State) : Host.Outcome State Fault Refusal :=
  match engineCell s i with
  | some c =>
    if ¬ (engine s i).window then done s s
    else
      let s1 := modEngine i (fun e => { e with window := false }) (advanceNs ((startNs s s.eas.asn).toNat + c.closeUs * 1000) s)
      let s2 := if (engine s i).sfdSeen then s1 else bump 0x3110 3 2 s1
      let s3 := if (engine s i).st = .search then modEngine i (fun e => { e with st := .idle }) s2 else s2
      if (engine s i).receiving then done s s3
      else match c.partner, c.kind, c.node with
        | false, 0, some n => done s (if heardIn s3 s3.eas.asn n || glazeListed s3 s3.eas.asn n then s3 else withdrawPresumed n s3)
        | _, _, _ => done s s3
  | none => done s s

/-! ### Supervision, wake-up and quarantine (R246, R254, R264, R265) -/

/-- The boundary that opens superframe index `f`. -/
def sfBoundary (s : State) (f : Nat) : Nat := firstSlotAt s (f * 25600000000)

/-- A node is declared LOST in superframe `f` (R264, R265). -/
def declareLost (n f : Nat) (s : State) : State :=
  touchNode n (logEvent 0x31 1 (beOct 4 n) (linkEvent 10
    (modNode n (fun r => { r with st := .lost, qend := sfBoundary s (f + 2), quarantine := true, followup := none }) s)))

/-- Whether a node is supervised: JOINING, ACTIVE or DESYNC, with no frame that Glaze holds. -/
def supervised (r : NodeRec) : Bool :=
  (r.st == .joining || r.st == .active || r.st == .desync) && !r.held.any (·.awaiting)

/-- NODE_SUPERVISION_EXPIRY (R264): in the preparation window of a beacon slot. -/
def execNodeSupervisionExpiry (n : Nat) (s : State) : Host.Outcome State Fault Refusal :=
  let r := nodeRec s n
  match s.eas.next with
  | some a =>
    if beaconSlot s a ∧ supervised r ∧ sfIndex s r.lastRx + r.supSf < sfIndex s a then
      done s (declareLost n (sfIndex s a) (advanceNs (startNs s a - 2000000).toNat s))
    else done s s
  | none => done s s

/-- WAKE_FOLLOWUP_MISSED (R254): the slot of the sync confirm has passed. -/
def execWakeFollowupMissed (n : Nat) (s : State) : Host.Outcome State Fault Refusal :=
  let r := nodeRec s n
  match r.followup with
  | some x =>
    if s.eas.asn < x.1 + x.2 + 2 then done s s
    else
      let s1 := modNode n (fun r => { r with followup := none }) (advanceNs (startNs s (x.1 + x.2 + 3)).toNat s)
      if r.st ≠ .desync then done s s1
      else if odNat s 0x5001 4 < r.wakeTries + 1 then
        done s (declareLost n (sfIndex s1 s1.eas.asn) (nodeLog 0x83 n (linkEvent 9 s1)))
      else done s (wakeNode 0 n (modNode n (fun r => { r with wakeTries := r.wakeTries + 1 }) s1))
  | none => done s s

/-- JOIN_DIRECTIVE_EXPIRY (R246): still unsent after 4 superframes. -/
def execJoinDirectiveExpiry (n : Nat) (s : State) : Host.Outcome State Fault Refusal :=
  match s.nod.joins.find? (fun j => j.node == n) with
  | some j =>
    if sfIndex s ((s.eas.next).getD s.eas.asn) ≤ j.sf + 4 then done s s
    else
      let s1 := advanceNs ((j.sf + 5) * 25600000000) s
      done s { s1 with nod := { s1.nod with joins := s1.nod.joins.filter (fun j => j.node != n) } }
  | none => done s s

/-- Occupant rows that name a node and that no pending write names. -/
def quarantinedRows (s : State) (n : Nat) : List Nat :=
  s.od.filterMap (fun e =>
    if e.1 / 2 ^ 32 = 0x401301 ∧ beNat e.2 = n ∧ ¬ s.srv.pend.any (fun w => w.idx == 0x4013 && w.row == e.1 % 2 ^ 32) then
      some (e.1 % 2 ^ 32) else none)

/-- QUARANTINE_END (R265): at QEND the node's occupant rows are emptied, and it is in quarantine no longer;
a STORED change (R343). -/
def execQuarantineEnd (n : Nat) (s : State) : Host.Outcome State Fault Refusal :=
  let r := nodeRec s n
  if r.st = .lost ∧ r.quarantine ∧ atSlot s r.qend then
    let s1 := modNode n (fun r => { r with quarantine := false }) (advanceToSlot r.qend s)
    let rows := quarantinedRows s1 n
    let s2 := rows.foldl (fun s row => odPut 0x4013 1 row [0xFF, 0xFF, 0xFF, 0xFF] s) s1
    done s (if rows = [] then s2 else { s2 with hed := { s2.hed with dirty := true } })
  else done s s

/-! ### A change of a channel map (R212, R255) -/

/-- A pending map is in force, and every ACTIVE node that was not informed is desynchronised (R255, log entry 33). -/
def applyMap (m : MapChange) (s : State) : State :=
  let s1 := odPut 0x4032 1 m.pan m.map { s with
    eas := { s.eas with maps := s.eas.maps.filter (fun x => x.pan != m.pan) }
    srv := { s.srv with pend := s.srv.pend.filter (fun w => !(w.idx == 0x4032 && w.row == m.pan)) } }
  desyncUninformed (fun r => !r.mapInformed) s1

/-- MAP_CHANGE_EFFECTIVE (R212). -/
def execMapChangeEffective (pan : Nat) (s : State) : Host.Outcome State Fault Refusal :=
  match s.eas.maps.find? (fun m => m.pan == pan) with
  | some m => if atSlot s m.eff then done s (applyMap m (advanceToSlot m.eff s)) else done s s
  | none => done s s

/-! ### Registration (R244) -/

/-- The table entries of an index leave. -/
def dropEntries (n : Nat) (s : State) : State :=
  if regEui s n = 0 then s
  else tableDelete 2 (shortKey s (regPan s n) (regShort s n)) (tableDelete 1 (beOct 8 (regEui s n)) s)

/-- The node's queue and wake-up requests leave (R244). -/
def dropNodeWork (n : Nat) (s : State) : State :=
  setDlQueue n [] (dropWake n s)

/-- A node is freed: beside its queue and wake-up requests its tokens are zero (R320), and its directives leave. -/
def freeNodeWork (n : Nat) (s : State) : State :=
  let s1 := zeroTokens n (dropNodeWork n s)
  { s1 with nod := { s1.nod with joins := s1.nod.joins.filter (fun j => j.node != n), acks := s1.nod.acks.filter (fun d => d.node != n) } }

/-- The state that the checks of R244 see: a poisoned record counts as FREE. -/
def regState (s : State) (n : Nat) : NodeSt := if (nodeRec s n).poisoned then .free else (nodeRec s n).st

/-- The checks of R244 that are its own. -/
def nodeRegChecks (n : Nat) (v : Octets) (s : State) : List (Nat × Nat) :=
  let eui := fieldNat v 0 8
  let pan := fieldNat v 8 1
  let short := fieldNat v 10 2
  let changes := eui != regEui s n || pan != regPan s n || short != regShort s n
  let tx := fieldNat v 14 1
  let others := (regRows s).filter (fun m => m != n)
  if eui = 0 then []
  else
    failIf (changes && regState s n != .free && regState s n != .registered) stInvalidState s.ctl.mode.code ++
    failIf (decide (3 < pan) || (decide (63 < tx) && tx != 0xFF) || short == 0 || short == 0xFFFE || short == 0xFFFF ||
      others.any (fun m => regEui s m == eui || (regPan s m == pan && regShort s m == short))) stOutOfRange

/-- A registration is written (R244); where Trellis refuses its entries nothing changes but the count of refusals, and the flag is false. -/
def registerNode (n : Nat) (v : Octets) (s : State) : State × Bool :=
  let r := nodeRec s n
  let eui := fieldNat v 0 8
  let same := eui == regEui s n && fieldNat v 8 1 == regPan s n && fieldNat v 10 2 == regShort s n
  if eui = 0 then (touchNode n (setNode n {} (freeNodeWork n (odPut 0x5010 1 n (zeros 14 ++ [0xFF, 0]) (dropEntries n s)))), true)
  else if same ∧ ¬ r.poisoned ∧ r.st ≠ .free then
    (modNode n (fun r => { r with supSf := fieldNat v 12 2, txRow := fieldNat v 14 1 }) (odPut 0x5010 1 n v s), true)
  else
    let s1 := odPut 0x5010 1 n v (dropEntries n s)
    match nodeEntries s1 n with
    | [e1, e2] =>
      match tableInsert e1 s1 with
      | (_, .tableFull) => (bump 0x6400 3 0 s, false)
      | (s2, _) =>
        match tableInsert e2 s2 with
        | (_, .tableFull) => (bump 0x6400 3 0 s, false)
        | (s3, _) => (touchNode n (setNode n (regRecord s3 n) (dropNodeWork n s3)), true)
    | _ => (s, false)

end Sys2Proof.Machine
end

