-- ==== Sys2Proof/Machine/HrCheck.lean ====
section
/-!
DEFINITION. What a received Hedgerow message meets before its handler (R337): format, tag, replay, region epoch and forwarding; the
replay record and the FENCE that answers a stale epoch.
-/

namespace Sys2Proof.Machine

/-- Counts in an HR_COUNT row. -/
def hrCount (row : Nat) (s : State) : State := bump 0x7020 1 row s

/-- Logs a Hedgerow event with its subcode, region and epoch (Table 17-3). -/
def hrLog (sub region epoch : Nat) (s : State) : State :=
  logEvent 0x48 2 (beOct 1 sub ++ beOct 2 region ++ beOct 4 epoch) s

/-- The highest epoch known of a region (R337). -/
def knownEpoch (s : State) (region : Nat) : Nat :=
  if region = 0xFFFF then 0 else max (hrEpoch s region) (sget (fun _ => 0) s.hed.known region)

/-- Whether an epoch of a region is the one that a withdrawn handover announced: the holder keeps the region below it (R354). -/
def voidEpoch (s : State) (region epoch : Nat) : Bool :=
  match s.hed.withdrawn with
  | some w => w.2.1 == region && decide (epoch ≤ w.2.2)
  | none => false

/-- A higher epoch of a region becomes known. -/
def learnEpoch (region epoch : Nat) (s : State) : State :=
  if region = 0xFFFF ∨ voidEpoch s region epoch ∨ epoch ≤ sget (fun _ => 0) s.hed.known region then s
  else { s with hed := { s.hed with known := sset (fun _ => 0) s.hed.known region epoch } }

/-- Every region and epoch of a HELD list becomes known. -/
def learnHeld (held : List (Nat × Nat)) (s : State) : State := held.foldl (fun s h => learnEpoch h.1 h.2 s) s

/-- Whether a sequence number of a unit is new: above the highest, or within the 64 below it and not received (R337). -/
def seqFresh (s : State) (unit : Octets) (seq : Nat) : Bool :=
  match s.hed.replay.find? (fun r => r.1 == unit) with
  | none => true
  | some r => decide (r.2.1 < seq) || (decide (r.2.1 ≤ seq + 64) && seq != r.2.1 && !r.2.2.contains seq)

/-- Notes a received sequence number. -/
def noteSeq (unit : Octets) (seq : Nat) (s : State) : State :=
  let old := (s.hed.replay.find? (fun r => r.1 == unit)).map (·.2)
  let x : Nat × List Nat := match old with
    | none => (seq, [])
    | some (h, below) =>
      if h < seq then (seq, (h :: below).filter (fun q => decide (seq ≤ q + 64))) else (h, seq :: below)
  { s with hed := { s.hed with replay := s.hed.replay.filter (fun r => r.1 != unit) ++ [(unit, x)] } }

/-- The serial of the unit that holds a region at the highest epoch known: this unit, one in the database, an adjacency; zeros where none is
known. -/
def holderSerial (s : State) (region : Nat) : Octets :=
  let e := knownEpoch s region
  if s.hed.held.contains (region, e) then s.chip.serial
  else match s.hed.lsdb.find? (fun l => l.held.contains (region, e)) with
    | some l => l.serial
    | none => match s.hed.adj.find? (fun x => x.held.contains (region, e)) with
      | some x => x.serial
      | none => zeros 8

/-- REGION and EPOCH of the FENCE that answers a message: to the target of a withdrawn handover, those announced to it (R354). -/
def fenceOf (e : Env) (s : State) : Nat × Nat :=
  match s.hed.withdrawn with
  | some w => if w.1 = e.src then (w.2.1, w.2.2) else (e.region, knownEpoch s e.region)
  | none => (e.region, knownEpoch s e.region)

/-- FENCE answers a message with a stale epoch, at most once a second to each unit (R337). -/
def answerFence (e : Env) (s : State) : State :=
  match s.hed.fenced.find? (fun f => f.1 == e.unit) with
  | some f => if s.clk.elapsed < f.2 + secCycles then s else send
  | none => send
where
  send : State :=
    let s1 := { s with hed := { s.hed with fenced := s.hed.fenced.filter (fun f => f.1 != e.unit) ++ [(e.unit, s.clk.elapsed)] } }
    let f := fenceOf e s
    hrCount 4 (hrSendAs 0x12 e.src (spoken s f.1) (if s.hed.st = 3 then 0 else knownEpoch s f.1) .control
      (beOct 2 f.1 ++ beOct 4 f.2 ++ holderSerial s f.1) s1)

/-- A message for another unit goes on unchanged to the next hop, with FORWARDED set and a hop less (R337, R341). -/
def forwardHr (type : Nat) (e : Env) (s : State) : State :=
  if e.hops = 0 then hrCount 7 s
  else
    let env := envelope type (16 * (e.hops - 1) + 1) e.keyId e.domain e.src e.dst e.region e.epoch e.unit e.seq (e.sealed.length - 16)
    let s1 := emit (.hedgerow type e.dst e.region e.epoch e.seq e.sealed) (hrCount 6 s)
    hrLeave .transit e.dst (hrTo s e.dst) none (nowNs s) (env ++ e.sealed) s1

/-- The outcome of the checks of R337: refused, forwarded, of a stale epoch, or for this unit. -/
inductive EnvResult
  | refused | stale | accepted
  deriving DecidableEq, Repr

/-- The checks of R337 in their order, with what a failure counts. A message under the epoch that a withdrawn handover announced is as stale as one under
a lower epoch (R354, log entry 182). -/
def envCheck (type : Nat) (e : Env) (s : State) : State × EnvResult :=
  let h := odNat s 0x7000 6 (e.keyId % 2)
  if ¬ hrRuns s then (s, .refused)
  else if e.version ≠ 1 ∨ e.domain ≠ odNat s 0x7000 3 ∨ 1 < e.keyId ∨ useFault s h 3 ≠ 0 ∨ ¬ e.lenOk then
    (hrCount 0 (if e.keyId ≤ 1 then wrongUse h 3 s else s), .refused)
  else
    let s1 := countUse h s
    if ¬ e.tagOk then (hrCount 1 s1, .refused)
    else if ¬ seqFresh s1 e.unit e.seq then (hrCount 2 s1, .refused)
    else
      let s2 := noteSeq e.unit e.seq s1
      if e.region ≠ 0xFFFF ∧ (e.epoch < knownEpoch s2 e.region ∨ (e.epoch ≠ hrEpoch s2 e.region ∧ voidEpoch s2 e.region e.epoch)) then (hrCount 3 s2, .stale)
      else
        let s3 := learnEpoch e.region e.epoch s2
        if e.dst = s3.hed.home ∨ e.dst = 0xFFFF then (s3, .accepted) else (forwardHr type e s3, .refused)

/-- A message's handler runs where every check passes; a stale epoch is answered with FENCE. -/
def hrReceive (type : Nat) (e : Env) (f : State → State) (s : State) : State :=
  match envCheck type e s with
  | (s1, .accepted) => f s1
  | (s1, .stale) => answerFence e s1
  | (s1, .refused) => s1

end Sys2Proof.Machine
end

