-- ==== Sys2Proof/Machine/Glaze.lean ====
section
/-!
DEFINITION. Glaze: listen lists (R271 to R273), soft records on the wire (R276), requests and answers (R280 to R282, R285), the
combination and the decision (R283, R284), and what is discarded (R275, R287).
-/

namespace Sys2Proof.Machine

/-! ### Records as octets (Tables 11-4, 11-5) -/

/-- The `n` bits of `v`, most significant first. -/
def bitsOf : Nat → Nat → List Bool
  | 0, _ => []
  | n + 1, v => bit v n :: bitsOf n v

/-- The number that bits spell, most significant first. -/
def bitsNat (l : List Bool) : Nat := l.foldl (fun a b => 2 * a + b2n b) 0

/-- Bits in octets, in the order sent, padded with zero bits to a whole octet. -/
def packBits : Nat → List Bool → Octets
  | 0, _ => []
  | n + 1, l => BitVec.ofNat 8 (bitsNat ((l ++ List.replicate 8 false).take 8)) :: packBits n (l.drop 8)

/-- A mantissa's code in `n` bits, two's complement. -/
def mantCode (n : Nat) (m : Int) : Nat := ((m + 2 ^ n) % 2 ^ n).toNat

/-- Bits of a mantissa by format. -/
def mantBits (thin : Bool) : Nat := if thin then 2 else 4

/-- Bits of one block. -/
def blockBits (thin : Bool) (b : Nat × List Int) : List Bool :=
  bitsOf 4 b.1 ++ b.2.flatMap (fun m => bitsOf (mantBits thin) (mantCode (mantBits thin) m))

/-- A record as it is sent (R276). -/
def encodeRecord (r : GlazeRec) : Octets :=
  let bits := r.blocks.flatMap (blockBits r.thin)
  beOct 5 r.asn ++ beOct 2 r.entry ++ beOct 1 (b2n r.thin + 2 * b2n r.aerialB + 4 * r.reason) ++ beOct 4 r.stamp ++ beOct 2 r.nbits ++
  beOct 1 r.metric ++ beInt 1 r.rssi ++ packBits ((bits.length + 7) / 8) bits

/-- A mantissa from its code; the most negative code is never produced. -/
def mantOf (n c : Nat) : Option Int :=
  if c = 2 ^ (n - 1) then none else some (if c < 2 ^ (n - 1) then (c : Int) else (c : Int) - 2 ^ n)

/-- Mantissas from bits. -/
def readMants (n : Nat) : Nat → List Bool → Option (List Int)
  | 0, _ => some []
  | k + 1, l =>
    match mantOf n (bitsNat (l.take n)), readMants n k (l.drop n) with
    | some m, some ms => some (m :: ms)
    | _, _ => none

/-- Blocks from bits; none where an exponent or a mantissa is malformed (R276). -/
def readBlocks (thin : Bool) : Nat → List Bool → Option (List (Nat × List Int))
  | 0, _ => some []
  | k + 1, l =>
    let n := mantBits thin
    let e := bitsNat (l.take 4)
    match readMants n 32 (l.drop 4), readBlocks thin k (l.drop (4 + 32 * n)) with
    | some ms, some bs => if e ≤ (if thin then 7 else 5) then some ((e, ms) :: bs) else none
    | _, _ => none

/-- A record from its octets; none where it is malformed. -/
def decodeRecord (o : Octets) : Option GlazeRec :=
  let f := fieldNat o 7 1
  let thin := bit f 0
  let nbits := fieldNat o 12 2
  let nb := (nbits + 31) / 32
  if o.length < 16 ∨ nbits = 0 ∨ o.length ≠ 16 + (nb * (if thin then 68 else 132) + 7) / 8 then none
  else (readBlocks thin nb ((o.drop 16).flatMap (fun b => bitsOf 8 b.toNat))).map (fun bs =>
    { owner := 0xFFFF, asn := fieldNat o 0 5, entry := fieldNat o 5 2, thin := thin, aerialB := bit f 1, reason := f / 4 % 4
      stamp := fieldNat o 8 4, nbits := nbits, metric := fieldNat o 14 1, rssi := fieldInt o 15 1, blocks := bs })

/-! ### Listen lists, owner's side (R271 to R273) -/

/-- W of an entry for an occupant (R273). -/
def listenW (s : State) (r : NodeRec) : Nat :=
  if r.st = .active then (min 2500 (odNat s 0x6000 3) + 9) / 10 else 250

/-- Whether an entry is published for a cell of slot `a` (R271): its occupant, if so. -/
def publishes (s : State) (a : Nat) (c : Cell) : Option Nat :=
  let p := profileOf s (classProfile s c.cls)
  if c.kind = kUplink ∧ panOn s c.pan ∧ classFlag s c.cls 2 ∧ p.phy ≠ 5 ∧ p.coded then
    match occupantAt s c a with
    | some n =>
      let r := nodeRec s n
      if r.st = .joining ∨ r.st = .active ∨ r.st = .desync ∨ (r.st = .lost ∧ a < r.qend) then some n else none
    | none => none
  else none

/-- The entries of one slot of superframe F in the order of R153, not yet numbered. -/
def slotEntries (s : State) (b off : Nat) (cs : List Cell) : List ListenEntry :=
  let cells := (cs.filter (fun c => c.slot == off)).filterMap (fun c => (publishes s (b + off) c).map (fun n => (c, n)))
  let es := cells.map (fun x => ({
    num := 0, offset := off, band := panBand s x.1.pan, freq := chanFreq s x.1.pan (hopChannel s x.1.pan (b + off) x.1.choff)
    profile := classProfile s x.1.cls, w := listenW s (nodeRec s x.2), row := x.1.row, node := x.2 } : ListenEntry))
  es.mergeSort (fun x y => decide (x.band < y.band) || (x.band == y.band && (decide (x.freq < y.freq) || (x.freq == y.freq && decide (x.row ≤ y.row)))))

/-- The entries of the superframe that begins at boundary `b`, numbered; at most 8,192. -/
def listEntries (s : State) (b : Nat) : List ListenEntry :=
  let t := ahead b s
  let cs := setCells t (setAtSlot s b)
  let es := ((List.range (sfSlots (epochFor s b).code)).flatMap (fun off => slotEntries t b off cs)).take 8192
  es.zipIdx.map (fun (x : ListenEntry × Nat) => { x.1 with num := x.2 })

/-- Profile rows that entries use; one row where there are no entries. -/
def listRows (es : List ListenEntry) : List Nat :=
  match (List.range 16).filter (fun r => es.any (fun e => e.profile == r)) with
  | [] => [0]
  | l => l

/-- CHANNEL of an entry (Table 11-2). -/
def channelField (e : ListenEntry) : Nat := if e.band = 1 then 0x8000 + (e.freq - 2405000000) / 5000000 + 11 else e.freq / 100000

/-- One part of a GLAZE_LIST (Table 11-1). -/
def listPart (s : State) (b part parts : Nat) (rows : List Nat) (es : List ListenEntry) : Octets :=
  beOct 5 (sfIndex s b) ++ encodeEpoch (epochFor s b) ++ beOct 1 (odNat s 0x6000 2) ++ beOct 1 part ++ beOct 1 parts ++ beOct 2 (128 * part) ++
  beOct 1 rows.length ++ beOct 1 es.length ++ rows.flatMap (fun r => odGet s 0x3100 1 r) ++
  es.flatMap (fun e => beOct 2 e.offset ++ beOct 2 (channelField e) ++ beOct 1 ((rows.findIdx? (fun r => r == e.profile)).getD 0) ++ beOct 1 e.w)

/-- The list of the superframe at `b` goes to one partner, in parts of 128 entries. -/
def sendList (b : Nat) (es : List ListenEntry) (s : State) (peer : Nat) : State :=
  let rows := listRows es
  let parts := max 1 ((es.length + 127) / 128)
  let s1 := (List.range parts).foldl (fun s i =>
    hrSend 0x40 peer (spoken s (servedRegion s).1) (listPart s b i parts rows ((es.drop (128 * i)).take 128)) s) s
  let l : ListenList := { peer := peer, sf := sfIndex s b, epoch := epochFor s b, retain := odNat s 0x6000 2, parts := parts, entries := es }
  { s1 with gla := { s1.gla with sent := s1.gla.sent.filter (fun x => !(x.peer == peer && (x.sf == l.sf || decide (x.sf + 1 < l.sf)))) ++ [l] } }

/-- GLAZE_LIST_SEND (R272): between 3 s and 2 s before the next superframe, once. -/
def execGlazeListSend (s : State) : Host.Outcome State Fault Refusal :=
  let b := firstBoundaryAt s (nowNs s + 2000000000)
  let peers := (s.gla.active.map (·.1)).filter (fun p => !s.gla.sent.any (fun l => l.peer == p && l.sf == sfIndex s b))
  if ¬ s.eas.running ∨ ¬ offersRx s b ∨ peers = [] then done s s
  else
    let s1 := advanceNs (startNs s b - 3000000000).toNat s
    done s (peers.foldl (sendList b (listEntries s1 b)) s1)

/-! ### Listen lists, partner's side (R272) -/

/-- Start of superframe F in ns of network time. -/
def sfStart (f : Nat) : Nat := f * 25600000000

/-- A part's entries as the partner keeps them. -/
def partEntries (p : ListPart) : List ListenEntry :=
  p.entries.zipIdx.map (fun (x : (Nat × Nat × Nat × Nat) × Nat) =>
    { num := p.base + x.2, offset := x.1.1, band := x.1.2.1 / 32768, freq := listFreq x.1.2.1, profile := x.1.2.2.1, w := x.1.2.2.2 })

/-- One part of a list joins those received; its entries name the profiles of their own part. -/
def takePart (owner : Nat) (p : ListPart) (s : State) : State :=
  let old := (s.gla.coming.find? (fun l => l.peer == owner && l.sf == p.sf)).getD { peer := owner, sf := p.sf }
  let l := if old.got.contains p.part then old else
    { old with epoch := p.epoch, retain := p.retain, parts := p.parts, got := p.part :: old.got, profiles := old.profiles ++ p.profiles
               entries := old.entries ++ (partEntries p).map (fun e => { e with profile := old.profiles.length + e.profile }) }
  { s with gla := { s.gla with coming := s.gla.coming.filter (fun x => !(x.peer == owner && x.sf == p.sf)) ++ [l] } }

/-- GLAZE_LIST (R272): a part from an active partner, before the deadline of its superframe. -/
def execGlazeList (e : Env) (p : ListPart) (s : State) : Host.Outcome State Fault Refusal :=
  done s (hrReceive 0x40 e (fun s =>
    if s.gla.active.any (fun x => x.1 == e.src) ∧ p.part < p.parts ∧ nowNs s + 500000000 ≤ sfStart p.sf then takePart e.src p s else s) s)

/-- GLAZE_LIST_DEADLINE (R272): 500 ms before the superframe a complete list is adopted; any other is lost and counted. -/
def execGlazeListDeadline (owner sf : Nat) (s : State) : Host.Outcome State Fault Refusal :=
  if ¬ s.gla.active.any (fun x => x.1 == owner) ∨ sfStart sf ≤ nowNs s ∨ s.gla.adopted.any (fun l => l.peer == owner && l.sf == sf) then done s s
  else
    let s1 := advanceNs ((sfStart sf : Int) - 500000000).toNat s
    let rest := s1.gla.coming.filter (fun l => !(l.peer == owner && decide (l.sf ≤ sf)))
    match s1.gla.coming.find? (fun l => l.peer == owner && l.sf == sf) with
    | some l =>
      if l.got.length = l.parts then done s (noteEpoch owner l.epoch { s1 with gla := { s1.gla with coming := rest, adopted := s1.gla.adopted ++ [l] } })
      else done s (glazeCount 13 { s1 with gla := { s1.gla with coming := rest } })
    | none => done s (glazeCount 13 { s1 with gla := { s1.gla with coming := rest } })

/-- Lists of earlier superframes give way at the first slot of the next (R272). -/
def retireLists (a : Nat) (s : State) : State :=
  { s with gla := { s.gla with adopted := s.gla.adopted.filter (fun l => decide (sfIndex s a ≤ l.sf) || !s.gla.adopted.any (fun m => m.peer == l.peer && decide (l.sf < m.sf) && decide (m.sf ≤ sfIndex s a))) } }

/-! ### Frames that partners decode (R280, R283 to R285) -/

/-- The entry of a list sent to a partner for slot `a`. -/
def sentEntry (s : State) (peer a num : Nat) : Option ListenEntry :=
  (s.gla.sent.find? (fun l => l.peer == peer && l.sf == sfIndex s a)).bind (fun l => l.entries.find? (fun x => x.num == num))

/-- The pending decision on a node's cell of slot `a`. -/
def decOf (s : State) (a n : Nat) : Option GlazeDec := s.gla.decs.find? (fun d => d.asn == a && d.node == n)

/-- The unit's own record of a node's cell of slot `a`. -/
def ownRecord (s : State) (a n : Nat) : Option GlazeRec :=
  s.gla.recs.find? (fun r => r.owner == 0xFFFF && r.asn == a && r.node == n)

/-- A decision ends: it and the unit's own record of it go (R287). -/
def endDecision (a n : Nat) (s : State) : State :=
  { s with gla := { s.gla with
    decs := s.gla.decs.filter (fun d => !(d.asn == a && d.node == n))
    recs := s.gla.recs.filter (fun r => !(r.owner == 0xFFFF && r.asn == a && r.node == n)) } }

/-- The place that a decision holds in its node's release order is given up (R19). -/
def dropHold (a n : Nat) (s : State) : State :=
  modNode n (fun r => { r with held := r.held.filter (fun u => !(u.awaiting && u.asn == a)) }) s

/-- A decision fails: the hold is released, and the node's presumption withdrawn (R284, R250). -/
def failDecision (a n : Nat) (s : State) : State :=
  glazeCount 12 (withdrawPresumed n (dropHold a n (endDecision a n s)))

/-- The SFD that the unit's own engine found in a node's cell of slot `a`, with the SEQ that it read, where it did (R249, R262). -/
def ownSfd (s : State) (a n : Nat) : Option (Nat × Option Nat) := (s.gla.sfds.find? (fun x => x.1 == a && x.2.1 == n)).map (fun x => (x.2.2.1, x.2.2.2))

/-- The release record of a frame that a partner or the combination gave for a cell of slot `a`. A recovered one has the stamp of the unit's own SFD
and is timed by it, where its engine found one, else `ns`; one that a partner decoded has the partner's, `ns`, and is not timed (R121, R249). -/
def glazeUl (s : State) (recovered : Bool) (a row n ns : Nat) (f : RxFrame) : UlRec :=
  let own := if recovered then ownSfd s a n else none
  { frame := f, asn := a, stamp := (startNs s a).toNat + (own.map (·.1)).getD ns, row := row, cls := (cellOf s row).cls, gack := (cellOf s row).gack
    timed := own.isSome }

/-- The frame as a lane takes it from the cell of slot `a`. -/
def glazeMac (a row n : Nat) (f : RxFrame) (s : State) : MacFrame :=
  let c := cellOf s row
  { frame := f, cell := { engine := 0, row := row, kind := c.kind, pan := c.pan, node := some n, gack := c.gack }, asn := a }

/-- A release record takes its place in a node's order of reception: before the first that was received later (R19). -/
def insertUl (u : UlRec) (held : List UlRec) : List UlRec :=
  let before (x : UlRec) : Bool := decide (x.asn < u.asn) || (x.asn == u.asn && decide (x.stamp ≤ u.stamp))
  held.takeWhile before ++ u :: held.dropWhile before

/-- Whether the cell of a row in slot `a` has an accepted frame, or one on its way to its classification, whose PSDU passes a test. -/
def takenIn (s : State) (a row : Nat) (p : Octets → Bool) : Bool :=
  s.gla.accepted.any (fun x => x.1 == a && x.2.1 == row && p x.2.2) ||
  s.nod.recs.any (fun e => e.2.held.any (fun u => u.asn == a && u.row == row && !u.awaiting && p u.frame.psdu)) ||
  s.nod.mac.any (fun m => m.asn == a && m.cell.row == row && !m.cell.partner && p m.frame.psdu)

/-- A frame of a cell that gave nothing: where the unit heard nothing else of the node there, its presumption is withdrawn (R250). -/
def notTaken (a n : Nat) (s : State) : State := glazeCount 12 (if heardIn s a n then s else withdrawPresumed n s)

/-- A frame decoded elsewhere passes its lane (R374) and takes its place in its node's release order: that of the pending decision where it
answers one, else that of its slot and stamp. `u` is its release record, and `count` the row of its outcome. -/
def takeGlazeFrame (n count : Nat) (u : UlRec) (s : State) : State :=
  let a := u.asn
  let f := u.frame
  let pending := (decOf s a n).isSome
  let away (s : State) : State := if pending then dropHold a n (endDecision a n s) else s
  let failed (s : State) : State := if pending then failDecision a n s else notTaken a n s
  if f.formOk ∧ f.counter ≠ 0xFFFFFFFF ∧ ¬ f.ofEui then
    match authUplink f s with
    | (s1, some m) =>
      if pending ∧ m = n then
        glazeCount count (endDecision a n (modNode n (fun r => { r with
          held := r.held.map (fun x => if x.awaiting && x.asn == a then u else x) }) s1))
      else
        let v := { u with ownCell := m == n }
        glazeCount count (modNode m (fun r => { r with held := insertUl v r.held }) (ackHeldBack m v (away s1)))
    | (s1, none) => failed s1
  else failed (laneFrame (glazeMac a u.row n f s) s)

/-- A frame that a partner decoded in entry `num` of its list with its stamp (R283, R285): the outcome PARTNER, or redundant where the owner has accepted
a frame in that cell with the same PSDU. -/
def partnerFrame (peer a num stamp : Nat) (f : RxFrame) (s : State) : State :=
  match sentEntry s peer a num with
  | none => s
  | some x =>
    if takenIn s a x.row (fun p => p == f.psdu) then glazeCount 11 s
    else
      let s1 := { s with gla := { s.gla with frames := s.gla.frames ++ [⟨0xFFFF, a, x.row, 0, []⟩] } }
      takeGlazeFrame x.node 10 (glazeUl s false a x.row x.node stamp f) s1

/-- GLAZE_FRAME (R285). -/
def execGlazeFrame (e : Env) (f : GlazeFrame) (s : State) : Host.Outcome State Fault Refusal :=
  done s (hrReceive 0x41 e (fun s =>
    partnerFrame e.src f.asn f.entry f.stamp { f.rx with rssi := f.rssi, lq := f.lq, psdu := f.psdu } s) s)

/-! ### Requests (R280) -/

/-- Whether an entry of slot `a` is still open: nothing accepted in its cell, and no partner's frame arrived. -/
def entryOpen (s : State) (a : Nat) (x : ListenEntry) : Bool :=
  !takenIn s a x.row (fun _ => true) && !s.gla.frames.any (fun g => g.owner == 0xFFFF && g.asn == a && g.entry == x.row)

/-- Entries of slot `a` that a partner is asked about. -/
def openEntries (s : State) (a peer : Nat) : List ListenEntry :=
  ((s.gla.sent.find? (fun l => l.peer == peer && l.sf == sfIndex s a)).map (·.entries)).getD [] |>.filter
    (fun x => x.offset == offsetOf s a && entryOpen s a x)

/-- Sends a request, with the entries it lists. -/
def sendReq (r : GlazeReqSt) (s : State) : State :=
  glazeCount 6 (hrSend 0x42 r.partner (spoken s (servedRegion s).1)
    (beOct 5 r.asn ++ beOct 2 r.seq ++ beOct 1 r.entries.length ++ r.entries.flatMap (beOct 2)) s)

/-- Requests to one partner, of at most 96 entries each. -/
def requestFrom (a peer : Nat) : Nat → List Nat → State → State
  | 0, _, s => s
  | _, [], s => s
  | fuel + 1, es, s =>
    let r : GlazeReqSt := { partner := peer, asn := a, seq := s.gla.reqSeq, entries := es.take 96, awaited := es.take 96, at_ := s.clk.elapsed }
    requestFrom a peer fuel (es.drop 96)
      (sendReq r { s with gla := { s.gla with reqSeq := (s.gla.reqSeq + 1) % 65536, reqs := s.gla.reqs ++ [r] } })

/-- The pending decisions of slot `a`, one per cell, with the entries that name it in each partner's list. -/
def newDecisions (s : State) (a : Nat) (asked : List (Nat × List ListenEntry)) : List GlazeDec :=
  let all := asked.flatMap (fun x => x.2.map (fun y => (x.1, y)))
  let rows := (all.map (fun x => x.2.row)).dedup
  rows.filterMap (fun row => match all.filter (fun x => x.2.row == row) with
    | [] => none
    | x :: xs => some {
        asn := a, node := x.2.node, row := row, entries := (x :: xs).map (fun y => (y.1, y.2.num)), records := (ownRecord s a x.2.node).toList })

/-- The occupant of a pending decision is held (R19, R280), at the place of the SFD that the unit itself found, or at CO. -/
def holdNode (s : State) (d : GlazeDec) : State :=
  let u := glazeUl s true d.asn d.row d.node (cellOffset s d.asn * 1000) {}
  modNode d.node (fun r => { r with held := insertUl { u with awaiting := true, heldSeq := (ownSfd s d.asn d.node).bind (·.2) } r.held }) s

/-- GLAZE_REQ_SEND (R280): within 1 ms of the start of slot a + 1. -/
def execGlazeReqSend (a : Nat) (s : State) : Host.Outcome State Fault Refusal :=
  let asked := ((askedPartners s a).map (fun p => (p, openEntries s a p))).filter (fun x => x.2 != [])
  if ¬ s.eas.running ∨ s.eas.asn ≠ a + 1 ∨ startNs s (a + 1) + 1000000 < nowNs s ∨ s.gla.decs.any (fun d => d.asn == a) then done s s
  else
    let ds := newDecisions s a asked
    let s1 := ds.foldl holdNode { s with gla := { s.gla with decs := s.gla.decs ++ ds } }
    done s (asked.foldl (fun s x => requestFrom a x.1 (x.2.length) (x.2.map (·.num)) s) s1)

/-- GLAZE_REQ_TIMEOUT (R280): not answered in full, a request is sent again, at most twice. -/
def execGlazeReqTimeout (partner reqSeq : Nat) (s : State) : Host.Outcome State Fault Refusal :=
  match s.gla.reqs.find? (fun r => r.partner == partner && r.seq == reqSeq) with
  | some r =>
    if 3 ≤ r.tries then done s s
    else
      let s1 := advanceElapsed (r.at_ + odNat s 0x6000 4 * msCycles) s
      let r1 := { r with tries := r.tries + 1, at_ := s1.clk.elapsed }
      done s (sendReq r1 { s1 with gla := { s1.gla with
        reqs := s1.gla.reqs.map (fun x => if x.partner == partner && x.seq == reqSeq then r1 else x) } })
  | none => done s s

/-! ### Answers, partner's side (R270, R281) -/

/-- One GLAZE_ANS, which speaks for the owner's region (R336). -/
def sendAns (peer a reqSeq entry kind seg nseg : Nat) (data : Octets) (s : State) : State :=
  hrSend 0x43 peer (spoken s (ownerRegion s peer)) (beOct 5 a ++ beOct 2 reqSeq ++ beOct 2 entry ++ beOct 1 kind ++ beOct 1 seg ++ beOct 1 nseg ++
    beOct 2 data.length ++ data) s

/-- A record in segments of 1,150 octets. -/
def sendRecord (peer a reqSeq entry : Nat) (o : Octets) (s : State) : State :=
  let n := (o.length + 1149) / 1150
  (List.range n).foldl (fun s i => sendAns peer a reqSeq entry 1 i n ((o.drop (1150 * i)).take 1150) s) s

/-- Whether a request for the owner's slot `a` is answered with KIND 3 (R270): a fenced end, or a slot that began while the partnership
was not active. Of an owner none of whose lists was ever adopted, the slot's start is not known: a partnership that is active now counts. -/
def inactiveFor (s : State) (owner a : Nat) : Bool :=
  fencedEnd s owner ||
  (match ownerStart s owner a with
    | some t => !(s.gla.active.any (fun (p : Nat × Nat) => p.1 == owner && decide (startNs s p.2 ≤ t)) ||
        s.gla.spans.any (fun (p : Nat × Nat × Nat) => p.1 == owner && decide (startNs s p.2.1 ≤ t) && decide (t < startNs s p.2.2)))
    | none => !s.gla.active.any (fun (p : Nat × Nat) => p.1 == owner))

/-- CO in ns of the owner's slots, which are as long as the unit's own (R48). -/
def coNs (s : State) : Nat := cellOffset s s.eas.asn * 1000

/-- The record that answers an entry: of two, the one whose stamp lies closest to CO. -/
def recordFor (s : State) (owner a entry : Nat) : Option GlazeRec :=
  (s.gla.recs.filter (fun r => r.owner == owner && r.asn == a && r.entry == entry)).foldl (fun best r =>
    match best with
    | none => some r
    | some b => if ((r.stamp : Int) - coNs s).natAbs < ((b.stamp : Int) - coNs s).natAbs then some r else some b) none

/-- Answers one listed entry (R281). -/
def answerEntry (owner a reqSeq : Nat) (s : State) (entry : Nat) : State :=
  if fencedEnd s owner then sendAns owner a reqSeq entry 3 0 1 [] s
  else match s.gla.frames.find? (fun g => g.owner == owner && g.asn == a && g.entry == entry), recordFor s owner a entry with
  | some g, _ => sendAns owner a reqSeq entry 2 0 1 g.body s
  | none, some r => sendRecord owner a reqSeq entry (encodeRecord r) (glazeCount 5 s)
  | none, none => sendAns owner a reqSeq entry (if inactiveFor s owner a then 3 else 0) 0 1 [] s

/-- GLAZE_REQ (R281): answered not before 500 us after the slot's end, by the owner's epoch; where no list of it was ever adopted there is nothing to
wait for. -/
def execGlazeReq (e : Env) (a reqSeq : Nat) (entries : List Nat) (s : State) : Host.Outcome State Fault Refusal :=
  done s (hrReceive 0x42 e (fun s =>
    let s1 := match ownerStart s e.src (a + 1) with
      | some t => advanceNs (t + 500000).toNat s
      | none => s
    entries.foldl (answerEntry e.src a reqSeq) s1) s)

/-! ### Answers, owner's side (R282, R283) -/

/-- An entry of a request is answered in full; a request with none left ends, and decisions that await nothing are ready. -/
def answered (partner a reqSeq entry : Nat) (s : State) : State :=
  settleDecisions { s with gla := { s.gla with
    reqs := (s.gla.reqs.map (fun r => if r.partner == partner && r.asn == a && r.seq == reqSeq then
      { r with awaited := r.awaited.filter (fun x => x != entry), segs := r.segs.filter (fun x => x.1 != entry) } else r)).filter
        (fun r => r.awaited != []) } }

/-- A record joins the decision on its entry; a malformed one is counted and left out (R276). -/
def addRecord (partner a entry : Nat) (o : Octets) (s : State) : State :=
  match decodeRecord o with
  | none => glazeCount 8 s
  | some r => { s with gla := { s.gla with decs := s.gla.decs.map (fun d =>
      if d.asn == a && d.entries.contains (partner, entry) then { d with records := d.records ++ [r] } else d) } }

/-- One segment of a record; the last completes it. -/
def takeSeg (r : GlazeReqSt) (entry seg nseg : Nat) (data : Octets) (s : State) : State :=
  let segs := if r.segs.any (fun x => x.1 == entry && x.2.1 == seg) then r.segs else r.segs ++ [(entry, seg, data)]
  let mine := segs.filter (fun x => x.1 == entry)
  let s1 := { s with gla := { s.gla with reqs := s.gla.reqs.map (fun x =>
    if x.partner == r.partner && x.asn == r.asn && x.seq == r.seq then { x with segs := segs } else x) } }
  if mine.length = nseg then
    let o := (List.range nseg).flatMap (fun i => ((mine.find? (fun x => x.2.1 == i)).map (fun x => x.2.2)).getD [])
    answered r.partner r.asn r.seq entry (addRecord r.partner r.asn entry o s1)
  else s1

/-- A late answer is discarded and counted (R282), once: not where its absence was counted as retention ended. -/
def lateAns (peer a reqSeq entry : Nat) (s : State) : State :=
  if s.gla.expired.any (fun r => r.partner == peer && r.asn == a && r.seq == reqSeq && r.awaited.contains entry) then s
  else glazeCount 7 (answered peer a reqSeq entry s)

/-- An answer to a request that still awaits it (R283). -/
def takeAns (peer a reqSeq entry kind seg nseg : Nat) (data : Octets) (rx : RxFrame) (s : State) : State :=
  if startNs s (a + odNat s 0x6000 2) < nowNs s then lateAns peer a reqSeq entry s
  else
    match s.gla.reqs.find? (fun r => r.partner == peer && r.asn == a && r.seq == reqSeq && r.awaited.contains entry) with
    | none => s
    | some r =>
      if kind = 1 then (if seg < nseg then takeSeg r entry seg nseg data s else s)
      else if kind = 2 then answered peer a reqSeq entry (partnerFrame peer a entry (fieldNat data 7 4)
        { rx with rssi := fieldInt data 11 2, lq := fieldNat data 13 1, psdu := (data.drop 17).take (fieldNat data 15 2) } s)
      else answered peer a reqSeq entry s

/-- GLAZE_ANS (R283). -/
def execGlazeAns (e : Env) (a reqSeq entry kind seg nseg : Nat) (data : Octets) (rx : RxFrame) (s : State) : Host.Outcome State Fault Refusal :=
  done s (hrReceive 0x43 e (takeAns e.src a reqSeq entry kind seg nseg data rx) s)

/-- GLAZE_RETENTION_EXPIRY (R282, R283): at start(a + RETAIN) no answer is awaited any more; each that is missing counts as late, as R288 states it of a
partner that is in a reset (log entry 181). -/
def execGlazeRetentionExpiry (a : Nat) (s : State) : Host.Outcome State Fault Refusal :=
  if s.gla.decs.any (fun d => d.asn == a) ∨ s.gla.reqs.any (fun r => r.asn == a) then
    let s1 := advanceNs (startNs s (a + odNat s 0x6000 2)).toNat s
    let missing := s1.gla.reqs.filter (fun r => r.asn == a)
    let s2 := (missing.flatMap (·.awaited)).foldl (fun s _ => glazeCount 7 s) s1
    done s { s2 with gla := { s2.gla with
      reqs := s2.gla.reqs.filter (fun r => r.asn != a), expired := s2.gla.expired.filter (fun r => decide (a ≤ r.asn + 64)) ++ missing
      decs := s2.gla.decs.map (fun d => if d.asn == a then { d with ready := true } else d) } }
  else done s s

/-! ### The decision (R283, R284) -/

/-- The reference stamp: the unit's own record's, else that of the record with the highest METRIC. -/
def referenceStamp (rs : List GlazeRec) : Nat :=
  match rs.find? (fun r => r.entry == 0xFFFF) with
  | some r => r.stamp
  | none => ((rs.foldl (fun (best : Option GlazeRec) r => match best with
      | none => some r
      | some b => if b.metric < r.metric then some r else some b) none).map (·.stamp)).getD 0

/-- The records within GLAZE_STAMP_TOL of the reference stamp. -/
def usableRecords (s : State) (rs : List GlazeRec) : List GlazeRec :=
  rs.filter (fun r => decide (((r.stamp : Int) - referenceStamp rs).natAbs ≤ odNat s 0x6000 5 * 1000))

/-- Combined soft values of R284: position by position the sum of the dequantised values, clamped. -/
def combine (rs : List GlazeRec) : List Int :=
  (List.range ((rs.map (·.nbits)).foldl max 0)).map (fun k =>
    clampInt (-32767) 32767 ((rs.map (fun r => ((recordValues r)[k]?).getD 0)).foldl (· + ·) 0))

/-- Whether a frame that the decoder makes of combined soft values passes the tests of R284: its length lies within the effective maximum of R207 and
needs no more coded bits than were combined, and its FCS passes. -/
def recoverable (s : State) (d : GlazeDec) (n : Nat) (f : RxFrame) : Bool :=
  let p := profileOf s (classProfile s (cellOf s d.row).cls)
  decide (f.psdu.length ≤ effMax p true (epochFor s d.asn).code) && decide (payloadBits p true f.psdu.length ≤ n) && fcsPasses false f.psdu

/-- GLAZE_DECISION (R284): `decoded` is what the decoder makes of the combined soft values, none where it finds no frame. -/
def execGlazeDecision (a n : Nat) (decoded : Option RxFrame) (s : State) : Host.Outcome State Fault Refusal :=
  match decOf s a n with
  | none => done s s
  | some d =>
    if ¬ d.ready then done s s
    else
      let rs := usableRecords s d.records
      let s1 := (List.range (d.records.length - rs.length)).foldl (fun s _ => glazeCount 8 s) s
      match decoded with
      | some f =>
        if 2 ≤ rs.length ∧ recoverable s d (combine rs).length f then
          done s (takeGlazeFrame n 9 (glazeUl s1 true a d.row n (referenceStamp d.records) f) s1)
        else done s (failDecision a n s1)
      | none => done s (failDecision a n s1)

/-! ### Discarding (R275, R287) -/

/-- When the records of an owner's slot `a` are discarded: start(a + RETAIN + 1). -/
def discardNs (s : State) (owner a : Nat) : Nat :=
  match s.gla.recs.find? (fun r => r.owner == owner && r.asn == a), s.gla.adopted.find? (fun l => l.peer == owner) with
  | some r, _ => r.until_
  | none, some l => ((ownerStart s owner (a + l.retain + 1)).getD 0).toNat
  | none, none => (startNs s (a + odNat s 0x6000 2 + 1)).toNat

/-- GLAZE_RECORD_DISCARD (R275). -/
def execGlazeRecordDiscard (owner a : Nat) (s : State) : Host.Outcome State Fault Refusal :=
  if s.gla.recs.any (fun r => r.owner == owner && r.asn == a) ∨ s.gla.frames.any (fun g => g.owner == owner && g.asn == a) then
    let s1 := advanceNs (discardNs s owner a) s
    done s { s1 with gla := { s1.gla with
      recs := s1.gla.recs.filter (fun r => !(r.owner == owner && r.asn == a))
      frames := s1.gla.frames.filter (fun g => !(g.owner == owner && g.asn == a)) } }
  else done s s

/-- A warm reset discards every record, list and decision; the held nodes are released as FAILED (R288). -/
def glazeReset (s : State) : State :=
  let s1 := s.gla.decs.foldl (fun s d => failDecision d.asn d.node s) s
  { s1 with gla := { partners := s1.gla.partners, reqSeq := s1.gla.reqSeq } }

end Sys2Proof.Machine
end

