-- ==== Sys2Proof/Machine/Hedgerow.lean ====
section
/-!
DEFINITION. Hedgerow control as a state: adjacencies, the unit's own heartbeat and link-state advertisement (R339, R341), routes (R341),
holders, spares and glaze groups (R342), mirroring (R343, R344), fencing (R335, R350, R351), death (R346, R347) and the speaking that a
change causes.
-/

namespace Sys2Proof.Machine

/-! ### Adjacencies and what the unit says of itself (R339, R341) -/

/-- FLAGS of Table 14-3. -/
def hbFlags (s : State) : Nat := b2n s.clk.valid + 2 * b2n (aligned s) + 4 * b2n (s.hed.st == 3) + 8 * b2n s.hed.isolated

/-- A HELD list as it is sent. -/
def encodeHeld (l : List (Nat × Nat)) : Octets := beOct 1 l.length ++ l.flatMap (fun h => beOct 2 h.1 ++ beOct 4 h.2)

/-- A list of addresses as it is sent. -/
def encodeAddrs (l : List Nat) : Octets := beOct 1 l.length ++ l.flatMap (beOct 2)

/-- Adjacencies that the unit holds SUSPECT. -/
def suspects (s : State) : List Nat := (s.hed.adj.filter (fun x => x.suspect && x.listsUs)).map (·.addr)

/-- Adjacencies, up or SUSPECT, ascending: an adjacency stays one while it is SUSPECT (Tables 14-3, 14-4). -/
def adjacencies (s : State) : List HrAdj := (s.hed.adj.filter (·.listsUs)).mergeSort (fun x y => decide (x.addr ≤ y.addr))

/-- What a heartbeat says of MODE, FLAGS, HELD and SUSPECT: a change of it is said at once (R339). -/
def hbSays (s : State) : Octets :=
  beOct 1 s.ctl.mode.code ++ beOct 1 (hbFlags s) ++ encodeHeld s.hed.held ++ encodeAddrs (suspects s)

/-- The HEARTBEAT body (Table 14-3). -/
def hbBody (s : State) : Octets :=
  beOct 1 s.ctl.mode.code ++ beOct 1 (hbFlags s) ++ beOct 4 s.hed.lsaSeq ++ encodeHeld s.hed.held ++
  encodeAddrs (s.hed.adj.map (·.addr)) ++ encodeAddrs (suspects s)

/-- Seeds that are enabled. -/
def seeds (s : State) : List Nat := (List.range 16).filter (fun r => odField s 0x7000 5 r 0 1 == 1)

/-- Where heartbeats and claims go, with the DST they carry: the group on each port, each adjacency, each seed at its address and port (R334,
R338). -/
def hrAround (s : State) : List (Nat × HrTo) :=
  (hrAll, hrTo s hrAll) :: s.hed.adj.map (fun x => (x.addr, hrTo s x.addr)) ++ (seeds s).map (fun r => (hrAll, hrRowTo s 0x7000 5 r))

/-- A HEARTBEAT to everyone around. -/
def sendHeartbeat (s : State) : State :=
  let s1 := (hrAround s).foldl (fun s d => hrSendTo 0x01 d.1 (homeRegion s) (hrEpoch s (homeRegion s)) .control d.2 none (nowNs s) (hbBody s) s) s
  { s1 with hed := { s1.hed with saidHb := hbSays s, helloAt := s.clk.elapsed } }

/-- The unit's own LSA as it would be originated now (Table 14-4). -/
def ownLsa (s : State) : LsaRec :=
  { origin := s.hed.home, serial := s.chip.serial, seq := s.hed.lsaSeq, variant := s.chip.variantCode, stepping := s.chip.stepping
    mode := s.ctl.mode.code, flags := hbFlags s, ipv6 := ownIpv6, held := s.hed.held
    adj := (adjacencies s).map (fun x => (x.addr, medianRtt x.rtts)), suspects := suspects s
    cand := (List.range 8).map (odNat s 0x7002 1), spares := (List.range 4).map (odNat s 0x7002 2)
    takeoverS := odNat s 0x7001 3 / 1000, isolateS := odNat s 0x7001 4 / 1000, at_ := s.clk.elapsed }

/-- An LSA body. -/
def encodeLsa (l : LsaRec) : Octets :=
  beOct 2 l.origin ++ padTo 8 l.serial ++ beOct 4 l.seq ++ padTo 12 l.variant ++ beOct 2 l.stepping ++ beOct 1 l.mode ++ beOct 1 l.flags ++
  beOct 16 l.ipv6 ++ encodeHeld l.held ++ beOct 1 l.adj.length ++ l.adj.flatMap (fun a => beOct 2 a.1 ++ beOct 2 a.2) ++
  encodeAddrs l.suspects ++ l.cand.flatMap (beOct 2) ++ l.spares.flatMap (beOct 2) ++ beOct 2 l.takeoverS ++ beOct 2 l.isolateS

/-- What an LSA says, COST and LSA_SEQ left out: a change of it is a new LSA. -/
def lsaSays (s : State) : Octets :=
  let l := ownLsa s
  encodeLsa { l with seq := 0, adj := l.adj.map (fun a => (a.1, 0)) }

/-- A new LSA goes to every adjacency. -/
def originateLsa (s : State) : State :=
  let s1 := { s with hed := { s.hed with lsaSeq := (s.hed.lsaSeq + 1) % 2 ^ 32, saidLsa := lsaSays s, lsaAt := s.clk.elapsed } }
  (upAdj s1).foldl (fun t x => hrSend 0x02 x.addr (homeRegion t) (encodeLsa (ownLsa s1)) t) s1

/-- The database with the unit's own advertisement, ascending. -/
def database (s : State) : List LsaRec :=
  ((if s.hed.home = 0xFFFF then [] else [ownLsa s]) ++ s.hed.lsdb.filter (fun l => l.origin != s.hed.home)).mergeSort
    (fun x y => decide (x.origin ≤ y.origin))

/-- The advertisement of an address. -/
def lsaOf (db : List LsaRec) (addr : Nat) : Option LsaRec := db.find? (fun l => l.origin == addr)

/-- Whether two units list each other as adjacencies. -/
def adjacent (db : List LsaRec) (a b : Nat) : Bool :=
  match lsaOf db a, lsaOf db b with
  | some x, some y => x.adj.any (fun e => e.1 == b) && y.adj.any (fun e => e.1 == a)
  | _, _ => false

/-- Whether an adjacency is up in both LSAs: listed by both, SUSPECT at neither (R341). -/
def linkUp (db : List LsaRec) (a b : Nat) : Bool :=
  adjacent db a b && !((lsaOf db a).any (fun l => l.suspects.contains b)) && !((lsaOf db b).any (fun l => l.suspects.contains a))

/-! ### Routes (R341) -/

/-- One path found: destination, cost, first adjacency. -/
abbrev HrPath := Nat × Nat × Nat

/-- The better of two paths to one destination: lower cost, then lower first adjacency. -/
def betterPath (p q : HrPath) : Bool := decide (p.2.1 < q.2.1) || (p.2.1 == q.2.1 && decide (p.2.2 < q.2.2))

/-- Puts a path among those found where it is better. -/
def addPath (ps : List HrPath) (p : HrPath) : List HrPath :=
  match ps.find? (fun q => q.1 == p.1) with
  | none => ps ++ [p]
  | some q => if betterPath p q then ps.map (fun x => if x.1 == p.1 then p else x) else ps

/-- One round: every edge out of every unit reached. -/
def relax (db : List LsaRec) (own : Nat) (ps : List HrPath) : List HrPath :=
  ps.foldl (fun acc p =>
    match lsaOf db p.1 with
    | some l => (l.adj.filter (fun e => linkUp db p.1 e.1 && e.1 != own)).foldl (fun acc e =>
        addPath acc (e.1, p.2.1 + e.2, if p.1 = own then e.1 else p.2.2)) acc
    | none => acc) ps

/-- Rounds of relaxation. -/
def relaxN (db : List LsaRec) (own : Nat) : Nat → List HrPath → List HrPath
  | 0, ps => ps
  | n + 1, ps => relaxN db own n (relax db own ps)

/-- The lowest-cost path to every originator reached. -/
def routes (s : State) : List HrPath :=
  let db := database s
  (relaxN db s.hed.home db.length [(s.hed.home, 0, s.hed.home)]).filter (fun p => p.1 != s.hed.home)

/-- Writes the FABRIC entries: the port and next hop toward the first adjacency of each path; destinations no longer reached leave. -/
def writeRoutes (s : State) : State :=
  let rs := routes s
  let old := (arrayEntries s.tre 2).filter (fun e => e.tag == 5)
  let s1 := (old.filter (fun e => !rs.any (fun p => p.1 == beNat e.key))).foldl (fun s e => ownDelete 5 e.key s) s
  rs.foldl (fun s p => match hrAdjOf s p.2.2 with
    | some x =>
      let e : TEntry := { tag := 5, flags := 1, value := x.port, next := x.mac, key := beOct 2 p.1 }
      if lookup s.tre 5 e.key = some e then s else ownInsert e s
    | none => s) s1

/-! ### Holders, spares and glaze groups (R335, R342) -/

/-- Whether an advertised mode serves: a working mode or M10. -/
def servesMode (m : Nat) : Bool := (decide (5 ≤ m) && decide (m ≤ 8)) || m == 10

/-- R335: whether a holder with an epoch, serving or not, with a serial, wins over another. -/
def holderWins (e1 : Nat) (w1 : Bool) (n1 : Octets) (e2 : Nat) (w2 : Bool) (n2 : Octets) : Bool :=
  decide (e2 < e1) || (e1 == e2 && ((w1 && !w2) || (w1 == w2 && decide (beNat n1 < beNat n2))))

/-- The holder of a region in the database. -/
def holderOf (db : List LsaRec) (region : Nat) : Option LsaRec :=
  let epochIn (l : LsaRec) : Nat := ((l.held.find? (fun h => h.1 == region)).map (·.2)).getD 0
  (db.filter (fun l => l.held.any (fun h => h.1 == region))).foldl (fun best l =>
    match best with
    | none => some l
    | some b => if holderWins (epochIn l) (servesMode l.mode) l.serial (epochIn b) (servesMode b.mode) b.serial then some l else some b) none

/-- Whether a region that a unit holds has an enabled PAN (R342): of this unit's regions, the one whose air configuration it has; of another's as a
mirror shows it, and where there is none it counts as having one, since no message says (log entry 183). -/
def regionServed (s : State) (holder region : Nat) : Bool :=
  if holder = s.hed.home then region == (servedRegion s).1 && pansOn s != []
  else match s.hed.mirrors.find? (fun m => m.region == region && m.holder == holder && m.snapshot.isSome) with
    | some m => m.served
    | none => true

/-- Regions with an enabled PAN, ascending, with their holders, whatever mode these are in (R342). -/
def servedRegions (s : State) (db : List LsaRec) : List (Nat × LsaRec) :=
  let rs := ((db.flatMap (fun l => l.held.map (·.1))).dedup).mergeSort (fun a b => decide (a ≤ b))
  rs.filterMap (fun r => match holderOf db r with
    | some h => if regionServed s h.origin r then some (r, h) else none
    | none => none)

/-- What R342 decides: region, holder and spare; and the pairs of glaze partners. -/
structure Roles where
  spares : List (Nat × Nat × Nat) := []
  pairs : List (Nat × Nat) := []
  deriving DecidableEq, Repr

/-- Partners of a unit so far. -/
def Roles.partnersOf (r : Roles) (a : Nat) : List Nat :=
  r.pairs.filterMap (fun p => if p.1 = a then some p.2 else if p.2 = a then some p.1 else none)

/-- Adds a pair. -/
def Roles.pair (r : Roles) (a b : Nat) : Roles := { r with pairs := r.pairs ++ [(a, b)] }

/-- Whether a unit may be the spare of a holder's region. -/
def mayStand (db : List LsaRec) (r : Roles) (h : LsaRec) (addr : Nat) : Bool :=
  match lsaOf db addr with
  | some u => u.mode == 9 && !bit u.flags 2 && adjacent db h.origin addr && u.variant == h.variant && decide (h.stepping ≤ u.stepping) &&
      decide ((r.spares.filter (fun x => x.2.2 == addr)).length < 4) && decide ((r.partnersOf addr).length < 4)
  | none => false

/-- Designates a region's spare. -/
def designate (db : List LsaRec) (r : Roles) (x : Nat × LsaRec) : Roles :=
  match x.2.spares.find? (mayStand db r x.2) with
  | some a => ({ r with spares := r.spares ++ [(x.1, x.2.origin, a)] }).pair x.2.origin a
  | none => r

/-- The candidates of a working holder join its glaze group. -/
def group (db : List LsaRec) (r : Roles) (h : LsaRec) : Roles :=
  h.cand.foldl (fun r a => match lsaOf db a with
    | some u =>
      if 5 ≤ u.mode ∧ u.mode ≤ 8 ∧ u.held ≠ [] ∧ u.cand.contains h.origin ∧ adjacent db h.origin a ∧ ¬ (r.partnersOf a).contains h.origin ∧
          (r.partnersOf a).length < 4 ∧ (r.partnersOf h.origin).length < 4 then r.pair h.origin a else r
    | none => r) r

/-- Everything R342 decides from a database. -/
def roles (s : State) : Roles :=
  let db := database s
  let r := (servedRegions s db).foldl (designate db) {}
  (db.filter (fun l => decide (5 ≤ l.mode) && decide (l.mode ≤ 8) && l.held != [])).foldl (group db) r

/-! ### Mirroring (R343, R344, R371) -/

/-- Sends the region's export in segments of 3,968 octets. -/
def sendSnapshot (addr : Nat) (s : State) : State :=
  let r := servedRegion s
  let o := regionExport r.2 s
  let n := (o.length + 3967) / 3968
  (List.range n).foldl (fun s i => hrSend 0x20 addr (spoken s r.1) (beOct 2 i ++ beOct 2 n ++ (o.drop (3968 * i)).take 3968) s) s

/-- A shadow of every key of the region goes to a unit (R371). -/
def sendShadows (addr : Nat) (s : State) : State :=
  let slots := (s.sec.slots.filter (fun e => e.2.held && (bit e.2.usage 0 || bit e.2.usage 1))).map (fun e =>
    ({ dst := addr, slot := e.1, row := e.1 } : ShadowDue))
  let nodes := (s.sec.nodes.filter (fun e => e.2.valid)).map (fun e => ({ dst := addr, node := some e.1 } : ShadowDue))
  pumpShadows addr { s with hed := { s.hed with shadowDue := s.hed.shadowDue.filter (fun d => d.dst != addr) ++ slots ++ nodes } }

/-- The snapshot that a change of a STORED object owes the spare, at most one per superframe (R343). -/
def mirrorChange (s : State) : State :=
  match s.hed.spare with
  | some a =>
    let sf := sfIndex s s.eas.asn
    if s.hed.dirty ∧ s.hed.snapSf ≠ some sf then
      let s1 := sendSnapshot a s
      { s1 with hed := { s1.hed with dirty := false, snapSf := some sf } }
    else s
  | none => s

/-- A node record as Table 14-6 carries it. -/
def deltaOf (s : State) (n : Nat) : Octets :=
  let r := nodeRec s n
  let flags := b2n r.modeInformed + 2 * b2n r.mapInformed + 4 * b2n r.seqValid + 8 * b2n r.fcValid + 16 * b2n r.pendingSent +
    32 * b2n r.quarantine + 64 * b2n r.jfcValid
  let st := match r.st with
    | .free => 0 | .registered => 1 | .joining => 2 | .active => 3 | .desync => 4 | .lost => 5
  beOct 4 n ++ beOct 1 st ++ beOct 1 flags ++ beOct 1 r.lastSeq ++ beOct 1 r.dlSeq ++ beOct 1 r.dlAcked ++ beOct 1 0 ++ beOct 4 r.highFc ++
  beOct 4 r.joinFc ++ beOct 4 (nodeKey s n).outFc ++ beOct 5 r.lastRx ++ beOct 5 r.syncAsn ++ beOct 2 r.res

/-- Outgoing counters of the beacon keys of the four PANs. -/
def beaconFcs (s : State) : List Nat :=
  (List.range 4).map (fun p => ((s.sec.slots.find? (fun e => e.2.held && bit e.2.usage 0 && e.2.pan == p && e.2.keyIndex == panField s p 24 1)).map
    (fun e => e.2.outFc)).getD 0)

/-- Sends the delta of superframe F over some nodes in messages of at most 100 records; the tail with the FINAL one (R344, R352). -/
def sendDelta (addr sf : Nat) (final : Bool) (tail : List (Nat × Nat)) (ns : List Nat) (s : State) : State :=
  let parts := max 1 ((ns.length + 99) / 100)
  (List.range parts).foldl (fun t i =>
    let recs := (ns.drop (100 * i)).take 100
    let last := i + 1 == parts
    let tl := if final && last then tail else []
    hrSendAs 0x21 addr (spoken t (servedRegion t).1) (hrEpoch t (servedRegion t).1) (if final then .control else .own)
      (beOct 5 sf ++ beOct 1 s.ctl.work.code ++ beOct 1 (b2n final + 2 * b2n last) ++ (beaconFcs s).flatMap (beOct 4) ++ beOct 2 recs.length ++
        beOct 2 tl.length ++ recs.flatMap (deltaOf s) ++ tl.flatMap (fun g => beOct 5 g.1 ++ beOct 2 g.2)) t) s

/-- The roles take effect on this unit (R342): partners, spare and mirrored regions. A region that finds no spare logs it. The mirror of a region that the
unit has taken over stays readable in MIRROR_EXPORT (R58). -/
def recompute (s : State) : State :=
  let r := roles s
  let me := s.hed.home
  let mine := (servedRegion s).1
  let spare := ((r.spares.find? (fun x => x.1 == mine && x.2.1 == me)).map (fun x => x.2.2))
  let mirroring := (r.spares.filter (fun x => x.2.2 == me)).map (·.1)
  let kept (m : Mirror) : Bool := mirroring.contains m.region || m.region == me || s.hed.held.any (fun h => h.1 == m.region) ||
    (match s.hed.incoming with
      | some i => i.region == m.region
      | none => false)
  let s1 := { s with
    gla := { s.gla with partners := (r.partnersOf me).take 4 }
    hed := { s.hed with spare := spare, mirroring := mirroring, mirrors := s.hed.mirrors.filter kept } }
  let noted := s.shd.ring.any (fun e => e.type == 0x48 && e.data.take 7 == beOct 1 1 ++ beOct 2 mine ++ beOct 4 (hrEpoch s mine))
  if spare.isNone ∧ servesMode s.ctl.mode.code ∧ s.hed.st = 2 ∧ pansOn s ≠ [] ∧ (s.hed.spare.isSome ∨ ¬ noted) then hrLog 1 mine (hrEpoch s mine) s1
  else if spare ≠ s.hed.spare then
    match spare with
    | some a => sendShadows a { s1 with hed := { s1.hed with dirty := true, ackDigest := none, snapSf := none } }
    | none => s1
  else s1

/-! ### Speaking -/

/-- What a change makes the unit say: a heartbeat and an LSA where what they say has changed, the snapshot owed, and the events. -/
def speak (s : State) : State :=
  if ¬ hrRuns s ∨ (s.hed.home = 0xFFFF) then s
  else
    let s1 := if hbSays s = s.hed.saidHb then s else sendHeartbeat s
    let s2 := if lsaSays s1 = s1.hed.saidLsa then s1 else recompute (originateLsa s1)
    sendOwed (mirrorChange s2)

/-! ### Fencing and isolation (R335, R350, R351) -/

/-- Emission stops from the next slot start and a unit in a working mode or M10 enters M9 (Table 02-7); a pending change is overridden (R46,
R62, R350, R351). -/
def standDown (s : State) : State :=
  if ¬ s.ctl.mode.working ∧ s.ctl.mode ≠ .m10 then dropChange 1 s
  else
    let s1 := dropChange 1 s
    match s1.eas.running, s1.eas.next with
    | true, some e =>
      let p := s1.eas.nextPlan
      let s2 := if p.asn = e then p.tx.foldl (fun s c => dropCarrier c s) { s1 with eas := { s1.eas with nextPlan := { p with tx := [] } } } else s1
      { s2 with ctl := { s2.ctl with change := some { target := .m9, kind := .atSlot, eff := e, committed := true } } }
    | _, _ => takeChange { target := .m9, kind := .atSlot, eff := s1.eas.asn } s1

/-- The unit loses a region to its holder at a higher epoch: it is fenced for it (R335, R351). A unit whose imported address is held by another enters M9
also from M3 and M4 (R62, log entry 196). -/
def fenceRegion (region epoch : Nat) (s : State) : State :=
  let served := (servedRegion s).1 == region
  let claims := region == s.hed.home || s.hed.held.any (fun h => h.1 == region)
  let s1 := { learnEpoch region epoch s with hed := { (learnEpoch region epoch s).hed with
    held := s.hed.held.filter (fun h => h.1 != region)
    handing := if served then none else s.hed.handing
    incoming := match s.hed.incoming with
      | some i => if i.region = region then none else some i
      | none => none
    st := if claims then 3 else s.hed.st
    claim := if region = s.hed.home then none else s.hed.claim } }
  let s2 := if served ∨ s.hed.incoming.any (fun i => i.region == region) then standDown s1 else s1
  let s3 := if region = s.hed.home ∧ odNat s 0x1100 4 = 2 ∧ (s2.ctl.mode = .m3 ∨ s2.ctl.mode = .m4) then enterMode .m9 s2 else s2
  settleFenced (hrLog 5 region epoch s3)

/-- The unit falls silent for a region that it still holds, until it knows whether another holds it (R350). -/
def isolate (s : State) : State :=
  standDown { s with hed := { s.hed with st := if s.hed.st = 2 then 4 else s.hed.st, handing := none } }

/-- Whether the database or a neighbour shows another holder of a held region that wins over this unit (R335, R350). -/
def beaten (s : State) (h : Nat × Nat) : Option Nat :=
  let me (e : Nat) (w : Bool) (n : Octets) : Bool := holderWins e w n h.2 (servesMode s.ctl.mode.code) s.chip.serial
  let byLsa := s.hed.lsdb.filterMap (fun l => (l.held.find? (fun x => x.1 == h.1 && l.serial != s.chip.serial && me x.2 (servesMode l.mode) l.serial)).map (·.2))
  let byAdj := s.hed.adj.filterMap (fun l => (l.held.find? (fun x => x.1 == h.1 && l.serial != s.chip.serial && me x.2 (servesMode l.mode) l.serial)).map (·.2))
  ((byLsa ++ byAdj).filter (fun e => !voidEpoch s h.1 e)).head?

/-- Every held region that another unit holds by R335 is lost: at a higher epoch as R350 states, at an equal one fenced. -/
def settleHeld (s : State) : State :=
  s.hed.held.foldl (fun s h => match beaten s h with
    | some e => if h.2 < e ∧ s.hed.st = 2 then isolate (learnEpoch h.1 e s) else fenceRegion h.1 e s
    | none => s) s

/-! ### Death and takeover (R346, R347) -/

/-- The ASN epoch of a mirrored region. -/
def mirrorEpoch (s : State) (m : Mirror) : Epoch :=
  match m.snapshot with
  | some v => match (exportEntries v).find? (fun e => e.1 == odKey 0x2100 1 0) with
    | some e => decodeEpoch e.2
    | none => curEpoch s
  | none => curEpoch s

/-- The first superframe boundary of an epoch that starts at least `ms` from now. -/
def boundaryAfter (s : State) (ep : Epoch) (ms : Nat) : Nat :=
  epochFirstAt ep ((nowNs s + ms * 1000000 + 25599999999) / 25600000000 * 25600000000)

/-- A TAKEOVER or HANDOVER body (Table 14-5). -/
def encodeMove (region epoch : Nat) (serial : Octets) (eff mode : Nat) (digest : Octets) : Octets :=
  beOct 2 region ++ beOct 4 epoch ++ padTo 8 serial ++ beOct 5 eff ++ beOct 1 mode ++ padTo 32 digest

/-- Whether another unit than this one, which the database shows as an adjacency of the holder, lately listed the holder SUSPECT. -/
def secondWitness (s : State) (h : Nat) : Bool :=
  let since := s.clk.elapsed - 2 * helloCycles s
  let near (a : Nat) : Bool := a != s.hed.home && (match lsaOf (database s) h with
    | some l => l.adj.any (fun e => e.1 == a)
    | none => false)
  s.hed.adj.any (fun x => near x.addr && x.suspects.contains h && decide (since ≤ x.lastHb)) ||
  s.hed.lsdb.any (fun l => near l.origin && l.suspects.contains h && decide (since ≤ l.at_))

/-- Whether the spare declares the holder of a mirrored region dead (R346). -/
def isDead (s : State) (m : Mirror) : Bool :=
  s.hed.mirroring.contains m.region && s.hed.adj.any (fun x => x.addr == m.holder && x.suspect) && secondWitness s m.holder &&
  m.snapshot.isSome && s.clk.valid && s.hed.incoming.isNone && s.ctl.mode == .m9

/-- The declaration (R347): DEAD, TAKEOVER, M10, and the region on its way. -/
def declareDead (m : Mirror) (s : State) : State :=
  let e := knownEpoch s m.region
  let eff := boundaryAfter s (mirrorEpoch s m) (odNat s 0x7001 3)
  let s1 := hrLog 4 m.region (e + 1) (hrLog 3 m.region e (hrCount 8 s))
  let s2 := hrSend 0x11 hrAll m.region (encodeMove m.region (e + 1) s.chip.serial eff m.mode []) (hrSend 0x10 hrAll m.region (beOct 2 m.region ++ beOct 4 e) s1)
  let s3 := learnEpoch m.region (e + 1) { s2 with hed := { s2.hed with
    incoming := some { kind := 0, region := m.region, epoch := e + 1, eff := eff, mode := m.mode }
    mirrors := s2.hed.mirrors.filter (fun x => x.region == m.region), mirroring := [m.region] } }
  enterMode .m10 (dropChange 1 s3)

/-- Declares the first holder that is dead. -/
def declareDeaths (s : State) : State :=
  match s.hed.mirrors.find? (isDead s) with
  | some m => declareDead m s
  | none => s

/-- What every change of the database or of an adjacency is followed by (R341, R342, R346, R350). -/
def afterChange (s : State) : State :=
  speak (declareDeaths (recompute (settleHeld (writeRoutes (settleFenced s)))))

/-! ### Retake (R351) -/

/-- A unit that was only cut off, and whose region no other unit holds, retakes it at epoch + 1 (R351). -/
def retake (s : State) : State :=
  match s.hed.held.getLast? with
  | none => s
  | some h =>
    let eff := boundaryAfter s (curEpoch s) (odNat s 0x7001 3)
    let s1 := hrSend 0x11 hrAll h.1 (encodeMove h.1 (h.2 + 1) s.chip.serial eff s.ctl.work.code []) s
    let s2 := { s1 with hed := { s1.hed with incoming := some { kind := 1, region := h.1, epoch := h.2 + 1, eff := eff, mode := s.ctl.work.code } } }
    enterMode .m10 s2

/-- An isolated unit hears an adjacency: it says what it holds; one that knows of a higher epoch is fenced; and once it has been heard and
no FENCE came, it retakes its region (R351). -/
def hearAgain (wasIsolated : Bool) (s : State) : State :=
  if s.hed.st ≠ 4 then s
  else
    match s.hed.held.find? (fun h => decide (h.2 < sget (fun _ => 0) s.hed.known h.1)) with
    | some h => fenceRegion h.1 (knownEpoch s h.1) s
    | none => if wasIsolated then sendHeartbeat s else if s.hed.incoming.isNone ∧ s.ctl.mode = .m9 then retake s else s

end Sys2Proof.Machine
end

