-- ==== Sys2Proof/Machine/HrMsgs.lean ====
section
/-!
DEFINITION. The Hedgerow's messages and timers (spec/14): heartbeats, advertisements, claims, death, takeover, fencing, mirroring and the
switch-back, each as what it does to the unit.
-/

namespace Sys2Proof.Machine

/-! ### Heartbeats (R339, R340, R351) -/

/-- The adjacency record after a heartbeat. -/
def heardAdj (e : Env) (b : Heartbeat) (s : State) : HrAdj :=
  let old := (hrAdjOf s e.src).getD { addr := e.src, lastHb := 0 }
  { old with serial := e.unit, lastHb := s.clk.elapsed, listsUs := b.adj.contains s.hed.home, suspect := false, mode := b.mode, flags := b.flags % 16
             before := if b.mode = 10 then old.before else b.mode, held := b.held, adj := b.adj, suspects := b.suspects, rtts := (b.rtt :: old.rtts).take 16, port := e.port, mac := e.mac }

/-- The adjacencies with a record put in: at most 32, of those that are up the ones with the lowest addresses (R339); places that are left go to SUSPECT ones, then
to units heard that do not list this one (DESIGN CHOICE, log entry 191). -/
def putAdj (x : HrAdj) (l : List HrAdj) : List HrAdj :=
  let low (l : List HrAdj) : List HrAdj := l.mergeSort (fun a b => decide (a.addr ≤ b.addr))
  let all := l.filter (fun y => y.addr != x.addr) ++ [x]
  low ((low (all.filter HrAdj.up) ++ low (all.filter (fun y => !y.up && y.suspect)) ++ low (all.filter (fun y => !y.up && !y.suspect))).take 32)

/-- A new adjacency that is up is sent every LSA held (R341). -/
def exchange (addr : Nat) (s : State) : State :=
  (database s).foldl (fun s l => hrSend 0x02 addr (homeRegion s) (encodeLsa l) s) s

/-- Whether the database exchange with an adjacency has completed: it is up, and its own LSA is held (R334). -/
def settleExchange (s : State) : State :=
  if s.hed.exchanged ∨ ¬ s.hed.adj.any (fun x => x.up && s.hed.lsdb.any (fun l => l.origin == x.addr)) then s
  else settleWaiting { s with hed := { s.hed with exchanged := true } }

/-- The target of a withdrawn handover speaks again: it is fenced, until its heartbeat shows it in M9 without the region (R354). -/
def hearWithdrawn (e : Env) (b : Heartbeat) (s : State) : State :=
  match s.hed.withdrawn with
  | some w =>
    if w.1 ≠ e.src then s
    else if b.mode = 9 ∧ ¬ b.held.any (fun h => h.1 == w.2.1) then { s with hed := { s.hed with withdrawn := none } }
    else answerFence e s
  | none => s

/-- HEARTBEAT (R339). -/
def execHeartbeat (e : Env) (b : Heartbeat) (s : State) : Host.Outcome State Fault Refusal :=
  done s (hrReceive 0x01 e (fun s =>
    if e.unit = s.chip.serial then s
    else
      let was := ((hrAdjOf s e.src).map HrAdj.up).getD false
      let x := heardAdj e b s
      let cut := s.hed.isolated
      let s1 := hearWithdrawn e b { s with hed := { s.hed with adj := putAdj x s.hed.adj, heardAt := s.clk.elapsed, isolated := false } }
      let s2 := learnHeld b.held s1
      let s3 := if x.up ∧ ¬ was ∧ (hrAdjOf s2 e.src).isSome then exchange e.src s2 else s2
      afterChange (settleExchange (hearAgain cut s3))) s)

/-- HELLO_TIMER (R339): HR_HELLO after the last heartbeat. -/
def execHelloTimer (s : State) : Host.Outcome State Fault Refusal :=
  if hrRuns s ∧ s.hed.home ≠ 0xFFFF then done s (sendHeartbeat (advanceElapsed (s.hed.helloAt + helloCycles s) s)) else done s s

/-- SUSPECT_TIMEOUT (R339, R346): no heartbeat for 3.5 HR_HELLO. A mirrored holder with no other neighbour is never declared dead, and the spare
logs the case. -/
def execSuspectTimeout (addr : Nat) (s : State) : Host.Outcome State Fault Refusal :=
  match hrAdjOf s addr with
  | some x =>
    if x.suspect ∨ ¬ hrRuns s then done s s
    else
      let s1 := advanceElapsed (x.lastHb + 7 * helloCycles s / 2) s
      let s2 := { s1 with hed := { s1.hed with adj := putAdj { x with suspect := true } s1.hed.adj } }
      let alone := match lsaOf (database s2) addr with
        | some l => l.adj.all (fun e => e.1 == s2.hed.home)
        | none => true
      let s3 := match s2.hed.mirrors.find? (fun m => m.holder == addr && s2.hed.mirroring.contains m.region) with
        | some m => if alone then hrLog 2 m.region (knownEpoch s2 m.region) (hrCount 9 s2) else s2
        | none => s2
      done s (afterChange s3)
  | none => done s s

/-- ISOLATION_TIMEOUT (R340, R350): HR_ISOLATE without a heartbeat; with a spare named, a holder falls silent. -/
def execIsolationTimeout (s : State) : Host.Outcome State Fault Refusal :=
  let t := odNat s 0x7001 4
  if t = 0 ∨ s.hed.isolated ∨ ¬ hrRuns s then done s s
  else
    let s1 := advanceElapsed (s.hed.heardAt + t * msCycles) s
    let s2 := { s1 with hed := { s1.hed with isolated := true } }
    done s (speak (if s2.hed.spare.isSome ∧ s2.hed.held ≠ [] then isolate s2 else s2))

/-! ### Link state (R341) -/

/-- R341: an LSA is newer than the one the database holds of its origin. -/
def lsaNewer (b : LsaBody) (s : State) : Bool :=
  match s.hed.lsdb.find? (fun l => l.origin == b.origin) with
  | some l => decide (l.seq < b.seq)
  | none => true

/-- LSA (R341): a newer one enters the database and is flooded on. -/
def execLsa (e : Env) (b : LsaBody) (s : State) : Host.Outcome State Fault Refusal :=
  done s (hrReceive 0x02 e (fun s =>
    if b.serial = s.chip.serial ∨ lsaNewer b s = false then s
    else
      let l : LsaRec := { origin := b.origin, serial := b.serial, seq := b.seq, variant := b.variant, stepping := b.stepping, mode := b.mode
                          flags := b.flags % 16, ipv6 := b.ipv6, held := b.held, adj := b.adj, suspects := b.suspects, cand := b.cand
                          spares := b.spares, takeoverS := b.takeoverS, isolateS := b.isolateS, at_ := s.clk.elapsed }
      let s1 := learnHeld b.held { s with hed := { s.hed with lsdb := (s.hed.lsdb.filter (fun x => x.origin != b.origin)) ++ [l] } }
      let s2 := ((upAdj s1).filter (fun x => x.addr != e.src)).foldl (fun s x => hrSend 0x02 x.addr (homeRegion s) (encodeLsa l) s) s1
      afterChange (settleExchange s2)) s)

/-- LSA_REFRESH_TIMER (R341): HR_LSA_REFRESH after the last own LSA. -/
def execLsaRefreshTimer (s : State) : Host.Outcome State Fault Refusal :=
  if hrRuns s ∧ s.hed.home ≠ 0xFFFF then done s (originateLsa (advanceElapsed (s.hed.lsaAt + odNat s 0x7001 7 * secCycles) s)) else done s s

/-- LSA_AGE_EXPIRY (R341): 3 HR_LSA_REFRESH without a newer one. -/
def execLsaAgeExpiry (origin : Nat) (s : State) : Host.Outcome State Fault Refusal :=
  match s.hed.lsdb.find? (fun l => l.origin == origin) with
  | some l =>
    let s1 := advanceElapsed (l.at_ + 3 * odNat s 0x7001 7 * secCycles) s
    done s (afterChange { s1 with hed := { s1.hed with lsdb := s1.hed.lsdb.filter (fun l => l.origin != origin) } })
  | none => done s s

/-! ### Addresses (R334, R335) -/

/-- The epoch under which the unit claims its home address. -/
def homeEpoch (s : State) : Nat := odNat s 0x7010 1

/-- CLAIM (R335): a holder of the address answers with DEFEND, and the holder of the region is decided. -/
def execClaim (e : Env) (addr epoch : Nat) (s : State) : Host.Outcome State Fault Refusal :=
  done s (hrReceive 0x03 e (fun s =>
    let s0 := if s.hed.listenUntil.isSome then { s with hed := { s.hed with claimsHeard := addr :: s.hed.claimsHeard } } else s
    if e.unit = s.chip.serial then s0
    else match s0.hed.held.find? (fun h => h.1 == addr), s0.hed.claim with
      | some h, _ =>
        let s1 := hrSend 0x04 e.src addr (beOct 2 addr ++ beOct 4 h.2 ++ beOct 1 s0.ctl.mode.code ++ padTo 8 s0.chip.serial) s0
        if holderWins epoch false e.unit h.2 (servesMode s0.ctl.mode.code) s0.chip.serial then speak (fenceRegion addr epoch s1) else s1
      | none, some c =>
        if c.1 = addr ∧ holderWins epoch false e.unit (homeEpoch s0) false s0.chip.serial then speak (fenceRegion addr epoch s0) else s0
      | none, none => s0) s)

/-- DEFEND (R335): a claimant that does not win is fenced. -/
def execDefend (e : Env) (addr epoch mode : Nat) (serial : Octets) (s : State) : Host.Outcome State Fault Refusal :=
  done s (hrReceive 0x04 e (fun s =>
    let mine := (s.hed.claim.map (·.1)) == some addr || s.hed.held.any (fun h => h.1 == addr)
    let own := ((s.hed.held.find? (fun h => h.1 == addr)).map (·.2)).getD (homeEpoch s)
    if mine ∧ serial ≠ s.chip.serial ∧ holderWins epoch (servesMode mode) serial own (servesMode s.ctl.mode.code) s.chip.serial then
      speak (fenceRegion addr epoch s)
    else s) s)

/-- The claim completes: the unit holds its home region, whose epoch starts at 1 (R333, R334). -/
def claimDone (addr : Nat) (s : State) : State :=
  let epoch := max 1 (homeEpoch s)
  let s1 := odPut 0x7010 1 0 (beOct 4 epoch) { s with hed := { s.hed with
    claim := none, claimed := true, st := 2, home := addr, held := [(addr, epoch)], heardAt := s.clk.elapsed } }
  afterChange (settleWaiting (learnEpoch addr epoch s1))

/-- CLAIM_TIMER (R334): three CLAIMs 1 s apart, and 1 s after the third the claim completes. -/
def execClaimTimer (s : State) : Host.Outcome State Fault Refusal :=
  match s.hed.claim with
  | some (addr, n) =>
    if ¬ hrRuns s then done s s
    else
      let s1 := if n = 0 then s else advanceElapsed (s.hed.claimAt + secCycles) s
      if 3 ≤ n then done s (claimDone addr s1)
      else
        let s2 := (hrAround s1).foldl (fun t d => hrSendTo 0x03 d.1 addr (homeEpoch t) .own d.2 none (nowNs t) (beOct 2 addr ++ beOct 4 (homeEpoch t)) t) s1
        done s { s2 with hed := { s2.hed with claim := some (addr, n + 1), claimAt := s2.clk.elapsed } }
  | none => done s s

/-- ADDRESS_LISTEN_END (R334): the lowest address that no database entry and no CLAIM heard names is written and claimed. -/
def execAddressListenEnd (s : State) : Host.Outcome State Fault Refusal :=
  match s.hed.listenUntil with
  | some t =>
    let s1 := advanceElapsed t s
    let taken := s1.hed.claimsHeard ++ s1.hed.lsdb.flatMap (fun l => l.origin :: l.held.map (·.1))
    match (List.range 4096).find? (fun a => !taken.contains a) with
    | some a =>
      done s (odPut 0x7000 2 0 (beOct 2 a) { s1 with hed := { s1.hed with listenUntil := none, claimsHeard := [], home := a, claim := some (a, 0) } })
    | none => done s { s1 with hed := { s1.hed with listenUntil := none } }
  | none => done s s

/-! ### Death, takeover and fencing (R347, R350, R351) -/

/-- Whether the unit holds a region. -/
def holdsRegion (s : State) (region : Nat) : Bool := s.hed.held.any (fun h => h.1 == region)

/-- DEAD (R350): naming a region it holds, the unit falls silent. -/
def execDead (e : Env) (addr epoch : Nat) (s : State) : Host.Outcome State Fault Refusal :=
  done s (hrReceive 0x10 e (fun s =>
    if holdsRegion s addr ∧ e.unit ≠ s.chip.serial ∧ hrEpoch s addr ≤ epoch then speak (isolate s) else s) s)

/-- The unit that a TAKEOVER or HANDOVER names serves the region from E in a mode: in M10 it counts as being in that mode, if it comes from M9 (R269,
log entry 192). -/
def noteMove (b : MoveBody) (s : State) : State :=
  { s with hed := { s.hed with adj := s.hed.adj.map (fun x => if x.serial = b.newHolder ∧ x.before = 9 then { x with before := b.mode } else x) } }

/-- TAKEOVER (R350, R354): the region's new epoch is known; a holder of it falls silent, and a move of it to this unit ends. -/
def execTakeover (e : Env) (b : MoveBody) (s : State) : Host.Outcome State Fault Refusal :=
  done s (hrReceive 0x11 e (fun s =>
    if b.newHolder = s.chip.serial then s
    else
      let moved : Bool := match s.hed.incoming with
        | some i => i.region == b.region && decide (i.epoch ≤ b.newEpoch)
        | none => false
      let s1 := noteMove b (learnEpoch b.region b.newEpoch s)
      let s2 := if moved then standDown { s1 with hed := { s1.hed with incoming := none } } else s1
      if holdsRegion s2 b.region ∧ hrEpoch s2 b.region < b.newEpoch then speak (isolate s2) else speak s2) s)

/-- FENCE (R351): the unit stops emitting within one slot, and is fenced for the region; by an epoch equal to its own where a handover to it was withdrawn
(R354). -/
def execFence (e : Env) (region epoch : Nat) (holder : Octets) (s : State) : Host.Outcome State Fault Refusal :=
  done s (hrReceive 0x12 e (fun s =>
    let s1 := learnEpoch region epoch (hrCount 5 s)
    let lower := s1.hed.held.any (fun h => h.1 == region && decide (h.2 ≤ epoch)) ||
      (s1.hed.claim.map (·.1) == some region && decide (homeEpoch s1 < epoch)) ||
      (match s1.hed.incoming with
        | some i => i.region == region && decide (i.epoch ≤ epoch) && holder != s1.chip.serial
        | none => false)
    if lower ∧ holder ≠ s1.chip.serial then speak (fenceRegion region epoch s1) else s1) s)

/-- The region is held at its new epoch and the unit serves it (R333, R347, R351, R352); of its mirror the export stays, to be read (R58). -/
def holdRegion (i : Incoming) (s : State) : State :=
  let s1 := learnEpoch i.region i.epoch s
  let s2 := if i.region = s1.hed.home then odPut 0x7010 1 0 (beOct 4 i.epoch) s1 else s1
  { s2 with hed := { s2.hed with
    held := s2.hed.held.filter (fun h => h.1 != i.region) ++ [(i.region, i.epoch)], incoming := none, isolated := false, handing := none
    st := if i.region = s2.hed.home ∨ s2.hed.st = 4 then 2 else s2.hed.st
    mirrors := s2.hed.mirrors.map (fun m => if m.region = i.region then
      { m with holder := s2.hed.home, segs := [], nseg := 0, recs := [], sf := 0, final := false, gackTail := [] } else m)
    dirty := true, ackDigest := none, snapSf := none } }

/-- The region on its way takes effect at E: it is adopted where its preparation window has not done so, held, and served in its mode. -/
def regionEffective (i : Incoming) (s : State) : State :=
  let s1 := if i.adopted then s else takeUp i s
  let s2 := advanceToSlot i.eff s1
  let s3 := holdRegion i s2
  match s3.ctl.change with
  | some c => afterChange (takeChange c s3)
  | none => afterChange s3

/-- TAKEOVER_EFFECTIVE (R347, R351). -/
def execTakeoverEffective (s : State) : Host.Outcome State Fault Refusal :=
  match s.hed.incoming with
  | some i => if i.kind < 2 ∧ (i.adopted ∨ ¬ s.eas.running ∨ incomingStart i s ≤ startNs s (s.eas.asn + 1)) then done s (regionEffective i s) else done s s
  | none => done s s

/-! ### Mirrors (R343 to R345) -/

/-- Whether the unit keeps a mirror of a region: it is designated to, or it is the fenced home unit to which the region can return. -/
def mirrorsRegion (s : State) (region : Nat) : Bool :=
  s.ctl.mode == .m9 && (s.hed.mirroring.contains region || (region == s.hed.home && s.hed.st == 3))

/-- The mirror of a region. -/
def mirrorOf (s : State) (region : Nat) : Option Mirror := s.hed.mirrors.find? (fun m => m.region == region)

/-- Puts a mirror in its place. -/
def putMirror (m : Mirror) (s : State) : State :=
  { s with hed := { s.hed with mirrors := s.hed.mirrors.filter (fun x => x.region != m.region) ++ [m] } }

/-- A complete snapshot is checked as R60 checks an import, and against the highest epoch known (R343). -/
def snapshotStatus (o : Octets) (sigOk : Bool) (region : Nat) (s : State) : Nat :=
  match exportFault o sigOk s with
  | some f => f.1
  | none => if exportEpoch o < knownEpoch s region then stEpochStale else stOk

/-- An octet of an export's value as a number; `dflt` where the export has no such value. -/
def exportNat (o : Octets) (idx sub row dflt : Nat) : Nat := (((exportEntries o).find? (fun e => e.1 == odKey idx sub row)).map (fun e => fieldNat e.2 0 1)).getD dflt

/-- Whether an export holds an enabled PAN. -/
def exportServes (o : Octets) : Bool := (List.range 4).any (fun p => exportNat o 0x4030 1 p 0 == 1)

/-- One segment of a snapshot; the last completes it, and it is answered. -/
def takeSnapshot (e : Env) (seg nseg : Nat) (data : Octets) (sigOk : Bool) (s : State) : State :=
  let m0 := ((mirrorOf s e.region).filter (fun m => m.holder == e.src)).getD { region := e.region, holder := e.src }
  let kept := if m0.nseg = nseg then m0.segs.filter (fun x => x.1 != seg) else []
  let segs := kept ++ [(seg, data)]
  if segs.length < nseg then putMirror { m0 with holder := e.src, segs := segs, nseg := nseg } s
  else
    let o := (List.range nseg).flatMap (fun i => ((segs.find? (fun x => x.1 == i)).map (·.2)).getD [])
    let st := snapshotStatus o sigOk e.region s
    let m1 := { m0 with holder := e.src, segs := [], nseg := 0 }
    let m2 := if st = stOk then { m1 with snapshot := some o, epoch := exportEpoch o, glazeOn := exportNat o 0x6000 1 0 1 = 1, served := exportServes o } else m1
    hrSend 0x22 e.src (spoken s e.region) (beOct 2 e.region ++ padTo 32 (shake o) ++ beOct 2 st) (putMirror m2 s)

/-- MIRROR_SNAPSHOT (R343). -/
def execMirrorSnapshot (e : Env) (seg nseg : Nat) (data : Octets) (sigOk : Bool) (s : State) : Host.Outcome State Fault Refusal :=
  done s (hrReceive 0x20 e (fun s => if mirrorsRegion s e.region ∧ seg < nseg then takeSnapshot e seg nseg data sigOk s else s) s)

/-- A delta joins the mirror: the latest record of each node. -/
def applyDelta (b : DeltaBody) (m : Mirror) : Mirror :=
  let recs := b.recs.foldl (fun l (d : DeltaNode) => sinsert d.node ({
    node := d.node, st := d.st, flags := d.flags, lastSeq := d.lastSeq, dlSeq := d.dlSeq, dlAcked := d.dlAcked, highFc := d.highFc
    joinFc := d.joinFc, outFc := d.outFc, lastRx := d.lastRx, syncAsn := d.syncAsn, res := d.res } : DeltaRec) l) m.recs
  { m with recs := recs, sf := b.sf, mode := b.mode, beaconFc := b.beaconFc, final := m.final || b.final
           gackTail := if b.final then m.gackTail ++ b.gackTail else m.gackTail }

/-- MIRROR_DELTA (R345): also a FINAL one, for a target in M10. -/
def execMirrorDelta (e : Env) (b : DeltaBody) (s : State) : Host.Outcome State Fault Refusal :=
  done s (hrReceive 0x21 e (fun s =>
    let target : Bool := match s.hed.incoming with
      | some i => i.region == e.region && !i.adopted
      | none => false
    match mirrorOf s e.region with
    | some m => if (mirrorsRegion s e.region ∨ target) ∧ m.holder = e.src ∧ m.snapshot.isSome ∧ m.sf ≤ b.sf then putMirror (applyDelta b m) s else s
    | none => s) s)

/-- Sets HR_HANDOVER_STATUS. -/
def handoverStatus (st status eff : Nat) (s : State) : State := odPut 0x7030 2 0 (beOct 1 st ++ beOct 2 status ++ beOct 5 eff) s

/-- The target acknowledged its snapshot: HANDOVER is sent, its commit point, and the holder enters M10 (R352, R353), the target owing it no delta yet. -/
def announceHandover (h : Handing) (digest : Octets) (s : State) : State :=
  let r := servedRegion s
  let eff := boundaryAfter s (curEpoch s) (odNat s 0x7001 5)
  let s1 := hrSend 0x13 hrAll r.1 (encodeMove r.1 (r.2 + 1) (((hrAdjOf s h.target).map (·.serial)).getD (zeros 8)) eff s.ctl.work.code digest) s
  let s2 := { s1 with hed := { s1.hed with handing := some { h with epoch := r.2 + 1, eff := some eff } } }
  enterMode .m10 (handoverStatus 2 0 eff s2)

/-- MIRROR_ACK (R343, R352). Only a working mode with no change pending leads to M10 (Table 02-7): where that no longer holds the handover ends
(log entry 184). -/
def execMirrorAck (e : Env) (region status : Nat) (digest : Octets) (s : State) : Host.Outcome State Fault Refusal :=
  done s (hrReceive 0x22 e (fun s =>
    if region ≠ (servedRegion s).1 then s
    else
      let s1 := if s.hed.spare = some e.src then { s with hed := { s.hed with ackDigest := if status = stOk then some digest else none } } else s
      match s1.hed.handing with
      | some h =>
        if h.target ≠ e.src ∨ h.eff.isSome then s1
        else if status = stOk ∧ ¬ (s1.ctl.mode.working ∧ s1.ctl.change.isNone) then
          handoverStatus 4 stInvalidState 0 { s1 with hed := { s1.hed with handing := none } }
        else if status = stOk then speak (announceHandover h digest s1)
        else handoverStatus 4 status 0 { s1 with hed := { s1.hed with handing := none } }
      | none => s1) s)

/-- The delta of a superframe goes to the spare, and to a handover target once it has its snapshot (R344, Table 14-2). -/
def sendDeltas (sf : Nat) (s0 : State) : State :=
  let s := retryShadows s0
  let s1 := match s.hed.spare with
    | some a => (fun t : State => { t with hed := { t.hed with touched := [] } }) (sendDelta a sf false [] s.hed.touched s)
    | none => s
  match s1.hed.handing with
  | some h =>
    if h.eff.isSome ∧ ¬ h.finalSent ∧ s1.hed.spare ≠ some h.target then
      (fun t : State => { t with hed := { t.hed with handing := some { h with touched := [] } } }) (sendDelta h.target sf false [] h.touched s1)
    else s1
  | none => s1

/-- MIRROR_DELTA_SEND (R344): RETAIN + 2 slots after the end of a superframe. -/
def execMirrorDeltaSend (s : State) : Host.Outcome State Fault Refusal :=
  if (s.hed.spare.isNone ∧ s.hed.handing.isNone) ∨ ¬ s.eas.running ∨ ¬ s.ctl.mode.emits ∨ s.hed.incoming.isSome then done s s
  else
    let wait := (odNat s 0x6000 2 + 2) * slotNs (curEpoch s).code
    let b := (nowNs s - wait) / 25600000000
    let f := if nowNs s ≤ b * 25600000000 + wait + 1000000000 then b else b + 1
    done s (sendDeltas (f - 1) (advanceNs (f * 25600000000 + wait) s))

/-! ### The switch-back (R352 to R354) -/

/-- HANDOVER (R352): the fenced home unit whose snapshot it names enters M10 to take up its region at E. -/
def execHandover (e : Env) (b : MoveBody) (s : State) : Host.Outcome State Fault Refusal :=
  done s (hrReceive 0x13 e (fun s =>
    let named : Bool := match mirrorOf s b.region with
      | some m => (m.snapshot.map (fun o => padTo 32 (shake o))) == some (padTo 32 b.digest)
      | none => false
    if b.newHolder = s.chip.serial ∧ b.region = s.hed.home ∧ s.hed.st = 3 ∧ s.ctl.mode = .m9 ∧ named then
      speak (enterMode .m10 { s with hed := { s.hed with
        incoming := some { kind := 2, region := b.region, epoch := b.newEpoch, eff := b.eff, mode := b.mode } } })
    else if b.newHolder = s.chip.serial then s
    else speak (noteMove b s)) s)

/-- A handover withdrawn: the holder keeps the region at its epoch and serves on (R354). -/
def withdrawHandover (h : Handing) (s : State) : State :=
  let s1 := hrLog 7 (servedRegion s).1 (servedRegion s).2 (handoverStatus 5 0 (h.eff.getD 0) { s with hed := { s.hed with
    handing := none, withdrawn := some (h.target, (servedRegion s).1, h.epoch) } })
  enterMode s1.ctl.work s1

/-- HANDOVER_QUIESCE (R352, R354): at E - H. -/
def execHandoverQuiesce (s : State) : Host.Outcome State Fault Refusal :=
  match s.hed.handing with
  | some h =>
    match h.eff with
    | some e =>
      if h.quiesced ∨ ¬ atSlot s (e - handSlots s) then done s s
      else
        let s1 := advanceToSlot (e - handSlots s) s
        if ((hrAdjOf s1 h.target).map (·.suspect)).getD true then done s (speak (withdrawHandover h s1))
        else done s { s1 with hed := { s1.hed with handing := some { h with quiesced := true } } }
    | none => done s s
  | none => done s s

/-- Accepted frames of the span of R352: from E - 64 - GACK_LAG to E - H - 1. -/
def gackTailOf (e : Nat) (s : State) : List (Nat × Nat) :=
  s.eas.gack.filter (fun g => decide (e ≤ g.1 + 64 + odNat s 0x4001 2) && decide (g.1 + handSlots s < e))

/-- FINAL_DELTA_SEND (R352): at start(E - 4), with every node changed since the target's last delta. -/
def execFinalDeltaSend (s : State) : Host.Outcome State Fault Refusal :=
  match s.hed.handing with
  | some h =>
    match h.eff with
    | some e =>
      if h.finalSent ∨ ¬ h.quiesced ∨ ¬ atSlot s (e - 4) then done s s
      else
        let s1 := advanceToSlot (e - 4) s
        let s2 := sendDelta h.target (sfIndex s1 (e - 1)) true (gackTailOf e s1) h.touched s1
        done s { s2 with hed := { s2.hed with handing := some { h with finalSent := true, touched := [] } } }
    | none => done s s
  | none => done s s

/-- The former holder at E: it enters M9 and no longer holds the region (R352). -/
def handOver (h : Handing) (e : Nat) (s : State) : State :=
  let r := (servedRegion s).1
  let s1 := advanceToSlot e s
  let s2 := learnEpoch r h.epoch { s1 with hed := { s1.hed with
    held := s1.hed.held.filter (fun x => x.1 != r), handing := none, spare := none, ackDigest := none } }
  afterChange (enterMode .m9 (handoverStatus 3 0 e s2))

/-- HANDOVER_EFFECTIVE (R352): at E, for the holder and for the target, which logs a FINAL delta that did not come. -/
def execHandoverEffective (s : State) : Host.Outcome State Fault Refusal :=
  match s.hed.incoming, s.hed.handing.bind (fun h => h.eff.map (fun e => (h, e))) with
  | some i, _ =>
    if i.kind = 2 ∧ (i.adopted ∨ ¬ s.eas.running ∨ incomingStart i s ≤ startNs s (s.eas.asn + 1)) then
      let late := !((mirrorOf s i.region).map (·.final)).getD false
      done s (regionEffective i (if late then hrLog 6 i.region i.epoch s else s))
    else done s s
  | none, some (h, e) => if atSlot s e then done s (handOver h e s) else done s s
  | none, none => done s s

/-! ### Key shadows (R371) -/

/-- SHADOW_WAIT_EXPIRY (R371): two superframes without the spare's answer release the key section and are logged. -/
def execShadowWaitExpiry (n : Nat) (s : State) : Host.Outcome State Fault Refusal :=
  match s.hed.shadowWait.find? (fun w => w.1 == n) with
  | some w =>
    let s1 := advanceNs (sfStart (w.2 + 2)) s
    let r := servedRegion s1
    done s (hrLog 8 r.1 r.2 { s1 with hed := { s1.hed with shadowWait := s1.hed.shadowWait.filter (fun w => w.1 != n) } })
  | none => done s s

/-- What starts at a boot (R334): a unit with HR_ENABLE claims its address, or listens for 10 s first; SEQ starts from the boot counter. -/
def startHedgerow (s : State) : State :=
  let n := (s.hed.bootCount + 1) % 2 ^ 32
  let h : Hed := { bootCount := n, seq := n * 2 ^ 32, heardAt := s.clk.elapsed }
  if ¬ s.chip.hFabric ∨ odNat s 0x7000 1 ≠ 1 then { s with hed := h }
  else
    let a := odNat s 0x7000 2
    let known := if homeEpoch s = 0 ∨ a = 0xFFFF then [] else [(a, homeEpoch s)]
    { s with hed := if a = 0xFFFF then { h with st := 1, listenUntil := some (s.clk.elapsed + 10 * secCycles) }
                    else { h with st := 1, home := a, known := known, claim := some (a, 0) } }

end Sys2Proof.Machine
end

