-- ==== Sys2Proof/Machine/Power.lean ====
section
/-!
DEFINITION. The supplies and Overwinter (spec/19): the two feed trains, brownout records, the validity seal, the calendar and its
shadows, trimming, the countdown channels, and the tamper inputs. Masters are numbered as in Machine/Host.lean.
-/

namespace Sys2Proof.Machine

/-- Modifies the supplies. -/
def modPwr (f : Pwr → Pwr) (s : State) : State := { s with pwr := f s.pwr }

/-! ### The feed trains (R458, R461 to R465, R468) -/

/-- A mark of a train. -/
def markOf (l : List Bool) (t : Nat) : Bool := (l[t]?).getD false

/-- Whether a train is usable as standby (R462). -/
def standbyUsable (s : State) (t : Nat) : Bool := trainOk s t && !markOf s.pwr.deviated t && !markOf s.pwr.failed t

/-- The train that stands by. -/
def standby (s : State) : Nat := 1 - s.pwr.train

/-- Takes new readings; a standby that is back in its window may be logged again when it leaves it (R465). -/
def takeSense (l : List Nat) (s : State) : State :=
  let s1 := modPwr (fun p => { p with sense := (l ++ List.replicate 12 0).take 12 }) s
  modPwr (fun p => { p with stbyOut := p.stbyOut && !trainOk s1 (standby s1) }) s1

/-- Time as Overwinter records it, in 2^-15 s. -/
def owStamp (s : State) : Nat := s.pwr.secs * 32768 + s.pwr.sub

/-- Whether a gap is under way; it ends at most 21 us after its decision (Table 19-3). -/
def inGap (s : State) : Bool :=
  match s.pwr.gapEnd with
  | some t => decide (s.clk.elapsed ≤ t)
  | none => false

/-- Table 19-3 begins: the latch selects a train and the gap runs. -/
def connectTrain (t : Nat) (auto : Option (Nat × Nat × Int)) (s : State) : State :=
  modPwr (fun p => { p with
    train := t, gapEnd := some (s.clk.elapsed + 8400), gapAuto := auto, lastSwitch := some (owStamp s, p.train)
    stbyOut := false }) s

/-- FEED_DEVIATION_DECISION (R462, R465): a rail of the train in service has deviated from the standby's for FEED_TIME; the readings
are those of the sense balls at the decision. -/
def execFeedDeviationDecision (rail : Nat) (sense : List Nat) (s : State) : Host.Outcome State Fault Refusal :=
  if s.ctl.mode = .m0 ∨ 6 ≤ rail then done s s
  else
    let s1 := takeSense sense s
    let t := s1.pwr.train
    let dev : Int := (senseOf s1 t rail : Int) - senseOf s1 (standby s1) rail
    if inGap s1 ∨ dev.natAbs * 1000 ≤ feedCfg s1 0 * railNominal rail then done s s1
    else if standbyUsable s1 (standby s1) then
      done s (connectTrain (standby s1) (some (t, rail, dev)) (modPwr (fun p => { p with deviated := setAt p.deviated t true }) s1))
    else
      let due : Bool := match s1.pwr.noStbyAt with
        | some x => decide (x + secCycles ≤ s1.clk.elapsed)
        | none => true
      if due then
        done s (logEvent 0x61 3 (beOct 1 t ++ beOct 1 rail ++ beInt 2 dev)
          (modPwr (fun p => { p with noStbyAt := some s1.clk.elapsed }) s1))
      else done s s1

/-- FEED_GAP_END (R463, R464): the new train's rails are within window; the switch-over is counted, and an automatic one logged. -/
def execFeedGapEnd (s : State) : Host.Outcome State Fault Refusal :=
  match s.pwr.gapEnd with
  | none => done s s
  | some _ =>
    let s1 := modPwr (fun p => { p with gapEnd := none, gapAuto := none, switches := (p.switches + 1) % 2 ^ 32 }) s
    match s.pwr.gapAuto with
    | some (t, rail, dev) => done s (logEvent 0x60 2 (beOct 1 t ++ beOct 1 rail ++ beInt 2 dev) s1)
    | none => done s s1

/-- STANDBY_OUT_OF_WINDOW (R465): logged once while it lasts. -/
def execStandbyOutOfWindow (rail mv : Nat) (s : State) : Host.Outcome State Fault Refusal :=
  if s.ctl.mode = .m0 ∨ 6 ≤ rail then done s s
  else
    let t := standby s
    let s1 := modPwr (fun p => { p with sense := setAt p.sense (6 * t + rail) mv }) s
    if stbyOk s rail mv ∨ s.pwr.stbyOut then done s s1
    else done s (logEvent 0x62 2 (beOct 1 t ++ beOct 1 rail ++ beOct 2 mv) (modPwr (fun p => { p with stbyOut := true }) s1))

/-- What R468 refuses: 0 nothing, else a status. -/
def feedSwitchFault (t : Nat) (s : State) : Nat :=
  if t = s.pwr.train ∨ markOf s.pwr.failed t ∨ ¬ trainOk s t then stInvalidState
  else if inGap s then stBusy
  else 0

/-- A manual switch-over (R468): the train left is not marked, and a DEVIATED train switched to is cleared. -/
def feedSwitch (t : Nat) (s : State) : State :=
  logEvent 0x64 2 (beOct 1 t)
    (connectTrain t none (modPwr (fun p => { p with deviated := setAt p.deviated t false }) s))

/-- FEED_CLEAR: the marks of a train are cleared (R465). -/
def feedClear (t : Nat) (s : State) : State :=
  modPwr (fun p => { p with deviated := setAt p.deviated t false, failed := setAt p.failed t false }) s

/-! ### Overwinter's supply and seal (R469, R470) -/

/-- The seal breaks: KEK_NONCE is lost and the feed latch comes back selecting train A (R363, R461, R470). -/
def breakSeal (s : State) : State := modPwr (fun p => { p with sealed := false, nonce := none, train := 0 }) s

/-- The seal after the node's supply has changed: it breaks where the node lies below 1.60 V. -/
def settleSeal (s : State) : State := if owPowered s then s else breakSeal s

/-- OW_SUPPLY_CHANGE (R469). -/
def execOwSupplyChange (toVbat : Bool) (s : State) : Host.Outcome State Fault Refusal :=
  done s (settleSeal (modPwr (fun p => { p with onVbat := toVbat }) s))

/-- SEAL_BREAK (R470): the node has fallen below 1.60 V. -/
def execSealBreak (s : State) : Host.Outcome State Fault Refusal := done s (breakSeal s)

/-- VBAT_LOW_CHECK (R469): VBAT is measured; below 2.2 V while VAON feeds the node it is logged at most once per hour. -/
def execVbatLowCheck (mv : Nat) (s : State) : Host.Outcome State Fault Refusal :=
  let s1 := settleSeal (modPwr (fun p => { p with vbat := mv }) s)
  if s.ctl.mode = .m0 then done s s1
  else
    let due : Bool := match s.pwr.vbatLogged with
      | some t => decide (t + 3600 * secCycles ≤ s.clk.elapsed)
      | none => true
    if ¬ s.pwr.onVbat ∧ mv < 2200 ∧ due then
      done s (logEvent 0x66 2 (beOct 2 mv) (modPwr (fun p => { p with vbatLogged := some s.clk.elapsed }) s1))
    else done s s1

/-- MAKE_SEAL: the seal is made while the node is powered (R470, Table 19-5). -/
def makeSeal (s : State) : State := if owPowered s then modPwr (fun p => { p with sealed := true }) s else s

/-- Whether a master may access Overwinter's registers: Gesso and Shed (R481). -/
def owMaster (master : Nat) : Bool := master == 1 || master == 4

/-- Runs a register command of Overwinter, or refuses the access under R26. -/
def asOwMaster (ok : Bool) (master addr : Nat) (f : State → State) (s : State) : State :=
  if ok then f s else accessViolation master addr s

/-- MAKE_SEAL_WRITE (R470, R481): Gesso's alone. -/
def execMakeSealWrite (master : Nat) (s : State) : Host.Outcome State Fault Refusal :=
  done s (asOwMaster (master == 1) master 0x4E000030 makeSeal s)

/-- The KEK_NONCE register takes 32 octets; zero is none (R363, R364). -/
def setNonce (o : Octets) (s : State) : State :=
  modPwr (fun p => { p with nonce := if padTo 32 o = zeros 32 then none else some (padTo 32 o) }) s

/-- KEK_NONCE_WRITE (R363, R481): Gesso's alone. -/
def execKekNonceWrite (master : Nat) (nonce : Octets) (s : State) : Host.Outcome State Fault Refusal :=
  done s (asOwMaster (master == 1) master 0x4E000060 (setNonce nonce) s)

/-! ### The calendar (R471 to R475) -/

/-- OW_SECONDS, OW_SUBSEC, OW_CAL_DATE and OW_CAL_TIME as they stand (Table 19-4). -/
def owClockRegs (s : State) : List Nat :=
  let c := civil (calSecs s / 86400)
  let d := daySecs s
  [s.pwr.secs, s.pwr.sub, (c.1 % 65536).toNat * 2 ^ 16 + c.2.1 * 2 ^ 8 + c.2.2,
   weekday s * 2 ^ 24 + d / 3600 * 2 ^ 16 + d / 60 % 60 * 2 ^ 8 + d % 60]

/-- A master's shadow: Shed's first, then Gesso's (R474). -/
def shadowNo (master : Nat) : Nat := if master = 4 then 0 else 1

/-- A master's shadow of the clock registers. -/
def owShadow (s : State) (master : Nat) : Option OwShadow := (s.pwr.shadows[shadowNo master]?).getD none

/-- Sets a master's shadow. -/
def setShadow (master : Nat) (x : Option OwShadow) (s : State) : State :=
  modPwr (fun p => { p with shadows := setAt p.shadows (shadowNo master) x }) s

/-- A shadow held for 1 ms is released, and SHADOW_LATE is set (R474). -/
def settleShadow (master : Nat) (s : State) : State :=
  match owShadow s master with
  | some x => if x.at_ + msCycles ≤ s.clk.elapsed then modPwr (fun p => { p with shadowLate := true }) (setShadow master none s) else s
  | none => s

/-- A read of one of the four clock registers: the first captures all four, and the shadow is released when all were read (R474). -/
def readClock (master reg : Nat) (s : State) : State :=
  let s1 := settleShadow master s
  let x := (owShadow s1 master).getD { vals := owClockRegs s1, read := [false, false, false, false], at_ := s1.clk.elapsed }
  let y := { x with read := setAt x.read reg true }
  emit (.word master ((x.vals[reg]?).getD 0)) (noteCapture master (0x4E000000 + 4 * reg) ((x.vals[reg]?).getD 0) (setShadow master (if y.read.all id then none else some y) s1))

/-- OW_CLOCK_SHADOW_READ (R474). -/
def execOwClockShadowRead (master reg : Nat) (s : State) : Host.Outcome State Fault Refusal :=
  if 4 ≤ reg then done s s else done s (asOwMaster (owMaster master) master (0x4E000000 + 4 * reg) (readClock master reg) s)

/-- OW_SHADOW_TIMEOUT (R474): 1 ms after its capture the shadow is released. -/
def execOwShadowTimeout (master : Nat) (s : State) : Host.Outcome State Fault Refusal :=
  match owMaster master, owShadow s master with
  | true, some x => done s (settleShadow master (advanceElapsed (x.at_ + msCycles) s))
  | _, _ => done s s

/-- OW_SET_WRITE (R475): the staged count applies at the next pulse edge. -/
def execOwSetWrite (master : Nat) (s : State) : Host.Outcome State Fault Refusal :=
  done s (asOwMaster (owMaster master) master 0x4E000018 (modPwr (fun p => { p with setDue := true })) s)

/-- A write of OW_TRIM; 0x200 is refused (R472, Table 19-4). -/
def writeTrim (v : Nat) (s : State) : State :=
  let t := v % 1024
  if t = 0x200 then s else modPwr (fun p => { p with trimNext := if t < 512 then (t : Int) else (t : Int) - 1024 }) s

/-- OW_TRIM_WRITE (R472). -/
def execOwTrimWrite (master value : Nat) (s : State) : Host.Outcome State Fault Refusal :=
  done s (asOwMaster (owMaster master) master 0x4E00001C (writeTrim value) s)

/-- The calendar minus network time in 2^-15 s, wrapped to the nearest. -/
def owError (s : State) : Int :=
  let net : Nat := nowNs s * 32768 / 1000000000 % 2 ^ 47
  let d : Int := ((owStamp s : Int) - net) % (2 ^ 47 : Nat)
  if d < 2 ^ 46 then d else d - 2 ^ 47

/-- Nearest integer of a / b, halves up. -/
def roundDiv (a : Int) (b : Nat) : Int := (2 * a + b) / (2 * b : Nat)

/-- TRIM that cancels the rate difference from one comparison to the next, one step being 2^-20 (R472, R473). -/
def trimFor (s : State) (d0 : Int) (t0 : Nat) : Int :=
  clampInt (-511) 511 (s.pwr.trimNext - roundDiv ((owError s - d0) * 2 ^ 20 * secCycles) (32768 * (s.clk.elapsed - t0)))

/-- Remembers a comparison. -/
def noteTrim (s : State) : State := modPwr (fun p => { p with trimRef := some (owError s, s.clk.elapsed) }) s

/-- RTC_TRIM_CHECK (R473, R477): every 600 s while LOCKED the calendar is compared with network time. -/
def execRtcTrimCheck (s : State) : Host.Outcome State Fault Refusal :=
  if s.clk.state ≠ .locked ∨ ¬ s.clk.valid then done s s
  else match s.pwr.trimRef with
    | none =>
      if (owError s).natAbs * 10 ≤ 32768 then done s (noteTrim s)
      else done s (noteTrim (owStep (nowSecs s % 2 ^ 32) (nowNanos s * 32768 / 1000000000) s))
    | some (d0, t0) =>
      let s1 := advanceElapsed (t0 + 600 * secCycles) s
      if (owError s1).natAbs * 10 ≤ 32768 then done s (noteTrim (modPwr (fun p => { p with trimNext := trimFor s1 d0 t0 }) s1))
      else done s (noteTrim (owStep (nowSecs s1 % 2 ^ 32) (nowNanos s1 * 32768 / 1000000000) s1))

/-! ### Countdown channels (R476) -/

/-- A write of OW_CD or OW_ALARM: the flags written 1 are cleared; MODE 0 disarms, MODE 1 or 2 with a COUNT arms (R476). -/
def armChannel (ch mode count : Nat) (clrFired clrStep : Bool) (s : State) : State :=
  modPwr (fun p => { p with cd := modAt (fun c =>
    let c1 := { c with fired := c.fired && !clrFired, step := c.step && !clrStep, waiting := c.waiting && !clrFired }
    if mode = 0 then { c1 with mode := 0, count := 0 }
    else if 3 ≤ mode ∨ count = 0 then c1
    else { c1 with mode := mode, count := count, target := (p.secs + count) % 2 ^ 32 }) p.cd ch }) s

/-- COUNTDOWN_ARM: a write of OW_CD_0 or OW_CD_1 (R476, Table 19-4). -/
def execCountdownArm (master ch value : Nat) (s : State) : Host.Outcome State Fault Refusal :=
  if 2 ≤ ch then done s s
  else done s (asOwMaster (owMaster master) master (0x4E000024 + 4 * ch)
    (armChannel ch (value / 2 ^ 30 % 4) (value % 2 ^ 24) (bit value 28) (bit value 29)) s)

/-- Time passes pulse by pulse until a channel has fired. -/
def runToFire (ch : Nat) : Nat → State → State
  | 0, s => s
  | n + 1, s => if (channelOf s ch).mode = 0 then s else runToFire ch n (clockTicks 12208 s)

/-- COUNTDOWN_FIRE (R476): time passes to the firing of an armed channel. -/
def execCountdownFire (ch : Nat) (s : State) : Host.Outcome State Fault Refusal :=
  if (channelOf s ch).mode = 0 ∨ ¬ owPowered s then done s s
  else
    let pulses := (channelRemaining s ch + 1) * 32768
    done s (runToFire ch (pulses + pulses / 1024) s)

/-! ### Tamper (R382, R383, R479, R480) -/

/-- The latch of an input: the first event with its time, later ones counted up to 255 (R480). -/
def latchTamper (i : Nat) (s : State) : State :=
  modPwr (fun p => { p with tamper := modAt (fun t =>
    if t.latched then { t with active := true, count := min 255 (t.count + 1) }
    else { t with active := true, latched := true, secs := p.secs, sub := p.sub }) p.tamper i }) s

/-- What the chip does of a tamper event (R382, R383): the keys are zeroed and the event is counted; Shed logs it, the DTLS sessions
end, and Gesso requests M2. -/
def tamperEvent (i : Nat) (s : State) : State :=
  let s1 := zeroise (latchTamper i s)
  if s.ctl.mode = .m0 then s1
  else
    let s2 := logEvent 0x43 3 (beOct 1 i) s1
    if s.ctl.mode = .m1 then s2
    else gessoSafe (endSessions (fun u => decide (u.transport < 2)) (secCount 10 s2))

/-- TAMPER_INPUT_ACTIVE (R382, R479): an armed input has been active longer than its FILTER. -/
def execTamperInputActive (input : Nat) (s : State) : Host.Outcome State Fault Refusal :=
  let t := tamperOf s input
  if input < 2 ∧ armed t ∧ ¬ t.active ∧ owPowered s then done s (speak (tamperEvent input s)) else done s s

/-- TAMPER_INPUT_RELEASE (R480). -/
def execTamperInputRelease (input : Nat) (s : State) : Host.Outcome State Fault Refusal :=
  done s (modPwr (fun p => { p with tamper := modAt (fun t => { t with active := false }) p.tamper input }) s)

/-- The six bits of OW_TAMPER_CFG for an input as a TAMPER_CFG row gives them. -/
def tamperBits (v : Octets) : Nat :=
  let filter := fieldNat v 2 1
  fieldNat v 0 1 % 2 * 32 + fieldNat v 1 1 % 2 * 16 + filter % 4 * 4 + fieldNat v 3 1 % 4

/-- Gesso copies a row of TAMPER_CFG into Overwinter; an input no longer armed is not active (R479). -/
def copyTamper (i : Nat) (v : Octets) (s : State) : State :=
  modPwr (fun p => { p with tamper := modAt (fun t =>
    let t1 := { t with cfg := tamperBits v }
    { t1 with active := t.active && armed t1 }) p.tamper i }) s

/-- The latches are cleared (TAMPER_CLEAR, R480). -/
def clearTamper (s : State) : State :=
  modPwr (fun p => { p with tamper := p.tamper.map (fun t => { t with latched := false, count := 0, secs := 0, sub := 0 }) }) s

/-! ### Registers of the trains -/

/-- A write of OW_FEED: BROWNOUT and POST_SWITCH are cleared by 1, the other fields are written, and a new TRAIN runs R468. -/
def writeFeed (v : Nat) (s : State) : State :=
  let s1 := modPwr (fun p => { p with
    brownout := p.brownout && !bit v 7, postSwitch := p.postSwitch && !bit v 6, action := b2n (bit v 5)
    failed := [bit v 3, bit v 4], deviated := [bit v 1, bit v 2] }) s
  if v % 2 ≠ s.pwr.train ∧ feedSwitchFault (v % 2) s1 = 0 then feedSwitch (v % 2) s1 else s1

/-- OW_FEED_WRITE (R468, R481). -/
def execOwFeedWrite (master value : Nat) (s : State) : Host.Outcome State Fault Refusal :=
  done s (asOwMaster (owMaster master) master 0x4E000034 (writeFeed value) s)

end Sys2Proof.Machine
end

