-- ==== Sys2Proof/Machine/Gesso.lean ====
section
/-!
DEFINITION. Gesso (spec/15, spec/16): the life-cycle transitions, activation and confirmation of firmware sets, attestation, the seven
services, and the loading of keys at a boot.
-/

namespace Sys2Proof.Machine

/-- `n` octets of the DRBG: a free value (log entry 8). -/
def drawOctets (n : Nat) (s : State) : Octets × State :=
  let r := takeFree s
  (beOct n r.1, r.2)

/-! ### The life cycle (R360 to R362) -/

/-- The checks of LC_REQUEST (R362), by role. -/
def lcChecks (role : Nat) (v : Octets) (sigOk : Bool) (s : State) : List (Nat × Nat) :=
  let t := fieldNat v 0 1
  failIf (v.length != (if 3 ≤ t then 1284 else 4)) stFormatError ++
  failIf (role == 2 && t != 2) stAccessDenied (roleNumber role) ++
  failIf (s.ctl.mode != .m2 && s.ctl.mode != .m3) stInvalidState s.ctl.mode.code ++
  failIf (t != s.chip.lifeCycle + 1 || 4 < t) stOutOfRange ++
  failIf (decide (3 ≤ t) && !sigOk) stSignatureFail ++
  failIf s.sec.lcPrep.isSome stBusy

/-- The public key of the identity of a life-cycle state (R401). -/
def identityKey (lc : Nat) (s : State) : Octets := padTo 1793 (Config.crypto "Falcon-1024 public key" 0 [kmac (rootIn lc s) s.chip.serial 384 "FL96 IDENTITY"])

/-- FIELD_SIG over the FIELD identity's public key, as the FACTORY identity writes it (R402). -/
def fieldSig (s : State) : Octets :=
  (padTo 4354 s.fw.chain).take 3074 ++ identitySign "FL96-FIELD" (s.chip.serial ++ identityKey 2 s) s

/-- Step 1 of R362: for FIELD a new nonce, the recovery wrapping key of the FIELD root (R366) and the identity chain are prepared; nothing takes
effect yet. LC_CHALLENGE is fresh after the request (Table 15-10). -/
def lcPrepare (target : Nat) (s : State) : State :=
  let c := drawOctets 32 s
  let s1 := { c.2 with sec := { c.2.sec with challenge := c.1 } }
  if target = 2 then
    let d := drawOctets 32 s1
    { d.2 with sec := { d.2.sec with
      lcPrep := some { target := 2, nonce := d.1, wrap := kmac (rootIn 2 s) s.chip.serial 256 "FL96 RECOVERY", chain := fieldSig s } } }
  else { s1 with sec := { s1.sec with lcPrep := some { target := target } } }

/-- Blows the next life-cycle fuse, both its cells (R360). -/
def blowLc (c : Chip) : Chip :=
  { c with lcFuses := modAt (fun _ => (true, true)) c.lcFuses (c.lcFuses.findIdx (fun f => !(f.1 || f.2))) }

/-- Step 2 of R362, the commit point: the fuse is blown. What was prepared for FIELD takes its place: the nonce, the chain, the key store rewrapped without
its FACTORY_ONLY entries, and the recovery record (R366). Step 3 is due. -/
def lcCommit (p : LcPrep) (s : State) : State :=
  let s1 := { s with chip := blowLc s.chip, sec := { s.sec with lcPrep := none, lcDue := some p.target } }
  if p.target = 2 then
    { setNonce p.nonce s1 with
      sec := { s1.sec with
        storeSlots := s1.sec.storeSlots.filter (fun e => !bit e.2.flags 2), shadows := s1.sec.shadows.filter (fun k => !bit k.flags 2)
        storeNodes := s1.sec.storeNodes.map (fun e => (e.1, { e.2 with kek := kekUnder p.nonce s1 }))
        recWrap := p.wrap }
      fw := { s1.fw with chain := p.chain } }
  else s1

/-- Step 3 of R362: Seedbank is zeroed and the old key store erased; RETURN and RETIRED lose the recovery record and KEK_NONCE too. -/
def lcFinish (target : Nat) (s : State) : State :=
  let s1 := (s.sec.slots.map (·.1)).foldl (fun s n => freeSlot n s) s
  let s2 := { s1 with sec := { s1.sec with nodes := [], kek := none, lcDue := none } }
  if 3 ≤ target then
    modPwr (fun p => { p with nonce := none }) { s2 with sec := { s2.sec with
      storeSlots := [], storeNodes := [], shadows := [], importSeq := [], recPsk := none, recKtk := none, recWrap := [], recLimits := [] } }
  else s2

/-- Step 3 that a power failure or reset left to the next boot, before Gesso serves anything else (R362). -/
def lcResume (s : State) : State :=
  match s.sec.lcDue with
  | some t => lcFinish t s
  | none => s

/-- Step 3 and the cold boot that it ends with. -/
def lcComplete (s : State) : State := beginBoot 6 (dropDomains (lcResume s))

/-- A life-cycle transition whole (R362), as the LIFE_CYCLE service runs it: prepared, the fuse blown, finished, and the cold boot begun. -/
def lifeCycle (target : Nat) (s : State) : State :=
  let s1 := lcPrepare target s
  match s1.sec.lcPrep with
  | some p => lcComplete (lcCommit p s1)
  | none => s1

/-! ### Firmware sets (R396, R397) -/

/-- The bank that CONFIRMED does not name. -/
def idleBank (s : State) : Nat := 1 - (bootRec s).confirmed

/-- What FW_ACTIVATE refuses: 0 nothing, else a status. -/
def fwActivateFault (v : Nat) (s : State) : Nat :=
  if v = 0 then (if trialRuns s then stTooLate else if (bootRec s).pending.isSome then 0 else stInvalidState)
  else if trialRuns s ∨ ¬ hasMagic s (idleBank s) then stInvalidState
  else 0

/-- Marks the bank for the next boot. -/
def markPending (s : State) : State :=
  let b := idleBank s
  let s1 := writeRec (fun r => { r with pending := some b, pendDigest := shake (manifest s b) }) s
  { s1 with fw := { s1.fw with rejected := setAt s1.fw.rejected b false } }

/-- A cold boot that Gesso requests: step L4 (R394), after one final superframe with the end-of-service mark from a working mode or M10. -/
def requestColdBoot (s : State) : State :=
  if s.ctl.mode.emits then
    let s1 := (endService .m1 (dropChange 1 s)).1
    let e := ((s1.ctl.change.map (·.eff)).getD 0)
    demand ⟨4, fnGesso, 0, 6, elapsedAt s1 (startNs s1 e).toNat⟩ s1
  else demand ⟨4, fnGesso, 0, 6, s.clk.elapsed⟩ s

/-- A reset that Gesso requests for a set: warm if its manifest has WARM_OK, cold otherwise. -/
def requestReset (b : Nat) (s : State) : State :=
  if warmOk (manifest s b) then demand ⟨3, fnGesso, 0, 6, s.clk.elapsed⟩ s else requestColdBoot s

/-- FW_ACTIVATE (R397): 0 cancels a mark, 1 marks, 2 marks and requests the reset. -/
def fwActivate (v : Nat) (s : State) : State :=
  if v = 0 then writeRec (fun r => { r with pending := none, pendDigest := [] }) s
  else if v = 1 then markPending s
  else requestReset (idleBank s) (markPending s)

/-- Whether the set that runs was on trial since its boot and is confirmed (R397). -/
def wasConfirmed (s : State) : Bool := odField s 0x8800 5 0 0 1 == 1 && !trialRuns s && s.fw.running == some (bootRec s).confirmed

/-- What FW_CONFIRM refuses: 0 nothing, else a status. -/
def fwConfirmFault (v : Nat) (s : State) : Nat :=
  if trialRuns s then 0 else if v = 0 ∧ wasConfirmed s then stTooLate else stInvalidState

/-- FW_CONFIRM (R396): 1 confirms the set on trial, 0 rejects it and requests the reset. -/
def fwConfirm (v : Nat) (s : State) : State :=
  match (bootRec s).pending with
  | some p => if v = 1 then confirmBank p s else requestReset p (rejectBank p s)
  | none => s

/-- FW_TRIAL_TIMER (R396): FW_TRIAL_TIME after the trial boot the set is confirmed. -/
def execFwTrialTimer (s : State) : Host.Outcome State Fault Refusal :=
  match s.fw.trialSince, (bootRec s).pending with
  | some t, some p =>
    if trialRuns s ∧ odNat s 0x8810 3 = 1 ∧ 3 ≤ s.ctl.mode.code then
      done s (confirmBank p (advanceElapsed (t + odNat s 0x8810 4 * secCycles) s))
    else done s s
  | _, _ => done s s

/-! ### Attestation (R403) -/

/-- FLAGS of the report. -/
def attestFlags (s : State) : Nat :=
  b2n (trialRuns s) + 2 * b2n (s.sec.storeState == 0) + 4 * b2n (s.pwr.tamper.any (·.latched)) + 8 * b2n s.shd.bootRom

/-- Manifest of the running set, or none. -/
def runningManifest (s : State) : Octets := (s.fw.running.map (manifest s)).getD []

/-- The report of Table 16-10 without its signature; the Shed image measured is the one that runs. -/
def attestBody (challenge : Octets) (s : State) : Octets :=
  let m := runningManifest s
  beOct 4 0x464C4154 ++ beOct 2 1 ++ beOct 1 s.chip.lifeCycle ++ beOct 1 (attestFlags s) ++ padTo 8 s.chip.serial ++ s.chip.variantCode ++
  beOct 2 s.chip.stepping ++ beOct 2 (compatLevel s) ++ padTo 4 (s.chip.svn.flatMap (beOct 1)) ++ beOct 1 s.chip.rootRevoked ++ zeros 3 ++
  beOct 6 (nowSecs s) ++ beOct 4 (nowNanos s) ++ padTo 32 challenge ++ (if m = [] then zeros 32 else shake m) ++
  partTypes.flatMap (fun t => padTo 32 (if t = 4 then s.fw.shedDigest else partDigest m t))

/-- A report is formed over a challenge and becomes ATTEST_REPORT. -/
def formReport (challenge : Octets) (s : State) : State :=
  let b := attestBody challenge s
  { s with fw := { s.fw with report := b ++ identitySign "FL96-ATTEST" b s, formedAt := some s.clk.elapsed } }

/-- Whether the latest report is still being formed: within 60 ms of its start that is open (a free value, log entry 8). -/
def stillForming (s : State) : Bool :=
  match s.fw.formedAt with
  | some t => decide (s.clk.elapsed < t + 60 * msCycles) && Config.freeValue (2 ^ 97 + s.clk.elapsed) % 2 == 1
  | none => false

/-! ### Services (R385, R386) -/

/-- Whether a buffer lies in system SRAM. -/
def bufferOk (off len : Nat) : Bool := decide (off + len ≤ 0x400000)

/-- Whether Gesso serves. -/
def gessoUp (s : State) : Bool := domainOn s 2 && !(page s 1).inReset

/-- A response: its output in the caller's buffer, and two words in Gesso's channel (Table 16-1). -/
def gessoRespond (service : Nat) (g : GessoReq) (status : Nat) (out : Octets) (s : State) : State :=
  let s1 := memWrite (0x20000000 + g.outOff) out s
  let w := service + g.tag % 65536 * 2 ^ 16 + status * 2 ^ 32
  push 1 g.caller out.length true (push 1 g.caller w false (emit (.gesso g.caller service g.tag status out) s1))

/-- Runs a service for a caller it is offered to: the callers and buffers of R385, then its function, which answers a status and output. -/
def gessoServe (service : Nat) (callers : List Nat) (g : GessoReq) (f : Octets → State → State × Nat × Octets) (s : State) : State :=
  if ¬ gessoUp s then s
  else if ¬ callers.contains g.caller then gessoRespond service g stAccessDenied [] s
  else if ¬ bufferOk g.inOff g.inLen ∨ ¬ bufferOk g.outOff g.outCap then gessoRespond service g stFormatError [] s
  else
    let r := f (memRead s (0x20000000 + g.inOff) g.inLen) s
    if g.outCap < r.2.2.length then gessoRespond service g stFormatError [] s else gessoRespond service g r.2.1 r.2.2 r.1

/-- Why a caller may not run KEY_OP with a handle: HR_GCM and DTLS_PSK for Canvas, DTLS_PSK for Shed in M2 (Table 16-2). -/
def keyOpFault (caller h : Nat) (s : State) : Nat :=
  let psk := useFault s h 4
  if caller = 2 then (if useFault s h 3 = 0 then 0 else if psk = stKeyLimit then stKeyLimit else if useFault s h 3 = stKeyLimit then stKeyLimit else psk)
  else if s.ctl.mode = .m2 then psk else stAccessDenied

/-- A use of a key that its USAGE permits for none of KEY_OP's purposes is counted (R359). -/
def keyOpWrong (caller h : Nat) (s : State) : State :=
  match keyOf s h with
  | some k => if usable k 4 ∨ (caller = 2 ∧ usable k 3) then s else secCount 6 s
  | none => s

/-- A secret derived into a new ephemeral slot; the output is its handle. -/
def deriveKey (h : Nat) (input : Octets) (s : State) : State × Nat × Octets :=
  match ephemeralSlot s with
  | none => (s, stTableFull, [])
  | some n =>
    let s1 := putEphemeral n 3 16 none (padTo 32 (Config.crypto "HKDF" 256 [keyValue s h, input])) s
    (s1, stOk, beOct 2 (handleOf n (slotAt s1 n)))

/-- KEY_OP: 1 GCM seal, 2 GCM open, 3 HKDF. -/
def keyOp (g : GessoReq) (tagOk : Bool) (input : Octets) (s : State) : State × Nat × Octets :=
  let op := fieldNat input 0 1
  let st := keyOpFault g.caller g.handle s
  if op = 0 ∨ 3 < op then (s, stUnsupported, [])
  else if st ≠ 0 then (keyOpWrong g.caller g.handle s, st, [])
  else
    let s1 := countUse g.handle s
    let body := input.drop 1
    if op = 1 then (s1, stOk, padTo (body.length + 16) (Config.crypto "AES-GCM seal" 0 [keyValue s g.handle, body]))
    else if op = 2 then
      if tagOk then (s1, stOk, padTo (body.length - 16) (Config.crypto "AES-GCM open" 0 [keyValue s g.handle, body])) else (s1, stSignatureFail, [])
    else deriveKey g.handle body s1

/-- GESSO_KEY_OP (R386). -/
def execGessoKeyOp (g : GessoReq) (tagOk : Bool) (s : State) : Host.Outcome State Fault Refusal :=
  done s (gessoServe 1 [2, 4] g (keyOp g tagOk) s)

/-- LANE_BIND: a BEACON key to the lanes of its PAN, or none. -/
def laneBind (h pan : Nat) (s : State) : State × Nat × Octets :=
  if h = 0xFFFF then ({ s with sec := { s.sec with lanes := setAt s.sec.lanes pan none } }, stOk, [])
  else match useFault s h 0, keyOf s h with
    | 0, some k => ({ s with sec := { s.sec with lanes := setAt s.sec.lanes k.pan (some h) } }, stOk, [])
    | st, _ => (wrongUse h 0 s, st, [])

/-- GESSO_LANE_BIND (R386). -/
def execGessoLaneBind (g : GessoReq) (pan : Nat) (s : State) : Host.Outcome State Fault Refusal :=
  done s (gessoServe 2 [3] g (fun _ s => laneBind g.handle pan s) s)

/-- KEY_PROVISION: one import for the role in the first octet. -/
def keyProvision (toNode : Bool) (row : Nat) (tagOk : Bool) (input : Octets) (s : State) : State × Nat × Octets :=
  let r := importKey toNode row (2 ^ fieldNat input 0 1) (input.drop 1) tagOk s
  (if r.2.1 = stOk ∨ r.2.1 = stKeyChangeRequired then shadowImported toNode row r.1 else r.1, r.2.1, [])

/-- GESSO_KEY_PROVISION (R367, R368, R386). -/
def execGessoKeyProvision (g : GessoReq) (toNode : Bool) (row : Nat) (tagOk : Bool) (s : State) : Host.Outcome State Fault Refusal :=
  done s (gessoServe 3 [2, 4] g (keyProvision toNode row tagOk) s)

/-- SIGN (R401): Canvas may name two prefixes; a signature that does not fit in 4 attempts is BUSY. -/
def signData (caller : Nat) (pre : String) (fits : Bool) (input : Octets) (s : State) : State × Nat × Octets :=
  if (caller = 2 ∧ pre ≠ "FL96-EXPORT" ∧ pre ≠ "FL96-APP") ∨ ¬ keysAllowed s then (s, stAccessDenied, [])
  else if ¬ fits then (s, stBusy, [])
  else (s, stOk, identitySign pre input s)

/-- GESSO_SIGN (R401). -/
def execGessoSign (g : GessoReq) (pre : String) (fits : Bool) (s : State) : Host.Outcome State Fault Refusal :=
  done s (gessoServe 4 [2, 4] g (signData g.caller pre fits) s)

/-- ATTEST: the report over the challenge in the input; without an identity ACCESS_DENIED, as SIGN (log entry 185). -/
def attestData (input : Octets) (s : State) : State × Nat × Octets :=
  if hasRoot s then (formReport input s, stOk, (formReport input s).fw.report) else (s, stAccessDenied, [])

/-- GESSO_ATTEST (R403). -/
def execGessoAttest (g : GessoReq) (s : State) : Host.Outcome State Fault Refusal := done s (gessoServe 5 [2, 4] g attestData s)

/-- LIFE_CYCLE: the request that the input carries, for VENDOR's rights. -/
def serveLifeCycle (sigOk : Bool) (input : Octets) (s : State) : State × Nat × Octets :=
  match firstFailure (lcChecks 8 input sigOk s) with
  | some (st, _) => (s, st, [])
  | none => (lifeCycle (fieldNat input 0 1) s, stOk, [])

/-- GESSO_LIFE_CYCLE (R362). -/
def execGessoLifeCycle (g : GessoReq) (sigOk : Bool) (s : State) : Host.Outcome State Fault Refusal :=
  done s (gessoServe 6 [2, 4] g (serveLifeCycle sigOk) s)

/-- FW_CONTROL: 0 cancels, 1 marks, 2 marks and resets, 3 confirms, 4 rejects. -/
def fwControl (op : Nat) (s : State) : State × Nat × Octets :=
  if 4 < op then (s, stUnsupported, [])
  else if op < 3 then (if fwActivateFault op s = 0 then (fwActivate op s, stOk, []) else (s, fwActivateFault op s, []))
  else if fwConfirmFault (4 - op) s = 0 then (fwConfirm (4 - op) s, stOk, []) else (s, fwConfirmFault (4 - op) s, [])

/-- GESSO_FW_CONTROL (R397). -/
def execGessoFwControl (g : GessoReq) (op : Nat) (s : State) : Host.Outcome State Fault Refusal :=
  done s (gessoServe 7 [2, 4] g (fun _ s => fwControl op s) s)

/-! ### Keys at a boot (R361, R363 to R365, R398) -/

/-- The derivations of Table 15-3 at a boot: KEK, identity, DRBG. -/
def derive (s : State) : State :=
  { s with
    sec := { s.sec with
      kek := if hasRoot s then s.pwr.nonce.map (fun n => kekUnder n s) else none, drbg := if hasRoot s then some (drbgSeed s) else none }
    fw := { s.fw with pubkey := if hasRoot s then identityKey s.chip.lifeCycle s else [] } }

/-- KEK_NONCE reads zero: a new one is drawn and the key store discarded, which Shed logs (R364). -/
def discardStore (latched : Bool) (s : State) : State :=
  let d := drawOctets 32 s
  let st := if latched then 2 else 1
  let s1 := setNonce d.1 d.2
  logEvent 0x41 3 (beOct 1 st) { s1 with sec := { s1.sec with
    nodes := s1.sec.nodes.map (fun p => (p.1, { p.2 with imported := none }))
    storeSlots := [], storeNodes := [], shadows := [], importSeq := s1.sec.importSeq.filter (fun p => decide (65536 ≤ p.1)), storeState := st } }

/-- A slot key as it is loaded: its counter at its ceiling, and a new ceiling in flash (R365). -/
def loadedSlot (k : KeySlot) : KeySlot := { k with outFc := k.ceiling, ceiling := k.ceiling + 65536 }

/-- A node key as a cold boot loads it. -/
def loadedNode (k : NodeKey) : NodeKey := { k with outFc := k.ceiling, ceiling := k.ceiling + 1024 }

/-- The key store is loaded: slot keys at every boot; node records at a cold one (R364, R365, R398). -/
def loadStore (warm : Bool) (s : State) : State :=
  let slots := s.sec.storeSlots.map (fun p => (p.1, loadedSlot p.2))
  let nodes := s.sec.storeNodes.map (fun p => (p.1, loadedNode p.2))
  { s with sec := { s.sec with
    slots := slots.foldl (fun l p => sset (fun _ => ({} : KeySlot)) l p.1 p.2) (keptGens s), storeSlots := slots
    nodes := if warm then s.sec.nodes else nodes, storeNodes := if warm then s.sec.storeNodes else nodes } }

/-- Everything that Gesso does with keys at a boot. -/
def bootKeys (warm latched : Bool) (s : State) : State :=
  let s0 := lcResume s
  let s1 := if s0.pwr.nonce.isNone then discardStore latched s0 else { s0 with sec := { s0.sec with storeState := if warm then s0.sec.storeState else 0 } }
  let d := drawOctets 32 s1
  loadStore warm (derive { d.2 with sec := { d.2.sec with challenge := d.1, destroyed := false, lanes := [none, none, none, none] } })

end Sys2Proof.Machine
end

