-- ==== Sys2Proof/Machine/Calib.lean ====
section
/-!
DEFINITION. Calibration and engine test by request (R416 to R418), the calibration items as they run in maintenance slots
(R141, R142), and their completion.
-/

namespace Sys2Proof.Machine

/-! ### Requests (R416 to R418) -/

/-- ITEM of ENGINE_TEST. -/
def itemEngineTest : Nat := 6

/-- Requests of a path already queued for a slot, in us. -/
def queuedUs (s : State) (path a : Nat) : Nat :=
  ((s.shd.cal.filter (fun r => r.st == 1 && !r.force && r.target == path && r.asn == a && r.item != itemEngineTest)).map
    (fun r => itemUs s r.item path)).foldl (· + ·) 0

/-- Whether an item of a path fits in slot `a` after `us` of other items: it ends 200 us before the slot does (R142). -/
def itemFits (s : State) (a us item path : Nat) : Bool := decide ((us + itemUs s item path + 200) * 1000 ≤ slotLen s a)

/-- The paths that an item of a path needs (Table 06-7): a VCO_CAL all paths of the synthesiser. -/
def itemNeeds (item path : Nat) : List Nat := if item = 1 then synthPaths (pathSynth path) else [path]

/-- The slots that start within 4 superframes from now and whose preparation windows have not opened, first first. -/
def comingSlots (s : State) : List Nat :=
  let a0 := firstSlotAt s (nowNs s + 2000001)
  ((List.range 8192).map (fun i => a0 + i)).filter (fun a => decide (startNs s a ≤ (nowNs s : Int) + 102400000000))

/-- The opportunity of a path item (R416): the first slot that releases its path. -/
def pathOpportunity (s : State) (item path : Nat) : Option Nat :=
  (comingSlots s).find? (fun a => (maintPaths s a).contains path && itemFits s a (queuedUs s path a) item path)

/-- The opportunity of an engine test (R416): the first slot start at which R154 leaves the engine out of service. -/
def engineOpportunity (s : State) (i : Nat) : Option Nat :=
  (comingSlots s).find? (fun a => !(engineSets s (startNs s a).toNat).1.contains i)

/-- FIRST_ASN of a FORCE request (R417, R233): the slot after the first beacon or tick slot prepared from now on. -/
def forceSlot (s : State) : Option Nat :=
  ((comingSlots s).find? (fun a => offsetOf s a % 64 == 0)).map (· + 1)

/-- The opportunity of a request; none within 4 superframes, or where no slots run (log entry 62). -/
def opportunity (s : State) (item target : Nat) (force : Bool) : Option Nat :=
  if ¬ s.eas.running then none
  else if force then forceSlot s
  else if item = itemEngineTest then engineOpportunity s target
  else pathOpportunity s item target

/-- Notices in force (R233). -/
def noticesInForce (s : State) : List Quiet := s.eas.notices.filter (fun q => decide (s.eas.asn < q.first + q.slots))

/-- The checks of CALIB_REQUEST on its fields (R416, R417). -/
def calibChecks (v : Octets) (s : State) : List (Nat × Nat) :=
  let item := fieldNat v 0 1
  let target := fieldNat v 1 1
  failIf (item == 0 || 6 < item || (if item == itemEngineTest then bit (fieldNat v 2 1) 0 || !instExists s fnEngine target
    else !instExists s fnRfPath target || !(pathItems target).contains item)) stOutOfRange

/-- Whether a request finds no place: 16 are queued, or four notices are in force for one with FORCE. -/
def calibFull (s : State) (force : Bool) : Bool :=
  decide (16 ≤ (s.shd.cal.filter (fun r => r.st == 1)).length) || (force && decide (4 ≤ (noticesInForce s).length))

/-- The row a request takes: the lowest empty one, else that of the request that ended first. -/
def calRow (s : State) : Nat :=
  match s.shd.cal.findIdx? (fun r => r.st == 0) with
  | some i => i
  | none =>
    let free := (List.range s.shd.cal.length).filter (fun i => ((s.shd.cal[i]?).map (·.st)) != some 1)
    free.foldl (fun b i => if ((s.shd.cal[i]?).map (·.order)).getD 0 < ((s.shd.cal[b]?).map (·.order)).getD 0 then i else b) (free.headD 0)

/-- Paths of a notice as bits (Table 09-6): the item's path, or every path of the synthesiser for VCO_CAL (R417). -/
def noticePaths (item path : Nat) : Nat :=
  if item = 1 then ((synthPaths (pathSynth path)).map (fun p => 2 ^ p)).foldl (· + ·) 0 else 2 ^ path

/-- Logs CALIBRATION with an outcome: 0 done, 1 failed, 2 refused, 3 cancelled, 4 discarded (Table 17-3). -/
def logCal (r : CalReq) (outcome : Nat) (s : State) : State :=
  logEvent 0x50 1 [BitVec.ofNat 8 r.item, BitVec.ofNat 8 r.target, BitVec.ofNat 8 outcome] s

/-- CALIB_REQUEST at its commit point: the request is queued, and with FORCE its notice is in force; or it
is refused with BUSY and logged (R416, R417). -/
def calibCommit (v : Octets) (s : State) : State × Answer :=
  let item := fieldNat v 0 1
  let target := fieldNat v 1 1
  let force := bit (fieldNat v 2 1) 0
  let r : CalReq := { item := item, target := target, force := force, st := 1, order := s.shd.calOrder }
  match if calibFull s force then none else opportunity s item target force with
  | none => (logCal r 2 s, errA stBusy)
  | some a =>
    let row := calRow s
    let r : CalReq := { r with asn := a }
    let s1 := { s with shd := { s.shd with cal := setAt s.shd.cal row r, calOrder := s.shd.calOrder + 1 } }
    (if force then
      { s1 with eas := { s1.eas with notices := noticesInForce s1 ++
        [{ first := a, slots := 1, paths := noticePaths item target, calRow := row }] } }
    else s1, effA a)

/-- Whether a request's commit point has passed (R418): the mark of its notice's beacon for a FORCE request. -/
def calCommitted (s : State) (row : Nat) (r : CalReq) : Bool :=
  r.committed || (r.force && s.eas.notices.any (fun q => q.calRow == row && q.first == r.asn && q.committed))

/-- The checks of CALIB_CANCEL (R418): the row has a request, and its commit point has not passed. -/
def cancelChecks (row : Nat) (s : State) : List (Nat × Nat) :=
  match s.shd.cal[row]? with
  | none => [(stOutOfRange, 0)]
  | some r =>
    if r.st = 0 ∨ r.st = 4 then [(stInvalidState, s.ctl.mode.code)]
    else failIf (r.st != 1 || calCommitted s row r) stTooLate

/-- A request ends ABORTED with its notice (R418, R427). -/
def abortCal (row outcome : Nat) (s : State) : State :=
  match s.shd.cal[row]? with
  | some r =>
    logCal r outcome { s with
      shd := { s.shd with cal := modAt (fun r => { r with st := 4 }) s.shd.cal row }
      eas := { s.eas with notices := s.eas.notices.filter (fun q => !(r.force && q.calRow == row && q.first == r.asn)) } }
  | none => s

/-! ### Items in maintenance slots (R141, R142) -/

/-- Requests whose opportunity is slot `a` on a path, in order of acceptance. -/
def slotRequests (s : State) (a path : Nat) : List Nat :=
  ((s.shd.cal.filter (fun r => r.st == 1 && r.asn == a && r.target == path && r.item != itemEngineTest)).mergeSort
    (fun x y => decide (x.order ≤ y.order))).map (·.item)

/-- Whether slot `a` leaves a path to the items that fall due: it is released, or out of service (R142). -/
def pathFree (s : State) (a path : Nat) : Bool := (maintPaths s a).contains path || outOfService s fnRfPath path

/-- Whether an item runs on a path, or a VCO_CAL on another path of its synthesiser. -/
def pathBusy (s : State) (path : Nat) : Bool :=
  s.rf.items.any (fun i => i.running && (i.path == path || (i.item == 1 && (synthPaths (pathSynth path)).contains i.path)))

/-- Whether an item may start on a path: nothing runs on the paths that it needs, and where it only falls due, its own path is free (R129,
R142). R226 never releases both receive paths of a band at once: a VCO_CAL of a receive synthesiser runs in the slots that release either, and
the other path goes on serving its cells as R226 says (DESIGN CHOICE, log entry 177). -/
def mayStart (s : State) (a item path : Nat) (asked : Bool) : Bool :=
  (itemNeeds item path).all (fun p => !pathBusy s p) && (asked || pathFree s a path)

/-- The item of a path that is longest overdue, among those that fit from `us` on (R142). That a longest-overdue item which does not fit is
passed over for a less overdue one that fits, and waits alone, is the model's choice (DESIGN CHOICE, log entry 177). -/
def overdueItem (s : State) (a path us : Nat) : Option Nat :=
  (((pathItems path).filter (fun i => itemFits s a us i path && mayStart s a i path false)).foldl (fun best i => match itemDue s i path, best with
    | none, b => b
    | some d, none => some (i, d)
    | some d, some (j, e) => if e < d then some (i, d) else some (j, e)) (none : Option (Nat × Nat))).map (·.1)

/-- What runs next on a path in slot `a` from `us` on: a request, else what falls due where the path is released or out of service. -/
def nextItem (s : State) (a path us : Nat) : Option Nat :=
  match (slotRequests s a path).head? with
  | some i => if mayStart s a i path true then some i else none
  | none => overdueItem s a path us

/-- Starts what runs next on a path. -/
def startNext (a path us : Nat) (s : State) : State :=
  match nextItem s a path us with
  | some i => startItem i path us { s with shd := { s.shd with cal := s.shd.cal.map (fun r =>
      if r.st = 1 ∧ r.asn = a ∧ r.target = path ∧ r.item = i then { r with committed := true } else r) } }
  | none => s

/-- Items at the start of slot `a` on each path; one requested with FORCE starts 200 us after it (R417). -/
def startItems (a : Nat) (s : State) : State :=
  ((List.range 6).filter (fun p => instExists s fnRfPath p)).foldl (fun s p =>
    startNext a p (if s.eas.notices.any (fun q => q.first == a && bit q.paths p) then 200 else 0) s) s

/-- The engines that requests put in self-test while R154 leaves them OFF; one that is FAULTY fails its request (log entry 63). -/
def requestedTests (a : Nat) (s : State) : State :=
  (s.shd.cal.filter (fun r => r.st == 1 && r.item == itemEngineTest && decide (r.asn ≤ a))).foldl (fun s r =>
    let s1 := { s with shd := { s.shd with cal := s.shd.cal.map (fun x => if x = r then { x with committed := true } else x) } }
    match (engine s1 r.target).st with
    | .off => modEngine r.target (fun e => { e with st := .test }) s1
    | .faulty => endRequest itemEngineTest r.target false s1
    | _ => s1) s

/-! ### Completion -/

/-- CAL_ITEM_COMPLETE (R142): at its duration the item ends, with the request it served; then the next item starts on each path of
the synthesiser, where it fits. -/
def execCalItemComplete (item path : Nat) (seen : ItemSeen) (s : State) : Host.Outcome State Fault Refusal :=
  let i := calItem s item path
  if ¬ i.running then done s s
  else
    let us := i.startUs + itemUs s item path
    let s0 := advanceNs ((startNs s s.eas.asn).toNat + us * 1000) s
    let ok := plausible item path seen
    let t := endRequest item path ok (itemResult item path ok s0)
    done s ((synthPaths (pathSynth path)).foldl (fun s p => startNext t.eas.asn p us s) t)

end Sys2Proof.Machine
end

