-- ==== Sys2Proof/Machine/Checks.lean ====
section
/-!
DEFINITION. The checks that each chapter makes on a write of its own objects, beyond the ranges of the object tables: one definition
per chapter, and the set-level checks of schedule sets (R69, R81, R216).
-/

namespace Sys2Proof.Machine

/-! ### The configuration at the effective ASN (R69) -/

/-- Puts staged writes in the store. -/
def putStaged (ws : List Staged) (s : State) : State := ws.foldl (fun s w => odPut w.idx w.sub w.row w.val s) s

/-- The slot E at which a write of an object committed now takes effect, where slots run (R68, R69). -/
def slotE (a : Addr) (s : State) : Nat :=
  if (odFind a.idx a.sub).map (·.app) = some .nextSlot then nextSlotE s else nextSuperframeE s

/-- The configuration that slot E finds: pending writes up to it applied, in the order of R71. -/
def atE (e : Nat) (s : State) : State :=
  if s.eas.running then
    ((s.srv.pend.filter (fun w => match w.eff with
      | some x => decide (x ≤ e)
      | none => false)).mergeSort (fun x y => decide (x.eff.getD 0 ≤ y.eff.getD 0))).foldl (fun s w => odPut w.idx w.sub w.row w.val s) s
  else s

/-- The same with a write of an address applied. -/
def withWrite (e : Nat) (a : Addr) (v : Octets) (s : State) : State := odPut a.idx a.sub a.row v (atE e s)

/-- The mode at E. -/
def modeE (e : Nat) (s : State) : Mode := if s.eas.running then modeAt s e else s.ctl.mode

/-- The working mode at E: that of a working mode, and in M9 and M10 the one assigned; none in the others. -/
def workE (e : Nat) (s : State) : Option Mode :=
  let m := modeE e s
  if m.working then some m else if m = .m9 ∨ m = .m10 then some (serveMode s) else none

/-- The schedule set in force at E. -/
def setE (e : Nat) (s : State) : Nat := if s.eas.running then setAtSlot s e else odNat s 0x4010 1

/-- The first octet of a value. -/
def octet0 (v : Octets) : Nat := fieldNat v 0 1

/-! ### By chapter -/

/-- Objects of spec/02 and spec/03. -/
def checksSystem (u : Session) (a : Addr) (v : Octets) (authOk : Bool) (s : State) : List (Nat × Nat) :=
  match a.idx, a.sub with
  | 0x1000, 5 => failIf (!(compatSupported s).contains (beNat v)) stOutOfRange
  | 0x1100, 3 =>
    if s.ctl.mode ≠ .m2 ∧ s.ctl.mode ≠ .m3 then [(stInvalidState, s.ctl.mode.code)]
    else match exportFault v authOk s with
      | some f => [f]
      | none => []
  | 0x1200, 2 => modeChecks u.role v s
  | 0x1200, 7 => failIf s.ctl.change.isSome stBusy
  | 0x1200, 8 => rebootChecks s
  | 0x2100, 1 => failIf (!asnEpochOk v s) stOutOfRange
  | _, _ => []

/-- R138 on the values of a band as a write leaves them. -/
def compositeFault (e band : Nat) (a : Addr) (v : Octets) (s : State) : List (Nat × Nat) :=
  let t := withWrite e a v s
  failIf (!compositeOk band (rfQ t band 0x3030 1) (rfQ t band 0x3020 3) (rfQ t band 0x3020 4) (odNat t (bandIdx band 0x3020) 1)) stOutOfRange

/-- Objects of spec/06, by the index of the sub-GHz object. -/
def checksRf (e band idx : Nat) (a : Addr) (v : Octets) (s : State) : List (Nat × Nat) :=
  match idx, a.sub with
  | 0x3000, 1 | 0x3000, 2 =>
    let hz := beNat v
    failIf (hz != 0 && (hz < 435600000 || 934400000 < hz)) stOutOfRange ++
    failIf (decide (5 ≤ (modeE e s).code) && decide ((modeE e s).code ≤ 10) && !centreValid s (a.sub - 1) hz) stInvalidState s.ctl.mode.code
  | 0x3010, 1 => failIf (octet0 v / 16 % 4 == 3) stOutOfRange
  | 0x3020, 1 | 0x3020, 3 | 0x3020, 4 | 0x3030, 1 => compositeFault e band a v s
  | _, _ => []

/-- RX_PROFILE (Table 07-3, R152). -/
def profileFault (e : Nat) (a : Addr) (v : Octets) (s : State) : List (Nat × Nat) :=
  let phy := octet0 v
  let fec := fieldNat v 1 1
  let sfd := fieldNat v 2 1
  let pre := fieldNat v 8 1
  failIf (phy == 5 && !s.chip.fPackage) stUnsupported ++
  failIf (if phy == 5 then fec % 8 != 0 || pre != 4
    else fec % 4 == 3 || (sfd != 16 && sfd != 24 && sfd != 32) || 4 < fieldNat v 3 1 || pre < 5 ||
      (workE e s == some .m6 && pre < 9)) stOutOfRange ++
  (match workE e s with
    | some m => failIf (!phyAllowed m (profileOf (withWrite e a v s) a.row)) stScheduleMismatch
    | none => [])

/-- DWELL_RULE (Table 08-3). -/
def dwellFault (v : Octets) : List (Nat × Nat) :=
  let w := fieldNat v 12 4
  let l := fieldNat v 16 4
  failIf (octet0 v != 0 && (decide (fieldNat v 8 4 ≤ fieldNat v 4 4) || w < 100 || 3600000 < w || w * 1000 < l || l < fieldNat v 20 4))
    stOutOfRange

/-- Objects of spec/07 and spec/08. -/
def checksRadio (e : Nat) (a : Addr) (v : Octets) (s : State) : List (Nat × Nat) :=
  match a.idx, a.sub with
  | 0x3100, 1 => profileFault e a v s
  | 0x3300, 1 => captureChecks v
  | 0x3420, 1 => dwellFault v
  | _, _ => []

/-- The schedule set of a row of a set object (R218). -/
def rowSet (row : Nat) : Nat := row / 2 ^ 24 % 4

/-- The cell row of a row of a set object: CELL_OCCUPANT rows name the cell in bits [22:7] (R218). -/
def rowCell (idx row : Nat) : Nat :=
  rowSet row * 2 ^ 24 + (if idx = 0x4013 then row / 128 % 65536 else row % 65536)

/-- The slot offsets at which a write of a set object is an operation (R220): that of its cell before and after it. -/
def opOffsets (a : Addr) (v : Octets) (s : State) : List Nat :=
  let c := rowCell a.idx a.row
  let before := odNat s 0x4012 1 c
  let after := if a.idx = 0x4012 ∧ a.sub = 1 then beNat v else before
  ((if before = after then [before] else [before, after])).filter (fun o => o != 0xFFFF)

/-- Operations pending on a slot offset (R220). -/
def pendingOps (s : State) (off : Nat) : Nat :=
  ((s.eas.changes.map (fun c => (c.offsets.filter (fun o => o == off)).length))).foldl (· + ·) 0

/-- The change record of a write to the set in force (R220): its operations by slot offset; none where it has none. -/
def changeOf (a : Addr) (v : Octets) (eff : Option Nat) (s : State) : List ChangeRec :=
  match eff with
  | some e =>
    let ops := opOffsets a v (atE e s)
    if (a.idx = 0x4012 ∨ a.idx = 0x4013) ∧ rowSet a.row = setE e s ∧ ops ≠ [] then [{ eff := e, offsets := ops }] else []
  | none => []

/-- BUSY of R219 and R220: the row belongs to the set of a pending change, or an offset has 128 operations pending. -/
def setBusy (e : Nat) (a : Addr) (v : Octets) (s : State) : Bool :=
  (match s.ctl.change with
    | some c => c.target.working && c.set == rowSet a.row
    | none => false) ||
  (rowSet a.row == setE e s && s.eas.running &&
    ((opOffsets a v (atE e s)).any (fun o => decide (128 ≤ pendingOps s o)) ||
      decide (Config.stagedLimit < (s.eas.changes.map (fun c => c.offsets.length)).sum + (opOffsets a v (atE e s)).length)))

/-- A SHARED or WAKE cell has CELL_PERIOD 0 (R213): whether a write would leave its cell otherwise (log entry 149). -/
def periodFault (e : Nat) (a : Addr) (v : Octets) (s : State) : Bool :=
  let c := cellOf (withWrite e a v s) a.row
  a.idx == 0x4012 && (a.sub == 3 || a.sub == 5) && (c.kind == kShared || c.kind == kWake) && c.k != 0

/-- Cell and occupant objects. -/
def checksCell (e : Nat) (a : Addr) (v : Octets) (s : State) : List (Nat × Nat) :=
  failIf (periodFault e a v s || match a.idx, a.sub with
    | 0x4012, 5 => decide (4 < beNat v)
    | 0x4012, 7 => decide (511 < beNat v) && beNat v != 0xFFFF
    | 0x4013, 1 => decide (s.chip.nodeLimit ≤ beNat v) && beNat v != 0xFFFFFFFF
    | _, _ => false) stOutOfRange ++
  failIf (setBusy e a v s) stBusy

/-- PAN_CFG (Table 09-2, R209). -/
def panFault (e : Nat) (a : Addr) (v : Octets) (s : State) : List (Nat × Nat) :=
  let band := fieldNat v 1 1
  let n := fieldNat v 12 2
  let sp := fieldNat v 8 4
  let k := fieldNat v 15 1
  let t := withWrite e a v s
  let beacons (b : Nat) : Nat := (((pansOn t).filter (fun p => panBand t p == b)).map (fun p => panField t p 15 1)).foldl (· + ·) 0
  failIf (band == 1 && !s.chip.fPackage) stUnsupported ++
  failIf ((if band == 1 then n != 16 else n == 0 || 256 < n || (sp != 200000 && sp != 400000 && sp != 600000)) ||
    k == 0 || 4 < k || (List.range k).any (fun i => decide (n ≤ fieldNat v (16 + 2 * i) 2))) stOutOfRange ++
  failIf (decide (4 < beacons 0 + beacons 1) || (match workE e s with
    | some m => decide ((carrierLimits m).2.1 < beacons 0) || decide ((carrierLimits m).2.2 < beacons 1)
    | none => false)) stScheduleMismatch

/-- CH_MAP (R211, R212). -/
def mapFault (a : Addr) (v : Octets) (s : State) : List (Nat × Nat) :=
  failIf (v.all (· == 0)) stOutOfRange ++
  failIf (s.eas.maps.any (fun m => m.pan == a.row)) stBusy

/-- Objects of spec/09. -/
def checksAir (e : Nat) (a : Addr) (v : Octets) (s : State) : List (Nat × Nat) :=
  match a.idx, a.sub with
  | 0x4001, 1 => failIf (bit (beNat v) 0 || 8 < popcount 64 (beNat v)) stOutOfRange
  | 0x4001, 2 => failIf (s.chip.hFabric && decide (beNat v < odNat (atE e s) 0x6000 2)) stOutOfRange
  | 0x4012, _ | 0x4013, _ => checksCell e a v s
  | 0x4030, 1 => panFault e a v s
  | 0x4031, 1 => failIf (decide (panField (atE e s) (a.row / 1024) 12 2 ≤ beNat v)) stOutOfRange
  | 0x4032, 1 => mapFault a v s
  | _, _ => []

/-- Whether another enabled row of a static table names the same key octets (R499). -/
def doubleRow (idx rows row off n : Nat) (v : Octets) (s : State) : Bool :=
  octet0 v == 1 && (List.range rows).any (fun r => r != row && odField s idx (if idx = 0x6410 then 4 else 1) r 0 1 == 1 &&
    ((odGet s idx (if idx = 0x6410 then 4 else 1) r).drop off).take n == (v.drop off).take n)

/-- Objects of spec/10 to spec/13. -/
def checksNet (e : Nat) (a : Addr) (v : Octets) (s : State) : List (Nat × Nat) :=
  match a.idx, a.sub with
  | 0x5010, 1 => nodeRegChecks a.row v s
  | 0x5011, 1 =>
    let st := (nodeRec s (beNat v)).st
    failIf (decide (s.chip.nodeLimit ≤ beNat v)) stOutOfRange ++
    failIf (st != .active && st != .desync && st != .lost) stInvalidState s.ctl.mode.code
  | 0x6000, 2 => failIf (decide (odNat (atE e s) 0x4001 2 < beNat v)) stOutOfRange
  | 0x6410, 1 => failIf (decide (4032 < beNat v + odNat s 0x6410 1 (1 - a.row))) stOutOfRange
  | 0x6410, 4 => failIf (2 < fieldNat v 1 1 || doubleRow 0x6410 64 a.row 2 6 v s) stOutOfRange
  | 0x6420, 1 => failIf (fieldNat v 1 1 == 3 || 3 < fieldNat v 1 1 || 2 < fieldNat v 2 1 || doubleRow 0x6420 1024 a.row 16 16 v s) stOutOfRange
  | 0x6820, 1 => failIf (decide (fieldNat v 8 4 < fieldNat v 0 4)) stOutOfRange
  | 0x6820, 2 => failIf (decide (fieldNat v 3 1 < fieldNat v 2 1)) stOutOfRange
  | 0x6830, 1 => failIf (!gatesOk v) stOutOfRange
  | _, _ => []

/-- A Hedgerow address, or 0xFFFF for none. -/
def addrOk (n : Nat) : Bool := decide (n ≤ 4095) || n == 0xFFFF

/-- R350 on the three timers as a write leaves them, in ms. -/
def timersOk (hello takeover isolate : Nat) : Bool := isolate == 0 || decide (2 * isolate + 200 ≤ 2 * takeover + 5 * hello)

/-- HR_HANDOVER (R352, R353). -/
def handoverChecks (v : Nat) (s : State) : List (Nat × Nat) :=
  if v = 0xFFFF then
    match s.hed.handing with
    | none => [(stInvalidState, s.ctl.mode.code)]
    | some h => failIf h.eff.isSome stTooLate
  else
    let ready := match hrAdjOf s v with
      | some x => x.mode == 9 && bit x.flags 2
      | none => false
    let fits := match s.hed.lsdb.find? (fun l => l.origin == v) with
      | some l => l.variant == s.chip.variantCode && decide (s.chip.stepping ≤ l.stepping)
      | none => false
    failIf (decide (4095 < v)) stOutOfRange ++
    failIf (!(s.ctl.mode.working && holdsRegion s v && ready && fits && s.hed.incoming.isNone && s.hed.handing.isNone && s.ctl.change.isNone)) stInvalidState
      s.ctl.mode.code

/-- Objects of spec/14. -/
def checksHedgerow (a : Addr) (v : Octets) (s : State) : List (Nat × Nat) :=
  let n := beNat v
  match a.idx, a.sub with
  | 0x7000, 2 | 0x7002, 1 | 0x7002, 2 => failIf (!addrOk n) stOutOfRange
  | 0x7001, 1 => failIf (!timersOk n (odNat s 0x7001 3) (odNat s 0x7001 4)) stOutOfRange
  | 0x7001, 3 => failIf (!timersOk (odNat s 0x7001 1) n (odNat s 0x7001 4)) stOutOfRange
  | 0x7001, 4 =>
    failIf ((n != 0 && (n < 1000 || 60000 < n)) || !timersOk (odNat s 0x7001 1) (odNat s 0x7001 3) n) stOutOfRange
  | 0x7030, 1 => handoverChecks n s
  | _, _ => []

/-- The check of an import as a failure listed. -/
def importList (toNode : Bool) (a : Addr) (role : Nat) (v : Octets) (authOk : Bool) (s : State) : List (Nat × Nat) :=
  (importFault toNode a.row role v authOk s).toList

/-- Objects of spec/15 and spec/16. An import outside a transaction is checked as it is made (R368), where a refusal is counted. -/
def checksKeys (u : Session) (a : Addr) (v : Octets) (authOk staging : Bool) (s : State) : List (Nat × Nat) :=
  match a.idx, a.sub with
  | 0x8000, 3 => lcChecks u.role v authOk s
  | 0x8010, 2 => if staging then importList false a u.role v authOk s else []
  | 0x8020, 1 => if staging then importList true a u.role v authOk s else []
  | 0x8010, 3 =>
    match keyOf s (beNat v) with
    | none => [(stOutOfRange, 0)]
    | some k => failIf (beaconInUse s k) stInvalidState s.ctl.mode.code
  | 0x8020, 5 => failIf (decide (beNat v < odNat s 0x8020 4)) stOutOfRange
  | 0x8810, 1 =>
    let f := fwActivateFault (beNat v) s
    failIf (f != 0) f (if f = stInvalidState then s.ctl.mode.code else 0)
  | 0x8810, 2 =>
    let f := fwConfirmFault (beNat v) s
    failIf (f != 0) f (if f = stInvalidState then s.ctl.mode.code else 0)
  | 0x8830, 1 => failIf (stillForming s) stBusy
  | _, _ => []

/-- ODAP_PSK (R77, Table 04-6). -/
def pskFault (u : Session) (a : Addr) (v : Octets) (s : State) : List (Nat × Nat) :=
  let role := fieldNat v 1 1
  let idLen := fieldNat v 4 1
  failIf (u.role == 2 && (1 < role || 1 < odField s 0xA011 1 a.row 1 1)) stAccessDenied (roleNumber u.role) ++
  failIf (role == 2 || 3 < role || 32 < idLen || idLen == 0 || !(v.drop (5 + idLen)).all (· == 0)) stOutOfRange

/-- Objects of spec/17 and spec/18. -/
def checksShed (u : Session) (a : Addr) (v : Octets) (s : State) : List (Nat × Nat) :=
  let n := beNat v
  match a.idx, a.sub with
  | 0x9000, 6 => failIf (decide (fieldInt v 0 2 < 60 * 256) || decide ((s.chip.tjMax : Int) * 256 < fieldInt v 0 2)) stOutOfRange
  | 0x9200, 1 => calibChecks v s
  | 0x9200, 3 => cancelChecks n s
  | 0x9400, 2 => failIf (fieldNat v 6 4 % 60 != 0) stOutOfRange
  | 0x9400, 4 => recoverFault u.role v s
  | 0xA011, 1 => pskFault u a v s
  | 0xA200, 3 => failIf (v.take 4 != (odGet s 0xA200 3).take 4) stAccessDenied (roleNumber u.role)
  | 0xA300, 1 => failIf (n != 115200 && n != 460800 && n != 921600) stOutOfRange
  | 0xA400, 1 => failIf (decide (8 ≤ a.row) && fieldNat v 2 1 != 0) stOutOfRange
  | 0xA400, 3 => failIf (n != 100000 && n != 400000 && n != 1000000) stOutOfRange
  | _, _ => []

/-- Objects of spec/19. -/
def checksPower (a : Addr) (v : Octets) (s : State) : List (Nat × Nat) :=
  match a.idx, a.sub with
  | 0xB010, 3 =>
    let f := feedSwitchFault (beNat v) s
    failIf (f != 0) f (if f = stInvalidState then s.ctl.mode.code else 0)
  | 0xB200, 1 => failIf (fieldNat v 2 1 == 2) stOutOfRange
  | 0xB200, 3 => failIf (s.pwr.tamper.any (fun t => t.active)) stInvalidState s.ctl.mode.code
  | _, _ => []

/-- The checks of the chapter that owns an object, on a write that takes effect at slot `e`. -/
def ownerChecks (e : Nat) (u : Session) (a : Addr) (v : Octets) (authOk staging : Bool) (s : State) : List (Nat × Nat) :=
  match a.idx / 0x1000 with
  | 1 | 2 => checksSystem u a v authOk s
  | 3 =>
    if 0x3800 ≤ a.idx then checksRf e 1 (a.idx - 0x800) a v s
    else if a.idx < 0x3100 then checksRf e 0 a.idx a v s
    else checksRadio e a v s
  | 4 => checksAir e a v s
  | 5 | 6 => checksNet e a v s
  | 7 => checksHedgerow a v s
  | 8 => checksKeys u a v authOk staging s
  | 9 | 10 => checksShed u a v s
  | 11 => checksPower a v s
  | _ => []

/-- Whether a read of a row is refused to a role by R77: OPERATOR and PEER have no access, INSTALLER only to its own kinds of row. -/
def readDenied (u : Session) (a : Addr) (s : State) : Bool :=
  a.idx == 0xA011 && a.sub == 1 && u.role == 2 && decide (1 < odField s 0xA011 1 a.row 1 1)

/-! ### Set-level checks (R216, R219, R256) -/

/-- Schedule sets that writes touch: those of the cells and occupants written, and with a class every set (R215). -/
def setsTouched (ws : List Staged) : List Nat :=
  (List.range 4).filter (fun k => ws.any (fun w => w.idx == 0x4020 || ((w.idx == 0x4012 || w.idx == 0x4013) && rowSet w.row == k)))

/-- One schedule set as writes leave it. -/
def setFault (e : Nat) (t s : State) (set : Nat) : Option (Nat × Nat) :=
  if setTooBig t set then some (stTableFull, 0)
  else match setConflict t set with
    | some off => some (stScheduleMismatch, off)
    | none =>
      if set = setE e s then
        match workE e s with
        | some m => if modeE e s = .m9 then none else (modeConflict t set m).map (fun off => (stScheduleMismatch, off))
        | none => none
      else none

/-- The first schedule set that writes leave at fault. -/
def failingSet (e : Nat) (ws : List Staged) (s : State) : Option Nat :=
  (setsTouched ws).find? (fun k => (setFault e (putStaged ws (atE e s)) s k).isSome)

/-- The set-level checks over each schedule set with every write applied. -/
def setChecks (e : Nat) (ws : List Staged) (s : State) : Option (Nat × Nat) :=
  let t := putStaged ws (atE e s)
  (setsTouched ws).foldl (fun f k => match f with
    | some x => some x
    | none => setFault e t s k) none

end Sys2Proof.Machine
end

