-- ==== Sys2Proof/Machine/WriteFx.lean ====
section
/-!
DEFINITION. What an accepted write does: the effect of a value that takes effect, the commit rules that chapters state for their own
objects, what a DOMAIN reads, and the key that opens a DTLS session (R68, R73, R77, R366).
-/

namespace Sys2Proof.Machine

/-! ### Effects -/

/-- A value takes effect at its application point: the store holds it, and the block acts on it. -/
def takeEffect (idx sub row : Nat) (v : Octets) (s : State) : State :=
  let t := odPut idx sub row v s
  match idx, sub with
  | 0x2001, 1 => clockInvalid t
  | 0x3000, 1 | 0x3000, 2 => if s.eas.running ∧ 5 ≤ s.ctl.mode.code ∧ s.ctl.mode.code ≤ 10 then moveCentreAt (sub - 1) (beNat v) t else moveCentre (sub - 1) (beNat v) t
  | 0x3410, 1 => if beNat v = 1 ∧ odNat s 0x3410 1 row ≠ 1 then dpdDefault row t else t
  | 0x3420, 1 => resetRule row t
  | 0x6800, 1 => zeroProfile row t
  | 0x6800, 2 => zeroTokens row t
  | 0x6810, 2 => setShaper (row / 8) (row % 8) 0 t
  | 0x6820, 1 => meterRefill row t
  | 0x6830, 4 => modEgPort row (fun p => { p with entry := gateEntry p.oper (nowNs t) }) t
  | 0x8820, 2 => { s with fw := { s.fw with chain := v } }
  | 0xA011, 1 => ((t.srv.sessions.filter (fun u => u.pskRow == some row && odGet s 0xA011 1 row != v)).map (·.id)).foldl (fun s i => endSession i s) t
  | 0xB010, 1 => modPwr (fun p => { p with action := fieldNat v 3 1 }) t
  | 0xB100, 4 => armChannel row (fieldNat v 0 1) (fieldNat v 1 3) (bit (fieldNat v 4 1) 0) (bit (fieldNat v 4 1) 1) s
  | 0xB100, 6 => modPwr (fun p => { p with backup := setAt p.backup row (beNat v) }) s
  | 0xB200, 1 => copyTamper row v t
  | _, _ => t

/-! ### Commits by an object's own rule -/

/-- A CH_MAP write (R212): announced from the next boundary on and in effect MODE_LEAD superframes after it; at once where no
slots run. -/
def mapCommit (pan : Nat) (v : Octets) (s : State) : State × Answer :=
  if s.eas.running then
    let first := firstBoundaryAt s (nowNs s + 1)
    let e := firstBoundaryAt s ((startNs s first).toNat + modeLead s * 25600000000)
    (clearMapInformed { s with
      eas := { s.eas with maps := s.eas.maps ++ [{ pan := pan, map := v, first := first, eff := e }] }
      srv := { s.srv with pend := s.srv.pend ++ [⟨0x4032, 1, pan, v, some e⟩] } }, effA e)
  else (odPut 0x4032 1 pan v s, effA effNoSlots)

/-- A window centre (R128): at the slot E of NEXT_SUPERFRAME in M5 to M10, at once in the other modes. -/
def centreCommit (a : Addr) (v : Octets) (s : State) : State × Answer :=
  if 5 ≤ s.ctl.mode.code ∧ s.ctl.mode.code ≤ 10 ∧ s.eas.running then
    let e := nextSuperframeE s
    ({ s with srv := { s.srv with pend := s.srv.pend ++ [⟨a.idx, a.sub, a.row, v, some e⟩] } }, effA e)
  else (takeEffect a.idx a.sub a.row v s, effA (effNow s))

/-- A static table row: the entry of the row it replaces leaves, its own enters, in place where the key
stands, or TABLE_FULL and nothing changes (R297, R499). -/
def staticCommit (entry : Octets → TEntry) (a : Addr) (v : Octets) (s : State) : State × Answer :=
  let old := odGet s a.idx a.sub a.row
  let same := octet0 v = 1 ∧ (entry old).key = (entry v).key
  let s1 := if octet0 old = 1 ∧ ¬ same then tableDelete (entry old).tag (entry old).key s else s
  if octet0 v = 1 then
    match tableInsert (entry v) s1 with
    | (_, .tableFull) => (bump 0x6400 3 0 s, errA stTableFull)
    | (s2, _) => (odPut a.idx a.sub a.row v s2, effA (effNow s))
  else (odPut a.idx a.sub a.row v s1, effA (effNow s))

/-- HR_HANDOVER (R352, R353): the snapshot goes to the target, or the handover ends before its commit point. -/
def handoverCommit (target : Nat) (s : State) : State × Answer :=
  if target = 0xFFFF then (handoverStatus 4 stAborted 0 { s with hed := { s.hed with handing := none } }, effA effNone)
  else (sendShadows target (sendSnapshot target (handoverStatus 1 0 0 { s with hed := { s.hed with withdrawn := none, handing := some { target := target, touched := regRows s } } })),
    effA effNone)

/-- A key import at its commit (R368): the answer is OK or KEY_CHANGE_REQUIRED where it is done. -/
def importCommit (toNode : Bool) (row role : Nat) (v : Octets) (authOk : Bool) (s : State) : State × Answer :=
  let r := importKey toNode row role v authOk s
  (if r.2.1 = stOk ∨ r.2.1 = stKeyChangeRequired then shadowImported toNode row r.1 else r.1, if r.2.1 = stOk then effA (effNow s) else errA r.2.1 r.2.2)

/-- A configuration import is staged for the next boot (R61). A block write of it outside a transaction, which Table 03-5 does not
foresee, is staged as well, at its own commit point (log entry 148). -/
def stageImport (v : Octets) (s : State) : State × Answer :=
  (odPut 0x1100 4 0 [1] { s with srv := { s.srv with importStaged := some v } }, effA effNone)

/-- A block write of a firmware bank is programmed (R415). -/
def bankCommit (bank : Nat) (v : Octets) (s : State) : State × Answer :=
  ({ s with fw := { s.fw with banks := setAt s.fw.banks bank v, rejected := setAt s.fw.rejected bank false } }, effA (effNow s))

/-- An effect at the commit point, answered with the slot in progress. -/
def atOnce (f : State → State) (s : State) : State × Answer := (f s, effA (effNow s))

/-- Commits of the system, air and network objects. -/
def commitAir (u : Session) (a : Addr) (v : Octets) (s : State) : Option (State × Answer) :=
  match a.idx, a.sub with
  | 0x1100, 3 => some (stageImport v s)
  | 0x1200, 2 => some (modeCommit u.role v s)
  | 0x1200, 8 => some (rebootCommit s)
  | 0x2100, 1 => some (commitAsnEpoch v s)
  | 0x2002, 2 => some (commitStepApply (beNat v) s)
  | 0x2002, 3 => some (commitTimeSet (beNat v) s)
  | 0x3000, 1 | 0x3000, 2 => some (centreCommit a v s)
  | 0x3300, 1 => some (atOnce (captureCommit (captureCfg v)) s)
  | 0x4032, 1 => some (mapCommit a.row v s)
  | 0x5010, 1 => some (match registerNode a.row v s with
      | (t, true) => (t, effA (effNow s))
      | (t, false) => (t, errA stTableFull))
  | 0x5011, 1 => some (atOnce (askRejoin (beNat v) 2) s)
  | 0x6410, 4 => some (staticCommit macStaticEntry a v s)
  | 0x6420, 1 => some (staticCommit ip6StaticEntry a v s)
  | 0x6830, 1 => some (commitGates a.row v (odPut 0x6830 1 a.row v s), effA effNone)
  | 0x7030, 1 => some (handoverCommit (beNat v) s)
  | _, _ => none

/-- Commits of the security, firmware, recovery and power objects. -/
def commitChip (u : Session) (a : Addr) (v : Octets) (authOk : Bool) (s : State) : Option (State × Answer) :=
  match a.idx, a.sub with
  | 0x8000, 3 => some (lcPrepare (octet0 v) s, owedA)
  | 0x8010, 2 => some (importCommit false a.row u.role v authOk s)
  | 0x8020, 1 => some (importCommit true a.row u.role v authOk s)
  | 0x8010, 3 => some (atOnce (destroyKey (beNat v)) s)
  | 0x8810, 1 => some (atOnce (fwActivate (beNat v)) s)
  | 0x8810, 2 => some (atOnce (fwConfirm (beNat v)) s)
  | 0x8830, 1 => some (atOnce (formReport v) s)
  | 0x9200, 1 => some (calibCommit v s)
  | 0x9200, 3 => some (atOnce (abortCal (beNat v) 3) s)
  | 0x9300, 1 => some (bankCommit a.row v s)
  | 0x9400, 4 => some (atOnce (recoverRequest v) s)
  | 0x9400, 7 => some (atOnce recoveryRelease s)
  | 0xB010, 3 => some (atOnce (feedSwitch (beNat v)) s)
  | 0xB010, 4 => some (atOnce (feedClear (beNat v)) s)
  | 0xB200, 3 => some (atOnce clearTamper s)
  | _, _ => none

/-- The commit of an object that its chapter gives a rule of its own; none where the application point decides. -/
def ownerCommit (u : Session) (a : Addr) (v : Octets) (authOk : Bool) (s : State) : Option (State × Answer) :=
  match commitAir u a v s with
  | some r => some r
  | none => commitChip u a v authOk s

/-! ### FW_STAGE -/

/-- Whether a bank may not be staged to now (R387). -/
def bankHeld (s : State) (b : Nat) : Bool :=
  ((bootRec s).confirmed == b) || (trialRuns s && s.fw.running == some b)

/-- BLOCK_START of FW_STAGE (R415): refused with BUSY or OUT_OF_RANGE, else the bank is erased and loses its mark. -/
def stageBank (bank size : Nat) (s : State) : State × Option (Nat × Nat) :=
  if bankHeld s bank then (s, some (stBusy, 0))
  else if 16777216 < size then (s, some (stOutOfRange, 0))
  else
    let s1 := if (bootRec s).pending = some bank then writeRec (fun r => { r with pending := none, pendDigest := [] }) s else s
    ({ s1 with fw := { s1.fw with banks := setAt s1.fw.banks bank [], rejected := setAt s1.fw.rejected bank false } }, none)

/-- What the owner of an object does at the BLOCK_START of a write. -/
def ownerBlockStart (a : Addr) (size : Nat) (s : State) : State × Option (Nat × Nat) :=
  match a.idx, a.sub with
  | 0x9300, 1 => stageBank a.row size s
  | _, _ => (s, none)

/-! ### What a DOMAIN reads -/

/-- ACCESS of a schema entry (Table 04-4): two bits per role, OPERATOR lowest. -/
def accessField (rd wr : Nat) : Nat :=
  ((List.range 5).map (fun i => (b2n (bit rd i) + 2 * b2n (bit wr i)) * 4 ^ i)).foldl (· + ·) 0

/-- CLASS of a schema entry. -/
def classField (d : ObjDesc) : Nat :=
  (match d.pers with
    | .volatile => 0 | .stored => 1 | .sealed => 2) +
  4 * (match d.app with
    | .immediate => 0 | .nextSlot => 1 | .nextSuperframe => 2 | .nextBoot => 3 | .ownRule => 4)

/-- Whether a type is a number, and whether it is two's complement. -/
def numberTy : OdTy → Option Bool
  | .bool | .u8 | .u16 | .u32 | .u64 => some false
  | .i8 | .i16 | .i32 | .i64 | .q16 | .q32 => some true
  | _ => none

/-- The largest value of a DOMAIN object that can be written, in octets: a firmware bank, a gate list of 256 entries (Table 13-3), and an
import, whose lengths have 32 bits, within the SIZE that a block transfer can name (log entry 151). -/
def domainMax (idx sub : Nat) : Nat :=
  match idx, sub with
  | 0x9300, 1 => 16777216
  | 0x6830, 1 => 24 + 8 * 256
  | 0x1100, 3 => 0xFFFFFFFF
  | 0x8000, 3 => 4 + 1280
  | 0x8010, 2 => 64 + 32
  | 0x8020, 1 => 64 + 16
  | _, _ => 0

/-- The range of a number whose own chapter states it apart from the ranges of the object tables, in the value's own octets. -/
def statedRange (c : Chip) (idx sub : Nat) : Option (Octets × Octets) :=
  match idx, sub with
  | 0x1000, 5 => some (beOct 2 0x4101, beOct 2 c.stepping)
  | 0x3000, 1 | 0x3000, 2 => some (beOct 4 0, beOct 4 934400000)
  | 0x4012, 5 => some (beOct 1 0, beOct 1 4)
  | 0x4013, 1 => some (beOct 4 0, beOct 4 0xFFFFFFFF)
  | 0x7001, 4 => some (beOct 4 0, beOct 4 60000)
  | 0x9000, 6 => some (beInt 2 (60 * 256), beInt 2 (c.tjMax * 256))
  | 0xA300, 1 => some (beOct 4 115200, beOct 4 921600)
  | 0xA400, 3 => some (beOct 4 100000, beOct 4 1000000)
  | _, _ => none

/-- MIN and MAX of a schema entry: the range of a number that can be written, the size of octets. -/
def rangeField (c : Chip) (d : ObjDesc) : Octets :=
  match statedRange c d.idx d.sub with
  | some r => padR r.1 ++ padR r.2
  | none => match numberTy d.ty, d.fields with
  | none, _ => beOct 8 0 ++ beOct 8 (if d.ty = .domain then domainMax d.idx d.sub else d.size)
  | some _, f :: _ => padR (beInt f.size f.lo) ++ padR (beInt f.size f.hi)
  | some sg, [] =>
    if d.wr = 0 then zeros 16
    else if d.ty = .bool then beOct 8 0 ++ beOct 8 1
    else if sg then beOct 8 (256 ^ d.size / 2) ++ beOct 8 (256 ^ d.size / 2 - 1)
    else beOct 8 0 ++ beOct 8 (256 ^ d.size - 1)
where
  padR (o : Octets) : Octets := zeros (8 - o.length) ++ o

/-- DEFAULT of a schema entry: for an object that is fused, and for COMPAT_LEVEL, TEMP_WARN and OWN_MAC, the chip's (R52, R73). -/
def chipDefault (c : Chip) (d : ObjDesc) : Octets :=
  match d.idx, d.sub with
  | 0x1000, 1 => c.variantCode
  | 0x1000, 2 | 0x1000, 5 => beOct 2 c.stepping
  | 0x1000, 3 => beOct 4 c.fuseMap
  | 0x1000, 4 => c.serial
  | 0x1000, 6 => if c.stepping < 0x4200 then beOct 2 1 ++ beOct 2 0x4101 else beOct 2 2 ++ beOct 2 0x4101 ++ beOct 2 0x4200
  | 0x6410, 5 => padTo 6 c.ownMac
  | 0x8000, 1 => beOct 1 c.lifeCycle
  | 0x8800, 3 => beOct 1 ((c.svn[0]?).getD 0)
  | 0x8800, 4 => padTo 32 ((c.rootDigests[0]?).getD [])
  | 0x9000, 6 => beInt 2 (((c.tjMax : Int) - 10) * 256)
  | _, _ => odDefault (odKey d.idx d.sub d.minRow)

/-- One schema entry (Table 04-4). -/
def schemaEntry (c : Chip) (d : ObjDesc) : Octets :=
  let maxRow := if d.perNode then min d.maxRow (c.nodeLimit - 1) else d.maxRow
  let q := match d.ty with
    | .q16 | .q32 => d.qbits
    | .string | .octets => d.size
    | _ => 0
  let dflt := chipDefault c d
  beOct 2 d.idx ++ beOct 1 d.sub ++ beOct 1 d.ty.code ++ beOct 4 maxRow ++ beOct 2 (accessField d.rd d.wr) ++ beOct 1 (classField d) ++ beOct 1 q ++
    rangeField c d ++ beOct 2 dflt.length ++ dflt ++ beOct 1 d.name.length ++ d.name.toList.map ascii

/-- The object of subindex 0 of an index (R64): U8, read by all roles, its value the highest subindex; VOLATILE, IMMEDIATE and without a
name by the model's choice (log entry 151). -/
def subZero (c : Chip) (idx : Nat) : ObjDesc :=
  { idx := idx, sub := 0, name := "", ty := .u8, size := 1, rd := 31, wr := 0, pers := .volatile, app := .immediate, dflt := beOct 1 (highestSub c idx) }

/-- The schema entry of subindex 0. -/
def zeroEntry (c : Chip) (idx : Nat) : Octets :=
  let d := subZero c idx
  beOct 2 idx ++ [0] ++ beOct 1 d.ty.code ++ beOct 4 0 ++ beOct 2 (accessField d.rd d.wr) ++ beOct 1 (classField d) ++ [0] ++ zeros 16 ++
    beOct 2 1 ++ d.dflt ++ [0]

/-- SCHEMA (R73): every object that exists on the unit, ascending, subindex 0 of each index first. -/
def schemaOf (c : Chip) : Octets :=
  let ds := odTable.filter (fun d => !objAbsent c d.idx d.sub)
  ((ds.map (·.idx)).dedup).flatMap (fun i => zeroEntry c i ++ (ds.filter (fun d => d.idx == i)).flatMap (schemaEntry c))

/-- DWELL_ACCOUNTS: rule, centre and 65 buckets in us, oldest first, of every account. -/
def dwellAccounts (s : State) : Octets :=
  s.pri.dwell.flatMap (fun a =>
    let now := bucketAt s a.rule s.clk.elapsed
    beOct 1 a.rule ++ beOct 4 a.centre ++ (List.range 65).flatMap (fun i =>
      beOct 4 (((a.charges.filter (fun x => x.1 + 64 == now + i)).map (·.2)).foldl (· + ·) 0)))

/-- The value of a DOMAIN object's row as a block read finds it. -/
def domainValue (a : Addr) (s : State) : Octets :=
  match a.idx, a.sub with
  | 0x1010, 1 => schemaOf s.chip
  | 0x1100, 1 => exportOf false s
  -- a row whose region the unit does not mirror has an empty value (log entry 148)
  | 0x1100, 2 => ((s.hed.mirrors.find? (fun m => m.region == a.row)).bind (·.snapshot)).getD []
  | 0x3300, 3 => (captureData s.pal.capCfg s.pal.capBase (capturedNow s)).mapIdx (fun i b => if s.pal.capBad.contains i then zeros 32 else b) |>.flatten
  | 0x3420, 3 => dwellAccounts s
  | 0x6830, 2 => encodeGates (egPort s a.row).oper
  | 0x7010, 5 => (database s).flatMap encodeLsa
  | 0x8830, 2 => s.fw.report
  | 0x9100, 1 => s.shd.ring.reverse.flatMap LogEntry.encode
  | 0x9100, 2 => s.shd.flashLog.reverse.flatMap LogEntry.encode
  | _, _ => odGet s a.idx a.sub a.row

/-! ### The key that opens a session -/

/-- The PSK identity of the recovery record (R366), "fl96-recovery". -/
def recoveryIdentity : Octets := "fl96-recovery".toList.map ascii

/-- The PSK identity under which a bootstrap session comes, which the spec does not state (log entry 64). -/
def bootstrapIdentity (lc : Nat) : Octets := Config.crypto "bootstrap PSK identity" lc []

/-- The number of a session key that stands in no slot: recovery PSK, FACTORY_PSK, RETURN_PSK. -/
def pskId (h : ClientHello) (s : State) : Nat := if h.identity = recoveryIdentity then 65538 else if s.chip.lifeCycle = 1 then 65539 else 65540

/-- Whether an enabled HOST_PSK row binds an identity. -/
def pskBinds (s : State) (h : ClientHello) (r : Nat) : Bool :=
  odField s 0xA011 1 r 0 1 == 1 && ((odGet s 0xA011 1 r).drop 5).take (odField s 0xA011 1 r 4 1) == h.identity

/-- A handshake under a key whose USAGE does not permit sessions is counted (R359). -/
def pskWrong (h : ClientHello) (s : State) : State :=
  ((List.range 16).filter (pskBinds s h)).foldl (fun s r => wrongUse (odField s 0xA011 1 r 2 2) 4 s) s

/-- The PSK of an identity: the row that binds it, if one does, and the role (R77, R366, Table 15-2). A row counts while it is enabled
and Seedbank lets its key open sessions. -/
def pskSession (h : ClientHello) (s : State) : Option (Option Nat × Nat) :=
  if s.ctl.mode = .m2 ∧ h.identity = recoveryIdentity then (if s.sec.recPsk.isSome ∧ recordOpens s ∧ otherUsable s 65538 then some (none, 2) else none)
  else if h.identity = bootstrapIdentity s.chip.lifeCycle ∧ s.chip.lifeCycle = 1 then (if h.transport = 1 ∧ otherUsable s 65539 then some (none, 2) else none)
  else if h.identity = bootstrapIdentity s.chip.lifeCycle ∧ s.chip.lifeCycle = 3 then (if otherUsable s 65540 then some (none, 8) else none)
  else
    ((List.range 16).find? (fun r => pskBinds s h r && useFault s (odField s 0xA011 1 r 2 2) 4 == 0)).map (fun r =>
        (some r, match odField s 0xA011 1 r 1 1 with
          | 0 => 1
          | 1 => 2
          | _ => 8))

/-- The PSK of a session: its row's key, the recovery PSK, FACTORY_PSK or RETURN_PSK (R77, R366, Table 15-2). -/
def pskValue (h : ClientHello) (row : Option Nat) (s : State) : Octets :=
  match row with
  | some r => keyValue s (odField s 0xA011 1 r 2 2)
  | none =>
    if h.identity = recoveryIdentity then s.sec.recPsk.getD [] else if s.chip.lifeCycle = 1 then factoryPsk s else returnPsk s

end Sys2Proof.Machine
end

