-- ==== Sys2Proof/Machine/Slots.lean ====
section
/-!
DEFINITION. The slot start (R16, R17, R231), what ends with a slot, and a clock step at its instant (R109).
-/

namespace Sys2Proof.Machine

/-! ### The end of a slot -/

/-- Carriers that the slot ends without having emitted whole are handled as drops. -/
def dropRest (s : State) : State :=
  let rest := s.eas.active.tx.filter (fun c => decide (c.stage < 2))
  let s1 := { s with eas := { s.eas with active := { s.eas.active with
    tx := s.eas.active.tx.map (fun c => if c.stage < 2 then { c with stage := 3 } else c) } } }
  rest.foldl (fun s c => dropCarrier c s) s1

/-- The PDET reading that the unit expects of carriers at these levels, dBm Q8 (R409): their composite through the feedback gain that the
last FB_CAL of the path set, which is the environment's (log entry 8). -/
def pdetExpected (s : State) (band : Nat) (levels : List Int) : Option Int :=
  (dbSum levels).map (fun x => x + signed 2 (Config.freeValue (2 ^ 100 + 2 * odNat s (bandIdx band 0x3040) 1 3 + band) % 65536))

/-- PDET_CHECK of a band after a transmitting slot (R409): 3 slots in a row above PDET_HIGH are a fault of the transmit path, 3 in a row
more than 10 dB below are logged. -/
def pdetBand (band : Nat) (s : State) : State :=
  let sent := s.eas.active.tx.filter (fun c => c.band == band && c.stage == 2)
  let r := (s.shd.pdetSum[band]?).getD (0, 0)
  let n := (s.shd.pdet[band]?).getD (0, 0)
  match pdetExpected s band (sent.map (fun c => rowLevel band c.powerRow)) with
  | none => s
  | some e =>
    if r.2 = 0 then s
    else
      let diff := r.1 / (r.2 : Int) - e
      let up := if odInt s 0x9000 7 < diff then n.1 + 1 else 0
      let down := if diff < -2560 then n.2 + 1 else 0
      let s1 := { s with shd := { s.shd with pdet := setAt s.shd.pdet band (up % 3, down % 3) } }
      let s2 := if up = 3 then fault fnRfPath (txPath band) (logEvent 0x0C 2 (beOct 1 band ++ beInt 2 diff) s1) else s1
      if down = 3 then logEvent 0x0D 1 (beOct 1 band ++ beInt 2 diff) s2 else s2

/-- PDET_CHECK of both bands. -/
def pdetCheck (s : State) : State :=
  let s1 := pdetBand 1 (pdetBand 0 s)
  { s1 with shd := { s1.shd with pdetSum := [(0, 0), (0, 0)] } }

/-- What the end of the slot in progress brings (R131, R158, R173, R190, R197, R409). -/
def endSlot (s : State) : State :=
  mirrorDwell (markKnife (dpdCapture (pdetCheck (logLate (endReceptions (dropRest s))))))

/-! ### The start of a slot -/

/-- ASN_FLOOR stays above every ASN that has run (R114). -/
def raiseFloor (a : Nat) (s : State) : State :=
  if odNat s 0x2100 4 ≤ a then odPut 0x2100 4 0 (beOct 8 (a + 1048576)) s else s

/-- Writes whose slot has come take effect, in the order of their effective ASN and commit (R68, R71). -/
def applyDue (a : Nat) (s : State) : State :=
  let due (w : PendWrite) : Bool := match w.eff with
    | some e => decide (e ≤ a)
    | none => false
  let ws := (s.srv.pend.filter due).mergeSort (fun x y => decide (x.eff.getD 0 ≤ y.eff.getD 0))
  ws.foldl (fun s w => takeEffect w.idx w.sub w.row w.val s) { s with srv := { s.srv with pend := s.srv.pend.filter (fun w => !due w) } }

/-- A mode change whose slot has come and whose own command has not: taken, or abandoned (R42, R44, R47). -/
def changeDue (a : Nat) (s : State) : State :=
  match s.ctl.change with
  | some c =>
    if c.eff ≤ a ∧ c.kind ≠ .waiting then (if c.kind = .announced ∧ ¬ c.announced then dropChange 0 s else takeChange c s) else s
  | none => s

/-- Maps whose slot has come (R212). -/
def mapsDue (a : Nat) (s : State) : State :=
  (s.eas.maps.filter (fun m => decide (m.eff ≤ a))).foldl (fun s m => applyMap m s) s

/-- Whether a synthesiser is being calibrated through the slot: its paths run the slot quiet (R129). -/
def calibrating (s : State) (y : Nat) : Bool := (synth s y).centre != 0 && !(synth s y).locked && (synth s y).attempts == 0

/-- The gain of a path in a quiet slot: the previous one, but where a transmission had lowered it (R133). -/
def quietPath (x : RxPath) : RxPath :=
  let g := if x.lowered then x.still else x.gain
  { x with gain := g, still := g, lowered := false }

/-- The gains of a slot with its bank exchanged (R133, R137); a path whose synthesiser is being calibrated runs it quiet. -/
def slotGain (p : SlotPlan) (s : State) : State :=
  { s with rf := { s.rf with paths := s.rf.paths.mapIdx (fun i x =>
    let g := (p.gains[i]?).getD none
    let tx := ((p.txAerial[i / 2]?).getD none).isSome
    if calibrating s (2 * (i / 2)) then quietPath x
    else { x with gain := g, still := if tx then x.still else g, lowered := tx && g != some x.envLast }) } }

/-- The gains of a quiet slot (R133). -/
def quietGain (s : State) : State := { s with rf := { s.rf with paths := s.rf.paths.map quietPath } }

/-- The plan of a slot that runs quiet (R231). -/
def quietPlan (a : Nat) (s : State) : SlotPlan :=
  { asn := a, quiet := true, rx := s.eas.standing, gains := (quietGain s).rf.paths.map (·.gain) }

/-- An announced change whose first announcing slot runs quiet is not yet past its commit point (R44). -/
def uncommit (s : State) : State :=
  { s with ctl := { s.ctl with change := s.ctl.change.map (fun c =>
    if c.kind = .announced ∧ ¬ c.announced then { c with committed := false } else c) } }

/-- A slot without commit mark runs quiet: the candidates taken for it are handled as drops, and it is counted as an overrun (R17, R231). -/
def overrunSlot (a : Nat) (s : State) : State :=
  let s1 := if s.eas.nextPlan.asn = a then s.eas.nextPlan.tx.foldl (fun s c => dropCarrier c s) s else s
  let s2 := bump 0x4000 1 0 (quietGain s1)
  let s3 := { s2 with eas := { s2.eas with active := quietPlan a s1 } }
  if s.eas.restarting then s3
  else logEvent 0x2C 2 (beOct 2 (odNat s 0x4000 2)) { s3 with eas := { s3.eas with overruns := s3.eas.overruns + 1 } }

/-- Whether the banks are exchanged at the start of slot `a`: its commit mark is written, and no step or restart makes it quiet (R17, R109). -/
def exchanges (a : Nat) (s : State) : Bool := s.eas.stepSlot != some a && s.eas.commitMark == some a && !s.eas.restarting

/-- Beacons whose transmit synthesisers are all being calibrated are not emitted, and commit no announced change (R44, R129). -/
def quietBeacons (s : State) : State :=
  let bs := s.eas.active.tx.filter (fun c => c.kind == .beacon)
  if bs ≠ [] ∧ bs.all (fun c => calibrating s (txSynth c.band)) then uncommit s else s

/-- The banks of slot `a`: exchanged where the commit mark is written, else a step slot or an overrun (R16, R17, R109). -/
def exchangeBanks (a : Nat) (s : State) : State :=
  if s.eas.stepSlot = some a then
    let s1 := uncommit (bump 0x4000 1 1 (quietGain s))
    { s1 with eas := { s1.eas with active := quietPlan a s } }
  else if exchanges a s then
    quietBeacons (slotGain s.eas.nextPlan { s with eas := { s.eas with active := s.eas.nextPlan, overruns := 0 } })
  else overrunSlot a (uncommit s)

/-- A slot in which a pending move met a stale entry is counted as quiet for calibration (R129, R231). -/
def countCalQuiet (s : State) : State := if calibrating s 0 || calibrating s 1 then bump 0x4000 1 2 s else s

/-- The transmit aerial of a band in the slot in progress: none where its transmit synthesiser is being calibrated (R129, R133). -/
def slotAerial (s : State) (band : Nat) : Option Nat := if calibrating s (txSynth band) then none else (s.eas.active.txAerial[band]?).getD none

/-- The front ends of both bands at a slot start. -/
def frontEnds (s : State) : State := feSlot 1 (slotAerial s 1) (feSlot 0 (slotAerial s 0) s)

/-- Wake-up entries whose follow-up slot has passed and emitted nothing wait again (R201). -/
def staleFollowups (a : Nat) (s : State) : State :=
  { s with pri := { s.pri with wake := s.pri.wake.map (fun w => match w.sent with
    | some x => if x.1 + x.2 + 1 < a then { w with sent := none } else w
    | none => w) } }

/-- The blocks take up slot `a`, unless a mode change has stopped the slots. -/
def beginSlot (a : Nat) (s : State) : State :=
  let s0 := changeDue a (raiseFloor a (retireLists a (resumeSynths (staleFollowups a s))))
  if ¬ s0.eas.running then s0
  else
    let s1 := exchangeBanks a (countCalQuiet (applyDue a (mapsDue a s0)))
    let s2 := if exchanges a s0 then (rewrittenRules a s0).foldl (chargeRule a s1.eas.active.tx) s1 else s1
    startItems a (dpdSlot (exchanges a s0) (requestedTests a (rotateEngines s2.eas.active (frontEnds s2))))

/-! ### A clock step (R109) -/

/-- Slots from `e` up to the first whole one are passed over and counted as step slots. -/
def passOver (e : Nat) (s : State) : State :=
  let a := max e (firstWholeSlot s)
  let s1 := bump 0x4000 1 1 (endSlot s) (a - e)
  changeDue a { s1 with eas := { s1.eas with asn := a - 1, next := some a, nextPlan := {}, commitMark := none, stepSlot := none, active := quietPlan (a - 1) s1 } }

/-- The fixed step at its instant: for a step back, and for one that fits in slot E - 1, it ends at the start of E; a longer one
ends slot E - 1 at its settle interval, and passes over slots. -/
def stepAtInstant (d : Int) (e : Nat) (s : State) : State :=
  let t := slotNs (epochFor s (e - 1)).code
  if d < 0 then applyStep d (advanceNs (startNs s e).toNat s)
  else if d ≤ (t : Int) - 200000 then applyStep d (advanceNs (startNs s e - d).toNat s)
  else passOver e (applyStep d (advanceNs (startNs s (e - 1) + 200000).toNat s))

/-- CLOCK_STEP_APPLY (R109). -/
def execClockStepApply (s : State) : Host.Outcome State Fault Refusal :=
  match stepDue s with
  | some (d, e) => if s.eas.running then done s (stepAtInstant d e s) else done s s
  | none => done s s

/-- SLOT_START (R16): time passes to the start of the next slot, the slot in progress ends, and the next begins. A step that is due
before it is applied first. -/
def execSlotStart (s : State) : Host.Outcome State Fault Refusal :=
  let s0 := match stepDue s with
    | some (d, e) => if s.eas.running then stepAtInstant d e s else s
    | none => s
  match s0.eas.next with
  | some a =>
    let s1 := endSlot (advanceNs (startNs s0 a).toNat s0)
    let s2 := beginSlot a { s1 with eas := { s1.eas with asn := a, next := some (a + 1), running := true }, clk := { s1.clk with ran := some (max a (s1.clk.ran.getD 0)) } }
    done s { s2 with eas := { s2.eas with stepSlot := if s2.eas.stepSlot = some a then none else s2.eas.stepSlot } }
  | none => done s s

end Sys2Proof.Machine
end

