-- ==== Sys2Proof/Machine/Boot.lean ====
section
/-!
DEFINITION. Supplies coming and going, the cold boot, the warm reset and the power cycle (spec/02, spec/16, spec/17, spec/19), Shed's
watchdog and sensors, page fetches and patch traps.
-/

namespace Sys2Proof.Machine

/-! ### The main supply (R460, R467) -/

/-- Writes Shed's feed history: COUNT, LAST_TRAIN and FIRST_S at octets 48 to 55 of the backup memory (R478). -/
def setFeedHist (count train first : Nat) (s : State) : State :=
  modPwr (fun p => { p with backup := p.backup.take 48 ++
    [count, train, 0, 0, first / 2 ^ 24 % 256, first / 2 ^ 16 % 256, first / 256 % 256, first % 256] ++ p.backup.drop 56 }) s

/-- FIRST_S of the feed history. -/
def feedFirst (s : State) : Nat := ((backupAt s 52 * 256 + backupAt s 53) * 256 + backupAt s 54) * 256 + backupAt s 55

/-- The train that failed at a feed brownout: after a switch-over the one switched to, else the one in service. -/
def failedTrain (p : Pwr) : Nat :=
  match p.postSwitch, p.lastSwitch with
  | true, some (_, left) => 1 - left
  | _, _ => p.train

/-- FEED_BROWNOUT_REVIEW (R467): logged, the failed train marked and the brownout counted; the third within 3,600 s holds the unit in M1,
else the boot begins. -/
def reviewBrownout (s : State) : State :=
  let t := failedTrain s.pwr
  let within := backupAt s 48 != 0 && decide (secsTo (feedFirst s) s.pwr.secs ≤ 3600)
  let n := if within then min 255 (backupAt s 48 + 1) else 1
  let s1 := logEvent 0x63 3 (beOct 1 t ++ beOct 1 (b2n s.pwr.postSwitch) ++ beOct 1 n)
    (setFeedHist n t (if within then feedFirst s else s.pwr.secs) s)
  let s2 := modPwr (fun p => { p with
    failed := if p.postSwitch then setAt p.failed t true else p.failed, brownout := false, postSwitch := false }) s1
  if 3 ≤ n then { s2 with shd := { s2.shd with feedHold := true } } else beginBoot 5 s2

/-- Alarms that fired in M0 are acted on (R476). -/
def actAlarms (s : State) : State :=
  [0, 1].foldl (fun s ch =>
    if (channelOf s ch).waiting then
      alarmFired ch (channelOf s ch).step (modPwr (fun p => { p with cd := modAt (fun c => { c with waiting := false }) p.cd ch }) s)
    else s) s

/-- What Shed's boot ROM does once D1 is valid: it ends a power cycle with its boot, or reviews a brownout; a power-on waits for a wake. -/
def startShed (s : State) : State :=
  match s.shd.cycleFor with
  | some (_, _, code) => if s.shd.thermalHold then s else beginBoot code s
  | none => if s.pwr.sealed ∧ s.pwr.brownout then reviewBrownout s else s

/-- MAIN_SUPPLY_VALID (R460): D1 comes on, Shed starts, and the unit is in M1. -/
def execMainSupplyValid (s : State) : Host.Outcome State Fault Refusal :=
  if s.ctl.mode = .m0 then
    let s1 := releaseReceiver 4 (modPwr (fun p => { p with main := true, onVbat := false })
      { s with ctl := { s.ctl with mode := .m1, domains := Mode.m1.domains s.chip.fPackage }
               shd := { s.shd with bootRom := true, cycleUntil := none } })
    done s (actAlarms (startShed s1))
  else done s s

/-- D1 to D11 lose power: what D0, the fuses and flash hold stays, D0 now fed from VBAT (R459, R469). -/
def losePower (s : State) : State :=
  let s1 := dropDomains s
  settleSeal { s1 with
    ctl := { mode := .m0, domains := Mode.m0.domains s.chip.fPackage }
    clk := { elapsed := s.clk.elapsed, oldEpochs := s.clk.oldEpochs, ran := s.clk.ran }
    rf := {}
    pri := {}
    fw := { s1.fw with shedDigest := [], traps := [] }
    host := {}
    shd := { flashLog := s.shd.flashLog, cycleFor := s.shd.cycleFor, thermalHold := s.shd.thermalHold }
    od := s1.od
    pwr := { s.pwr with main := false, onVbat := true, sense := List.replicate 12 0, switches := 0, gapEnd := none, gapAuto := none, vbatLogged := none
                        noStbyAt := none, stbyOut := false, shadows := [none, none], trimRef := none } }

/-- FEED_BROWNOUT_LATCH (R466): BROWNOUT, POST_SWITCH within 100 ms of a switch-over, and RETURN. -/
def latchBrownout (s : State) : State :=
  let post := match s.pwr.lastSwitch with
    | some (t, _) => decide (owStamp s < t + 3277)
    | none => false
  modPwr (fun p => { p with
    brownout := true, postSwitch := post
    train := match post, p.lastSwitch with
      | true, some (_, left) => if p.action = 1 then left else p.train
      | _, _ => p.train }) s

/-- BROWNOUT (R459). The supervisor's removal of both trains in a power cycle is no feed brownout. -/
def execBrownout (s : State) : Host.Outcome State Fault Refusal :=
  if s.ctl.mode = .m0 then done s s
  else done s (losePower (if s.shd.cycleFor.isSome then s else latchBrownout s))

/-! ### The cold boot (R398) -/

/-- Values of VOLATILE objects return to their defaults, SG_CAL_TABLE and FEED_STATE among them, and their pending writes are discarded
(R67, R497). -/
def dropVolatile (s : State) : State :=
  let stays (idx sub : Nat) : Bool := (odFind idx sub).map (·.pers) != some .volatile
  { s with
    od := s.od.filter (fun e => stays (e.1 / 2 ^ 40) (e.1 / 2 ^ 32 % 256))
    srv := { s.srv with pend := s.srv.pend.filter (fun w => stays w.idx w.sub) }
    rf := { s.rf with calTab := List.replicate 4 (List.replicate 8 {}), useCount := 0 }
    pwr := { s.pwr with switches := 0 } }

/-- The local clock starts from the calendar where the seal is intact, else from zero; it is invalid (R97). The epochs
kept before the one in force are in the configuration store (R111). Which seconds have had
their pulse is not kept over a cold boot (DESIGN CHOICE, log entry 175). -/
def startClock (s : State) : State :=
  { s with clk := { elapsed := s.clk.elapsed, oldEpochs := s.clk.oldEpochs, ran := s.clk.ran
                    now := if s.pwr.sealed then (s.pwr.secs * 1000000000 + s.pwr.sub * 1000000000 / 32768) * nsUnit else 0 } }

/-- SEAL_RESTORE (R470): the steps that Gesso takes with a broken seal; drawing the nonce is part of `bootKeys`. -/
def restoreSeal (s : State) : State :=
  if s.pwr.sealed then modPwr (fun p => { p with sealFound := false }) s
  else
    let s1 := modPwr (fun p => { p with
      secs := 0, sub := 0, window := 0, trim := 0, trimNext := 0, setDue := false, cd := [{}, {}], backup := List.replicate 64 0
      nonce := none, train := 0, tamper := p.tamper.map (fun t => { t with latched := false, count := 0, secs := 0, sub := 0 }) }) s
    let s2 := copyTamper 1 (odGet s1 0xB200 1 1) (copyTamper 0 (odGet s1 0xB200 1 0) s1)
    logEvent 0x65 3 [] (modPwr (fun p => { p with sealFound := true }) s2)

/-- NEXT_BOOT writes take effect (R68, R497). -/
def bootWrites (s : State) : State :=
  (s.srv.pend.filter (fun w => w.eff.isNone)).foldl (fun s w => takeEffect w.idx w.sub w.row w.val s)
    { s with srv := { s.srv with pend := s.srv.pend.filter (fun w => w.eff.isSome) } }

/-- Easel rebuilds the change records and the pending channel maps from the configuration store (R497). -/
def rebuildChanges (s : State) : State :=
  { s with eas := { s.eas with
    changes := s.srv.pend.flatMap (fun w => changeOf ⟨w.idx, w.sub, w.row⟩ w.val w.eff s)
    maps := s.srv.pend.filterMap (fun w => match w.eff with
      | some e => if w.idx = 0x4032 then some { pan := w.row, map := w.val, first := e - modeLead s * sfSlots (curEpoch s).code, eff := e } else none
      | none => none) } }

/-- A staged import is adopted (R61), after the writes of the same boot, so that it stands (log entry 148). -/
def bootImport (s : State) : State :=
  match s.srv.importStaged with
  | some v => adoptImport v { s with srv := { s.srv with importStaged := none } }
  | none => s

/-- The parts of the set that runs, or of safe mode (R394, R395). -/
def loadParts (va vb : BankVerdict) (d : Decision) (s : State) : State :=
  let running := match d with
    | .run b => some b
    | _ => none
  let s0 := { s with fw := { s.fw with running := running, trialSince := none, traps := [] } }
  let s1 := match running with
    | some b => loadTables b s0
    | none => s0
  match shedBank va vb d s with
  | some b => { s1 with fw := { s1.fw with shedDigest := partDigest (manifest s1 b) 4 }, shd := { s1.shd with bootRom := false } }
  | none => s1

/-- Tables, nodes, buckets, gate lists, dwell accounts and pre-distortion as a cold boot starts them (R197, R244, R296, R316, R318, R325, R193). -/
def bootBlocks (s : State) : State :=
  let port (p : Nat) : EgPort := { oper := decodeGates (odGet s 0x6830 1 p), shapers := List.replicate 8 (0, s.clk.elapsed) }
  let s1 := buildMacArray (buildNodeArray { s with
    tre := {}, rid := { profAt := List.replicate 16 s.clk.elapsed, ports := [port 0, port 1] }, pri := { s.pri with dpd := (List.range 9).map (defaultSet s), dwell := [], mirror := [], preload := [], wake := [] } })
  let s2 := registerNodes s1
  (List.range 16).foldl (fun s r => if dwellField s r 0 1 = 0 then s else resetRule r s) s2

/-- The mode that a boot enters, and the working mode that it then asks for (R54, R360, Table 02-7). -/
def bootMode (d : Decision) (s : State) : Mode × Option Mode :=
  let safe : Bool := !s.chip.valid || (match d with
    | .run _ => false
    | _ => true)
  let allowed (m : Mode) : Bool := lifeCycleAllows s.chip.lifeCycle m
  if safe || !allowed .m3 then (.m2, none)
  else match modeOf (odNat s 0x1200 6) with
    | some .m4 => (.m4, none)
    | some .m9 => (if s.chip.hFabric && allowed .m9 then .m9 else .m3, none)
    | some t => (.m3, if t.working && allowed t then some t else none)
    | none => (.m3, none)

/-- The mode is entered; a working BOOT_MODE then waits as a request from M3 does, where its set fits (R39, R45). -/
def enterBoot (m : Mode × Option Mode) (s : State) : State :=
  let s1 := enterMode m.1 s
  match m.2 with
  | some t => if (scheduleFit s1 (namedSet s1) t).isNone then (enterWorking t s1).1 else s1
  | none => s1

/-- RESET_CAUSE (R430). -/
def resetCause (code fn : Nat) (s : State) : State := odPut 0x9400 6 0 (beOct 1 code ++ beOct 1 fn ++ beOct 6 (nowSecs s)) s

/-- Shed and the server as a cold boot finds them: an empty ring whose SEQ starts again, and fresh identifiers (R412, R498). -/
def bootShed (s : State) : State :=
  { s with
    srv := { pend := s.srv.pend, importStaged := s.srv.importStaged, nextSession := s.srv.nextSession }
    shd := { s.shd with ring := [], seq := 0, l1 := [], l2 := [], faulted := [], halted := false, due := none, warm := none, cal := List.replicate 16 {}
                        booting := none, cycleUntil := none, cycleFor := none, thermalHold := false, feedHold := false } }

/-- Gesso's comparison of the fuses with the bonding, at every boot: a variant fault is logged (R54). -/
def checkVariant (s : State) : State := if s.chip.valid then s else logEvent 0x12 3 (beOct 4 s.chip.fuseMap) s

/-- The cold boot with its cause and function, and Gesso's verdicts on the two banks. -/
def coldBoot (cause fn : Nat) (va vb : BankVerdict) (s : State) : State :=
  let latched := s.pwr.sealed && s.pwr.tamper.any (·.latched)
  let s1 := restoreSeal (startClock (dropVolatile (bootShed s)))
  let s2 := makeSeal (bootKeys false latched s1)
  let r := bootDecision false va vb (checkVariant s2)
  let s4 := rebuildChanges (bootImport (bootWrites (loadParts va vb r.2 r.1)))
  let s5 := modPwr (fun p => { p with action := odField s4 0xB010 1 0 3 1 }) (bootBlocks (feIdle s4))
  let m := bootMode r.2 s5
  let s6 := releaseReceiver 1 (resetCause cause fn s5)
  let s7 := if m.1 = .m2 then s6 else releaseReceiver 3 (releaseReceiver 2 s6)
  logEvent 0x01 1 (beOct 1 cause ++ beOct 1 m.1.code) (enterBoot m (startHedgerow (startServer s7)))

/-- COLD_BOOT (R398): a boot that has begun runs to its mode. -/
def execColdBoot (a b : BankVerdict) (s : State) : Host.Outcome State Fault Refusal :=
  match s.ctl.mode, s.shd.booting with
  | .m1, some cause => done s (coldBoot cause ((s.shd.cycleFor.map (·.1)).getD 0) a b s)
  | _, _ => done s s

/-! ### The warm reset, step L3 (R422) -/

/-- Octets of memory that a warm reset zeroes: Easel SRAM, and system SRAM below the Trellis part. -/
def zeroedRange (a : Nat) : Bool := inRange a 0x20000000 0x33B000 || inRange a 0x10000000 0x80000

/-- The domains in reset. -/
def resetDomains (s : State) : State :=
  { s with ctl := { s.ctl with domains := s.ctl.domains.mapIdx (fun i d =>
    if i < 2 ∨ d = .off then d else if i = 5 then .hold else .inReset) } }

/-- A pending mode change is lost unless its commit point has passed. -/
def warmChange (s : State) : State :=
  match s.ctl.change with
  | some c => if c.committed then s else dropChange 2 s
  | none => s

/-- Queued requests without FORCE are discarded (R427). -/
def warmCal (s : State) : State :=
  (List.range 16).foldl (fun s i => match s.shd.cal[i]? with
    | some r => if r.st = 1 ∧ ¬ r.force then abortCal i 4 s else s
    | none => s) s

/-- Easel, the nodes' queues towards it, and the radio in reset. -/
def warmRadio (s : State) : State :=
  let s1 := silence (endReceptions s)
  { s1 with
    eas := { s1.eas with running := false, next := none, active := {}, nextPlan := {}, commitMark := none, stepSlot := none, standing := [], overruns := 0
                         restarting := false, trapped := false, beaconSeq := [0, 0, 0, 0], gack := [] }
    rf := { s1.rf with synths := [{}, {}, {}, {}], paths := [{}, {}, {}, {}], items := s1.rf.items.map (fun i => { i with running := false }), lateDrops := [0, 0] }
    pal := { s1.pal with engines := s1.pal.engines.map (fun e => if e.st = .faulty then e else {}), floors := [], knife := List.replicate 18 {} }
    pri := { s1.pri with dwell := restoredDwell s1 }
    nod := { s1.nod with acks := [], mac := [] } }

/-- The networks in reset: ports down with their frames discarded, learned addresses gone, Glaze empty, the cipher engine free. -/
def warmNets (s : State) : State :=
  let s1 := discardPort 1 (discardPort 0 (setLink 1 false 0 (setLink 0 false 0 s)))
  let s2 := dropLearned s1
  cipherForce (glazeReset { s2 with tre := { s2.tre with reloc := {} } })

/-- What the assertion of the warm reset does at once (R422, R449). -/
def assertWarm (fn inst : Nat) (s : State) : State :=
  let s0 := countStep fn 3 (persistAll (dropL2s s))
  let slot := if s0.eas.running then some s0.eas.asn else none
  let s1 := warmCal (warmChange (warmNets (warmRadio s0)))
  let s2 := stopServer (resetReceivers [0, 1, 2, 3] (linkDown { s1 with srv := { s1.srv with nextTxn := 1 } }))
  resetDomains { s2 with
    sec := { s2.sec with lcPrep := none }
    shd := { s2.shd with warm := some { fn := fn, inst := inst, slot := slot, at_ := s2.clk.elapsed }, due := none, l1 := [], l2 := [], l2Hist := []
                         faulted := if s2.shd.halted then s2.shd.faulted else [] }
    mem := s2.mem.filter (fun p => !zeroedRange p.1) }

/-- What a warm boot does with a staged import (R61, R68): an import that is adopted is a new configuration, whose tables, nodes and
buckets start as at a cold boot. -/
def warmImport (s : State) : State :=
  match s.srv.importStaged with
  | some _ =>
    let t := bootImport s
    if odNat t 0x1100 4 = 2 then startHedgerow (bootBlocks t) else t
  | none => s

/-- A set rejected at a warm boot, and a variant fault: the unit is in M2, and a pending change is overridden and logged (R46, R54). -/
def warmSafe (s : State) : State :=
  let t := dropChange 1 s
  loseDomains { t with fw := { t.fw with running := none }, ctl := { t.ctl with mode := .m2 } }

/-- The boot decision of a warm reset, with the key load (R54, R394, R398). -/
def warmDecide (va vb : BankVerdict) (s : State) : State :=
  let due := s.sec.lcDue.isSome
  let r := bootDecision true va vb (checkVariant (bootKeys true (s.pwr.tamper.any (·.latched)) (warmImport (bootWrites s))))
  match (if due then .coldBoot else if r.1.chip.valid then r.2 else .safe) with
  | .run b =>
    let s1 := loadTables b { r.1 with fw := { r.1.fw with running := some b, trialSince := none } }
    settleTrial s1
  | .safe => warmSafe r.1
  | .coldBoot => demand ⟨4, fnGesso, 0, 6, r.1.clk.elapsed⟩ { r.1 with shd := { r.1.shd with warm := none } }

/-- M11 is left by a warm reset alone, which then enters BOOT_MODE (Table 02-7). -/
def warmMode (s : State) : State :=
  if s.ctl.mode = .m11 then
    let m := bootMode (.run 0) s
    let s1 := { s with ctl := { s.ctl with mode := m.1 } }
    match m.2 with
    | some t => if (scheduleFit s1 (namedSet s1) t).isNone then (enterWorking t s1).1 else s1
    | none => s1
  else s

/-- WARM_RESET_ASSERT (R422): a step L3 that is due is taken. -/
def execWarmResetAssert (a b : BankVerdict) (s : State) : Host.Outcome State Fault Refusal :=
  match s.shd.due with
  | some d =>
    if d.step = 3 ∧ 2 ≤ s.ctl.mode.code then
      done s (warmMode (warmDecide a b (resetCause (if d.cause = 6 then 6 else 1) d.fn (assertWarm d.fn d.inst (advanceElapsed d.at_ s)))))
    else done s s
  | none => done s s

/-- Whether a step of `d` ns for slot `e` comes too late for its instant: the slot has passed, or the step would leave no whole
preparation window before it (R109, R110, R116). -/
def stepPassed (d : Int) (e : Nat) (s : State) : Bool :=
  decide (startNs s e ≤ (nowNs s : Int)) || (decide (0 < d) && decide (startNs s e - d < (nowNs s : Int) + 2000000))

/-- A step whose slot passed in the reset is applied; one whose fixing moment, the opening of the window of slot E - 1, fell in it is
fixed, or has no effect (R108, R110). -/
def rejoinStep (s : State) : State :=
  match s.clk.stepReq with
  | none => s
  | some r =>
    let a := firstWholeSlot s
    if r.slot ≤ a ∨ r.fixed.isSome then
      let d := match r.fixed with
        | some d => some d
        | none => if s.clk.stepPending then some s.clk.stepAmount else none
      match d with
      | none => logEvent 0x19 1 (beInt 8 s.clk.offset) { s with clk := { s.clk with stepReq := none } }
      | some d =>
        if stepPassed d r.slot s then applyStep d s
        else { s with clk := { s.clk with stepReq := some { r with fixed := some d } } }
    else s

/-- The slot that a committed change names has passed in the reset: the change is taken before Easel rejoins. -/
def rejoinChange (s : State) : State :=
  match s.ctl.change with
  | some c => if c.kind ≠ .waiting ∧ c.eff ≤ joinAt s then takeChange c s else s
  | none => s

/-- Easel takes up the slots again; a fixed step whose slot comes next is prepared for (R109, R116). -/
def rejoinSlots (s : State) : State :=
  let s1 := settleSlots (stopSlots s)
  match s1.clk.stepReq, s1.eas.next with
  | some r, some a => if r.fixed.isSome ∧ r.slot = a + 1 then { s1 with eas := { s1.eas with stepSlot := some a } } else s1
  | _, _ => s1

/-- Slots that a warm reset missed. -/
def missedSlots (w : Warm) (s : State) : Nat :=
  match w.slot, s.eas.next with
  | some a, some b => b - a - 1
  | _, _ => 0

/-- Easel's part of the end of a warm reset: the domains are back, the calibrations and Easel resume (R116, R129, R427). -/
def easelBack (w : Warm) (s : State) : State :=
  let ds := s.ctl.mode.domains s.chip.fPackage
  let s1 := powerSynths (releaseReceiver 3 (releaseReceiver 1 { s with
    ctl := { s.ctl with domains := ds.mapIdx (fun i d => if i = 4 then .inReset else d) }
    shd := { s.shd with warm := some { w with easel := true } } }))
  let s2 := rejoinSlots (rejoinChange (rejoinStep s1))
  let a := s2.eas.next.getD 0
  let s3 := { s2 with
    eas := { s2.eas with notices := s2.eas.notices.filter (fun q => decide (a < q.first + q.slots) || s2.eas.next.isNone) } }
  let lost := (List.range 16).filter (fun i => match s3.shd.cal[i]? with
    | some r => r.st == 1 && r.force && decide (r.asn < a)
    | none => false)
  logEvent 0x02 2 (beOct 1 w.fn ++ beOct 1 w.inst ++ beOct 2 (missedSlots w s3)) (lost.foldl (fun s i => abortCal i 4 s) s3)

/-- After its own restart under L2, Easel takes up the first slot whose preparation window is whole (R116, R232). -/
def easelRestarted (s : State) : State :=
  let s1 := { s with eas := { s.eas with restarting := false, overruns := 0 } }
  match s.eas.next with
  | some a =>
    let b := max a (firstWholeSlot s1)
    { s1 with eas := { s1.eas with next := some b, asn := max s1.eas.asn (b - 1), nextPlan := {}, commitMark := none } }
  | none => s1

/-- EASEL_REJOIN (R116): after a warm reset, or after Easel's restart. -/
def execEaselRejoin (s : State) : Host.Outcome State Fault Refusal :=
  match s.shd.warm with
  | some w => if w.easel then done s s else done s (easelBack w s)
  | none => if s.eas.restarting then done s (easelRestarted s) else done s s

/-- CANVAS_SERVICE_RESUME (R422): Canvas serves again, and Hedgerow control sends a HEARTBEAT at once. -/
def execCanvasServiceResume (s : State) : Host.Outcome State Fault Refusal :=
  match s.shd.warm with
  | some w =>
    if w.easel then
      let s1 := if s.ctl.mode = .m2 then s else releaseReceiver 2 { s with ctl := { s.ctl with domains := s.ctl.mode.domains s.chip.fPackage } }
      let s2 := startServer { s1 with shd := { s1.shd with warm := none }, hed := { s1.hed with heardAt := s1.clk.elapsed } }
      done s (speak (sendHeartbeat s2))
    else done s s
  | none => done s s

/-! ### The power cycle, step L4 (R424) -/

/-- PWR_CYCLE_N falls: histories, log copy and log entry first. -/
def powerCycle (fn inst cause : Nat) (s : State) : State :=
  let s1 := countStep fn 4 { s with shd := { s.shd with l3Hist := [], l2Hist := [] } }
  let s2 := persistAll (logEvent 0x03 3 (beOct 1 fn ++ beOct 1 inst ++ beOct 1 (l4Hist s1).length) s1)
  emit .pwrCycle { s2 with shd := { s2.shd with
    due := none, warm := none, cycleUntil := some (s2.clk.elapsed + recLim s2 10 2 * msCycles), cycleFor := some (fn, inst, cause) } }

/-- POWER_CYCLE (R424): a step L4 that is due is taken. -/
def execPowerCycle (s : State) : Host.Outcome State Fault Refusal :=
  match s.shd.due with
  | some d => if d.step = 4 then done s (powerCycle d.fn d.inst d.cause (dropL2s (advanceElapsed d.at_ s))) else done s s
  | none => done s s

/-- PWR_CYCLE_FALLBACK (R424): no supervisor acted within 1 s of the rise of PWR_CYCLE_N; D2 to D11 are off for 100 ms. -/
def execPwrCycleFallback (s : State) : Host.Outcome State Fault Refusal :=
  match s.shd.cycleUntil, s.shd.cycleFor with
  | some t, some (_, _, code) =>
    let s1 := dropDomains (advanceElapsed (t + secCycles) s)
    let s2 := advanceElapsed (s1.clk.elapsed + 100 * msCycles) { s1 with shd := { s1.shd with cycleUntil := none } }
    done s (if s2.shd.thermalHold then s2 else beginBoot code s2)
  | _, _ => done s s

/-! ### Shed: sensors, the thermal trip, the watchdog (R406 to R408) -/

/-- The sensor with the highest reading. -/
def hottest (ts : List Int) : Nat :=
  (List.range ts.length).foldl (fun b i => if (ts[b]?).getD 0 < (ts[i]?).getD 0 then i else b) 0

/-- Tj of a sample. -/
def tjOf (ts : List Int) : Int := (ts[hottest ts]?).getD 0

/-- The grade's Tj maximum in Q8. -/
def tjMaxQ (s : State) : Int := (s.chip.tjMax : Int) * 256

/-- TEMP_WARN and TEMP_CRIT, each once until Tj has fallen 2 degrees (R408). -/
def thermalLog (ts : List Int) (s : State) : State :=
  let tj := tjOf ts
  let data := beOct 1 (hottest ts) ++ beInt 2 tj
  let s1 := if tempWarn s ≤ tj ∧ ¬ s.shd.warned then logEvent 0x08 1 data { s with shd := { s.shd with warned := true } }
    else if tj ≤ tempWarn s - 512 then { s with shd := { s.shd with warned := false } } else s
  if tjMaxQ s ≤ tj ∧ ¬ s1.shd.crit then logEvent 0x09 2 data { s1 with shd := { s1.shd with crit := true } }
  else if tj ≤ tjMaxQ s - 512 then { s1 with shd := { s1.shd with crit := false } } else s1

/-- Puts readings in the rows of an object. -/
def putRows (idx sub n : Nat) (vs : List Octets) (s : State) : State :=
  (List.range (min n vs.length)).foldl (fun s i => odPut idx sub i ((vs[i]?).getD []) s) s

/-- PDET readings while a band has a carrier on the air enter the slot's mean (R409). -/
def takePdet (ps : List Int) (s : State) : State :=
  { s with shd := { s.shd with pdetSum := s.shd.pdetSum.mapIdx (fun b x =>
    match ps[b]? with
    | some v => if s.eas.active.tx.any (fun c => c.band == b && c.stage == 1) then (x.1 + v, x.2 + 1) else x
    | none => x) } }

/-- After a thermal L4 the unit boots once Tj lies below TEMP_WARN (R408). -/
def thermalRelease (s : State) : State :=
  if s.shd.thermalHold ∧ s.ctl.mode = .m1 ∧ s.shd.cycleUntil.isNone ∧ tjOf s.shd.temps < tempWarn s then
    let s1 := { s with shd := { s.shd with thermalHold := false } }
    match s1.shd.cycleFor with
    | some (_, _, code) => beginBoot code s1
    | none => s1
  else s

/-- SENSOR_SAMPLE (R407): while Shed runs. -/
def execSensorSample (temps : List Int) (volts currents : List Nat) (pdet : List Int) (s : State) : Host.Outcome State Fault Refusal :=
  if s.ctl.mode = .m0 ∨ temps.length ≠ 8 then done s s
  else
    let s1 := putRows 0x9000 4 12 (currents.map (beOct 2)) (putRows 0x9000 3 12 (volts.map (beOct 2)) (putRows 0x9000 1 8 (temps.map (beInt 2)) s))
    let s2 := odPut 0x9000 2 0 (beInt 2 (tjOf temps)) (putRows 0x9000 5 2 (pdet.map (beInt 2)) s1)
    done s (thermalRelease (thermalLog temps (takePdet pdet { s2 with shd := { s2.shd with temps := temps } })))

/-- THERMAL_TRIP (R408): Tj at or above the maximum + 10 degrees for 10 ms starts step L4 by hardware; the log copy runs with the trip
under way, and the unit is held in M1 (R413). -/
def execThermalTrip (sensor : Nat) (reading : Int) (s : State) : Host.Outcome State Fault Refusal :=
  if s.ctl.mode = .m0 ∨ s.shd.cycleUntil.isSome ∨ reading < tjMaxQ s + 2560 then done s s
  else
    let s1 := logEvent 0x0A 3 (beOct 1 sensor ++ beInt 2 reading) { s with shd := { s.shd with thermalHold := true } }
    done s (powerCycle 0 0 3 (recordL4 s1))

/-- Watchdog expiries within 60 s, this one included. -/
def dogExpiries (s : State) : Nat :=
  match s.shd.dogAt with
  | some t => if s.clk.elapsed < t + 60 * secCycles then s.shd.dogCount + 1 else 1
  | none => 1

/-- SHED_WATCHDOG_EXPIRY (R406, R428): Shed restarts, or step L4 starts. Its receiver resets with its core (Table 18-8). -/
def execShedWatchdogExpiry (digestOk : Bool) (s : State) : Host.Outcome State Fault Refusal :=
  if s.ctl.mode = .m0 then done s s
  else
    let n := dogExpiries s
    let s1 := { s with shd := { s.shd with dogAt := some s.clk.elapsed, dogCount := n } }
    let s2 := logEvent 0x06 2 (beOct 1 n) (cipherLost 3 (releaseReceiver 4 (resetReceivers [4] s1)))
    if s.shd.bootRom ∨ (digestOk ∧ n < 2) ∨ s.shd.cycleUntil.isSome then done s s2 else done s (powerCycle 0 0 4 (recordL4 s2))

/-! ### Page fetches, patch traps, ALIGNED -/

/-- FLASH_PAGE_FETCH (R399): a page of the Canvas image or the OD schema that flash gives back altered (`ok` false), or that differs from its entry, fails its check; it is a bus error and a page fault, and the
Canvas core it halts, which the spec leaves open, faults. -/
def execFlashPageFetch (part page : Nat) (ok : Bool) (s : State) : Host.Outcome State Fault Refusal :=
  match s.fw.running with
  | none => done s s
  | some b =>
    if (part ≠ 2 ∧ part ≠ 7) ∨ (ok ∧ pageGood s b part page) then done s s
    else
      let addr := 0x60100000 + 0x1000000 * b + partField (manifest s b) part 8 4 + 4096 * page
      let d := takeFree s
      done s (fault fnCore (d.1 % 4) (pageFault 2 addr part page d.2))

/-- Traps of a patch entry since the last cold boot. -/
def trapsOf (s : State) (e : Nat) : Nat := sget (fun _ => 0) s.fw.traps e

/-- PATCH_TRAP (R400): the slot being prepared misses its commit mark; an entry trapped twice is disabled. -/
def execPatchTrap (entry : Nat) (s : State) : Host.Outcome State Fault Refusal :=
  if 64 ≤ entry ∨ 2 ≤ trapsOf s entry ∨ ¬ s.eas.running then done s s
  else done s (logEvent 0x14 2 (beOct 1 entry) { s with
    eas := { s.eas with trapped := s.eas.trapped || s.eas.next != s.eas.commitMark }
    fw := { s.fw with traps := sinsert entry (trapsOf s entry + 1) s.fw.traps } })

/-- When ALIGN_LIMIT is passed in HOLDOVER, in cycles: the error on entry plus HOLDOVER_RATE in ppb of the time since exceeds it. -/
def alignedEnd (s : State) : Nat :=
  let rate := max 1 (odNat s 0x2001 4)
  s.clk.holdSince + ((odNat s 0x2001 5 + 1 - s.clk.holdErr) * secCycles + rate - 1) / rate

/-- ALIGNED_CLEARED (R101): in HOLDOVER, time passes until TIME_EST_ERROR exceeds ALIGN_LIMIT; a HEARTBEAT says so at once. -/
def execAlignedCleared (s : State) : Host.Outcome State Fault Refusal :=
  if s.clk.state = .holdover ∧ aligned s then done s (speak (advanceElapsed (alignedEnd s) s)) else done s s

end Sys2Proof.Machine
end

