-- ==== Sys2Proof/Machine/Odap.lean ====
section
/-!
DEFINITION. The ODAP server (spec/04): admission and the replay cache, READ and WRITE, block transfers, transactions,
subscriptions and their timers, sessions.
-/

namespace Sys2Proof.Machine

/-! ### Sessions -/

/-- A message on a session ends the pause of its subscriptions, which resume with the oldest notification held (R92). -/
def resumeSubs (id : Nat) (s : State) : State :=
  let woken := s.srv.subs.filter (fun u => u.session == id && u.paused)
  { s with
    srv := { s.srv with subs := s.srv.subs.map (fun u =>
      if u.session = id ∧ u.paused then { u with
        paused := false, unacked := u.unacked.map (fun x => { x with at_ := s.clk.elapsed, resends := 0 }) } else u) }
    out := s.out ++ woken.flatMap (fun u => u.unacked.map (fun x => .notify id x.n)) }

/-- A message has arrived on a session (R76, R92). -/
def touch (id : Nat) (s : State) : State :=
  resumeSubs id (modSession id (fun u => { u with lastMsg := s.clk.elapsed }) s)

/-! ### Admission and responses -/

/-- Whether a REQUEST_ID is above another, modulo 2^32 over a window of 2^31 (R83). -/
def ridAbove (rid highest : Nat) : Bool :=
  let d := (rid + 2 ^ 32 - highest % 2 ^ 32) % 2 ^ 32
  decide (0 < d) && decide (d < 2 ^ 31)

/-- The header checks of R78, in order, with their DETAIL. -/
def formChecks (q : OdapReq) : Option Nat :=
  if q.version ≠ 1 then some 0
  else if q.len < 16 then some q.len
  else if 1136 < q.bodyLen ∨ q.bodyLen ≠ q.len - 16 then some 14
  else none

/-- A body that does not have the length its opcode and its content give: the offset of the first octet missing or over (R78). -/
def bodyFault (q : OdapReq) (need : Nat) : Option Nat := if q.bodyLen = need then none else some (16 + min q.bodyLen need)

/-- The form of a request: its header, then its body of `need` octets (R78). -/
def formFault (q : OdapReq) (need : Nat) : Option Nat := (formChecks q).orElse (fun _ => bodyFault q need)

/-- What the server makes of a request before its opcode: it runs it, replays a cached response, or refuses it. -/
inductive Admission
  | run
  | replay (r : Response)
  | refuse (a : Answer) (cached : Bool)
  deriving DecidableEq, Repr

/-- Admission in the order of R81 and R82: the queue and the outstanding limit (BUSY), the form, the replay cache, and the
stale check. `need` is the length of a body of the opcode. -/
def admitReq (q : OdapReq) (need : Nat) (u : Session) : Admission :=
  if q.queueFull ∨ 64 ≤ q.outstanding then .refuse (errA stBusy) false
  else match formFault q need with
    | some d => .refuse (errA stFormatError d) false
    | none =>
      match u.cache.find? (fun e => e.rid == q.rid) with
      | some e => .replay e.rsp
      | none =>
        match u.highest with
        | some h => if ridAbove q.rid h then .run else .refuse (errA stStaleRequest h) false
        | none => .run

/-- Modifies one open transaction and notes its last request. -/
def modTxn (id : Nat) (f : Txn → Txn) (s : State) : State :=
  { s with srv := { s.srv with txns := s.srv.txns.map (fun t =>
    if t.id = id then { f t with lastReq := s.clk.elapsed } else t) } }

/-- A request that was taken, whatever its answer, is the last one of the open transaction of its session that its header names (R88). -/
def noteTxn (q : OdapReq) (s : State) : State :=
  { s with srv := { s.srv with txns := s.srv.txns.map (fun t =>
    if t.id = q.txn ∧ t.session = q.session then { t with lastReq := s.clk.elapsed } else t) } }

/-- Sends a response; a response to a request that was taken enters the replay cache (R83). -/
def respond (q : OdapReq) (op : Nat) (a : Answer) (cached : Bool) (s : State) : State :=
  let r : Response := { op := op, rid := q.rid, txn := q.txn, status := a.status, body := a.body }
  if a = owedA then noteTxn q (modSession q.session (fun u => { u with highest := some q.rid }) s)
  else
  let s1 := if cached then noteTxn q (modSession q.session (fun u => { u with
      highest := some q.rid, cache := ({ rid := q.rid, rsp := r, at_ := s.clk.elapsed } :: u.cache).take 32 }) s) else s
  emit (.odap q.session r) s1

/-- Serves one request: nothing is answered where no server runs or the session does not exist (R76, R93); else the message
counts as the client's, and the request is refused, replayed, or run by `h` and answered (R81 to R83). -/
def serve (q : OdapReq) (op : Nat) (need : Nat) (h : Session → State → State × Answer) (s : State) : State :=
  match s.srv.up, findSession s q.session with
  | true, some u =>
    let s1 := touch q.session s
    match admitReq q need u with
    | .refuse a c => respond q op a c s1
    | .replay r => emit (.odap q.session { r with dup := true }) s1
    | .run =>
      let r := h u s1
      respond q op r.2 true r.1
  | _, _ => s

/-! ### Transactions held by a request -/

/-- The open transaction of the session that a header names (R498). -/
def ownTxn (q : OdapReq) (s : State) : Option Txn :=
  s.srv.txns.find? (fun t => t.id == q.txn && t.session == q.session)

/-- OUT_OF_RANGE where the header names a transaction that is not an open one of the session (R498). -/
def txnChecks (q : OdapReq) (s : State) : List (Nat × Nat) :=
  failIf (q.txn != 0 && (ownTxn q s).isNone) stOutOfRange

/-- A staged write of an address leaves the staging order, with the block write that carried it. -/
def unstage (a : Addr) (t : Txn) : Txn :=
  { t with
    staged := t.staged.filter (fun x => !(x.idx == a.idx && x.sub == a.sub && x.row == a.row))
    blocks := t.blocks.filter (fun b => b.2 != a) }

/-- Stages a write: it replaces an earlier write of the same address and takes its own place at the end (R87). -/
def stageWrite (w : Staged) (t : Txn) : Txn :=
  let t1 := unstage ⟨w.idx, w.sub, w.row⟩ t
  { t1 with staged := t1.staged ++ [w] }

/-- Writes of a transaction that are not of a DOMAIN (Table 04-10, row 4). -/
def plainWrites (t : Txn) : Nat := (t.staged.filter (fun w => (odFind w.idx w.sub).map (·.ty) != some .domain)).length

/-! ### Taking a write -/

/-- The application point of an object's write committed now: its EFF_ASN and, where it does not take effect at once, the
pending ASN (R68, R70, R79). -/
def writeEff (d : ObjDesc) (s : State) : Nat × Option (Option Nat) :=
  match d.app with
  | .nextBoot => (effNone, some none)
  | .nextSlot => if s.eas.running then (nextSlotE s, some (some (nextSlotE s))) else (effNoSlots, none)
  | .nextSuperframe => if s.eas.running then (nextSuperframeE s, some (some (nextSuperframeE s))) else (effNoSlots, none)
  | .immediate | .ownRule => (effNow s, none)

/-- The slot of an occupant row's write: QEND where it is later and the row's holder is in quarantine and the write names a different node
(R265). -/
def quarantineEff (a : Addr) (v : Octets) (e : Nat) (s : State) : Nat :=
  let held := odNat s 0x4013 1 a.row
  if a.idx = 0x4013 ∧ beNat v ≠ held ∧ beNat v ≠ 0xFFFFFFFF ∧ (nodeRec s held).quarantine then max e (nodeRec s held).qend else e

/-- The application point of a write of a value: as its object's, but for the quarantine of a node (R68, R265). -/
def valueEff (d : ObjDesc) (a : Addr) (v : Octets) (s : State) : Nat × Option (Option Nat) :=
  match writeEff d s with
  | (_, some (some e)) => (quarantineEff a v e s, some (some (quarantineEff a v e s)))
  | x => x

/-- Adds a pending write (R71), with its change record. -/
def addPending (a : Addr) (v : Octets) (eff : Option Nat) (s : State) : State :=
  { s with
    srv := { s.srv with pend := s.srv.pend ++ [⟨a.idx, a.sub, a.row, v, eff⟩] }
    eas := { s.eas with changes := s.eas.changes ++ changeOf a v eff s } }

/-- Whether a commit was done: KEY_CHANGE_REQUIRED warns of one that was (R376). -/
def committedOk (x : Answer) : Bool := x.status == stOk || x.status == stKeyChangeRequired || x == owedA

/-- A commit that changes a STORED object makes the spare's snapshot stale (R343). -/
def storedChange (d : ObjDesc) (x : State × Answer) : State × Answer :=
  if d.pers = .stored ∧ committedOk x.2 then ({ x.1 with hed := { x.1.hed with dirty := true } }, x.2) else x

/-- Commits an accepted write (R68): by the object's own rule where it has one, else at its application point. -/
def commitWrite (u : Session) (a : Addr) (v : Octets) (authOk : Bool) (s : State) : State × Answer :=
  match odFind a.idx a.sub with
  | none => (s, errA stNoSuchObject)
  | some d =>
    let w := masked d v
    storedChange d (match ownerCommit u a w authOk s with
    | some r => r
    | none =>
      match valueEff d a w s with
      | (eff, none) => (takeEffect a.idx a.sub a.row w s, effA eff)
      | (eff, some e) => (addPending a w e s, effA eff))

/-- The operations that staged cell writes will put on slot offsets, each on the cell as the writes before it leave it (R220). -/
def stagedOps (e : Nat) (ws : List Staged) (s : State) : State :=
  (ws.filter (fun w => w.idx == 0x4012 || w.idx == 0x4013)).foldl (fun s w => addPending ⟨w.idx, w.sub, w.row⟩ w.val (some e) s) s

/-- The state that a chapter's checks see: with the other writes staged in the request's transaction, and the operations of those in
`prior`. -/
def withStaged (e : Nat) (q : OdapReq) (a : Addr) (prior : List Staged) (s : State) : State :=
  match ownTxn q s with
  | some t => putStaged (t.staged.filter (fun w => !(w.idx == a.idx && w.sub == a.sub && w.row == a.row))) (stagedOps e prior s)
  | none => s

/-- Every check on a write that takes effect at slot `e`, first failure first (R69, R81), the owning chapter's last but for what they say
of existence, role, mode and type, whose place R81 names (log entry 45); `staging` leaves out the set-level checks (R87). -/
def writeFailure (e : Nat) (u : Session) (q : OdapReq) (a : Addr) (ty : Nat) (v : Octets) (authOk staging : Bool) (prior : List Staged)
    (s : State) : Option (Nat × Nat) :=
  let air := (odFind a.idx a.sub).map (·.app) = some .nextSlot ∨ (odFind a.idx a.sub).map (·.app) = some .nextSuperframe
  let base := addrChecks u.role true a s (if air then modeE e s else s.ctl.mode) ++ valueChecks a ty v
  let early := base ++ txnChecks q s ++ conflictChecks q.txn a s
  let own := match firstFailure base with
    | some f => if f.1 = stNoSuchObject then [] else ownerChecks e u a v authOk staging (withStaged e q a prior s)
    | none => ownerChecks e u a v authOk staging (withStaged e q a prior s)
  match firstFailure (early ++ own.filter (fun f => decide (statusRank f.1 < statusRank stOutOfRange))) with
  | some f => some f
  | none =>
    match firstFailure own with
    | some f => some f
    | none => if staging then none else setChecks e [⟨a.idx, a.sub, a.row, v⟩] s

/-- A write of a transaction is staged with its reserved bits cleared, unless that would be the 1,025th (R84, R87). -/
def stageIn (t : Txn) (a : Addr) (v : Octets) (s : State) : State × Answer :=
  let w : Staged := ⟨a.idx, a.sub, a.row, ((odFind a.idx a.sub).map (fun d => masked d v)).getD v⟩
  if 1024 < plainWrites (stageWrite w t) then (s, errA stTxnLimit 4) else (modTxn t.id (stageWrite w) s, effA effStaged)

/-- The write of a request: staged where its header names a transaction, else committed (R68, R87). -/
def writeCore (u : Session) (q : OdapReq) (a : Addr) (ty : Nat) (v : Octets) (authOk : Bool) (s : State) : State × Answer :=
  let prior := ((ownTxn q s).map (fun t => (unstage a t).staged)).getD []
  match writeFailure (quarantineEff a v (slotE a s) s) u q a ty v authOk (q.txn != 0) prior s with
  | some (st, d) => (s, errA st d)
  | none =>
    match ownTxn q s with
    | some t => stageIn t a v s
    | none => commitWrite u a v authOk s

/-- A WRITE request of an object that is not a DOMAIN; a DOMAIN is written by block transfer only (R85), which is the last check. -/
def odapWrite (q : OdapReq) (a : Addr) (ty : Nat) (v : Octets) (s : State) : State :=
  serve q 2 (12 + v.length) (fun u s =>
    match odFind a.idx a.sub with
    | some d =>
      if d.ty = .domain then
        match firstFailure (addrChecks u.role true a s ++ failIf (ty != 0x10) stTypeMismatch ++ txnChecks q s ++ conflictChecks q.txn a s ++
            (ownerChecks (slotE a s) u a v true true s).filter (fun f => f.1 == stInvalidState)) with
        | some (st, x) => (s, errA st x)
        | none => (s, errA stUseBlock)
      else writeCore u q a ty v true s
    | none => writeCore u q a ty v true s) s

/-- WRITE (R68). -/
def execWrite (q : OdapReq) (a : Addr) (ty : Nat) (v : Octets) (s : State) : Host.Outcome State Fault Refusal :=
  done s (odapWrite q a ty v s)

/-! ### READ -/

/-- The pending write of an object that takes effect first (R71). -/
def pendingOf (s : State) (a : Addr) : Option PendWrite :=
  (s.srv.pend.filter (fun w => w.idx == a.idx && w.sub == a.sub && w.row == a.row)).foldl (fun acc w =>
    match acc with
    | none => some w
    | some b => match w.eff, b.eff with
      | some x, some y => if x ≤ y then some w else acc
      | some _, none => some w
      | none, none => some w
      | none, some _ => acc) none

/-- The staged value a READ inside a transaction returns (R87). -/
def stagedValue (t : Txn) (a : Addr) : Option Octets :=
  (t.staged.find? (fun w => w.idx == a.idx && w.sub == a.sub && w.row == a.row)).map (·.val)

/-- The body of a READ response (Table 04-8). -/
def readBody (q : OdapReq) (a : Addr) (ty : Nat) (s : State) : Octets :=
  let p := pendingOf s a
  let v := match (ownTxn q s).bind (fun t => stagedValue t a) with
    | some v => v
    | none => match p with
      | some w => if bit q.flags 2 then w.val else odRead s a.idx a.sub a.row
      | none => odRead s a.idx a.sub a.row
  let eff := match p with
    | some w => w.eff.getD effNone
    | none => effNone
  beOct 1 (b2n p.isSome) ++ beOct 1 ty ++ beOct 2 v.length ++ beOct 8 eff ++ v

/-- READ (R79): the value in effect, or the pending one with PENDING set. -/
def odapRead (q : OdapReq) (a : Addr) (s : State) : State :=
  serve q 1 8 (fun u s =>
    match firstFailure (addrChecks u.role false a s ++ txnChecks q s ++
        failIf (readDenied u a s) stAccessDenied (roleNumber u.role)) with
    | some (st, d) => (s, errA st d)
    | none =>
      if a.sub = 0 then (s, okA (readBody q a 2 s))
      else match odFind a.idx a.sub with
        | some d => if d.ty = .domain then (s, errA stUseBlock) else (s, okA (readBody q a d.ty.code s))
        | none => (s, errA stNoSuchObject)) s

/-- READ. -/
def execRead (q : OdapReq) (a : Addr) (s : State) : Host.Outcome State Fault Refusal :=
  done s (odapRead q a s)

/-! ### Block transfers (R85, R86, R498) -/

/-- The open transfer of a session. -/
def findBlock (s : State) (session id : Nat) : Option Block := s.srv.blocks.find? (fun b => b.session == session && b.id == id)

/-- Modifies one open transfer and notes its last message. -/
def modBlock (session id : Nat) (f : Block → Block) (s : State) : State :=
  { s with srv := { s.srv with blocks := s.srv.blocks.map (fun b =>
    if b.session = session ∧ b.id = id then { f b with lastMsg := s.clk.elapsed } else b) } }

/-- A transfer ends, remembered with whether it reached its commit point (R498). -/
def closeBlock (session id : Nat) (committed : Bool) (s : State) : State :=
  modSession session (fun u => { u with endedBlocks := ((id, committed) :: u.endedBlocks).take 64 })
    { s with srv := { s.srv with blocks := s.srv.blocks.filter (fun b => !(b.session == session && b.id == id)) } }

/-- Segments a transfer of `size` octets has. -/
def segCount (size : Nat) : Nat := (size + 1023) / 1024

/-- The lowest segment not received, counting from `n` down `fuel` steps. -/
def firstMissing (segs : List (Nat × Octets)) : Nat → Nat → Nat
  | _, 0 => 0
  | total, fuel + 1 =>
    let n := total - (fuel + 1)
    if (segs.find? (fun p => p.1 == n)).isSome then firstMissing segs total fuel else n

/-- The lowest unacknowledged segment of a write (R85). -/
def lowestMissing (b : Block) : Nat :=
  if (List.range (segCount b.size)).all (fun i => (b.segs.find? (fun p => p.1 == i)).isSome) then segCount b.size
  else firstMissing b.segs (segCount b.size) (segCount b.size)

/-- The value a complete write carries. -/
def blockValue (b : Block) : Octets :=
  (List.range (segCount b.size)).flatMap (fun i => ((b.segs.find? (fun p => p.1 == i)).map (·.2)).getD [])

/-- BLOCK_START (R85): a write of more octets than the schema's maximum is out of range. -/
def odapBlockStart (q : OdapReq) (a : Addr) (dir size : Nat) (s : State) : State :=
  serve q 0x10 16 (fun u s =>
    let isDom := (odFind a.idx a.sub).map (·.ty) == some .domain
    match firstFailure (addrChecks u.role (dir != 0) a s ++ failIf (!isDom) stTypeMismatch ++
        failIf (decide (1 < dir) || (dir == 1 && decide (domainMax a.idx a.sub < size))) stOutOfRange ++
        txnChecks q s ++ failIf (readDenied u a s) stAccessDenied (roleNumber u.role)) with
    | some (st, d) => (s, errA st d)
    | none =>
      if 2 ≤ (s.srv.blocks.filter (fun b => b.session == u.id)).length then (s, errA stTxnLimit 5)
      else
        let fx := if dir = 1 then ownerBlockStart a size s else (s, none)
        match fx.2 with
        | some (st, d) => (s, errA st d)
        | none =>
          let snap := if dir = 0 then domainValue a s else []
          let total := if dir = 0 then snap.length else size
          let b : Block := { session := u.id, id := u.nextBlock, idx := a.idx, sub := a.sub, row := a.row
                             isWrite := dir == 1, size := total, txn := q.txn, snapshot := snap, lastMsg := s.clk.elapsed }
          let s1 := fx.1
          let s2 := modSession u.id (fun u => { u with nextBlock := (u.nextBlock + 1) % 65536 })
            { s1 with srv := { s1.srv with blocks := s1.srv.blocks ++ [b] } }
          (s2, okA (beOct 2 u.nextBlock ++ [0, 0] ++ beOct 4 total))) s

/-- BLOCK_START. -/
def execBlockStart (q : OdapReq) (a : Addr) (dir size : Nat) (s : State) : Host.Outcome State Fault Refusal :=
  done s (odapBlockStart q a dir size s)

/-- One segment of a write: within the window of 8 and of the right length, or the same data again (R85). Offsets of faults
count from the message's first octet: SEG at 20, data at 24. -/
def takeSegment (b : Block) (seg : Nat) (data : Octets) (s : State) : State × Answer :=
  let want := if seg + 1 < segCount b.size then 1024 else b.size - 1024 * seg
  match b.segs.find? (fun p => p.1 == seg) with
  | some p => if p.2 = data then (s, okA []) else (s, errA stFormatError 24)
  | none =>
    if segCount b.size ≤ seg ∨ lowestMissing b + 8 ≤ seg then (s, errA stFormatError 20)
    else if data.length ≠ want then (s, errA stFormatError 24)
    else (modBlock b.session b.id (fun b => { b with segs := b.segs ++ [(seg, data)] }) s, okA [])

/-- One segment of a read (R84, R85): at most 8 may be outstanding, and a segment beyond the last is out of range (log entry 148). -/
def giveSegment (q : OdapReq) (b : Block) (seg : Nat) (s : State) : State × Answer :=
  if 8 ≤ q.segsOut then (s, errA stTxnLimit 6)
  else if segCount b.size ≤ seg then (s, errA stOutOfRange)
  else (s, okA ((b.snapshot.drop (1024 * seg)).take 1024))

/-- BLOCK_SEG (R85). Whatever its answer, it is the latest message of the transfer it names. -/
def odapBlockSeg (q : OdapReq) (block seg : Nat) (data : Octets) (s : State) : State :=
  serve q 0x11 (8 + data.length) (fun u s =>
    match firstFailure (txnChecks q s), findBlock s u.id block with
    | none, some b =>
      if b.isWrite then takeSegment b seg data (modBlock u.id block id s)
      else if data ≠ [] then (modBlock u.id block id s, errA stFormatError 24)
      else giveSegment q b seg (modBlock u.id block id s)
    | _, _ => (s, errA stOutOfRange)) s

/-- BLOCK_SEG. -/
def execBlockSeg (q : OdapReq) (block seg : Nat) (data : Octets) (s : State) : Host.Outcome State Fault Refusal :=
  done s (odapBlockSeg q block seg data s)

/-- A life-cycle transition that a BLOCK_END has prepared owes its response to it (R89, R362). -/
def ownPrep (q : OdapReq) (block : Nat) (s : State) : State :=
  { s with sec := { s.sec with lcPrep := s.sec.lcPrep.map (fun p => { p with owner := some (q.session, q.rid, q.txn, block) }) } }

/-- The response that a BLOCK_END was owed: session, REQUEST_ID, TXN_ID and BLOCK_ID name it. -/
def giveOwed (o : Nat × Nat × Nat × Nat) (a : Answer) (s : State) : State :=
  let r : Response := { op := 0x12, rid := o.2.1, txn := o.2.2.1, status := a.status, body := a.body }
  match findSession s o.1 with
  | some _ => emit (.odap o.1 r) (modSession o.1 (fun u => { u with cache := ({ rid := o.2.1, rsp := r, at_ := s.clk.elapsed } :: u.cache).take 32 }) s)
  | none => s

/-- A transition reaches its commit point: its transfer ends and is answered OK. -/
def endPrep (p : LcPrep) (s : State) : State :=
  match p.owner with
  | some o => closeBlock o.1 o.2.2.2 true (giveOwed o (effA (effNow s)) s)
  | none => s

/-- An abort before the commit point discards what was prepared, and the transfer's own response carries ABORTED (R89, R362). -/
def abortPrep (session block : Nat) (s : State) : State :=
  match s.sec.lcPrep.bind (·.owner) with
  | some o =>
    if o.1 = session ∧ o.2.2.2 = block then giveOwed o (errA stAborted) { s with sec := { s.sec with lcPrep := none } } else s
  | none => s

/-- BLOCK_END (R85 to R87): a complete write commits, or stages in the transaction that its own header names, else in the one that
BLOCK_START named (log entry 148). -/
def odapBlockEnd (q : OdapReq) (block : Nat) (authOk : Bool) (s : State) : State :=
  serve q 0x12 4 (fun u s0 =>
    let s := modBlock u.id block id s0
    match firstFailure (txnChecks q s), findBlock s u.id block with
    | none, some b =>
      if b.isWrite then
        if lowestMissing b < segCount b.size then (s, errA stBlockIncomplete (lowestMissing b))
        else
          let a : Addr := ⟨b.idx, b.sub, b.row⟩
          let txn := if q.txn = 0 then b.txn else q.txn
          let r := writeCore u { q with txn := txn } a 0x10 (blockValue b) authOk s
          if r.2 = owedA then (ownPrep q block r.1, owedA)
          else if committedOk r.2 then
            (closeBlock u.id block (txn == 0) (modTxn txn (fun t => { t with blocks := t.blocks ++ [(block, a)] }) r.1), r.2)
          else r
      else (closeBlock u.id block false s, okA [])
    | _, _ => (s, errA stOutOfRange)) s

/-- BLOCK_END. -/
def execBlockEnd (q : OdapReq) (block : Nat) (authOk : Bool) (s : State) : Host.Outcome State Fault Refusal :=
  done s (odapBlockEnd q block authOk s)

/-- The answer to an abort that names nothing open: by what the session remembers (R498). -/
def abortRemembered (ended : List (Nat × Bool)) (id : Nat) : Answer :=
  match ended.find? (fun p => p.1 == id) with
  | some (_, true) => errA stTooLate
  | some (_, false) => okA []
  | none => errA stOutOfRange

/-- A block write whose value is staged in an open transaction: an abort before the transaction's commit point withdraws it (R86, R89). -/
def stagedBlock (s : State) (session block : Nat) : Option (Txn × Addr) :=
  (s.srv.txns.find? (fun t => t.session == session && t.blocks.any (fun b => b.1 == block))).bind (fun t =>
    (t.blocks.find? (fun b => b.1 == block)).map (fun b => (t, b.2)))

/-- BLOCK_ABORT (R89, R498): a transfer that has ended is answered by what the session remembers, whatever transaction the header names. -/
def odapBlockAbort (q : OdapReq) (block : Nat) (s : State) : State :=
  serve q 0x13 4 (fun u s =>
    match findBlock s u.id block, stagedBlock s u.id block, firstFailure (txnChecks q s) with
    | none, none, _ => (s, abortRemembered u.endedBlocks block)
    | _, _, some (st, d) => (s, errA st d)
    | some _, _, none => (closeBlock u.id block false (abortPrep q.session block s), okA [])
    | none, some (t, a), none => (modTxn t.id (unstage a) s, okA [])) s

/-- BLOCK_ABORT. -/
def execBlockAbort (q : OdapReq) (block : Nat) (s : State) : Host.Outcome State Fault Refusal :=
  done s (odapBlockAbort q block s)

/-! ### Transactions (R87, R88) -/

/-- TXN_BEGIN (R87, Table 04-10). -/
def odapTxnBegin (q : OdapReq) (s : State) : State :=
  serve q 0x20 0 (fun u s =>
    match firstFailure (txnChecks q s) with
    | some (st, d) => (s, errA st d)
    | none =>
      if 4 ≤ s.srv.txns.length then (s, errA stTxnLimit 3)
      else
        let id := s.srv.nextTxn
        ({ s with srv := { s.srv with
            txns := s.srv.txns ++ [{ id := id, session := u.id, lastReq := s.clk.elapsed }]
            nextTxn := (id + 1) % 2 ^ 32 } }, okA (beOct 4 id))) s

/-- TXN_BEGIN. -/
def execTxnBegin (q : OdapReq) (s : State) : Host.Outcome State Fault Refusal :=
  done s (odapTxnBegin q s)

/-- A transaction ends, remembered with whether it reached its commit point; its open transfers end without effect, and the block writes
it staged reach their commit point with it (R498). -/
def closeTxn (t : Txn) (committed : Bool) (s : State) : State :=
  let ended := (s.srv.blocks.filter (fun b => b.txn == t.id)).map (fun b => (b.id, false))
  modSession t.session (fun u => { u with
      endedTxns := ((t.id, committed) :: u.endedTxns).take 64
      endedBlocks := (ended ++ u.endedBlocks.map (fun p => if t.blocks.any (fun b => b.1 == p.1) then (p.1, committed) else p)).take 64 })
    { s with srv := { s.srv with txns := s.srv.txns.filter (fun x => x.id != t.id)
                                 blocks := s.srv.blocks.filter (fun b => b.txn != t.id) } }

/-- The first staged write that fails its re-check against the common slot `e`, with its position (R87). -/
def recheck (e : Nat) (u : Session) (q : OdapReq) (authOk : Bool) (s : State) : List Staged → List Staged → Option (Nat × Nat × Nat)
  | _, [] => none
  | prior, w :: l =>
    let ty := ((odFind w.idx w.sub).map (·.ty.code)).getD 0
    match writeFailure e u q ⟨w.idx, w.sub, w.row⟩ ty w.val authOk true prior s with
    | some (st, d) => some (st, d, prior.length)
    | none => recheck e u q authOk s (prior ++ [w]) l

/-- The common slot E of a transaction's air writes: the latest that R68 or R265 gives any of them (R88). -/
def commonEff (ws : List Staged) (s : State) : Option Nat :=
  ws.foldl (fun acc w => match (odFind w.idx w.sub).map (fun d => (valueEff d ⟨w.idx, w.sub, w.row⟩ w.val s).2) with
    | some (some (some e)) => some (max e (acc.getD 0))
    | _ => acc) none

/-- Whether a transaction holds an air write. -/
def hasAir (ws : List Staged) : Bool :=
  ws.any (fun w => match odFind w.idx w.sub with
    | some d => d.app == .nextSlot || d.app == .nextSuperframe
    | none => false)

/-- Applies one staged write at the commit point (R88); answers none where the object's own rule refuses it. -/
def commitStaged (u : Session) (authOk : Bool) (common : Option Nat) (w : Staged) (s : State) : State × Answer :=
  match odFind w.idx w.sub with
  | none => (s, errA stNoSuchObject)
  | some d =>
    let v := masked d w.val
    storedChange d (match ownerCommit u ⟨w.idx, w.sub, w.row⟩ v authOk s with
    | some r => r
    | none => match (writeEff d s).2, common with
      | some (some _), some e => (addPending ⟨w.idx, w.sub, w.row⟩ v (some e) s, effA e)
      | some none, _ => (addPending ⟨w.idx, w.sub, w.row⟩ v none s, effA effNone)
      | _, _ => (takeEffect w.idx w.sub w.row v s, effA (effNow s)))

/-- Applies every staged write in order; the first that its own rule refuses stops it, with its position. -/
def commitAll (u : Session) (authOk : Bool) (common : Option Nat) : Nat → List Staged → State → Except (Nat × Octets) State
  | _, [], s => .ok s
  | n, w :: l, s =>
    let r := commitStaged u authOk common w s
    if committedOk r.2 then commitAll u authOk common (n + 1) l r.1 else .error (n, beOct 2 r.2.status ++ r.2.body)

/-- A transaction makes one change record of the operations of its writes (R88, R220). -/
def mergeChanges (old : List ChangeRec) (s : State) : State :=
  match s.eas.changes.drop old.length with
  | [] => s
  | c :: l => { s with eas := { s.eas with changes := old ++ [{ c with offsets := (c :: l).flatMap (·.offsets) }] } }

/-- The last position of a staged write that has a property. -/
def lastPosition (ws : List Staged) (p : Staged → Bool) : Option Nat :=
  (List.range ws.length).foldl (fun b i => match ws[i]? with
    | some w => if p w then some i else b
    | none => b) none

/-- The position that a set-level failure reports (R87): the latest write that changes a cell at the slot offset in DETAIL, or where
DETAIL gives none the latest write to the set. -/
def setPosition (e : Nat) (ws : List Staged) (status detail : Nat) (s : State) : Nat :=
  let t := putStaged ws (atE e s)
  let inSet (w : Staged) : Bool := w.idx == 0x4020 || ((w.idx == 0x4012 || w.idx == 0x4013) && failingSet e ws s == some (rowSet w.row))
  let atOffset (w : Staged) : Bool :=
    if w.idx = 0x4020 then (cellsAt t ((failingSet e ws s).getD 0) detail).any (fun c => c.cls == w.row)
    else (opOffsets ⟨w.idx, w.sub, w.row⟩ w.val t ++ opOffsets ⟨w.idx, w.sub, w.row⟩ w.val (atE e s)).contains detail
  match if status = stScheduleMismatch then lastPosition ws (fun w => inSet w && atOffset w) else none with
  | some i => i
  | none => (lastPosition ws inSet).getD 0

/-- The body of a TXN_COMMIT that fails its re-check: DETAIL and POSITION (R78). -/
def commitError (status detail pos : Nat) : Answer := ⟨status, beOct 4 detail ++ beOct 4 pos⟩

/-- TXN_COMMIT (R87, R88). -/
def odapTxnCommit (q : OdapReq) (authOk : Bool) (s : State) : State :=
  serve q 0x21 0 (fun u s =>
    match ownTxn q s with
    | none => (s, errA stOutOfRange)
    | some t =>
      let e := (commonEff t.staged s).getD (nextSuperframeE s)
      match recheck e u q authOk s [] t.staged with
      | some (st, d, n) => (closeTxn t false s, commitError st d n)
      | none =>
        match setChecks e t.staged s with
        | some (st, d) => (closeTxn t false s, commitError st d (setPosition e t.staged st d s))
        | none =>
          match commitAll u authOk (commonEff t.staged s) 0 t.staged s with
          | .error (n, b) => (closeTxn t false s, commitError (fieldNat b 0 2) (fieldNat b 2 4) n)
          | .ok s1 => (closeTxn t true (mergeChanges s.eas.changes s1), effA (match commonEff t.staged s with
              | some e => e
              | none => if hasAir t.staged then effNoSlots else effNone))) s

/-- TXN_COMMIT. -/
def execTxnCommit (q : OdapReq) (authOk : Bool) (s : State) : Host.Outcome State Fault Refusal :=
  done s (odapTxnCommit q authOk s)

/-- TXN_ABORT (R89, R498). -/
def odapTxnAbort (q : OdapReq) (s : State) : State :=
  serve q 0x22 0 (fun u s =>
    match ownTxn q s with
    | some t => (closeTxn t false s, okA [])
    | none => (s, abortRemembered u.endedTxns q.txn)) s

/-- TXN_ABORT. -/
def execTxnAbort (q : OdapReq) (s : State) : Host.Outcome State Fault Refusal :=
  done s (odapTxnAbort q s)

/-! ### Subscriptions (R90 to R92) -/

/-- Subscriptions do not exist in M2 (R90, R93). -/
def noSubs (s : State) : List (Nat × Nat) := failIf (s.ctl.mode == .m2) stInvalidState s.ctl.mode.code

/-- The checks of SUBSCRIBE (R90): the mode, the kind and its times, and read access to the object of kinds 0 and 1. An empty range of
event types and an object that is a DOMAIN are refused by the model's choice (log entry 148). -/
def subscribeChecks (u : Session) (kind periodMs minGapMs evtLo evtHi : Nat) (a : Addr) (s : State) : List (Nat × Nat) :=
  noSubs s ++
  (if kind < 2 then addrChecks u.role false a s ++ failIf (readDenied u a s) stAccessDenied (roleNumber u.role) else []) ++
  failIf (2 < kind) stOutOfRange ++ failIf (kind == 1 && (periodMs < 100 || 65535 < periodMs)) stOutOfRange ++
  failIf (kind == 2 && (minGapMs != 0 || evtHi < evtLo)) stOutOfRange ++
  failIf (kind < 2 && (odFind a.idx a.sub).map (·.ty) == some .domain) stUseBlock

/-- SUBSCRIBE (R90, Table 04-10). -/
def odapSubscribe (q : OdapReq) (kind periodMs minGapMs evtLo evtHi : Nat) (a : Addr) (s : State) : State :=
  serve q 0x30 (if kind = 2 then 8 else 16) (fun u s =>
    match firstFailure (txnChecks q s ++ subscribeChecks u kind periodMs minGapMs evtLo evtHi a s) with
    | some (st, d) => (s, errA st d)
    | none =>
      if 64 ≤ (s.srv.subs.filter (fun x => x.session == u.id)).length then (s, errA stTxnLimit 7)
      else if 256 ≤ s.srv.subs.length then (s, errA stTxnLimit 8)
      else
        let id := s.srv.nextSub
        let x : Sub := { id := id, session := u.id, kind := kind, periodMs := periodMs, minGapMs := minGapMs, evtLo := evtLo
                         evtHi := evtHi, idx := a.idx, sub := a.sub, row := a.row
                         lastAt := if kind = 1 then some s.clk.elapsed else none }
        ({ s with srv := { s.srv with subs := s.srv.subs ++ [x], nextSub := (id + 1) % 65536 } }, okA (beOct 2 id))) s

/-- SUBSCRIBE. -/
def execSubscribe (q : OdapReq) (kind periodMs minGapMs evtLo evtHi : Nat) (a : Addr) (s : State) : Host.Outcome State Fault Refusal :=
  done s (odapSubscribe q kind periodMs minGapMs evtLo evtHi a s)

/-- UNSUBSCRIBE (R90). -/
def odapUnsubscribe (q : OdapReq) (sub : Nat) (s : State) : State :=
  serve q 0x31 2 (fun u s =>
    match firstFailure (noSubs s ++ txnChecks q s) with
    | some (st, d) => (s, errA st d)
    | none =>
      if s.srv.subs.any (fun x => x.id == sub && x.session == u.id) then
        ({ s with srv := { s.srv with subs := s.srv.subs.filter (fun x => !(x.id == sub && x.session == u.id)) } }, okA [])
      else (s, errA stOutOfRange)) s

/-- UNSUBSCRIBE. -/
def execUnsubscribe (q : OdapReq) (sub : Nat) (s : State) : Host.Outcome State Fault Refusal :=
  done s (odapUnsubscribe q sub s)

/-- Modifies one subscription. -/
def modSub (id : Nat) (f : Sub → Sub) (s : State) : State :=
  { s with srv := { s.srv with subs := s.srv.subs.map (fun u => if u.id = id then f u else u) } }

/-- The subscription of a number. -/
def findSub (s : State) (id : Nat) : Option Sub := s.srv.subs.find? (fun u => u.id == id)

/-- NOTIFY_ACK (R92): cumulative, and it has no response. A malformed one is answered as R78 states. Its REQUEST_ID enters neither the
stale check nor the session's highest (log entry 148). -/
def odapNotifyAck (q : OdapReq) (sub seq : Nat) (s : State) : State :=
  match s.srv.up, findSession s q.session with
  | true, some _ =>
    let s1 := touch q.session s
    match formFault q 6 with
    | some d => respond q 0x33 (errA stFormatError d) false s1
    | none =>
      if s.ctl.mode = .m2 then respond q 0x33 (errA stInvalidState s.ctl.mode.code) false s1
      else { s1 with srv := { s1.srv with subs := s1.srv.subs.map (fun u =>
        if u.id = sub ∧ u.session = q.session then
          { u with unacked := u.unacked.filter (fun x => decide (seq < x.n.seq)) } else u) } }
  | _, _ => s

/-- NOTIFY_ACK. -/
def execNotifyAck (q : OdapReq) (sub seq : Nat) (s : State) : Host.Outcome State Fault Refusal :=
  done s (odapNotifyAck q sub seq s)

/-- A message shorter than 8 octets carries no whole REQUEST_ID: it is dropped and counted (R78). -/
def odapRunt (session len : Nat) (s : State) : State :=
  match s.srv.up, findSession s session with
  | true, some _ => if len < 8 then bump 0xA010 7 0 (touch session s) else s
  | _, _ => s

/-- ODAP_RUNT_MESSAGE. -/
def execOdapRuntMessage (session len : Nat) (s : State) : Host.Outcome State Fault Refusal := done s (odapRunt session len s)

/-- Whether a ClientHello offers what the profile of R75 supports. -/
def helloOk (h : ClientHello) : Bool :=
  h.dtls13 && h.pskDheKe && (h.x25519 || h.secp256r1) && (h.aes128gcm || h.aes256gcm)

/-- DTLS_HANDSHAKE (R74, R75, R77, R84): on the field network the server listens at ODAP_UDP_PORT alone, and Shed's boot ROM does not
(R395). A session opens with the role of the matching PSK row and its traffic keys in a free slot (R357), or handshake_failure; the latter also where 8 sessions are open, since there is no session to answer TXN_LIMIT on (DESIGN CHOICE,
log entry 174). -/
def execDtlsHandshake (h : ClientHello) (s : State) : Host.Outcome State Fault Refusal :=
  if s.srv.up then
    if h.transport = 0 ∧ (h.port ≠ odNat s 0xA010 1 ∨ s.shd.bootRom) then done s s
    else match helloOk h && h.binderOk && decide ((s.srv.sessions.filter (fun u => u.transport < 2)).length < 8), pskSession h s, ephemeralSlot s with
    | true, some (row, role), some n =>
      let id := s.srv.nextSession
      let s0 := match row with
        | some r => countUse (odField s 0xA011 1 r 2 2) s
        | none => useOther (pskId h s) s
      let s1 := putEphemeral n (if h.aes256gcm then 2 else 1) 0 (some id)
        (padTo (if h.aes256gcm then 32 else 16) (Config.crypto "DTLS 1.3 traffic keys" id [pskValue h row s])) s0
      done s (emit (.dtlsOpen h.transport id) { s1 with srv := { s1.srv with
        sessions := s1.srv.sessions ++ [{ id := id, transport := h.transport, role := role, pskRow := row, eth := h.eth
                                          mac := h.mac, ip := h.ip, udp := h.udp
                                          lastMsg := s.clk.elapsed }]
        nextSession := id + 1 } })
    | _, _, _ => done s (emit (.dtlsAlert h.transport) (pskWrong h s))
  else done s s

/-- Sends a subscription's value now, with the stamp of its change or sample. -/
def sendNow (id : Nat) (st : Nat × Nat × Nat) (payload : Octets) (s : State) : State :=
  match findSub s id with
  | some u =>
    let r := u.push s.clk.elapsed st payload
    { modSub id (fun _ => r.1) s with out := s.out ++ r.2 }
  | none => s

/-- SUBSCRIPTION_PERIOD_TIMER (R90): PERIOD_MS after the last one, a periodic subscription sends its value. -/
def execSubscriptionPeriodTimer (sub : Nat) (s : State) : Host.Outcome State Fault Refusal :=
  match findSub s sub with
  | some u =>
    if u.kind = 1 then
      let s1 := advanceElapsed ((u.lastAt.getD s.clk.elapsed) + u.periodMs * msCycles) s
      done s (sendNow sub (stampNow s1) (odRead s1 u.idx u.sub u.row) s1)
    else done s s
  | none => done s s

/-- SUBSCRIPTION_GAP_EXPIRY (R90): the latest value that changed within the gap. -/
def execSubscriptionGapExpiry (sub : Nat) (s : State) : Host.Outcome State Fault Refusal :=
  match findSub s sub with
  | some u =>
    if u.kind = 0 ∧ u.held then
      let s1 := advanceElapsed ((u.lastAt.getD s.clk.elapsed) + u.minGapMs * msCycles) s
      done s (sendNow sub u.heldAt (odRead s1 u.idx u.sub u.row) s1)
    else done s s
  | none => done s s

/-- When the notification of a subscription that was last sent the longest ago is sent again: 1 s after that sending. -/
def resendAt (u : Sub) : Nat := (u.unacked.map (·.at_)).foldl min ((u.unacked.head?.map (·.at_)).getD 0) + secCycles

/-- Whether a notification was last sent 1 s ago. -/
def resendDue (now : Nat) (x : Unacked) : Bool := decide (x.at_ + secCycles ≤ now)

/-- The notifications that are due at a cycle are sent again; the one that has been sent again 5 times pauses the subscription (R92). -/
def resend (u : Sub) (now : Nat) : Sub × List Output :=
  if u.unacked.any (fun x => resendDue now x && decide (5 ≤ x.resends)) then ({ u with paused := true }, [])
  else ({ u with unacked := u.unacked.map (fun x => if resendDue now x then { x with at_ := now, resends := x.resends + 1 } else x) },
    (u.unacked.filter (resendDue now)).map (fun x => .notify u.session x.n))

/-- NOTIFY_RETRANSMIT_TIMER (R92): time passes to 1 s after the earliest last sending, and what is due is sent again. -/
def execNotifyRetransmitTimer (sub : Nat) (s : State) : Host.Outcome State Fault Refusal :=
  match findSub s sub with
  | some u =>
    if u.unacked = [] ∨ u.paused then done s s
    else
      let s1 := advanceElapsed (resendAt u) s
      let r := resend u s1.clk.elapsed
      done s { modSub sub (fun _ => r.1) s1 with out := s1.out ++ r.2 }
  | none => done s s

/-! ### Idle ends -/

/-- SESSION_IDLE_EXPIRY (R76): ODAP_SESSION_IDLE seconds after the client's last message. -/
def execSessionIdleExpiry (session : Nat) (s : State) : Host.Outcome State Fault Refusal :=
  match findSession s session with
  | some u => done s (endSession session (advanceElapsed (u.lastMsg + odNat s 0xA010 3 * secCycles) s))
  | none => done s s

/-- TXN_IDLE_EXPIRY (R88): ODAP_TXN_IDLE after its last request the transaction is aborted. -/
def execTxnIdleExpiry (txn : Nat) (s : State) : Host.Outcome State Fault Refusal :=
  match s.srv.txns.find? (fun t => t.id == txn) with
  | some t => done s (closeTxn t false (advanceElapsed (t.lastReq + odNat s 0xA010 4 * secCycles) s))
  | none => done s s

/-- BLOCK_IDLE_EXPIRY (R85): ODAP_TXN_IDLE after its last message the transfer is aborted. -/
def execBlockIdleExpiry (session block : Nat) (s : State) : Host.Outcome State Fault Refusal :=
  match findBlock s session block with
  | some b => done s (closeBlock session block false (advanceElapsed (b.lastMsg + odNat s 0xA010 4 * secCycles) s))
  | none => done s s

/-- REPLAY_CACHE_EXPIRY (R83): 60 s after it was stored a cached response is discarded. -/
def execReplayCacheExpiry (session rid : Nat) (s : State) : Host.Outcome State Fault Refusal :=
  match (findSession s session).bind (fun u => u.cache.find? (fun e => e.rid == rid)) with
  | some e =>
    done s (modSession session (fun u => { u with cache := u.cache.filter (fun e => e.rid != rid) })
      (advanceElapsed (e.at_ + 60 * secCycles) s))
  | none => done s s

/-! ### Writes that have rows of their own -/

/-- A write of a timebase object by the rule its chapter states. -/
def execStepApplyRequest (q : OdapReq) (s : State) : Host.Outcome State Fault Refusal :=
  done s (odapWrite q ⟨0x2002, 2, 0⟩ 2 [1] s)

/-- STEP_APPLY 0 (R108). -/
def execStepApplyAbort (q : OdapReq) (s : State) : Host.Outcome State Fault Refusal :=
  done s (odapWrite q ⟨0x2002, 2, 0⟩ 2 [0] s)

/-- TIME_SET (R105). -/
def execTimeSetWrite (q : OdapReq) (seconds : Nat) (s : State) : Host.Outcome State Fault Refusal :=
  done s (odapWrite q ⟨0x2002, 3, 0⟩ 5 (beOct 8 seconds) s)

/-- TIME_SOURCE (R99). -/
def execTimeSourceWrite (q : OdapReq) (source : Nat) (s : State) : Host.Outcome State Fault Refusal :=
  done s (odapWrite q ⟨0x2001, 1, 0⟩ 2 (beOct 1 source) s)

/-- ASN_EPOCH (R115). -/
def execAsnEpochWrite (q : OdapReq) (epoch : Epoch) (s : State) : Host.Outcome State Fault Refusal :=
  done s (odapWrite q ⟨0x2100, 1, 0⟩ 0xE (encodeEpoch epoch) s)

end Sys2Proof.Machine
end

