-- ==== Sys2Proof/Machine/HrOdap.lean ====
section
/-!
DEFINITION. ODAP over the Hedgerow (R355): a peer's requests, served under the role PEER, and the answers to the unit's own requests.
-/

namespace Sys2Proof.Machine

/-- Runs the request that a peer carries, as the other transports run it. -/
def runPeerOp (q : OdapReq) (s : State) : PeerOp → State
  | .read a => odapRead q a s
  | .write a ty v => odapWrite q a ty v s
  | .blockStart a dir size => odapBlockStart q a dir size s
  | .blockSeg block seg data => odapBlockSeg q block seg data s
  | .blockEnd block authOk => odapBlockEnd q block authOk s
  | .blockAbort block => odapBlockAbort q block s
  | .txnBegin => odapTxnBegin q s
  | .txnCommit authOk => odapTxnCommit q authOk s
  | .txnAbort => odapTxnAbort q s
  | .subscribe kind periodMs minGapMs evtLo evtHi a => odapSubscribe q kind periodMs minGapMs evtLo evtHi a s
  | .unsubscribe sub => odapUnsubscribe q sub s
  | .notifyAck sub seq => odapNotifyAck q sub seq s

/-- OPCODE of a request (Table 04-8). -/
def peerOpcode : PeerOp → Nat
  | .read _ => 1
  | .write _ _ _ => 2
  | .blockStart _ _ _ => 0x10
  | .blockSeg _ _ _ => 0x11
  | .blockEnd _ _ => 0x12
  | .blockAbort _ => 0x13
  | .txnBegin => 0x20
  | .txnCommit _ => 0x21
  | .txnAbort => 0x22
  | .subscribe _ _ _ _ _ _ => 0x30
  | .unsubscribe _ => 0x31
  | .notifyAck _ _ => 0x33

/-- Whether a request is a READ. -/
def isRead : PeerOp → Bool
  | .read _ => true
  | _ => false

/-- The session of a sender: the one its UNIT identifies, or a new one with role PEER (R74, R355). -/
def peerSession (unit : Octets) (s : State) : State × Nat :=
  match (s.hed.peers.find? (fun p => p.1 == unit)).bind (fun p => (findSession s p.2).map (·.id)) with
  | some id => (s, id)
  | none =>
    let id := s.srv.nextSession
    ({ s with
      srv := { s.srv with sessions := s.srv.sessions ++ [{ id := id, transport := 3, role := 4, lastMsg := s.clk.elapsed }]
                          nextSession := id + 1 }
      hed := { s.hed with peers := s.hed.peers.filter (fun p => p.1 != unit) ++ [(unit, id)] } }, id)

/-- Sends to the requester every response that serving its request added to the outputs (R355); one that returns an effective ASN
leaves through the control queue (R119). -/
def sendResponses (dst id before : Nat) (s : State) : State :=
  (s.out.drop before).foldl (fun s o => match o with
    | .odap i r =>
      if i = id then
        hrSendAs 0x51 dst (spoken s s.hed.home) (hrEpoch s (spoken s s.hed.home)) (if r.returnsEff then .control else .odap) (encodeResponse r) s
      else s
    | _ => s) s

/-- Answers a request with FENCED and an epoch (R337, R355). -/
def answerFenced (e : Env) (q : OdapReq) (op : PeerOp) (epoch : Nat) (s : State) : State :=
  hrSend 0x51 e.src (spoken s s.hed.home) (encodeResponse
    { op := peerOpcode op, rid := q.rid, txn := q.txn, status := stFenced, body := beOct 4 epoch }) s

/-- Serves a request whose envelope passed its checks. A sender that names no region is served only for READ; it is answered FENCED for
the others, with the epoch of its home region. -/
def servePeer (e : Env) (q : OdapReq) (op : PeerOp) (s : State) : State :=
  if ¬ s.srv.up ∨ s.ctl.mode = .m2 then s
  else if e.region = 0xFFFF ∧ ¬ isRead op then answerFenced e q op (knownEpoch s e.src) s
  else
    let p0 := peerSession e.unit s
    let p := (modSession p0.2 (fun u => { u with peer := e.src }) p0.1, p0.2)
    if q.len < 8 then odapRunt p.2 q.len p.1
    else
      let s1 := runPeerOp { q with session := p.2 } p.1 op
      sendResponses e.src p.2 p.1.out.length s1

/-- ODAP_REQ (R355). -/
def execOdapReq (e : Env) (q : OdapReq) (op : PeerOp) (s : State) : Host.Outcome State Fault Refusal :=
  match envCheck 0x50 e s with
  | (s1, .accepted) => done s (servePeer e q op s1)
  | (s1, .stale) => done s (if s1.srv.up ∧ s1.ctl.mode ≠ .m2 then answerFenced e q op (knownEpoch s1 e.region) s1 else s1)
  | (s1, .refused) => done s s1

/-- A shadow write has ended (R371): OK means that the unit holds the shadow, and from the spare it releases the node's key section; a refusal leaves it due
in the next superframe, where the row was occupied to the row after (log entry 187). -/
def shadowEnded (w : ShadowWrite) (status : Nat) (s : State) : State :=
  if status = stOk ∨ status = stKeyChangeRequired then
    match w.node with
    | some n =>
      { setNodeKey n { nodeKey s n with shadow := true } s with
        hed := { s.hed with shadowWait := s.hed.shadowWait.filter (fun x => x.1 != n || s.hed.spare != some w.dst) } }
    | none => s
  else
    let row := if status = stBusy ∧ w.node.isNone then (w.row + 1) % 512 else w.row
    { s with hed := { s.hed with shadowDue := s.hed.shadowDue ++ [{ dst := w.dst, node := w.node, slot := w.slot, row := row, rest := true }] } }

/-- The answer to a request of a shadow write: OK to its first two leads on to the next; else the write has ended, and the next begins (R371). -/
def shadowAnswered (rid status : Nat) (body : Octets) (s : State) : State :=
  match s.hed.shadowOut.find? (fun w => w.rid == rid) with
  | some w =>
    let s1 := { s with hed := { s.hed with shadowOut := s.hed.shadowOut.filter (fun x => x.rid != rid) } }
    if status = stOk ∧ w.step < 2 then sendShadowStep { w with step := w.step + 1, block := if w.step = 0 then fieldNat body 0 2 else w.block } s1
    else pumpShadows w.dst (shadowEnded w status s1)
  | none => s

/-- ODAP_RSP (R338, R371): an answer to a request of the unit's own. -/
def execOdapRsp (e : Env) (rid status : Nat) (body : Octets) (s : State) : Host.Outcome State Fault Refusal :=
  done s (hrReceive 0x51 e (shadowAnswered rid status body) s)

end Sys2Proof.Machine
end

