-- ==== Sys2Proof/Machine/Pcie.lean ====
section
/-!
DEFINITION. ODAP over PCIe (R74, R77): the host's descriptors in its mailbox channel to the server, the request in system SRAM, and the
response. Gesso's refusal of a service that it does not have (R386).
-/

namespace Sys2Proof.Machine

/-- An object address (R78). -/
def decodeAddr (b : Octets) : Addr := ⟨fieldNat b 0 2, fieldNat b 2 1, fieldNat b 4 4⟩

/-- `n` octets from an offset, filled with zeros where the message is shorter. -/
def takeOct (b : Octets) (off n : Nat) : Octets := (b.drop off ++ zeros n).take n

/-- The request that an opcode and a body spell (Table 04-8); `authOk` is the verdict on what the value signs. -/
def decodeOp (op : Nat) (b : Octets) (authOk : Bool) : Option PeerOp :=
  match op with
  | 0x01 => some (.read (decodeAddr b))
  | 0x02 => some (.write (decodeAddr b) (fieldNat b 8 1) (takeOct b 12 (fieldNat b 10 2)))
  | 0x10 => some (.blockStart (decodeAddr b) (fieldNat b 8 1) (fieldNat b 12 4))
  | 0x11 => some (.blockSeg (fieldNat b 0 2) (fieldNat b 4 4) (b.drop 8))
  | 0x12 => some (.blockEnd (fieldNat b 0 2) authOk)
  | 0x13 => some (.blockAbort (fieldNat b 0 2))
  | 0x20 => some .txnBegin
  | 0x21 => some (.txnCommit authOk)
  | 0x22 => some .txnAbort
  | 0x30 => some (.subscribe (fieldNat b 0 1) (fieldNat b 2 2) (fieldNat b 4 2) (fieldNat b 6 1) (fieldNat b 7 1) (decodeAddr (b.drop 8)))
  | 0x31 => some (.unsubscribe (fieldNat b 0 2))
  | 0x33 => some (.notifyAck (fieldNat b 0 2) (fieldNat b 2 4))
  | _ => none

/-- The header of a message (Table 04-7). -/
def decodeHeader (session : Nat) (m : Octets) : OdapReq :=
  { session := session, len := m.length, version := fieldNat m 0 1, flags := fieldNat m 2 2, rid := fieldNat m 4 4
    txn := fieldNat m 8 4, bodyLen := fieldNat m 14 2 }

/-- A message whose OPCODE Table 04-8 does not give to a client: FORMAT_ERROR at the OPCODE, after the header (R78, log entry 148). -/
def odapUnknown (q : OdapReq) (op : Nat) (s : State) : State :=
  match s.srv.up, findSession s q.session with
  | true, some _ => respond q op (errA stFormatError ((formChecks q).getD 1)) false (touch q.session s)
  | _, _ => s

/-- One ODAP message in octets, on a session (R78). -/
def odapMessage (session : Nat) (m : Octets) (s : State) : State :=
  if m.length < 8 then odapRunt session m.length s
  else
    let q := decodeHeader session m
    let r := takeFree s
    match decodeOp (fieldNat m 1 1) (m.drop 16) (bit r.1 0) with
    | some p => runPeerOp q r.2 p
    | none => odapUnknown q (fieldNat m 1 1) s

/-- The receiver that serves the host's descriptors: CANVAS, or SHED in M2 (R77). -/
def pcieServer (s : State) : Nat := if s.ctl.mode = .m2 then 4 else 2

/-- Address and length that a descriptor word names (R77). -/
def descAddr (w : Nat) : Nat := 0x20000000 + w % 2 ^ 32

/-- Octets that a descriptor word names. -/
def descLen (w : Nat) : Nat := w / 2 ^ 32 % 2048

/-- The server answers a descriptor: the responses sent on the session since `before` are written to the buffer, and the second word goes
back to the host with each. -/
def answerDescriptor (server session before w : Nat) (s : State) : State :=
  (s.out.drop before).foldl (fun s o => match o with
    | .odap i r => if i = session then push server 0 w true (busStore server (descAddr w) (encodeResponse r) s) else s
    | _ => s) s

/-- The server has popped a word of the host that ends a descriptor of two words: the request is read from its buffer and served. A
descriptor of one word, and one whose response buffer is too small, are not served (log entry 148). -/
def takeDescriptor (server w1 w2 : Nat) (s : State) : State :=
  match s.srv.sessions.find? (fun u => u.transport == 2) with
  | some u =>
    if descLen w2 < 1152 then s
    else
      let r := busLoad server (descAddr w1) (descLen w1) s
      answerDescriptor server u.id r.1.out.length w2 (odapMessage u.id r.2 r.1)
  | none => s

/-- What a popped word starts: at the server, the second word of a host's descriptor. -/
def afterPop (rcv snd : Nat) (c : Chan) (s : State) : State :=
  match c.fifo with
  | (w, true) :: _ => if snd = 0 ∧ rcv = pcieServer s ∧ ¬ c.lastEnd then takeDescriptor rcv c.last w s else s
  | _ => s

/-- Gesso refuses a request that it has whole and whose SERVICE it does not have: its words leave the channel, and the answer is UNSUPPORTED,
to HOST ACCESS_DENIED (R385, R386). A request of a service that it has is served by that service's command (log entry 172). -/
def refuseService (snd : Nat) (s : State) : State :=
  match (chan s snd 1).fifo.reverse with
  | (w2, true) :: (_, false) :: (w0, false) :: rest =>
    if gessoUp s ∧ ((rest.head?).map (·.2)).getD true ∧ (w0 % 256 = 0 ∨ 7 < w0 % 256) then
      gessoRespond (w0 % 256) { caller := snd, tag := w0 / 2 ^ 16 % 2 ^ 16 } (if snd = 0 then stAccessDenied else stUnsupported) []
        (modChan snd 1 (fun c => { c with fifo := rest.reverse, last := w2, lastEnd := true, credits := min 8 (c.credits + 3) }) s)
    else s
  | _ => s

/-- A push with an end mark (R441, R443); at Gesso it may complete a request (R385). -/
def pushEnd (snd rcv : Nat) (wide : Bool) (v : Nat) (s : State) : State :=
  let t := pushWrite snd rcv wide v true s
  if rcv = 1 then refuseService snd t else t

/-- MAILBOX_PUSH_END (R441, R443). -/
def execMailboxPushEnd (snd rcv : Nat) (wide : Bool) (v : Nat) (s : State) : Host.Outcome State Fault Refusal :=
  done s (pushEnd snd rcv wide v s)

/-- MAILBOX_POP (R444): the head word and a credit, or UNDERRUN; the server serves a descriptor that is then whole (R77). -/
def execMailboxPop (rcv snd : Nat) (s : State) : Host.Outcome State Fault Refusal :=
  if ¬ chanExists s snd rcv ∨ (page s rcv).inReset then done s s
  else done s (afterPop rcv snd (chan s snd rcv) (popWord rcv snd s))

/-! ### The service UART (R74, R438) -/

/-- The session of the service UART: the one opened last (log entry 174). -/
def uartSession (s : State) : Option Session := (s.srv.sessions.filter (fun u => u.transport == 1)).getLast?

/-- A DTLS 1.3 record that arrived on the service UART: what a session's ciphertext opens to is an ODAP message; a handshake's records
are DTLS_HANDSHAKE's. -/
def uartRecord (r : Octets) (authOk : Bool) (s : State) : State :=
  match uartSession s with
  | some u =>
    if authOk ∧ fieldNat r 0 1 / 32 = 1 then odapMessage u.id (Config.crypto "DTLS 1.3 open" u.id [sessionKey u.id s, r]) s else s
  | none => s

/-- UART_FRAME_RECEIVED (R438): an overrun, a wrong FCS and a record of more than 1,400 octets are counted; else the record is delivered. In M1
its flag octet wakes the unit and the frame is discarded. -/
def execUartFrameReceived (frame : Octets) (authOk overrun : Bool) (s : State) : Host.Outcome State Fault Refusal :=
  let o := uartUnstuff frame
  let r := o.take (o.length - 2)
  match s.ctl.mode with
  | .m0 => done s s
  | .m1 => done s (wake true s)
  | _ =>
    if overrun then done s (bump 0xA300 2 2 s)
    else if o.length < 2 ∨ 1402 < o.length ∨ o.drop (o.length - 2) ≠ [BitVec.ofNat 8 (fcs16 r), BitVec.ofNat 8 (fcs16 r / 256)] then
      done s (bump 0xA300 2 1 s)
    else done s (uartRecord r authOk (bump 0xA300 2 0 s))

end Sys2Proof.Machine
end

