-- ==== Sys2Proof/Machine/Bus.lean ====
section
/-!
DEFINITION. A register or memory write at an address of the system map (R26): the mailbox pages (R442), the shared cipher engine
(R378), Overwinter (R481), and memory. Addresses of registers that the command table gives a command of their own have that
command's effect here too.
-/

namespace Sys2Proof.Machine

/-- The octets of a word as a register or memory holds them, least significant first (log entry 26). -/
def wordOctets (v : Nat) : Octets := (beOct 4 (v % 2 ^ 32)).reverse

/-! ### Mailbox pages -/

/-- A write to a sender's block for destination `d` (Table 18-4). -/
def txBlock (self d off v : Nat) (s : State) : State :=
  if ¬ chanExists s self d then s
  else match off with
    | 0x00 => modChan self d (fun c => { c with low := v % 2 ^ 32 }) s
    | 0x04 => pushWrite self d false v false s
    | 0x08 => modChan self d (fun c => { c with low := v % 2 ^ 32 }) s
    | 0x0C => pushEnd self d false v s
    | 0x10 => txStatusWrite self d v s
    | 0x18 => dbRing self d v s
    | _ => s

/-- A write to a receiver's block for source `r` (Table 18-4); RX_LO and RX_HI are read only. -/
def rxBlock (self r off v : Nat) (s : State) : State :=
  if ¬ chanExists s r self then s
  else match off with
    | 0x08 => rxStatusWrite self r v s
    | 0x10 => rxLevel self r v s
    | _ => s

/-- A write to a page by its owner; reserved and read-only offsets take none. -/
def pageWrite (self off v : Nat) (s : State) : State :=
  if (page s self).inReset ∨ (self = 0 ∧ ¬ s.chip.fPackage) then s
  else if off < 0x200 then txBlock self (off / 0x40) (off % 0x40) v s
  else if off < 0x400 then rxBlock self ((off - 0x200) / 0x40) (off % 0x40) v s
  else match off with
    | 0x400 => doorbell self false v s
    | 0x404 => doorbell self true v s
    | 0x408 => if bit v 31 then modPage self (fun p => { p with stale := false, staleCount := 0 }) s else s
    | _ => s

/-! ### The shared cipher engine -/

/-- A write to the engine's registers (Table 15-6): CIPHER_LOCK takes RELEASE from its owner, the others only the owner's writes. -/
def cipherWrite (master off v : Nat) (s : State) : State :=
  match off with
  | 0x00 =>
    if cipherRuns s ∧ bit v 3 ∧ cipherOwner master ≠ 0 ∧ s.sec.cipher.owner = cipherOwner master then cipherRelease s else s
  | 0x04 => asOwner master 0x4C000004 (cipherKey (v % 65536)) s
  | 0x08 =>
    asOwner master 0x4C000008 (if bit v 31 then cipherStart v else if bit v 30 then cipherAbortWrite else id) s
  | _ =>
    asOwner master (0x4C000000 + off) (fun s =>
      if 0x10 ≤ off ∧ off ≤ 0x28 ∧ off % 4 = 0 then
        modCipher (fun c => { c with regs := setAt c.regs ((off - 0x10) / 4) (v % 2 ^ 32) }) s
      else s) s

/-! ### Overwinter -/

/-- OW_TAMPER_CFG: six bits for each input, armed inputs keeping their level (Table 19-4). -/
def writeTamperCfg (v : Nat) (s : State) : State :=
  modPwr (fun p => { p with tamper := (List.range 2).map (fun i =>
    let t : Tamper := { (p.tamper[i]?).getD {} with cfg := v / 2 ^ (8 * i) % 64 }
    { t with active := t.active && armed t }) }) s

/-- Four octets of the backup memory (Table 19-4). -/
def writeBackup (k : Nat) (v : Nat) (s : State) : State :=
  modPwr (fun p => { p with backup := (List.range 64).map (fun i =>
    if k ≤ i ∧ i < k + 4 then v / 2 ^ (8 * (i - k)) % 256 else (p.backup[i]?).getD 0) }) s

/-- Four octets of KEK_NONCE. -/
def writeNonceWord (k : Nat) (v : Nat) (s : State) : State :=
  let o := (s.pwr.nonce).getD (zeros 32)
  setNonce (o.take k ++ wordOctets v ++ o.drop (k + 4)) s

/-- A write to Overwinter by Shed or Gesso (Table 19-4); read-only and reserved offsets take none. -/
def owWrite (off v : Nat) (s : State) : State :=
  match off with
  | 0x10 => modPwr (fun p => { p with setSecs := v % 2 ^ 32 }) s
  | 0x14 => modPwr (fun p => { p with setSub := v % 2 ^ 15 }) s
  | 0x18 => if bit v 0 then modPwr (fun p => { p with setDue := true }) s else s
  | 0x1C => writeTrim v s
  | 0x20 => odPut 0xB100 2 0 (beOct 4 (v % 2 ^ 32)) s
  | 0x24 => armChannel 0 (v / 2 ^ 30 % 4) (v % 2 ^ 24) (bit v 28) (bit v 29) s
  | 0x28 => armChannel 1 (v / 2 ^ 30 % 4) (v % 2 ^ 24) (bit v 28) (bit v 29) s
  | 0x30 =>
    let s1 := if bit v 6 then modPwr (fun p => { p with shadowLate := false }) s else s
    if bit v 3 then makeSeal s1 else s1
  | 0x34 => writeFeed v s
  | 0x38 => writeTamperCfg v s
  | _ =>
    if 0x60 ≤ off ∧ off < 0x80 ∧ off % 4 = 0 then writeNonceWord (off - 0x60) v s
    else if 0x80 ≤ off ∧ off < 0xC0 ∧ off % 4 = 0 then writeBackup (off - 0x80) v s
    else s

/-- Whether a master may make a write to Overwinter: OW_TAMPER_CFG, KEK_NONCE and MAKE_SEAL are Gesso's alone (R481). -/
def owMay (master off v : Nat) : Bool :=
  owMaster master &&
    (master == 1 || !(off == 0x38 || (decide (0x60 ≤ off) && decide (off < 0x80)) || (off == 0x30 && bit v 3)))

/-! ### The write -/

/-- A 32-bit write by a master at an address of the system map (R26). -/
def busWrite (master addr v : Nat) (s : State) : State :=
  if inRange addr 0x4A000000 0x5000 then
    let self := (addr - 0x4A000000) / 0x1000
    if self = master then pageWrite self ((addr - 0x4A000000) % 0x1000) v s else accessViolation master addr s
  else if inRange addr 0x4C000000 0x2C then cipherWrite master (addr - 0x4C000000) v s
  else if inRange addr 0x4E000000 0xC0 then
    asOwMaster (owMay master (addr - 0x4E000000) v) master addr (owWrite (addr - 0x4E000000) v) s
  else busStore master addr (wordOctets v) s

/-- REGISTER_WRITE_GENERIC (R26). -/
def execRegisterWriteGeneric (master addr value : Nat) (s : State) : Host.Outcome State Fault Refusal :=
  done s (busWrite master addr value s)

end Sys2Proof.Machine
end

