-- ==== Sys2Proof/Machine/ObjWrites.lean ====
section
/-!
DEFINITION. The writes of objects that the command table lists under names of their own: each is a WRITE request of its
object (R68), whose owning chapter's checks and effect stand in Checks.lean and WriteFx.lean.
-/

namespace Sys2Proof.Machine

/-- A WRITE of one octet to an object (type U8, R66). -/
def writeU8 (q : OdapReq) (idx sub row v : Nat) (s : State) : State := odapWrite q ⟨idx, sub, row⟩ 2 (beOct 1 v) s

/-- A WRITE of a 16-bit value (type U16, R66). -/
def writeU16 (q : OdapReq) (idx sub row v : Nat) (s : State) : State := odapWrite q ⟨idx, sub, row⟩ 3 (beOct 2 v) s

/-- A WRITE of a 32-bit value (type U32, R66). -/
def writeU32 (q : OdapReq) (idx sub row v : Nat) (s : State) : State := odapWrite q ⟨idx, sub, row⟩ 4 (beOct 4 v) s

/-- A WRITE of a record (type RECORD, R66). -/
def writeRecord (q : OdapReq) (idx sub row : Nat) (v : Octets) (s : State) : State := odapWrite q ⟨idx, sub, row⟩ 0xE v s

/-- A WRITE of octets (type OCTETS, R66). -/
def writeOct (q : OdapReq) (idx sub row : Nat) (v : Octets) (s : State) : State := odapWrite q ⟨idx, sub, row⟩ 0xD v s

/-- MODE_REQUEST_WRITE (R39). -/
def execModeRequestWrite (q : OdapReq) (target : Nat) (s : State) : Host.Outcome State Fault Refusal :=
  done s (writeU8 q 0x1200 2 0 target s)

/-- MODE_CHANGE_CANCEL (R44): the current mode is written. -/
def execModeChangeCancel (q : OdapReq) (s : State) : Host.Outcome State Fault Refusal :=
  done s (writeU8 q 0x1200 2 0 s.ctl.mode.code s)

/-- REBOOT_WRITE (R38). -/
def execRebootWrite (q : OdapReq) (value : Nat) (s : State) : Host.Outcome State Fault Refusal :=
  done s (writeU8 q 0x1200 8 0 value s)

/-- CH_MAP_WRITE (R212). -/
def execChMapWrite (q : OdapReq) (pan : Nat) (map : Octets) (s : State) : Host.Outcome State Fault Refusal :=
  done s (writeOct q 0x4032 1 pan map s)

/-- NODE_REG_WRITE (R244). -/
def execNodeRegWrite (q : OdapReq) (row : Nat) (reg : Octets) (s : State) : Host.Outcome State Fault Refusal :=
  done s (writeRecord q 0x5010 1 row reg s)

/-- NODE_DEREGISTER (R244): a registration whose EUI64 is 0 ends the node's. -/
def execNodeDeregister (q : OdapReq) (row : Nat) (s : State) : Host.Outcome State Fault Refusal :=
  done s (writeRecord q 0x5010 1 row (List.replicate 14 0 ++ [0xFF, 0]) s)

/-- NODE_REJOIN_WRITE (R268). -/
def execNodeRejoinWrite (q : OdapReq) (node : Nat) (s : State) : Host.Outcome State Fault Refusal :=
  done s (writeU32 q 0x5011 1 0 node s)

/-- KEY_DESTROY_WRITE (R368). -/
def execKeyDestroyWrite (q : OdapReq) (handle : Nat) (s : State) : Host.Outcome State Fault Refusal :=
  done s (writeU16 q 0x8010 3 0 handle s)

/-- FW_ACTIVATE_MARK (R397): 1 marks the staged bank. -/
def execFwActivateMark (q : OdapReq) (s : State) : Host.Outcome State Fault Refusal := done s (writeU8 q 0x8810 1 0 1 s)

/-- FW_ACTIVATE_RESET (R397): 2 marks the staged bank and requests the warm reset. -/
def execFwActivateReset (q : OdapReq) (s : State) : Host.Outcome State Fault Refusal := done s (writeU8 q 0x8810 1 0 2 s)

/-- FW_ACTIVATE_CANCEL (R397): 0 withdraws. -/
def execFwActivateCancel (q : OdapReq) (s : State) : Host.Outcome State Fault Refusal := done s (writeU8 q 0x8810 1 0 0 s)

/-- FW_CONFIRM (R396). -/
def execFwConfirm (q : OdapReq) (s : State) : Host.Outcome State Fault Refusal := done s (writeU8 q 0x8810 2 0 1 s)

/-- FW_REJECT (R396). -/
def execFwReject (q : OdapReq) (s : State) : Host.Outcome State Fault Refusal := done s (writeU8 q 0x8810 2 0 0 s)

/-- ATTEST_CHALLENGE_WRITE (R403). -/
def execAttestChallengeWrite (q : OdapReq) (challenge : Octets) (s : State) : Host.Outcome State Fault Refusal :=
  done s (writeOct q 0x8830 1 0 challenge s)

/-- CALIB_REQUEST_WRITE (R416). -/
def execCalibRequestWrite (q : OdapReq) (item target : Nat) (s : State) : Host.Outcome State Fault Refusal :=
  done s (writeRecord q 0x9200 1 0 (beOct 1 item ++ beOct 1 target ++ [0, 0]) s)

/-- CALIB_REQUEST_FORCE (R417): with FORCE. -/
def execCalibRequestForce (q : OdapReq) (item target : Nat) (s : State) : Host.Outcome State Fault Refusal :=
  done s (writeRecord q 0x9200 1 0 (beOct 1 item ++ beOct 1 target ++ [1, 0]) s)

/-- CALIB_CANCEL_WRITE (R418). -/
def execCalibCancelWrite (q : OdapReq) (row : Nat) (s : State) : Host.Outcome State Fault Refusal :=
  done s (writeU8 q 0x9200 3 0 row s)

/-- RECOVER_REQUEST_WRITE (R425). -/
def execRecoverRequestWrite (q : OdapReq) (fn inst step : Nat) (s : State) : Host.Outcome State Fault Refusal :=
  done s (writeRecord q 0x9400 4 0 (beOct 1 fn ++ beOct 1 inst ++ beOct 1 step) s)

/-- RECOVERY_RELEASE_WRITE (R421). -/
def execRecoveryReleaseWrite (q : OdapReq) (s : State) : Host.Outcome State Fault Refusal := done s (writeU8 q 0x9400 7 0 1 s)

/-- FEED_SWITCH_WRITE (R468). -/
def execFeedSwitchWrite (q : OdapReq) (train : Nat) (s : State) : Host.Outcome State Fault Refusal :=
  done s (writeU8 q 0xB010 3 0 train s)

/-- FEED_CLEAR_WRITE (R465). -/
def execFeedClearWrite (q : OdapReq) (train : Nat) (s : State) : Host.Outcome State Fault Refusal :=
  done s (writeU8 q 0xB010 4 0 train s)

/-- TAMPER_CFG_WRITE (R479). -/
def execTamperCfgWrite (q : OdapReq) (input : Nat) (cfg : Octets) (s : State) : Host.Outcome State Fault Refusal :=
  done s (writeRecord q 0xB200 1 input cfg s)

/-- TAMPER_CLEAR_WRITE (R480). -/
def execTamperClearWrite (q : OdapReq) (s : State) : Host.Outcome State Fault Refusal := done s (writeU8 q 0xB200 3 0 1 s)

/-- HR_HANDOVER_WRITE (R352). -/
def execHrHandoverWrite (q : OdapReq) (region : Nat) (s : State) : Host.Outcome State Fault Refusal :=
  done s (writeU16 q 0x7030 1 0 region s)

/-- HR_HANDOVER_CANCEL (R353): 0xFFFF withdraws. -/
def execHrHandoverCancel (q : OdapReq) (s : State) : Host.Outcome State Fault Refusal :=
  done s (writeU16 q 0x7030 1 0 0xFFFF s)

/-- CAPTURE_CFG_WRITE (R180). -/
def execCaptureCfgWrite (q : OdapReq) (cfg : Octets) (s : State) : Host.Outcome State Fault Refusal :=
  done s (writeRecord q 0x3300 1 0 cfg s)

/-- SG_CENTRE_WRITE (R128): SG_RX_CENTRE or SG_TX_CENTRE. -/
def execSgCentreWrite (q : OdapReq) (tx : Bool) (hz : Nat) (s : State) : Host.Outcome State Fault Refusal :=
  done s (writeU32 q 0x3000 (if tx then 2 else 1) 0 hz s)

/-- DL_PROFILE_WRITE (R320). -/
def execDlProfileWrite (q : OdapReq) (row : Nat) (rec : Octets) (s : State) : Host.Outcome State Fault Refusal :=
  done s (writeRecord q 0x6800 1 row rec s)

/-- NODE_DL_PROFILE_WRITE (R320). -/
def execNodeDlProfileWrite (q : OdapReq) (node profile : Nat) (s : State) : Host.Outcome State Fault Refusal :=
  done s (writeU8 q 0x6800 2 node profile s)

/-- METER_WRITE (R316). -/
def execMeterWrite (q : OdapReq) (row : Nat) (rec : Octets) (s : State) : Host.Outcome State Fault Refusal :=
  done s (writeRecord q 0x6820 1 row rec s)

/-- SHAPER_WRITE (R325). -/
def execShaperWrite (q : OdapReq) (row : Nat) (rec : Octets) (s : State) : Host.Outcome State Fault Refusal :=
  done s (writeRecord q 0x6810 2 row rec s)

/-- DWELL_RULE_WRITE (R197). -/
def execDwellRuleWrite (q : OdapReq) (row : Nat) (rec : Octets) (s : State) : Host.Outcome State Fault Refusal :=
  done s (writeRecord q 0x3420 1 row rec s)

/-- STATIC_TABLE_WRITE (R499): a row of IP6_STATIC or of MAC_STATIC. -/
def execStaticTableWrite (q : OdapReq) (ip6 : Bool) (row : Nat) (rec : Octets) (s : State) : Host.Outcome State Fault Refusal :=
  done s (writeRecord q (if ip6 then 0x6420 else 0x6410) (if ip6 then 1 else 4) row rec s)

end Sys2Proof.Machine
end

