-- ==== Sys2Proof/Machine/Dispatch.lean ====
section
/-!
DEFINITION. One arm per command: the one direct call of its meaning.
-/

namespace Sys2Proof.Machine

/-- The effect of a command on everything but the queue, by the rules of spec/. -/
def exec (i : Instr) (s : State) : Host.Outcome State Fault Refusal :=
  match i with
  | .read q a => Sys2Proof.Machine.execRead q a s
  | .write q a ty v => Sys2Proof.Machine.execWrite q a ty v s
  | .blockStart q a dir size => Sys2Proof.Machine.execBlockStart q a dir size s
  | .blockSeg q block seg data => Sys2Proof.Machine.execBlockSeg q block seg data s
  | .blockEnd q block authOk => Sys2Proof.Machine.execBlockEnd q block authOk s
  | .blockAbort q block => Sys2Proof.Machine.execBlockAbort q block s
  | .txnBegin q => Sys2Proof.Machine.execTxnBegin q s
  | .txnCommit q authOk => Sys2Proof.Machine.execTxnCommit q authOk s
  | .txnAbort q => Sys2Proof.Machine.execTxnAbort q s
  | .subscribe q kind periodMs minGapMs evtLo evtHi a => Sys2Proof.Machine.execSubscribe q kind periodMs minGapMs evtLo evtHi a s
  | .unsubscribe q sub => Sys2Proof.Machine.execUnsubscribe q sub s
  | .notifyAck q sub seq => Sys2Proof.Machine.execNotifyAck q sub seq s
  | .odapRuntMessage session len => Sys2Proof.Machine.execOdapRuntMessage session len s
  | .dtlsHandshake hello => Sys2Proof.Machine.execDtlsHandshake hello s
  | .subscriptionPeriodTimer sub => Sys2Proof.Machine.execSubscriptionPeriodTimer sub s
  | .subscriptionGapExpiry sub => Sys2Proof.Machine.execSubscriptionGapExpiry sub s
  | .notifyRetransmitTimer sub => Sys2Proof.Machine.execNotifyRetransmitTimer sub s
  | .sessionIdleExpiry session => Sys2Proof.Machine.execSessionIdleExpiry session s
  | .txnIdleExpiry txn => Sys2Proof.Machine.execTxnIdleExpiry txn s
  | .blockIdleExpiry session block => Sys2Proof.Machine.execBlockIdleExpiry session block s
  | .replayCacheExpiry session rid => Sys2Proof.Machine.execReplayCacheExpiry session rid s
  | .modeRequestWrite q target => Sys2Proof.Machine.execModeRequestWrite q target s
  | .modeChangeCancel q => Sys2Proof.Machine.execModeChangeCancel q s
  | .modeChangeEffective => Sys2Proof.Machine.execModeChangeEffective s
  | .modeChangeAbandon => Sys2Proof.Machine.execModeChangeAbandon s
  | .endOfServiceComplete => Sys2Proof.Machine.execEndOfServiceComplete s
  | .m1PowerDown => Sys2Proof.Machine.execM1PowerDown s
  | .rebootWrite q value => Sys2Proof.Machine.execRebootWrite q value s
  | .rebootAssert => Sys2Proof.Machine.execRebootAssert s
  | .stepApplyRequest q => Sys2Proof.Machine.execStepApplyRequest q s
  | .stepApplyAbort q => Sys2Proof.Machine.execStepApplyAbort q s
  | .clockStepApply => Sys2Proof.Machine.execClockStepApply s
  | .timeSetWrite q seconds => Sys2Proof.Machine.execTimeSetWrite q seconds s
  | .timeSourceWrite q source => Sys2Proof.Machine.execTimeSourceWrite q source s
  | .asnEpochWrite q epoch => Sys2Proof.Machine.execAsnEpochWrite q epoch s
  | .chMapWrite q pan map => Sys2Proof.Machine.execChMapWrite q pan map s
  | .mapChangeEffective pan => Sys2Proof.Machine.execMapChangeEffective pan s
  | .nodeRegWrite q row reg => Sys2Proof.Machine.execNodeRegWrite q row reg s
  | .nodeDeregister q row => Sys2Proof.Machine.execNodeDeregister q row s
  | .nodeRejoinWrite q node => Sys2Proof.Machine.execNodeRejoinWrite q node s
  | .keyDestroyWrite q handle => Sys2Proof.Machine.execKeyDestroyWrite q handle s
  | .fwActivateMark q => Sys2Proof.Machine.execFwActivateMark q s
  | .fwActivateReset q => Sys2Proof.Machine.execFwActivateReset q s
  | .fwActivateCancel q => Sys2Proof.Machine.execFwActivateCancel q s
  | .fwConfirm q => Sys2Proof.Machine.execFwConfirm q s
  | .fwReject q => Sys2Proof.Machine.execFwReject q s
  | .fwTrialTimer => Sys2Proof.Machine.execFwTrialTimer s
  | .attestChallengeWrite q challenge => Sys2Proof.Machine.execAttestChallengeWrite q challenge s
  | .calibRequestWrite q item target => Sys2Proof.Machine.execCalibRequestWrite q item target s
  | .calibRequestForce q item target => Sys2Proof.Machine.execCalibRequestForce q item target s
  | .calibCancelWrite q row => Sys2Proof.Machine.execCalibCancelWrite q row s
  | .recoverRequestWrite q fn inst step => Sys2Proof.Machine.execRecoverRequestWrite q fn inst step s
  | .recoverRequestAssert => Sys2Proof.Machine.execRecoverRequestAssert s
  | .recoveryReleaseWrite q => Sys2Proof.Machine.execRecoveryReleaseWrite q s
  | .feedSwitchWrite q train => Sys2Proof.Machine.execFeedSwitchWrite q train s
  | .feedClearWrite q train => Sys2Proof.Machine.execFeedClearWrite q train s
  | .tamperCfgWrite q input cfg => Sys2Proof.Machine.execTamperCfgWrite q input cfg s
  | .tamperClearWrite q => Sys2Proof.Machine.execTamperClearWrite q s
  | .hrHandoverWrite q region => Sys2Proof.Machine.execHrHandoverWrite q region s
  | .hrHandoverCancel q => Sys2Proof.Machine.execHrHandoverCancel q s
  | .captureCfgWrite q cfg => Sys2Proof.Machine.execCaptureCfgWrite q cfg s
  | .captureStart => Sys2Proof.Machine.execCaptureStart s
  | .captureStop => Sys2Proof.Machine.execCaptureStop s
  | .sgCentreWrite q tx hz => Sys2Proof.Machine.execSgCentreWrite q tx hz s
  | .gateListSwitch port => Sys2Proof.Machine.execGateListSwitch port s
  | .dlProfileWrite q row rec => Sys2Proof.Machine.execDlProfileWrite q row rec s
  | .nodeDlProfileWrite q node profile => Sys2Proof.Machine.execNodeDlProfileWrite q node profile s
  | .meterWrite q row rec => Sys2Proof.Machine.execMeterWrite q row rec s
  | .shaperWrite q row rec => Sys2Proof.Machine.execShaperWrite q row rec s
  | .dwellRuleWrite q row rec => Sys2Proof.Machine.execDwellRuleWrite q row rec s
  | .staticTableWrite q ip6 row rec => Sys2Proof.Machine.execStaticTableWrite q ip6 row rec s
  | .slotStart => Sys2Proof.Machine.execSlotStart s
  | .preparationWindowOpen prepUs overrun bad => Sys2Proof.Machine.execPreparationWindowOpen prepUs overrun bad s
  | .easelOverrunLimit => Sys2Proof.Machine.execEaselOverrunLimit s
  | .receiveWindowOpen eng => Sys2Proof.Machine.execReceiveWindowOpen eng s
  | .preambleDetect eng seen powers => Sys2Proof.Machine.execPreambleDetect eng seen powers s
  | .aerialHoldEnd eng hold powers => Sys2Proof.Machine.execAerialHoldEnd eng hold powers s
  | .sfdFound eng bits oqpskOk offsetNs powers => Sys2Proof.Machine.execSfdFound eng bits oqpskOk offsetNs powers s
  | .huntSpanEnd hunt => Sys2Proof.Machine.execHuntSpanEnd hunt s
  | .phrDecoded eng len modeSwitch fcs2 soft => Sys2Proof.Machine.execPhrDecoded eng len modeSwitch fcs2 soft s
  | .fadeAbandon eng powers soft => Sys2Proof.Machine.execFadeAbandon eng powers soft s
  | .watchTakeover eng w bits offsetNs powers => Sys2Proof.Machine.execWatchTakeover eng w bits offsetNs powers s
  | .frameEnd eng r => Sys2Proof.Machine.execFrameEnd eng r s
  | .receiveWindowClose eng => Sys2Proof.Machine.execReceiveWindowClose eng s
  | .engineSelfTestComplete eng pass => Sys2Proof.Machine.execEngineSelfTestComplete eng pass s
  | .engineInternalFault eng => Sys2Proof.Machine.execEngineInternalFault eng s
  | .measurementBlockEnd path peak clipped block => Sys2Proof.Machine.execMeasurementBlockEnd path peak clipped block s
  | .carrierRampStart idx => Sys2Proof.Machine.execCarrierRampStart idx s
  | .burstEnd idx => Sys2Proof.Machine.execBurstEnd idx s
  | .synthLockLoss syn => Sys2Proof.Machine.execSynthLockLoss syn s
  | .synthRelockAttemptEnd syn locked => Sys2Proof.Machine.execSynthRelockAttemptEnd syn locked s
  | .calItemComplete item path seen => Sys2Proof.Machine.execCalItemComplete item path seen s
  | .dpdUpdate set err re im => Sys2Proof.Machine.execDpdUpdate set err re im s
  | .dwellBucketAdvance => Sys2Proof.Machine.execDwellBucketAdvance s
  | .ccmLaneFrame lane => Sys2Proof.Machine.execCcmLaneFrame lane s
  | .uplinkRelease node => Sys2Proof.Machine.execUplinkRelease node s
  | .wakeFollowupMissed node => Sys2Proof.Machine.execWakeFollowupMissed node s
  | .joinDirectiveExpiry node => Sys2Proof.Machine.execJoinDirectiveExpiry node s
  | .nodeSupervisionExpiry node => Sys2Proof.Machine.execNodeSupervisionExpiry node s
  | .quarantineEnd node => Sys2Proof.Machine.execQuarantineEnd node s
  | .sync m => Sys2Proof.Machine.execSync m s
  | .followUp m => Sys2Proof.Machine.execFollowUp m s
  | .delayReq m => Sys2Proof.Machine.execDelayReq m s
  | .delayResp m => Sys2Proof.Machine.execDelayResp m s
  | .announce m => Sys2Proof.Machine.execAnnounce m s
  | .pdelayReq m => Sys2Proof.Machine.execPdelayReq m s
  | .pdelayResp m => Sys2Proof.Machine.execPdelayResp m s
  | .pdelayRespFollowUp m => Sys2Proof.Machine.execPdelayRespFollowUp m s
  | .ptpMessageTimer port kind => Sys2Proof.Machine.execPtpMessageTimer port kind s
  | .announceReceiptTimeout port => Sys2Proof.Machine.execAnnounceReceiptTimeout port s
  | .ppsInEdge jitter => Sys2Proof.Machine.execPpsInEdge jitter s
  | .ppsOutSecond => Sys2Proof.Machine.execPpsOutSecond s
  | .sourceTimeout => Sys2Proof.Machine.execSourceTimeout s
  | .registerWriteGeneric master addr value => Sys2Proof.Machine.execRegisterWriteGeneric master addr value s
  | .cipherLockRead master => Sys2Proof.Machine.execCipherLockRead master s
  | .cipherLockRelease master => Sys2Proof.Machine.execCipherLockRelease master s
  | .cipherKeyWrite master handle => Sys2Proof.Machine.execCipherKeyWrite master handle s
  | .cipherCmdStart master cmd => Sys2Proof.Machine.execCipherCmdStart master cmd s
  | .cipherCmdAbort master => Sys2Proof.Machine.execCipherCmdAbort master s
  | .cipherCommandComplete authOk => Sys2Proof.Machine.execCipherCommandComplete authOk s
  | .cipherLockIdleExpiry => Sys2Proof.Machine.execCipherLockIdleExpiry s
  | .mailboxPush snd rcv wide value => Sys2Proof.Machine.execMailboxPush snd rcv wide value s
  | .mailboxPushEnd snd rcv wide value => Sys2Proof.Machine.execMailboxPushEnd snd rcv wide value s
  | .dbRingWrite snd rcv value => Sys2Proof.Machine.execDbRingWrite snd rcv value s
  | .mailboxPop rcv snd => Sys2Proof.Machine.execMailboxPop rcv snd s
  | .rxLevelWrite rcv snd value => Sys2Proof.Machine.execRxLevelWrite rcv snd value s
  | .doorbellWrite rcv toMask value => Sys2Proof.Machine.execDoorbellWrite rcv toMask value s
  | .owSetWrite master => Sys2Proof.Machine.execOwSetWrite master s
  | .owTrimWrite master value => Sys2Proof.Machine.execOwTrimWrite master value s
  | .owFeedWrite master value => Sys2Proof.Machine.execOwFeedWrite master value s
  | .makeSealWrite master => Sys2Proof.Machine.execMakeSealWrite master s
  | .kekNonceWrite master nonce => Sys2Proof.Machine.execKekNonceWrite master nonce s
  | .countdownArm master ch value => Sys2Proof.Machine.execCountdownArm master ch value s
  | .owClockShadowRead master reg => Sys2Proof.Machine.execOwClockShadowRead master reg s
  | .owShadowTimeout master => Sys2Proof.Machine.execOwShadowTimeout master s
  | .gessoKeyOp g tagOk => Sys2Proof.Machine.execGessoKeyOp g tagOk s
  | .gessoLaneBind g pan => Sys2Proof.Machine.execGessoLaneBind g pan s
  | .gessoKeyProvision g toNode row tagOk => Sys2Proof.Machine.execGessoKeyProvision g toNode row tagOk s
  | .gessoSign g pre fits => Sys2Proof.Machine.execGessoSign g pre fits s
  | .gessoAttest g => Sys2Proof.Machine.execGessoAttest g s
  | .gessoLifeCycle g sigOk => Sys2Proof.Machine.execGessoLifeCycle g sigOk s
  | .gessoFwControl g op => Sys2Proof.Machine.execGessoFwControl g op s
  | .glazeListSend => Sys2Proof.Machine.execGlazeListSend s
  | .glazeList e p => Sys2Proof.Machine.execGlazeList e p s
  | .glazeListDeadline owner sf => Sys2Proof.Machine.execGlazeListDeadline owner sf s
  | .glazeFrame e f => Sys2Proof.Machine.execGlazeFrame e f s
  | .glazeReqSend asn => Sys2Proof.Machine.execGlazeReqSend asn s
  | .glazeReq e asn reqSeq entries => Sys2Proof.Machine.execGlazeReq e asn reqSeq entries s
  | .glazeAns e asn reqSeq entry kind seg nseg data rx => Sys2Proof.Machine.execGlazeAns e asn reqSeq entry kind seg nseg data rx s
  | .glazeReqTimeout partner reqSeq => Sys2Proof.Machine.execGlazeReqTimeout partner reqSeq s
  | .glazeRetentionExpiry asn => Sys2Proof.Machine.execGlazeRetentionExpiry asn s
  | .glazeDecision asn node decoded => Sys2Proof.Machine.execGlazeDecision asn node decoded s
  | .glazeRecordDiscard owner asn => Sys2Proof.Machine.execGlazeRecordDiscard owner asn s
  | .heartbeat e b => Sys2Proof.Machine.execHeartbeat e b s
  | .helloTimer => Sys2Proof.Machine.execHelloTimer s
  | .suspectTimeout addr => Sys2Proof.Machine.execSuspectTimeout addr s
  | .isolationTimeout => Sys2Proof.Machine.execIsolationTimeout s
  | .lsa e b => Sys2Proof.Machine.execLsa e b s
  | .lsaRefreshTimer => Sys2Proof.Machine.execLsaRefreshTimer s
  | .lsaAgeExpiry origin => Sys2Proof.Machine.execLsaAgeExpiry origin s
  | .claim e addr epoch => Sys2Proof.Machine.execClaim e addr epoch s
  | .defend e addr epoch mode serial => Sys2Proof.Machine.execDefend e addr epoch mode serial s
  | .claimTimer => Sys2Proof.Machine.execClaimTimer s
  | .addressListenEnd => Sys2Proof.Machine.execAddressListenEnd s
  | .dead e addr epoch => Sys2Proof.Machine.execDead e addr epoch s
  | .takeover e b => Sys2Proof.Machine.execTakeover e b s
  | .fence e region epoch holder => Sys2Proof.Machine.execFence e region epoch holder s
  | .handover e b => Sys2Proof.Machine.execHandover e b s
  | .takeoverEffective => Sys2Proof.Machine.execTakeoverEffective s
  | .mirrorSnapshot e seg nseg data sigOk => Sys2Proof.Machine.execMirrorSnapshot e seg nseg data sigOk s
  | .mirrorDelta e b => Sys2Proof.Machine.execMirrorDelta e b s
  | .mirrorAck e region status digest => Sys2Proof.Machine.execMirrorAck e region status digest s
  | .mirrorDeltaSend => Sys2Proof.Machine.execMirrorDeltaSend s
  | .handoverQuiesce => Sys2Proof.Machine.execHandoverQuiesce s
  | .finalDeltaSend => Sys2Proof.Machine.execFinalDeltaSend s
  | .handoverEffective => Sys2Proof.Machine.execHandoverEffective s
  | .shadowWaitExpiry node => Sys2Proof.Machine.execShadowWaitExpiry node s
  | .odapReq e q op => Sys2Proof.Machine.execOdapReq e q op s
  | .odapRsp e rid status body => Sys2Proof.Machine.execOdapRsp e rid status body s
  | .ethFrameReceived port f => Sys2Proof.Machine.execEthFrameReceived port f s
  | .egressSelect port => Sys2Proof.Machine.execEgressSelect port s
  | .ethLinkChange port up speed => Sys2Proof.Machine.execEthLinkChange port up speed s
  | .tableInsert tag flags value next key => Sys2Proof.Machine.execTableInsert tag flags value next key s
  | .tableDelete tag key => Sys2Proof.Machine.execTableDelete tag key s
  | .tableLookup tag key bad => Sys2Proof.Machine.execTableLookup tag key bad s
  | .scrubBucket poisoned => Sys2Proof.Machine.execScrubBucket poisoned s
  | .mainSupplyValid => Sys2Proof.Machine.execMainSupplyValid s
  | .uartFrameReceived frame authOk overrun => Sys2Proof.Machine.execUartFrameReceived frame authOk overrun s
  | .gpioWake pin rising => Sys2Proof.Machine.execGpioWake pin rising s
  | .countdownFire ch => Sys2Proof.Machine.execCountdownFire ch s
  | .coldBoot a b => Sys2Proof.Machine.execColdBoot a b s
  | .warmResetAssert a b => Sys2Proof.Machine.execWarmResetAssert a b s
  | .easelRejoin => Sys2Proof.Machine.execEaselRejoin s
  | .canvasServiceResume => Sys2Proof.Machine.execCanvasServiceResume s
  | .powerCycle => Sys2Proof.Machine.execPowerCycle s
  | .pwrCycleFallback => Sys2Proof.Machine.execPwrCycleFallback s
  | .brownout => Sys2Proof.Machine.execBrownout s
  | .feedDeviationDecision rail sense => Sys2Proof.Machine.execFeedDeviationDecision rail sense s
  | .feedGapEnd => Sys2Proof.Machine.execFeedGapEnd s
  | .standbyOutOfWindow rail mv => Sys2Proof.Machine.execStandbyOutOfWindow rail mv s
  | .owSupplyChange toVbat => Sys2Proof.Machine.execOwSupplyChange toVbat s
  | .sealBreak => Sys2Proof.Machine.execSealBreak s
  | .vbatLowCheck mv => Sys2Proof.Machine.execVbatLowCheck mv s
  | .rtcTrimCheck => Sys2Proof.Machine.execRtcTrimCheck s
  | .tamperInputActive input => Sys2Proof.Machine.execTamperInputActive input s
  | .sensorSample temps volts currents pdet => Sys2Proof.Machine.execSensorSample temps volts currents pdet s
  | .thermalTrip sensor reading => Sys2Proof.Machine.execThermalTrip sensor reading s
  | .domainExcursion domain mv => Sys2Proof.Machine.execDomainExcursion domain mv s
  | .shedWatchdogExpiry digestOk => Sys2Proof.Machine.execShedWatchdogExpiry digestOk s
  | .easelWatchdogExpiry => Sys2Proof.Machine.execEaselWatchdogExpiry s
  | .canvasCoreWatchdogExpiry core => Sys2Proof.Machine.execCanvasCoreWatchdogExpiry core s
  | .gessoWatchdogExpiry => Sys2Proof.Machine.execGessoWatchdogExpiry s
  | .operationOverdue fn => Sys2Proof.Machine.execOperationOverdue fn s
  | .storePoisonBurst => Sys2Proof.Machine.execStorePoisonBurst s
  | .l1RetryTimer fn inst ok => Sys2Proof.Machine.execL1RetryTimer fn inst ok s
  | .l2Complete fn inst => Sys2Proof.Machine.execL2Complete fn inst s
  | .logPersistTimer => Sys2Proof.Machine.execLogPersistTimer s
  | .logEntryCopy => Sys2Proof.Machine.execLogEntryCopy s
  | .cdcStaleCapture master addr fixedFunction => Sys2Proof.Machine.execCdcStaleCapture master addr fixedFunction s
  | .pcieReset => Sys2Proof.Machine.execPcieReset s
  | .flashPageFetch part page ok => Sys2Proof.Machine.execFlashPageFetch part page ok s
  | .patchTrap entry => Sys2Proof.Machine.execPatchTrap entry s
  | .alignedCleared => Sys2Proof.Machine.execAlignedCleared s
  | .tamperInputRelease input => Sys2Proof.Machine.execTamperInputRelease input s
  | .pcieLinkUp gen width => Sys2Proof.Machine.execPcieLinkUp gen width s
  | .digestRingAdvance => Sys2Proof.Machine.execDigestRingAdvance s
  | .gateEntryBoundary port => Sys2Proof.Machine.execGateEntryBoundary port s
  | .shaperTokensRefilled port cls => Sys2Proof.Machine.execShaperTokensRefilled port cls s
  | .dlQueueFromCanvas node payload yellow => Sys2Proof.Machine.execDlQueueFromCanvas node payload yellow s

end Sys2Proof.Machine
end

