-- ==== Sys2Proof/Machine/Idle.lean ====
section
/-!
DEFINITION. What the block does of itself while no command waits: one cycle of its clock passes, a life-cycle transition goes on, and the
unit says over the Hedgerow what its latest changes owe (log entry 65).
-/

namespace Sys2Proof.Machine

/-- A life-cycle transition goes on (R362; log entry 188): one that is prepared is committed, its BLOCK_END answered; after its commit, step 3 and
the cold boot. -/
def lcAdvance (s : State) : State :=
  if ¬ domainOn s 2 then s
  else match s.sec.lcPrep with
    | some p => lcCommit p (endPrep p s)
    | none => if s.sec.lcDue.isSome then lcComplete s else s

/-- One idle cycle of 2.5 ns (R95, R97, R471), with the messages that a change owes (R339, R341, R343, R410). -/
def idle (s : State) : Host.Outcome State Fault Refusal := done s (speak (clockTicks 1 (lcAdvance s)))

end Sys2Proof.Machine
end

