-- ==== Sys2Proof/WellFormed.lean ====
section
/-!
DEFINITION. What makes a command well formed: every operand fits the field that carries it, and names a port, a receiver or a
list length that exists. Whether the block accepts a well-formed command is for its meaning to say.
-/

namespace Sys2Proof

/-- A number fits a field of `n` bits. -/
def fits (n v : Nat) : Bool := decide (v < 2 ^ n)

/-- A field of exactly `n` octets. -/
def lenIs (n : Nat) (o : Octets) : Bool := o.length == n

/-- An Ethernet port: ETH_0 or ETH_1 (R431). -/
def isPort (p : Nat) : Bool := decide (p < 2)

/-- A mailbox receiver's code (R441). -/
def isReceiver (r : Nat) : Bool := decide (r < 5)

/-- An object address (R78). -/
def Addr.wf (a : Addr) : Bool := fits 16 a.idx && fits 8 a.sub && fits 32 a.row

/-- An ODAP header (Table 04-7). -/
def OdapReq.wf (q : OdapReq) : Bool :=
  fits 8 q.version && fits 16 q.flags && fits 32 q.rid && fits 32 q.txn && fits 16 q.bodyLen

/-- A ClientHello arrives on the field network or the service UART (R74). -/
def ClientHello.wf (h : ClientHello) : Bool := decide (h.transport < 2) && isPort h.eth

/-- An ASN_EPOCH value (R115). -/
def Epoch.wf (e : Epoch) : Bool := fits 40 e.asn0 && fits 64 e.secs && fits 32 e.nanos && fits 8 e.code

/-- A Hedgerow envelope (Table 14-1). -/
def Env.wf (e : Env) : Bool :=
  fits 8 e.version && fits 4 e.hops && fits 8 e.keyId && fits 16 e.domain && fits 16 e.src && fits 16 e.dst &&
    fits 16 e.region && fits 32 e.epoch && lenIs 8 e.unit && fits 64 e.seq && isPort e.port

/-- A HEARTBEAT body (Table 14-3). -/
def Heartbeat.wf (b : Heartbeat) : Bool := fits 8 b.mode && fits 8 b.flags && fits 32 b.lsaSeq

/-- An LSA body (Table 14-4). -/
def LsaBody.wf (b : LsaBody) : Bool := fits 16 b.origin && lenIs 8 b.serial && fits 32 b.seq && fits 8 b.mode

/-- A TAKEOVER or HANDOVER body (Table 14-5). -/
def MoveBody.wf (b : MoveBody) : Bool := fits 16 b.region && fits 32 b.newEpoch && lenIs 8 b.newHolder && fits 40 b.eff

/-- A MIRROR_DELTA body (Table 14-6). -/
def DeltaBody.wf (b : DeltaBody) : Bool := b.recs.all (fun r => fits 17 r.node) && b.beaconFc.length == 4

/-- A part of a GLAZE_LIST (Table 11-1). -/
def ListPart.wf (p : ListPart) : Bool := p.epoch.wf && decide (p.part < p.parts)

/-- A received frame: the PHR gives at most 2,047 octets (R165). -/
def RxFrame.wf (f : RxFrame) : Bool := decide (f.psdu.length ≤ 2047) && fits 8 f.lq

/-- The instant of a preamble has 32 bits. -/
def PreambleSeen.wf (p : PreambleSeen) : Bool := fits 32 p.offsetNs

/-- The engine of a hunt has 8 bits. -/
def HuntSeen.wf (h : HuntSeen) : Bool := fits 8 h.eng

/-- The instant of a watch's detection has 32 bits. -/
def WatchSeen.wf (w : WatchSeen) : Bool := fits 32 w.detNs

/-- The frame of a reception has the widths of its fields. -/
def Reception.wf (r : Reception) : Bool := r.frame.wf

/-- A GLAZE_FRAME body (Table 11-3). -/
def GlazeFrame.wf (f : GlazeFrame) : Bool := fits 40 f.asn && fits 16 f.entry && decide (f.psdu.length ≤ 2047) && f.rx.wf

/-- An Ethernet frame. -/
def EthFrame.wf (f : EthFrame) : Bool := fits 48 f.dst && fits 48 f.src && decide (f.kind < 5)

/-- An IEEE 1588 message: it arrives at a port. -/
def PtpMsg.wf (m : PtpMsg) : Bool := isPort m.port && decide (m.transport < 2) && fits 16 m.seq && fits 8 m.domain

/-- A Gesso request (Table 16-1): it comes from a mailbox receiver. -/
def GessoReq.wf (g : GessoReq) : Bool := isReceiver g.caller && fits 16 g.handle

/-- A request that a peer carries. -/
def PeerOp.wf : PeerOp → Bool
  | .read a => a.wf
  | .write a ty _ => a.wf && fits 8 ty
  | .blockStart a dir size => a.wf && fits 8 dir && fits 32 size
  | .blockSeg block seg _ => fits 16 block && fits 32 seg
  | .blockEnd block _ => fits 16 block
  | .blockAbort block => fits 16 block
  | .txnBegin => true
  | .txnCommit _ => true
  | .txnAbort => true
  | .subscribe kind periodMs minGapMs evtLo evtHi a =>
    fits 8 kind && fits 32 periodMs && fits 16 minGapMs && fits 8 evtLo && fits 8 evtHi && a.wf
  | .unsubscribe sub => fits 16 sub
  | .notifyAck sub seq => fits 16 sub && fits 32 seq

/-- A well-formed command. -/
def Instr.wf : Instr → Bool
  | .read q a => q.wf && a.wf
  | .write q a ty _ => q.wf && a.wf && fits 8 ty
  | .blockStart q a dir size => q.wf && a.wf && fits 8 dir && fits 32 size
  | .blockSeg q block seg _ => q.wf && fits 16 block && fits 32 seg
  | .blockEnd q block _ => q.wf && fits 16 block
  | .blockAbort q block => q.wf && fits 16 block
  | .txnBegin q => q.wf
  | .txnCommit q _ => q.wf
  | .txnAbort q => q.wf
  | .subscribe q kind periodMs minGapMs evtLo evtHi a => q.wf && fits 8 kind && fits 32 periodMs && fits 16 minGapMs && fits 8 evtLo && fits 8 evtHi && a.wf
  | .unsubscribe q sub => q.wf && fits 16 sub
  | .notifyAck q sub seq => q.wf && fits 16 sub && fits 32 seq
  | .odapRuntMessage session len => fits 32 session && fits 16 len
  | .dtlsHandshake hello => hello.wf
  | .subscriptionPeriodTimer sub => fits 16 sub
  | .subscriptionGapExpiry sub => fits 16 sub
  | .notifyRetransmitTimer sub => fits 16 sub
  | .sessionIdleExpiry session => fits 32 session
  | .txnIdleExpiry txn => fits 32 txn
  | .blockIdleExpiry session block => fits 32 session && fits 16 block
  | .replayCacheExpiry session rid => fits 32 session && fits 32 rid
  | .modeRequestWrite q target => q.wf && fits 8 target
  | .modeChangeCancel q => q.wf
  | .modeChangeEffective => true
  | .modeChangeAbandon => true
  | .endOfServiceComplete => true
  | .m1PowerDown => true
  | .rebootWrite q value => q.wf && fits 32 value
  | .rebootAssert => true
  | .stepApplyRequest q => q.wf
  | .stepApplyAbort q => q.wf
  | .clockStepApply => true
  | .timeSetWrite q seconds => q.wf && fits 64 seconds
  | .timeSourceWrite q source => q.wf && fits 8 source
  | .asnEpochWrite q epoch => q.wf && epoch.wf
  | .chMapWrite q pan _ => q.wf && fits 8 pan
  | .mapChangeEffective pan => fits 8 pan
  | .nodeRegWrite q row _ => q.wf && fits 32 row
  | .nodeDeregister q row => q.wf && fits 32 row
  | .nodeRejoinWrite q node => q.wf && fits 32 node
  | .keyDestroyWrite q handle => q.wf && fits 16 handle
  | .fwActivateMark q => q.wf
  | .fwActivateReset q => q.wf
  | .fwActivateCancel q => q.wf
  | .fwConfirm q => q.wf
  | .fwReject q => q.wf
  | .fwTrialTimer => true
  | .attestChallengeWrite q _ => q.wf
  | .calibRequestWrite q item target => q.wf && fits 8 item && fits 8 target
  | .calibRequestForce q item target => q.wf && fits 8 item && fits 8 target
  | .calibCancelWrite q row => q.wf && fits 32 row
  | .recoverRequestWrite q fn inst step => q.wf && fits 8 fn && fits 8 inst && fits 8 step
  | .recoverRequestAssert => true
  | .recoveryReleaseWrite q => q.wf
  | .feedSwitchWrite q train => q.wf && fits 8 train
  | .feedClearWrite q train => q.wf && fits 8 train
  | .tamperCfgWrite q input _ => q.wf && fits 8 input
  | .tamperClearWrite q => q.wf
  | .hrHandoverWrite q region => q.wf && fits 16 region
  | .hrHandoverCancel q => q.wf
  | .captureCfgWrite q _ => q.wf
  | .captureStart => true
  | .captureStop => true
  | .sgCentreWrite q _ hz => q.wf && fits 32 hz
  | .gateListSwitch port => isPort port
  | .dlProfileWrite q row _ => q.wf && fits 32 row
  | .nodeDlProfileWrite q node profile => q.wf && fits 32 node && fits 8 profile
  | .meterWrite q row _ => q.wf && fits 32 row
  | .shaperWrite q row _ => q.wf && fits 32 row
  | .dwellRuleWrite q row _ => q.wf && fits 32 row
  | .staticTableWrite q _ row _ => q.wf && fits 32 row
  | .slotStart => true
  | .preparationWindowOpen prepUs _ bad => fits 32 prepUs && bad.all (fits 32)
  | .easelOverrunLimit => true
  | .receiveWindowOpen eng => fits 8 eng
  | .preambleDetect eng seen _ => fits 8 eng && seen.wf
  | .aerialHoldEnd eng _ _ => fits 8 eng
  | .sfdFound eng bits _ offsetNs _ => fits 8 eng && fits 32 bits && fits 32 offsetNs
  | .huntSpanEnd hunt => hunt.wf
  | .phrDecoded eng len _ _ _ => fits 8 eng && fits 16 len
  | .fadeAbandon eng _ _ => fits 8 eng
  | .watchTakeover eng w bits offsetNs _ => fits 8 eng && w.wf && fits 32 bits && fits 32 offsetNs
  | .frameEnd eng r => fits 8 eng && r.wf
  | .receiveWindowClose eng => fits 8 eng
  | .engineSelfTestComplete eng _ => fits 8 eng
  | .engineInternalFault eng => fits 8 eng
  | .measurementBlockEnd path _ _ _ => fits 8 path
  | .carrierRampStart idx => fits 8 idx
  | .burstEnd idx => fits 8 idx
  | .synthLockLoss syn => fits 8 syn
  | .synthRelockAttemptEnd syn _ => fits 8 syn
  | .calItemComplete item path _ => fits 8 item && fits 8 path
  | .dpdUpdate set _ re im => fits 8 set && re.all (fun x => decide (x.natAbs ≤ 2 ^ 15)) && im.all (fun x => decide (x.natAbs ≤ 2 ^ 15))
  | .dwellBucketAdvance => true
  | .ccmLaneFrame lane => fits 8 lane
  | .uplinkRelease node => fits 32 node
  | .wakeFollowupMissed node => fits 32 node
  | .joinDirectiveExpiry node => fits 32 node
  | .nodeSupervisionExpiry node => fits 32 node
  | .quarantineEnd node => fits 32 node
  | .sync m => m.wf
  | .followUp m => m.wf
  | .delayReq m => m.wf
  | .delayResp m => m.wf
  | .announce m => m.wf
  | .pdelayReq m => m.wf
  | .pdelayResp m => m.wf
  | .pdelayRespFollowUp m => m.wf
  | .ptpMessageTimer port kind => isPort port && fits 8 kind
  | .announceReceiptTimeout port => isPort port
  | .ppsInEdge _ => true
  | .ppsOutSecond => true
  | .sourceTimeout => true
  | .registerWriteGeneric master addr value => fits 8 master && fits 32 addr && fits 32 value
  | .cipherLockRead master => fits 8 master
  | .cipherLockRelease master => fits 8 master
  | .cipherKeyWrite master handle => fits 8 master && fits 16 handle
  | .cipherCmdStart master cmd => fits 8 master && fits 32 cmd
  | .cipherCmdAbort master => fits 8 master
  | .cipherCommandComplete _ => true
  | .cipherLockIdleExpiry => true
  | .mailboxPush snd rcv _ value => isReceiver snd && isReceiver rcv && fits 64 value
  | .mailboxPushEnd snd rcv _ value => isReceiver snd && isReceiver rcv && fits 64 value
  | .dbRingWrite snd rcv value => isReceiver snd && isReceiver rcv && fits 32 value
  | .mailboxPop rcv snd => isReceiver rcv && isReceiver snd
  | .rxLevelWrite rcv snd value => isReceiver rcv && isReceiver snd && fits 32 value
  | .doorbellWrite rcv _ value => isReceiver rcv && fits 32 value
  | .owSetWrite master => fits 8 master
  | .owTrimWrite master value => fits 8 master && fits 32 value
  | .owFeedWrite master value => fits 8 master && fits 32 value
  | .makeSealWrite master => fits 8 master
  | .kekNonceWrite master nonce => fits 8 master && lenIs 32 nonce
  | .countdownArm master ch value => fits 8 master && fits 8 ch && fits 32 value
  | .owClockShadowRead master reg => fits 8 master && fits 8 reg
  | .owShadowTimeout master => fits 8 master
  | .gessoKeyOp g _ => g.wf
  | .gessoLaneBind g pan => g.wf && fits 8 pan
  | .gessoKeyProvision g _ row _ => g.wf && fits 32 row
  | .gessoSign g _ _ => g.wf
  | .gessoAttest g => g.wf
  | .gessoLifeCycle g _ => g.wf
  | .gessoFwControl g op => g.wf && fits 8 op
  | .glazeListSend => true
  | .glazeList e p => e.wf && p.wf
  | .glazeListDeadline owner sf => fits 16 owner && fits 40 sf
  | .glazeFrame e f => e.wf && f.wf
  | .glazeReqSend asn => fits 40 asn
  | .glazeReq e asn reqSeq _ => e.wf && fits 40 asn && fits 16 reqSeq
  | .glazeAns e asn reqSeq entry kind seg nseg _ rx => e.wf && fits 40 asn && fits 16 reqSeq && fits 16 entry && fits 8 kind && fits 32 seg && fits 16 nseg && rx.wf
  | .glazeReqTimeout partner reqSeq => fits 16 partner && fits 16 reqSeq
  | .glazeRetentionExpiry asn => fits 40 asn
  | .glazeDecision asn node _ => fits 40 asn && fits 32 node
  | .glazeRecordDiscard owner asn => fits 16 owner && fits 40 asn
  | .heartbeat e b => e.wf && b.wf
  | .helloTimer => true
  | .suspectTimeout addr => fits 32 addr
  | .isolationTimeout => true
  | .lsa e b => e.wf && b.wf
  | .lsaRefreshTimer => true
  | .lsaAgeExpiry origin => fits 16 origin
  | .claim e addr epoch => e.wf && fits 32 addr && fits 32 epoch
  | .defend e addr epoch mode serial => e.wf && fits 32 addr && fits 32 epoch && fits 8 mode && lenIs 8 serial
  | .claimTimer => true
  | .addressListenEnd => true
  | .dead e addr epoch => e.wf && fits 32 addr && fits 32 epoch
  | .takeover e b => e.wf && b.wf
  | .fence e region epoch holder => e.wf && fits 16 region && fits 32 epoch && lenIs 8 holder
  | .handover e b => e.wf && b.wf
  | .takeoverEffective => true
  | .mirrorSnapshot e seg nseg _ _ => e.wf && fits 32 seg && fits 16 nseg
  | .mirrorDelta e b => e.wf && b.wf
  | .mirrorAck e region status digest => e.wf && fits 16 region && fits 16 status && lenIs 32 digest
  | .mirrorDeltaSend => true
  | .handoverQuiesce => true
  | .finalDeltaSend => true
  | .handoverEffective => true
  | .shadowWaitExpiry node => fits 32 node
  | .odapReq e q op => e.wf && q.wf && op.wf
  | .odapRsp e rid status _ => e.wf && fits 32 rid && fits 16 status
  | .ethFrameReceived port f => isPort port && f.wf
  | .egressSelect port => isPort port
  | .ethLinkChange port _ speed => isPort port && fits 32 speed
  | .tableInsert tag flags value next _ => fits 8 tag && fits 8 flags && fits 32 value && fits 48 next
  | .tableDelete tag _ => fits 8 tag
  | .tableLookup tag _ bad => fits 8 tag && bad.all (fits 32)
  | .scrubBucket _ => true
  | .mainSupplyValid => true
  | .uartFrameReceived _ _ _ => true
  | .gpioWake pin _ => fits 8 pin
  | .countdownFire ch => fits 8 ch
  | .coldBoot _ _ => true
  | .warmResetAssert _ _ => true
  | .easelRejoin => true
  | .canvasServiceResume => true
  | .powerCycle => true
  | .pwrCycleFallback => true
  | .brownout => true
  | .feedDeviationDecision rail _ => fits 8 rail
  | .feedGapEnd => true
  | .standbyOutOfWindow rail mv => fits 8 rail && fits 16 mv
  | .owSupplyChange _ => true
  | .sealBreak => true
  | .vbatLowCheck mv => fits 16 mv
  | .rtcTrimCheck => true
  | .tamperInputActive input => fits 8 input
  | .sensorSample _ _ _ _ => true
  | .thermalTrip sensor _ => fits 8 sensor
  | .domainExcursion domain mv => fits 8 domain && fits 16 mv
  | .shedWatchdogExpiry _ => true
  | .easelWatchdogExpiry => true
  | .canvasCoreWatchdogExpiry core => fits 8 core
  | .gessoWatchdogExpiry => true
  | .operationOverdue fn => fits 8 fn
  | .storePoisonBurst => true
  | .l1RetryTimer fn inst _ => fits 8 fn && fits 8 inst
  | .l2Complete fn inst => fits 8 fn && fits 8 inst
  | .logPersistTimer => true
  | .logEntryCopy => true
  | .cdcStaleCapture master addr _ => fits 8 master && fits 32 addr
  | .pcieReset => true
  | .flashPageFetch part page _ => fits 8 part && fits 32 page
  | .patchTrap entry => fits 16 entry
  | .alignedCleared => true
  | .tamperInputRelease input => fits 8 input
  | .pcieLinkUp gen width => fits 8 gen && fits 8 width
  | .digestRingAdvance => true
  | .gateEntryBoundary port => isPort port
  | .shaperTokensRefilled port cls => isPort port && fits 8 cls
  | .dlQueueFromCanvas _ _ _ => true

end Sys2Proof
end

