-- ==== Sys2Proof/Safety.lean ====
section
/-!
DEFINITION. What a safe run of the block is, in the terms the statements use: memory and object store in their canonical form, the
fuses never unblown, and what a step answers.
-/

namespace Sys2Proof.Machine

/-- The outcome is a next state of which a property holds. -/
def Gives (o : Host.Outcome State Fault Refusal) (P : State → Prop) : Prop := ∃ t, o = .next t ∧ P t

/-- The stores are in their canonical form: addresses rising, and nothing listed that reads the same unlisted. -/
def StoresOk (s : State) : Prop := Memory.wf s = true ∧ srising none s.od = true

/-- The chip holds at least what another record of fuses holds: the same product, every revocation bit of it set, and no counter
below it (R52, R53, R390, R392). -/
def FusesAtLeast (f c : Chip) : Prop :=
  c.package = f.package ∧ c.channels = f.channels ∧ c.fabric = f.fabric ∧ c.grade = f.grade ∧ c.serial = f.serial ∧
    c.stepping = f.stepping ∧ c.rootDigests = f.rootDigests ∧ f.rootRevoked &&& c.rootRevoked = f.rootRevoked ∧
    c.svn.length = f.svn.length ∧ (∀ g, f.svn.getD g 0 ≤ c.svn.getD g 0) ∧ c.lcFuses.length = f.lcFuses.length ∧
    ∀ g, ((f.lcFuses.getD g (false, false)).1 = true → (c.lcFuses.getD g (false, false)).1 = true) ∧
      ((f.lcFuses.getD g (false, false)).2 = true → (c.lcFuses.getD g (false, false)).2 = true)

/-- Every command that waits is well formed. -/
def QueueOk (s : State) : Prop := ∀ c ∈ s.pending, c.wf = true

/-! ### What a command leaves alone -/

/-- The parts of the state that a command may leave alone: every field but the queue, what was sent, and what subscriptions keep of it. -/
inductive Part
  | chip | ctl | clk | srv | rf | pal | pri | nod | eas | gla | tre | rid | hed | sec | fw | shd | host | pwr | od | mem | free
  deriving DecidableEq, Repr

/-- A part is the same in two states. Of the server that says: all but its subscriptions and the messages that wait for the backhaul, which
follow every change of an object (R90). -/
def Part.same : Part → State → State → Prop
  | .chip, s, t => t.chip = s.chip
  | .ctl, s, t => t.ctl = s.ctl
  | .clk, s, t => t.clk = s.clk
  | .srv, s, t => { t.srv with subs := [], outbox := [], peerNotes := [] } = { s.srv with subs := [], outbox := [], peerNotes := [] }
  | .rf, s, t => t.rf = s.rf
  | .pal, s, t => t.pal = s.pal
  | .pri, s, t => t.pri = s.pri
  | .nod, s, t => t.nod = s.nod
  | .eas, s, t => t.eas = s.eas
  | .gla, s, t => t.gla = s.gla
  | .tre, s, t => t.tre = s.tre
  | .rid, s, t => t.rid = s.rid
  | .hed, s, t => t.hed = s.hed
  | .sec, s, t => t.sec = s.sec
  | .fw, s, t => t.fw = s.fw
  | .shd, s, t => t.shd = s.shd
  | .host, s, t => t.host = s.host
  | .pwr, s, t => t.pwr = s.pwr
  | .od, s, t => t.od = s.od
  | .mem, s, t => t.mem = s.mem
  | .free, s, t => t.free = s.free

/-- Nothing but the parts named differs between two states, what was sent and the subscriptions apart. -/
def OnlyChanges (ps : List Part) (s t : State) : Prop := t.pending = s.pending ∧ ∀ p, p ∉ ps → p.same s t

/-! ### Requests -/

/-- The server takes a request up and runs it: a server is up, the session exists, and admission passes (R78, R82, R83, R93). -/
abbrev TakenUp (q : OdapReq) (need : Nat) (u : Session) (s : State) : Prop :=
  s.srv.up = true ∧ findSession s q.session = some u ∧ admitReq q need u = .run

/-- A WRITE outside a transaction that the server takes up and that no check fails (R68, R81). -/
abbrev WriteAccepted (q : OdapReq) (a : Addr) (ty : Nat) (v : Octets) (u : Session) (s : State) : Prop :=
  TakenUp q (12 + v.length) u s ∧ ownTxn q (touch q.session s) = none ∧
    writeFailure (quarantineEff a v (slotE a (touch q.session s)) (touch q.session s)) u q a ty v true (q.txn != 0) []
      (touch q.session s) = none

/-- A response to a request goes out with a status and a body (Table 04-8). -/
def Answers (q : OdapReq) (op : Nat) (a : Answer) (t : State) : Prop :=
  .odap q.session { op := op, rid := q.rid, txn := q.txn, status := a.status, body := a.body } ∈ t.out

/-- A write commits: it is answered OK with an effective ASN (R68), nothing changes but the server's own records and the parts named, and a
property holds of the next state. -/
def Commits (q : OdapReq) (c : Instr) (eff : Nat) (ps : List Part) (s : State) (P : State → Prop) : Prop :=
  Gives (exec c s) (fun r => Answers q 2 (effA eff) r ∧ OnlyChanges (.srv :: ps) s r ∧ P r)

/-- A write is answered with a failure and changes nothing but the server's own records. -/
def Refuses (q : OdapReq) (c : Instr) (a : Answer) (s : State) : Prop :=
  Gives (exec c s) (fun r => Answers q 2 a r ∧ OnlyChanges [.srv] s r)

/-- The next state of a WRITE whose commit gives a state and an answer: the answer is sent and cached. -/
def afterWrite (q : OdapReq) (s : State) (r : State × Answer) : State := conclude s (respond q 2 r.2 true r.1)

/-- A commit of a STORED object: done, it makes the spare's snapshot stale (R343). -/
def storedCommit (r : State × Answer) : State × Answer :=
  if committedOk r.2 then ({ r.1 with hed := { r.1.hed with dirty := true } }, r.2) else r

/-- The commands that are ODAP requests with a response, under a header: those of Table 04-8, and the writes of objects that the command
table lists under names of their own. -/
inductive RequestOf (q : OdapReq) : Instr → Prop
  | read (a : Addr) : RequestOf q (.read q a)
  | write (a : Addr) (ty : Nat) (v : Octets) : RequestOf q (.write q a ty v)
  | blockStart (a : Addr) (dir size : Nat) : RequestOf q (.blockStart q a dir size)
  | blockSeg (block seg : Nat) (data : Octets) : RequestOf q (.blockSeg q block seg data)
  | blockEnd (block : Nat) (authOk : Bool) : RequestOf q (.blockEnd q block authOk)
  | blockAbort (block : Nat) : RequestOf q (.blockAbort q block)
  | txnBegin : RequestOf q (.txnBegin q)
  | txnCommit (authOk : Bool) : RequestOf q (.txnCommit q authOk)
  | txnAbort : RequestOf q (.txnAbort q)
  | subscribe (kind periodMs minGapMs evtLo evtHi : Nat) (a : Addr) : RequestOf q (.subscribe q kind periodMs minGapMs evtLo evtHi a)
  | unsubscribe (sub : Nat) : RequestOf q (.unsubscribe q sub)
  | modeRequestWrite (target : Nat) : RequestOf q (.modeRequestWrite q target)
  | modeChangeCancel : RequestOf q (.modeChangeCancel q)
  | rebootWrite (value : Nat) : RequestOf q (.rebootWrite q value)
  | stepApplyRequest : RequestOf q (.stepApplyRequest q)
  | stepApplyAbort : RequestOf q (.stepApplyAbort q)
  | timeSetWrite (seconds : Nat) : RequestOf q (.timeSetWrite q seconds)
  | timeSourceWrite (source : Nat) : RequestOf q (.timeSourceWrite q source)
  | asnEpochWrite (epoch : Epoch) : RequestOf q (.asnEpochWrite q epoch)
  | chMapWrite (pan : Nat) (map : Octets) : RequestOf q (.chMapWrite q pan map)
  | nodeRegWrite (row : Nat) (reg : Octets) : RequestOf q (.nodeRegWrite q row reg)
  | nodeDeregister (row : Nat) : RequestOf q (.nodeDeregister q row)
  | nodeRejoinWrite (node : Nat) : RequestOf q (.nodeRejoinWrite q node)
  | keyDestroyWrite (handle : Nat) : RequestOf q (.keyDestroyWrite q handle)
  | fwActivateMark : RequestOf q (.fwActivateMark q)
  | fwActivateReset : RequestOf q (.fwActivateReset q)
  | fwActivateCancel : RequestOf q (.fwActivateCancel q)
  | fwConfirm : RequestOf q (.fwConfirm q)
  | fwReject : RequestOf q (.fwReject q)
  | attestChallengeWrite (challenge : Octets) : RequestOf q (.attestChallengeWrite q challenge)
  | calibRequestWrite (item target : Nat) : RequestOf q (.calibRequestWrite q item target)
  | calibRequestForce (item target : Nat) : RequestOf q (.calibRequestForce q item target)
  | calibCancelWrite (row : Nat) : RequestOf q (.calibCancelWrite q row)
  | recoverRequestWrite (fn inst step : Nat) : RequestOf q (.recoverRequestWrite q fn inst step)
  | recoveryReleaseWrite : RequestOf q (.recoveryReleaseWrite q)
  | feedSwitchWrite (train : Nat) : RequestOf q (.feedSwitchWrite q train)
  | feedClearWrite (train : Nat) : RequestOf q (.feedClearWrite q train)
  | tamperCfgWrite (input : Nat) (cfg : Octets) : RequestOf q (.tamperCfgWrite q input cfg)
  | tamperClearWrite : RequestOf q (.tamperClearWrite q)
  | hrHandoverWrite (region : Nat) : RequestOf q (.hrHandoverWrite q region)
  | hrHandoverCancel : RequestOf q (.hrHandoverCancel q)
  | captureCfgWrite (cfg : Octets) : RequestOf q (.captureCfgWrite q cfg)
  | sgCentreWrite (tx : Bool) (hz : Nat) : RequestOf q (.sgCentreWrite q tx hz)
  | dlProfileWrite (row : Nat) (rec : Octets) : RequestOf q (.dlProfileWrite q row rec)
  | nodeDlProfileWrite (node profile : Nat) : RequestOf q (.nodeDlProfileWrite q node profile)
  | meterWrite (row : Nat) (rec : Octets) : RequestOf q (.meterWrite q row rec)
  | shaperWrite (row : Nat) (rec : Octets) : RequestOf q (.shaperWrite q row rec)
  | dwellRuleWrite (row : Nat) (rec : Octets) : RequestOf q (.dwellRuleWrite q row rec)
  | staticTableWrite (ip6 : Bool) (row : Nat) (rec : Octets) : RequestOf q (.staticTableWrite q ip6 row rec)

/-- How many octets the body of a request has: of the opcode's fields, and of the value it carries (Table 04-8, R78). -/
def bodyNeed : Instr → Nat
  | .read .. => 8
  | .write _ _ _ v => 12 + v.length
  | .blockStart .. => 16
  | .blockSeg _ _ _ data => 8 + data.length
  | .blockEnd .. => 4
  | .blockAbort .. => 4
  | .subscribe _ kind _ _ _ _ _ => if kind = 2 then 8 else 16
  | .unsubscribe .. => 2
  | .modeRequestWrite _ v => 12 + (beOct 1 v).length
  | .rebootWrite _ v => 12 + (beOct 1 v).length
  | .timeSetWrite _ v => 12 + (beOct 8 v).length
  | .timeSourceWrite _ v => 12 + (beOct 1 v).length
  | .asnEpochWrite _ e => 12 + (encodeEpoch e).length
  | .chMapWrite _ _ v => 12 + v.length
  | .nodeRegWrite _ _ v => 12 + v.length
  | .nodeDeregister .. => 28
  | .nodeRejoinWrite _ v => 12 + (beOct 4 v).length
  | .keyDestroyWrite _ v => 12 + (beOct 2 v).length
  | .attestChallengeWrite _ v => 12 + v.length
  | .calibRequestWrite .. => 16
  | .calibRequestForce .. => 16
  | .calibCancelWrite _ v => 12 + (beOct 1 v).length
  | .recoverRequestWrite .. => 15
  | .feedSwitchWrite _ v => 12 + (beOct 1 v).length
  | .feedClearWrite _ v => 12 + (beOct 1 v).length
  | .tamperCfgWrite _ _ v => 12 + v.length
  | .hrHandoverWrite _ v => 12 + (beOct 2 v).length
  | .hrHandoverCancel _ => 14
  | .captureCfgWrite _ v => 12 + v.length
  | .sgCentreWrite _ _ v => 12 + (beOct 4 v).length
  | .dlProfileWrite _ _ v => 12 + v.length
  | .nodeDlProfileWrite _ _ v => 12 + (beOct 1 v).length
  | .meterWrite _ _ v => 12 + v.length
  | .shaperWrite _ _ v => 12 + v.length
  | .dwellRuleWrite _ _ v => 12 + v.length
  | .staticTableWrite _ _ _ v => 12 + v.length
  | .txnBegin .. => 0
  | .txnCommit .. => 0
  | .txnAbort .. => 0
  | _ => 13

/-- The Hedgerow messages that pass the same checks, by their type (R342): all but ODAP_REQ, whose stale epoch is answered otherwise. -/
inductive Hears (e : Env) : Nat → Instr → Prop
  | heartbeat (b : Heartbeat) : Hears e 0x01 (.heartbeat e b)
  | lsa (b : LsaBody) : Hears e 0x02 (.lsa e b)
  | claim (addr epoch : Nat) : Hears e 0x03 (.claim e addr epoch)
  | defend (addr epoch mode : Nat) (serial : Octets) : Hears e 0x04 (.defend e addr epoch mode serial)
  | dead (addr epoch : Nat) : Hears e 0x10 (.dead e addr epoch)
  | takeover (b : MoveBody) : Hears e 0x11 (.takeover e b)
  | fence (region epoch : Nat) (holder : Octets) : Hears e 0x12 (.fence e region epoch holder)
  | handover (b : MoveBody) : Hears e 0x13 (.handover e b)
  | mirrorSnapshot (seg nseg : Nat) (data : Octets) (sigOk : Bool) : Hears e 0x20 (.mirrorSnapshot e seg nseg data sigOk)
  | mirrorDelta (b : DeltaBody) : Hears e 0x21 (.mirrorDelta e b)
  | mirrorAck (region status : Nat) (digest : Octets) : Hears e 0x22 (.mirrorAck e region status digest)
  | glazeList (p : ListPart) : Hears e 0x40 (.glazeList e p)
  | glazeFrame (f : GlazeFrame) : Hears e 0x41 (.glazeFrame e f)
  | glazeReq (a reqSeq : Nat) (entries : List Nat) : Hears e 0x42 (.glazeReq e a reqSeq entries)
  | glazeAns (a reqSeq entry kind seg nseg : Nat) (data : Octets) (rx : RxFrame) :
      Hears e 0x43 (.glazeAns e a reqSeq entry kind seg nseg data rx)
  | odapRsp (rid status : Nat) (body : Octets) : Hears e 0x51 (.odapRsp e rid status body)

end Sys2Proof.Machine
end

