-- ==== Sys2Proof/Certificates/Slice0/Obligations.lean ====
section
/-!
DEFINITION. What the provers are asked to prove: the rules of spec/ that say what a command does, stated of this model.
-/

set_option autoImplicit false

open Sys2Proof Sys2Proof.Machine

/-- For every command c and state s, step of s with c at the front of its queue is exec of c on s with the queue's rest. -/
def Obligations.StepTakesFrontCommand : Prop :=
  ∀ (c : Instr) (s : State), step { s with pending := c :: s.pending } = exec c s

/-- On an empty queue step answers a next state: one cycle of 2.5 ns has passed, a life-cycle step at work has advanced (log
entry 188) and the Hedgerow messages that a change owes have been said. That a step with no command is one cycle is the
model's choice (log entry 65). -/
def Obligations.EmptyQueueIdles : Prop :=
  ∀ s : State, s.pending = [] → step s = .next (conclude s (speak (clockTicks 1 (lcAdvance s))))

/-- Every command, in every state, answers a next state, never a fault or a refusal, and leaves the commands that wait as they
were. -/
def Obligations.EveryCommandCompletes : Prop :=
  ∀ (c : Instr) (s : State), ∃ t, exec c s = .next t ∧ t.pending = s.pending

/-- From every state, a step leaves the product's fused identity as manufactured, keeps every revocation bit that was set, lowers
no security-version counter, and keeps every waiting command well formed. -/
def Obligations.FusesOnlyBlown : Prop :=
  ∀ (f : Chip) (s t : State), FusesAtLeast f s.chip → QueueOk s → step s = .next t → FusesAtLeast f t.chip ∧ QueueOk t

/-- Right after reset the fuses are as manufactured, the queue is empty and so well formed, and memory and object store are in
their canonical form. The reset contents are the model's choice where the spec gives none (log entries 2 and 25). -/
def Obligations.ResetMeetsInvariants : Prop :=
  FusesAtLeast State.reset.chip State.reset.chip ∧ QueueOk State.reset ∧ StoresOk State.reset ∧ State.reset.pending = []

/-- After reset the unit is in M0 with D0 alone powered, the clock reads zero and is INVALID, no ODAP server runs, every channel
holds 8 credits with an empty FIFO and LEVEL 1 on WORDS, every doorbell and mask is 0, the cipher lock is free with STATE
idle, no shadow is held, SHADOW_LATE is 0, and TRAIN, the feed marks and the switch-over count are zero. -/
def Obligations.ResetRegisterValues : Prop :=
  State.reset.ctl.mode = .m0 ∧ State.reset.ctl.domains = .on :: List.replicate 11 .off ∧ State.reset.clk.now = 0 ∧ State.reset.clk.state = .invalid ∧ State.reset.clk.valid = false ∧
    State.reset.srv.up = false ∧
    (∀ r, r < 5 → ∀ d, d < 5 → (chan State.reset r d).credits = 8 ∧ (chan State.reset r d).fifo = [] ∧ (chan State.reset r d).level = 1 ∧ (chan State.reset r d).unit = false) ∧
    (∀ r, r < 5 → (page State.reset r).doorbell = 0 ∧ (page State.reset r).mask = 0) ∧
    State.reset.sec.cipher.owner = 0 ∧ State.reset.sec.cipher.st = 0 ∧ State.reset.sec.cipher.key = none ∧ State.reset.pwr.shadows = [none, none] ∧
    State.reset.pwr.shadowLate = false ∧ State.reset.pwr.train = 0 ∧ State.reset.pwr.deviated = [false, false] ∧ State.reset.pwr.failed = [false, false] ∧ State.reset.pwr.switches = 0

/-- A READ that the server takes up and whose address passes its checks completes. Of an object that is no DOMAIN it is answered
OK with the body of Table 04-8: STATE, TYPE, the length, EFF_ASN and the value, which is the value in effect where nothing is
pending, the value in effect or, with PENDING set, the pending one where a write is pending, and the staged one in the
transaction that staged it; nothing but the server's own part changes. Subindex 0 reads as an U8 count. A DOMAIN is answered
with USE_BLOCK. -/
def Obligations.ReadReturnsValueInEffect : Prop :=
  ∀ (q : OdapReq) (a : Addr) (u : Session) (s : State), TakenUp q 8 u s →
    let t := touch q.session s
    firstFailure (addrChecks u.role false a t ++ txnChecks q t ++ failIf (readDenied u a t) stAccessDenied (roleNumber u.role)) = none →
    (∀ (d : ObjDesc), a.sub ≠ 0 → odFind a.idx a.sub = some d → d.ty ≠ .domain →
      let body (state eff : Nat) (v : Octets) : Octets := beOct 1 state ++ beOct 1 d.ty.code ++ beOct 2 v.length ++ beOct 8 eff ++ v
      (pendingOf t a = none → (ownTxn q t).bind (fun x => stagedValue x a) = none →
        Gives (exec (.read q a) s) (fun r => Answers q 1 (okA (body 0 effNone (odRead t a.idx a.sub a.row))) r ∧ OnlyChanges [.srv] s r)) ∧
      (∀ w, pendingOf t a = some w → (ownTxn q t).bind (fun x => stagedValue x a) = none →
        Gives (exec (.read q a) s) (fun r => OnlyChanges [.srv] s r ∧
          Answers q 1 (okA (body 1 (w.eff.getD effNone) (if bit q.flags 2 then w.val else odRead t a.idx a.sub a.row))) r)) ∧
      (∀ v, pendingOf t a = none → (ownTxn q t).bind (fun x => stagedValue x a) = some v →
        Gives (exec (.read q a) s) (fun r => Answers q 1 (okA (body 0 effNone v)) r ∧ OnlyChanges [.srv] s r))) ∧
    (a.sub = 0 → exec (.read q a) s = .next (conclude s (respond q 1 (okA (readBody q a 2 t)) true t))) ∧
    (∀ d, a.sub ≠ 0 → odFind a.idx a.sub = some d → d.ty ≠ .domain →
      exec (.read q a) s = .next (conclude s (respond q 1 (okA (readBody q a d.ty.code t)) true t))) ∧
    (∀ d, a.sub ≠ 0 → odFind a.idx a.sub = some d → d.ty = .domain →
      exec (.read q a) s = .next (conclude s (respond q 1 (errA stUseBlock) true t)))

/-- A WRITE that the server takes up, of an object that is no DOMAIN, completes. Where no check fails and its header names no
open transaction, its value commits at its application point; where the header names one with room, the value is staged there
with its reserved bits clear, to be committed with it, and nothing but the server's own part changes; where a check fails,
the answer is that failure and nothing else changes. -/
def Obligations.WriteCommitsOrStages : Prop :=
  ∀ (q : OdapReq) (a : Addr) (ty : Nat) (v : Octets) (u : Session) (s : State) (d : ObjDesc), TakenUp q (12 + v.length) u s →
    odFind a.idx a.sub = some d → d.ty ≠ .domain → ty ≠ 0x10 →
    let t := touch q.session s
    let e := quarantineEff a v (slotE a t) t
    (writeFailure e u q a ty v true (q.txn != 0) [] t = none → ownTxn q t = none →
      exec (.write q a ty v) s = .next (conclude s (respond q 2 (commitWrite u a v true t).2 true (commitWrite u a v true t).1))) ∧
    (∀ x, ownTxn q t = some x → writeFailure e u q a ty v true (q.txn != 0) (unstage a x).staged t = none →
      plainWrites (stageWrite ⟨a.idx, a.sub, a.row, masked d v⟩ x) ≤ 1024 →
      Gives (exec (.write q a ty v) s) (fun r => Answers q 2 (effA effStaged) r ∧ OnlyChanges [.srv] s r ∧
        r = conclude s (respond q 2 (effA effStaged) true (modTxn x.id (stageWrite ⟨a.idx, a.sub, a.row, masked d v⟩) t)))) ∧
    (∀ st y, writeFailure e u q a ty v true (q.txn != 0) (((ownTxn q t).map (fun x => (unstage a x).staged)).getD []) t = some (st, y) →
      Gives (exec (.write q a ty v) s) (fun r => Answers q 2 (errA st y) r ∧ OnlyChanges [.srv] s r ∧
        r = conclude s (respond q 2 (errA st y) true t)))

/-- A WRITE of an IMMEDIATE object for which no chapter states a commit or an effect of its own, taken up and accepted outside a
transaction, completes; after it the object's row reads as the value written with its reserved octets clear, every other row
of every object reads as before, and nothing changes but the object store, the server's own part and, for a STORED object,
the mark that the spare's snapshot is stale. -/
def Obligations.ImmediateWriteTakesEffect : Prop :=
  ∀ (q : OdapReq) (a : Addr) (ty : Nat) (v : Octets) (u : Session) (s : State) (d : ObjDesc), WriteAccepted q a ty v u s → StoresOk s →
    odFind a.idx a.sub = some d → d.ty ≠ .domain → d.app = .immediate →
    ownerCommit u a (masked d v) true (touch q.session s) = none →
    (∀ x, takeEffect a.idx a.sub a.row (masked d v) x = odPut a.idx a.sub a.row (masked d v) x) →
    Gives (exec (.write q a ty v) s) (fun t => odGet t a.idx a.sub a.row = masked d v ∧ Answers q 2 (effA (effNow s)) t ∧
      (∀ i b r, odKey i b r ≠ odKey a.idx a.sub a.row → odGet t i b r = odGet s i b r) ∧
      (d.pers = .stored → t.hed = { s.hed with dirty := true }) ∧ (d.pers ≠ .stored → t.hed = s.hed) ∧ OnlyChanges [.srv, .od, .hed] s t)

/-- For every kind of request with a response, a well-formed request whose REQUEST_ID is in its session's cache is not executed:
the cached response goes out again with DUPLICATE set, and nothing else changes but what any message on the session does. -/
def Obligations.ReplayIsNotExecutedAgain : Prop :=
  ∀ (q : OdapReq) (u : Session) (r : Response) (s : State), s.srv.up = true → findSession s q.session = some u →
    ∀ c, RequestOf q c → admitReq q (bodyNeed c) u = .replay r →
    Gives (exec c s) (fun t => .odap q.session { r with dup := true } ∈ t.out ∧ OnlyChanges [.srv] s t ∧
      t = conclude s (emit (.odap q.session { r with dup := true }) (touch q.session s)))

/-- A request of any kind that is malformed is answered with FORMAT_ERROR and the DETAIL of the first of its three header checks,
or else of a body that does not fit its opcode; one whose REQUEST_ID is not in the cache and not above the highest seen is
answered with STALE_REQUEST and that REQUEST_ID as DETAIL. In both cases nothing changes but what any message on the session
changes. -/
def Obligations.StaleAndMalformedRequestsAreRefused : Prop :=
  ∀ (q : OdapReq) (u : Session) (s : State), s.srv.up = true → findSession s q.session = some u → q.queueFull = false →
    q.outstanding < 64 →
    (∀ c x, RequestOf q c → formFault q (bodyNeed c) = some x →
      Gives (exec c s) (fun t => OnlyChanges [.srv] s t ∧ ∃ op, Answers q op (errA stFormatError x) t ∧
        t = conclude s (respond q op (errA stFormatError x) false (touch q.session s)))) ∧
    (∀ c h, RequestOf q c → formFault q (bodyNeed c) = none → u.cache.find? (fun e => e.rid == q.rid) = none → u.highest = some h →
      ridAbove q.rid h = false →
      Gives (exec c s) (fun t => OnlyChanges [.srv] s t ∧ ∃ op, Answers q op (errA stStaleRequest h) t ∧
        t = conclude s (respond q op (errA stStaleRequest h) false (touch q.session s)))) ∧
    (∀ need, (q.version ≠ 1 → formFault q need = some 0) ∧
      (q.version = 1 → q.len < 16 → formFault q need = some q.len) ∧
      (q.version = 1 → 16 ≤ q.len → (1136 < q.bodyLen ∨ q.bodyLen ≠ q.len - 16) → formFault q need = some 14) ∧
      (q.version = 1 → 16 ≤ q.len → q.bodyLen ≤ 1136 → q.bodyLen = q.len - 16 → q.bodyLen ≠ need →
        formFault q need = some (16 + min q.bodyLen need)) ∧
      (q.version = 1 → 16 ≤ q.len → q.bodyLen ≤ 1136 → q.bodyLen = q.len - 16 → q.bodyLen = need → formFault q need = none))

/-- The failure a request is answered with is one of its failed checks, none of the others comes before it in the order
FORMAT_ERROR, STALE_REQUEST, NO_SUCH_OBJECT, UNSUPPORTED, ACCESS_DENIED, INVALID_STATE, TYPE_MISMATCH, OUT_OF_RANGE,
CONFLICT, the owning chapter's, and there is none only where no check failed. -/
def Obligations.FirstFailureFollowsOrder : Prop :=
  (∀ l : List (Nat × Nat), firstFailure l = none → l = []) ∧
  (∀ (l : List (Nat × Nat)) f, firstFailure l = some f → f ∈ l ∧ ∀ g ∈ l, statusRank f.1 ≤ statusRank g.1) ∧
  [stFormatError, stStaleRequest, stNoSuchObject, stUnsupported, stAccessDenied, stInvalidState, stTypeMismatch, stOutOfRange,
    stConflict, stTooLate].map statusRank = List.range 10

/-- The four block-transfer requests, taken up, complete. BLOCK_START of a DOMAIN that passes its checks opens a transfer under
the session's next BLOCK_ID, which rises modulo 65,536, and answers that identifier and the size; a read keeps its snapshot
from that moment. BLOCK_SEG of a read with fewer than 8 outstanding serves octets 1,024 SEG on of the snapshot; a segment of
a write that is new, within the window and of the right length is kept. BLOCK_END of a read ends the transfer; of a complete
write it acts as the WRITE of its value, in the transaction of its header or else of its start (log entry 174), and where
that is accepted the transfer ends; that of a life-cycle change is owed its answer (log entry 188). BLOCK_ABORT of an open
transfer ends it with OK, without effect. -/
def Obligations.BlockTransfersRun : Prop :=
  ∀ (q : OdapReq) (u : Session) (s : State),
    let t := touch q.session s
    let ended (r : State) (block : Nat) : Prop := findBlock r u.id block = none
    firstFailure (txnChecks q t) = none →
    (∀ (a : Addr) (dir size : Nat) (t1 : State), TakenUp q 16 u s → dir < 2 → (dir = 1 → size ≤ domainMax a.idx a.sub) →
      firstFailure (addrChecks u.role (dir != 0) a t ++ failIf (!((odFind a.idx a.sub).map (·.ty) == some .domain)) stTypeMismatch ++
        txnChecks q t ++ failIf (readDenied u a t) stAccessDenied (roleNumber u.role)) = none →
      (t.srv.blocks.filter (fun b => b.session == u.id)).length < 2 →
      (if dir = 1 then ownerBlockStart a size t else (t, none)) = (t1, none) →
      let total := if dir = 0 then (domainValue a t).length else size
      let b : Block := { session := u.id, id := u.nextBlock, idx := a.idx, sub := a.sub, row := a.row, isWrite := dir == 1, size := total
                         txn := q.txn, snapshot := if dir = 0 then domainValue a t else [], lastMsg := t.clk.elapsed }
      Gives (exec (.blockStart q a dir size) s) (fun r => Answers q 0x10 (okA (beOct 2 u.nextBlock ++ [0, 0] ++ beOct 4 total)) r ∧
        r.srv.blocks = t1.srv.blocks ++ [b] ∧
        r = conclude s (respond q 0x10 (okA (beOct 2 u.nextBlock ++ [0, 0] ++ beOct 4 total)) true
          (modSession u.id (fun u => { u with nextBlock := (u.nextBlock + 1) % 65536 })
            { t1 with srv := { t1.srv with blocks := t1.srv.blocks ++ [b] } })))) ∧
    (∀ (block seg : Nat) (b : Block), TakenUp q 8 u s → findBlock t u.id block = some b → b.isWrite = false → seg < segCount b.size →
      q.segsOut < 8 →
      Gives (exec (.blockSeg q block seg []) s) (fun r => Answers q 0x11 (okA ((b.snapshot.drop (1024 * seg)).take 1024)) r ∧
        OnlyChanges [.srv] s r ∧
        r = conclude s (respond q 0x11 (okA ((b.snapshot.drop (1024 * seg)).take 1024)) true (modBlock u.id block id t)))) ∧
    (∀ (block seg : Nat) (data : Octets) (b : Block), TakenUp q (8 + data.length) u s → findBlock t u.id block = some b → b.isWrite = true →
      b.segs.find? (fun p => p.1 == seg) = none → seg < segCount b.size → seg < lowestMissing b + 8 →
      data.length = (if seg + 1 < segCount b.size then 1024 else b.size - 1024 * seg) →
      Gives (exec (.blockSeg q block seg data) s) (fun r => Answers q 0x11 (okA []) r ∧ OnlyChanges [.srv] s r ∧
        findBlock r u.id block = some { b with segs := b.segs ++ [(seg, data)], lastMsg := s.clk.elapsed })) ∧
    (∀ (block : Nat) (authOk : Bool) (b : Block), TakenUp q 4 u s → findBlock t u.id block = some b → b.isWrite = false →
      Gives (exec (.blockEnd q block authOk) s) (fun r => Answers q 0x12 (okA []) r ∧ ended r block ∧ OnlyChanges [.srv] s r)) ∧
    (∀ (block : Nat) (authOk : Bool) (b : Block), TakenUp q 4 u s → findBlock t u.id block = some b → b.isWrite = true →
      segCount b.size ≤ lowestMissing b →
      let txn := if q.txn = 0 then b.txn else q.txn
      let r1 := writeCore u { q with txn := txn } ⟨b.idx, b.sub, b.row⟩ 0x10 (blockValue b) authOk (modBlock u.id block id t)
      (committedOk r1.2 = true → r1.2 ≠ owedA →
        Gives (exec (.blockEnd q block authOk) s) (fun r => Answers q 0x12 r1.2 r ∧ ended r block ∧
          r = conclude s (respond q 0x12 r1.2 true (closeBlock u.id block (txn == 0)
            (modTxn txn (fun x => { x with blocks := x.blocks ++ [(block, ⟨b.idx, b.sub, b.row⟩)] }) r1.1))))) ∧
      (r1.2 = owedA → exec (.blockEnd q block authOk) s = .next (conclude s (respond q 0x12 owedA true (ownPrep q block r1.1)))) ∧
      (committedOk r1.2 = false → exec (.blockEnd q block authOk) s = .next (conclude s (respond q 0x12 r1.2 true r1.1)))) ∧
    (∀ (block : Nat) (b : Block), TakenUp q 4 u s → findBlock t u.id block = some b →
      Gives (exec (.blockAbort q block) s) (fun r => Answers q 0x13 (okA []) r ∧ ended r block ∧
        r = conclude s (respond q 0x13 (okA []) true (closeBlock u.id block false (abortPrep q.session block t)))))

/-- The three transaction requests, taken up, complete. TXN_BEGIN with fewer than four open transactions opens one under the next
TXN_ID and answers it. TXN_COMMIT whose staged writes pass their re-check and the checks on the whole set applies them all,
in order, ends the transaction as committed and answers the common slot of its air writes; where a re-check, a check on the
set or the commit of one fails, nothing is applied and the transaction ends, with the failure and its position. TXN_ABORT
ends it without effect. -/
def Obligations.TransactionsRun : Prop :=
  ∀ (q : OdapReq) (u : Session) (s : State), TakenUp q 0 u s →
    let t := touch q.session s
    let ended (r : State) (x : Txn) : Prop := ∀ y ∈ r.srv.txns, y.id ≠ x.id
    (firstFailure (txnChecks q t) = none → t.srv.txns.length < 4 →
      Gives (exec (.txnBegin q) s) (fun r => Answers q 0x20 (okA (beOct 4 t.srv.nextTxn)) r ∧ OnlyChanges [.srv] s r ∧
        r.srv.nextTxn = (t.srv.nextTxn + 1) % 2 ^ 32 ∧ { id := t.srv.nextTxn, session := u.id, lastReq := t.clk.elapsed } ∈ r.srv.txns)) ∧
    (∀ (authOk : Bool) (x : Txn) (t1 : State), ownTxn q t = some x →
      recheck ((commonEff x.staged t).getD (nextSuperframeE t)) u q authOk t [] x.staged = none →
      setChecks ((commonEff x.staged t).getD (nextSuperframeE t)) x.staged t = none →
      commitAll u authOk (commonEff x.staged t) 0 x.staged t = .ok t1 →
      let eff := effA (match commonEff x.staged t with
        | some e => e
        | none => if hasAir x.staged then effNoSlots else effNone)
      Gives (exec (.txnCommit q authOk) s) (fun r => Answers q 0x21 eff r ∧ ended r x ∧
        r = conclude s (respond q 0x21 eff true (closeTxn x true (mergeChanges t.eas.changes t1))))) ∧
    (∀ (authOk : Bool) (common : Option Nat) (n : Nat) (w : Staged) (l : List Staged) (a b : State),
      commitAll u authOk common n (w :: l) a = .ok b ↔ committedOk (commitStaged u authOk common w a).2 = true ∧
        commitAll u authOk common (n + 1) l (commitStaged u authOk common w a).1 = .ok b) ∧
    (∀ (authOk : Bool) (x : Txn) st d n, ownTxn q t = some x →
      recheck ((commonEff x.staged t).getD (nextSuperframeE t)) u q authOk t [] x.staged = some (st, d, n) →
      Gives (exec (.txnCommit q authOk) s) (fun r => Answers q 0x21 (commitError st d n) r ∧ ended r x ∧ OnlyChanges [.srv] s r)) ∧
    (∀ (authOk : Bool) (x : Txn) st d, ownTxn q t = some x →
      recheck ((commonEff x.staged t).getD (nextSuperframeE t)) u q authOk t [] x.staged = none →
      setChecks ((commonEff x.staged t).getD (nextSuperframeE t)) x.staged t = some (st, d) →
      Gives (exec (.txnCommit q authOk) s) (fun r => ended r x ∧ OnlyChanges [.srv] s r ∧
        Answers q 0x21 (commitError st d (setPosition ((commonEff x.staged t).getD (nextSuperframeE t)) x.staged st d t)) r)) ∧
    (∀ (authOk : Bool) (x : Txn) n b, ownTxn q t = some x →
      recheck ((commonEff x.staged t).getD (nextSuperframeE t)) u q authOk t [] x.staged = none →
      setChecks ((commonEff x.staged t).getD (nextSuperframeE t)) x.staged t = none →
      commitAll u authOk (commonEff x.staged t) 0 x.staged t = .error (n, b) →
      Gives (exec (.txnCommit q authOk) s) (fun r => ended r x ∧ OnlyChanges [.srv] s r ∧
        Answers q 0x21 (commitError (fieldNat b 0 2) (fieldNat b 2 4) n) r)) ∧
    (∀ x : Txn, ownTxn q t = some x →
      Gives (exec (.txnAbort q) s) (fun r => Answers q 0x22 (okA []) r ∧ ended r x ∧ OnlyChanges [.srv] s r))

/-- TXN_IDs are issued from 1 upward (1 at reset) and BLOCK_IDs from 0 upward modulo 65,536 in each session (0 in a new session),
and the outcomes of the last 64 of each are remembered. An abort that names a remembered transaction or transfer of the
session is answered TOO_LATE where it reached its commit point and OK where it ended without effect; any other request that
names an identifier that is not open in its session, in its header, as a transfer or to commit, is answered OUT_OF_RANGE with
DETAIL 0; in each case nothing but the server's own part changes. -/
def Obligations.AbortOfEndedTransferOrTransaction : Prop :=
  State.reset.srv.nextTxn = 1 ∧ (∀ i t r, ({ id := i, transport := t, role := r } : Session).nextBlock = 0) ∧
  (∀ (x : Txn) (c : Bool) (s : State) (u : Session), u ∈ s.srv.sessions → u.id = x.session →
    ∃ v ∈ (closeTxn x c s).srv.sessions, v.id = u.id ∧ v.endedTxns = ((x.id, c) :: u.endedTxns).take 64) ∧
  (∀ (b : Nat) (c : Bool) (s : State) (u : Session), u ∈ s.srv.sessions →
    ∃ v ∈ (closeBlock u.id b c s).srv.sessions, v.id = u.id ∧ v.endedBlocks = ((b, c) :: u.endedBlocks).take 64) ∧
  (∀ (q : OdapReq) (u : Session) (s : State),
    let t := touch q.session s
    let tells (c : Instr) (op : Nat) (a : Answer) : Prop := Gives (exec c s) (fun r => Answers q op a r ∧ OnlyChanges [.srv] s r)
    (∀ (block : Nat) (authOk : Bool), findBlock t u.id block = none → firstFailure (txnChecks q t) = none →
      (∀ seg data, TakenUp q (8 + data.length) u s → tells (.blockSeg q block seg data) 0x11 (errA stOutOfRange)) ∧
      (TakenUp q 4 u s → tells (.blockEnd q block authOk) 0x12 (errA stOutOfRange)) ∧
      (TakenUp q 4 u s → stagedBlock t u.id block = none →
        (u.endedBlocks.find? (fun p => p.1 == block) = some (block, true) → tells (.blockAbort q block) 0x13 (errA stTooLate)) ∧
        (u.endedBlocks.find? (fun p => p.1 == block) = some (block, false) → tells (.blockAbort q block) 0x13 (okA [])) ∧
        (u.endedBlocks.find? (fun p => p.1 == block) = none → tells (.blockAbort q block) 0x13 (errA stOutOfRange)))) ∧
    (ownTxn q t = none → TakenUp q 0 u s →
      (∀ authOk, tells (.txnCommit q authOk) 0x21 (errA stOutOfRange)) ∧
      (u.endedTxns.find? (fun p => p.1 == q.txn) = some (q.txn, true) → tells (.txnAbort q) 0x22 (errA stTooLate)) ∧
      (u.endedTxns.find? (fun p => p.1 == q.txn) = some (q.txn, false) → tells (.txnAbort q) 0x22 (okA [])) ∧
      (u.endedTxns.find? (fun p => p.1 == q.txn) = none → tells (.txnAbort q) 0x22 (errA stOutOfRange))) ∧
    (ownTxn q t = none → q.txn ≠ 0 →
      (TakenUp q 0 u s → tells (.txnBegin q) 0x20 (errA stOutOfRange)) ∧
      (∀ block seg data, TakenUp q (8 + data.length) u s → tells (.blockSeg q block seg data) 0x11 (errA stOutOfRange)) ∧
      (∀ a, TakenUp q 8 u s → firstFailure (addrChecks u.role false a t ++ failIf (readDenied u a t) stAccessDenied (roleNumber u.role)) = none →
        tells (.read q a) 1 (errA stOutOfRange))))

/-- SUBSCRIBE, taken up, accepted and within the limits of 64 per session and 256 per unit, adds a subscription under the next
number, with SEQ 1 and nothing held, a periodic one with its first period from now, and answers it. UNSUBSCRIBE of one of the
session's removes it. NOTIFY_ACK on an open session in a mode other than M2 has no response: it drops the notifications of
that subscription up to its SEQ, and leaves every other subscription as the message itself left it. -/
def Obligations.SubscriptionsRun : Prop :=
  (∀ (q : OdapReq) (u : Session) (s : State) (kind periodMs minGapMs evtLo evtHi : Nat) (a : Addr), TakenUp q (if kind = 2 then 8 else 16) u s →
    let t := touch q.session s
    firstFailure (txnChecks q t ++ subscribeChecks u kind periodMs minGapMs evtLo evtHi a t) = none →
    (t.srv.subs.filter (fun x => x.session == u.id)).length < 64 → t.srv.subs.length < 256 →
    exec (.subscribe q kind periodMs minGapMs evtLo evtHi a) s = .next (conclude s (respond q 0x30 (okA (beOct 2 t.srv.nextSub)) true
      { t with srv := { t.srv with nextSub := (t.srv.nextSub + 1) % 65536
                                   subs := t.srv.subs ++ [{ id := t.srv.nextSub, session := u.id, kind := kind, periodMs := periodMs, minGapMs := minGapMs, evtLo := evtLo, evtHi := evtHi, idx := a.idx, sub := a.sub, row := a.row, lastAt := if kind = 1 then some t.clk.elapsed else none }] } }))) ∧
  (∀ (q : OdapReq) (u : Session) (s : State) (sub : Nat), TakenUp q 2 u s →
    let t := touch q.session s
    firstFailure (noSubs t ++ txnChecks q t) = none → t.srv.subs.any (fun x => x.id == sub && x.session == u.id) = true →
    exec (.unsubscribe q sub) s = .next (conclude s (respond q 0x31 (okA []) true
      { t with srv := { t.srv with subs := t.srv.subs.filter (fun x => !(x.id == sub && x.session == u.id)) } }))) ∧
  (∀ (q : OdapReq) (u : Session) (s : State) (sub seq : Nat), s.srv.up = true → findSession s q.session = some u → formFault q 6 = none →
    s.ctl.mode ≠ .m2 →
    let t := touch q.session s
    exec (.notifyAck q sub seq) s = .next (conclude s { t with srv := { t.srv with subs := t.srv.subs.map (fun x =>
      if x.id = sub ∧ x.session = q.session then { x with unacked := x.unacked.filter (fun n => decide (seq < n.n.seq)) }
      else x) } }))

/-- With fewer than 16 unacknowledged, a value or event is held as one more notification with the next SEQ and the slot and time
of its change. At 16, an event is counted as lost and no notification is added; a value replaces the newest held one, with
its stamp, whose OVERRUN is set, no value is owed after it, and the number held stays 16. What is sent is what was added, and
nothing while the subscription is paused. -/
def Obligations.NotificationLimits : Prop :=
  ∀ (u : Sub) (now asn secs nanos : Nat) (v : Octets),
    let n : Notif := { sub := u.id, seq := u.seq, lost := u.lostCount != 0, asn := asn, secs := secs, nanos := nanos, lostCount := u.lostCount, payload := v }
    let p := u.push now (asn, secs, nanos) v
    (u.unacked.length < 16 → p.1.unacked = u.unacked ++ [{ n := n, at_ := now }] ∧ p.1.seq = (u.seq + 1) % 2 ^ 32 ∧
      p.1.lostCount = 0 ∧ p.2 = if u.paused then [] else [.notify u.session n]) ∧
    (16 ≤ u.unacked.length → u.kind = 2 → p = ({ u with lostCount := u.lostCount + 1 }, [])) ∧
    (16 ≤ u.unacked.length → u.kind ≠ 2 → p.2 = [] ∧ p.1.held = false ∧ p.1.unacked.length = u.unacked.length ∧
      p.1.unacked.dropLast = u.unacked.dropLast ∧
      ∃ x ∈ u.unacked.getLast?, p.1.unacked.getLast? =
        some { x with n := { x.n with payload := v, overrun := true, asn := asn, secs := secs, nanos := nanos } })

/-- A message under 8 octets on an open session is counted in its drop counter and not answered. A periodic subscription sends
its value at its period and an on-change one at the end of its gap, with the stamp of its change. A notification not
acknowledged is sent again 1 s after its last sending, up to 5 times, and then the subscription pauses. A session, a
transaction or a transfer that has idled its time ends; a cached response goes after 60 s. -/
def Obligations.OdapTimersAndRunts : Prop :=
  (∀ (n len : Nat) (u : Session) (s : State), s.srv.up = true → findSession s n = some u → len < 8 →
    exec (.odapRuntMessage n len) s = .next (conclude s (bump 0xA010 7 0 (touch n s)))) ∧
  (∀ (i : Nat) (u : Sub) (s : State), findSub s i = some u →
    (u.kind = 1 → ∀ t : State, t = advanceElapsed ((u.lastAt.getD s.clk.elapsed) + u.periodMs * msCycles) s →
      exec (.subscriptionPeriodTimer i) s = .next (conclude s (sendNow i (stampNow t) (odRead t u.idx u.sub u.row) t))) ∧
    (u.kind = 0 → u.held = true → ∀ t : State, t = advanceElapsed ((u.lastAt.getD s.clk.elapsed) + u.minGapMs * msCycles) s →
      exec (.subscriptionGapExpiry i) s = .next (conclude s (sendNow i u.heldAt (odRead t u.idx u.sub u.row) t))) ∧
    (∀ (st : Nat × Nat × Nat) (v : Octets), sendNow i st v s =
      { s with srv := { s.srv with subs := s.srv.subs.map (fun x => if x.id = i then (u.push s.clk.elapsed st v).1 else x) }
               out := s.out ++ (u.push s.clk.elapsed st v).2 }) ∧
    (u.unacked ≠ [] → u.paused = false → ∀ t : State, t = advanceElapsed (resendAt u) s →
      let due : Unacked → Bool := fun x => decide (x.at_ + secCycles ≤ t.clk.elapsed)
      ((∀ x ∈ u.unacked, due x = true → x.resends < 5) → exec (.notifyRetransmitTimer i) s = .next (conclude s
        { modSub i (fun _ => { u with unacked := u.unacked.map (fun x => if due x then { x with at_ := t.clk.elapsed, resends := x.resends + 1 } else x) }) t with
          out := t.out ++ (u.unacked.filter due).map (fun x => .notify u.session x.n) })) ∧
      ((∃ x ∈ u.unacked, due x = true ∧ 5 ≤ x.resends) → exec (.notifyRetransmitTimer i) s = .next (conclude s
        (modSub i (fun _ => { u with paused := true }) t))))) ∧
  (∀ (n : Nat) (u : Session) (s : State), findSession s n = some u → exec (.sessionIdleExpiry n) s =
    .next (conclude s (endSession n (advanceElapsed (u.lastMsg + odNat s 0xA010 3 * secCycles) s)))) ∧
  (∀ (n : Nat) (x : Txn) (s : State), s.srv.txns.find? (fun t => t.id == n) = some x →
    Gives (exec (.txnIdleExpiry n) s) (fun r => (∀ y ∈ r.srv.txns, y.id ≠ n) ∧
      r = conclude s (closeTxn x false (advanceElapsed (x.lastReq + odNat s 0xA010 4 * secCycles) s)))) ∧
  (∀ (n k : Nat) (b : Block) (s : State), findBlock s n k = some b →
    Gives (exec (.blockIdleExpiry n k) s) (fun r => findBlock r n k = none ∧
      r = conclude s (closeBlock n k false (advanceElapsed (b.lastMsg + odNat s 0xA010 4 * secCycles) s)))) ∧
  (∀ (n rid : Nat) (u : Session) (e : CacheEntry) (s : State), findSession s n = some u →
    u.cache.find? (fun e => e.rid == rid) = some e → exec (.replayCacheExpiry n rid) s =
      .next (conclude s (modSession n (fun u => { u with cache := u.cache.filter (fun e => e.rid != rid) })
        (advanceElapsed (e.at_ + 60 * secCycles) s))))

/-- When a session ends, none of its transactions, transfers or subscriptions is left, its ephemeral keys are freed, and those of
the other sessions stay; a DTLS session is itself gone. -/
def Obligations.SessionEndTakesItsWork : Prop :=
  ∀ (n : Nat) (s : State),
    (∀ x ∈ (endSession n s).srv.txns, x.session ≠ n) ∧ (∀ x ∈ s.srv.txns, x.session ≠ n → x ∈ (endSession n s).srv.txns) ∧
    (∀ x ∈ (endSession n s).srv.blocks, x.session ≠ n) ∧ (∀ x ∈ s.srv.blocks, x.session ≠ n → x ∈ (endSession n s).srv.blocks) ∧
    (∀ x ∈ (endSession n s).srv.subs, x.session ≠ n) ∧ (∀ x ∈ s.srv.subs, x.session ≠ n → x ∈ (endSession n s).srv.subs) ∧
    (∀ x ∈ (endSession n s).srv.sessions, x.id = n → x.transport = 2 ∨ x.transport = 4) ∧
    (∀ x ∈ s.srv.sessions, x.id ≠ n → x ∈ (endSession n s).srv.sessions) ∧
    (∀ e ∈ s.sec.slots, e.2.held = true → e.2.ephemeral = true → e.2.session = some n → (slotAt (endSession n s) e.1).held = false) ∧
    (∀ k, (∀ e ∈ s.sec.slots, e.1 = k → e.2.session ≠ some n) → slotAt (endSession n s) k = slotAt s k) ∧
    OnlyChanges [.srv, .sec] s (endSession n s)

/-- While a server runs, a ClientHello that offers the profile, whose binder verifies under the key that a row binds to its
identity, opens a session with that row's role and a fresh replay cache and takes a free slot for its traffic keys, provided
fewer than 8 DTLS sessions exist; the use of a key that a row binds is counted. On the field network it must come to
ODAP_UDP_PORT, and the boot ROM has no such port. Every other ClientHello is answered with an alert (beyond 8 sessions too,
log entry 174) and changes at most the count of a key asked for another purpose (log entry 54). -/
def Obligations.HandshakeOpensSession : Prop :=
  ∀ (h : ClientHello) (s : State), s.srv.up = true → (h.transport ≠ 0 ∨ (h.port = odNat s 0xA010 1 ∧ s.shd.bootRom = false)) →
    (∀ row role n, helloOk h = true → h.binderOk = true → (s.srv.sessions.filter (fun u => u.transport < 2)).length < 8 →
      pskSession h s = some (row, role) → ephemeralSlot s = some n →
      Gives (exec (.dtlsHandshake h) s) (fun t => .dtlsOpen h.transport s.srv.nextSession ∈ t.out ∧ t.srv.nextSession = s.srv.nextSession + 1 ∧
        t.srv.sessions = s.srv.sessions ++ [{ id := s.srv.nextSession, transport := h.transport, role := role, pskRow := row, eth := h.eth, mac := h.mac, ip := h.ip, udp := h.udp, lastMsg := s.clk.elapsed }] ∧
        (slotAt t n).held = true ∧ (slotAt t n).ephemeral = true ∧ (slotAt t n).session = some s.srv.nextSession ∧
        (∀ r, row = some r → odField s 0xA011 1 r 2 2 % 512 ≠ n →
          (slotAt t (odField s 0xA011 1 r 2 2 % 512)).uses = (slotAt s (odField s 0xA011 1 r 2 2 % 512)).uses + 1) ∧
        OnlyChanges [.srv, .sec, .od, .shd] s t)) ∧
    (helloOk h = false ∨ h.binderOk = false ∨ pskSession h s = none ∨ 8 ≤ (s.srv.sessions.filter (fun u => u.transport < 2)).length ∨ ephemeralSlot s = none →
      Gives (exec (.dtlsHandshake h) s) (fun t => OnlyChanges [.srv, .od, .shd] s t ∧ .dtlsAlert h.transport ∈ t.out ∧
        t = conclude s (emit (.dtlsAlert h.transport) (pskWrong h s))))

/-- With no change pending, a change between working modes is announced: its effective ASN lies MODE_LEAD superframes after the
first boundary, and it names the schedule set and the epoch that begins there. One that ends service takes effect a
superframe after the NEXT_SUPERFRAME slot. One that needs no notice takes effect at a slot, and at once with none running. A
change to a working mode from M3 or M4 takes effect at a boundary 2 s on where time, epoch and address are ready, and waits
where they are not. The target of the change that is pending is answered with its ASN, another target with BUSY; the current
mode cancels it before its commit point and is TOO_LATE after. REBOOT persists the log and sets the reboot 10 ms ahead.
Reading the effective ASN of a cancel as that of a write in effect at once is the model's choice (log entry 38). -/
def Obligations.ModeWritesCommit : Prop :=
  (∀ (q : OdapReq) (u : Session) (m : Mode) (s : State), WriteAccepted q ⟨0x1200, 2, 0⟩ 2 (beOct 1 m.code) u s → m ≠ s.ctl.mode →
    let c : Instr := .modeRequestWrite q m.code
    let asked (change : Option ModeChange) (r : State) : Prop :=
      r.ctl = { s.ctl with change := change } ∧ r.od = (odPut 0x1200 2 0 (beOct 1 m.code) s).od
    (∀ p, s.ctl.change = some p → if p.target = m then Commits q c p.eff [.od] s (asked (some p)) else Refuses q c (errA stBusy) s) ∧
    (s.ctl.change = none →
      (∀ e t, changeKind s.ctl.mode m u.role = some .announced → scheduleFit s (namedSet s) m = none →
        e = firstBoundaryAt s (nowNs s + 1) + modeLead s * sfSlots (curEpoch s).code → t = (startNs s e).toNat →
        Commits q c e [.ctl, .nod, .od] s (asked (some
          { target := m, kind := .announced, eff := e, first := firstBoundaryAt s (nowNs s + 1), set := namedSet s
            epoch := { asn0 := e, secs := t / 1000000000, nanos := t % 1000000000, code := m.slotCode } }))) ∧
      (∀ o, m.working = true → (changeKind s.ctl.mode m u.role).isSome = true → scheduleFit s (namedSet s) m = some o →
        Refuses q c (errA stScheduleMismatch o) s) ∧
      (∀ e, changeKind s.ctl.mode m u.role = some .endOfService → e = nextSuperframeE s + sfSlots (curEpoch s).code →
        Commits q c e [.ctl, .od] s (asked (some { target := m, kind := .endOfService, eff := e, first := nextSuperframeE s }))) ∧
      (∀ e, changeKind s.ctl.mode m u.role = some .atSlot → s.eas.running = true → e = (if m = .m9 then nextSuperframeE s else nextSlotE s) →
        Commits q c e [.ctl, .od] s (asked (some { target := m, kind := .atSlot, eff := e }))) ∧
      (changeKind s.ctl.mode m u.role = some .atSlot → s.eas.running = false →
        exec c s = .next (afterWrite q s (odPut 0x1200 2 0 (beOct 1 m.code) (enterMode m (touch q.session s)), effA effNoSlots))) ∧
      (∀ e t, changeKind s.ctl.mode m u.role = some .waiting → scheduleFit s (namedSet s) m = none →
        (s.clk.valid && epochValid s && hrReady s) = true → e = firstBoundaryAt s (nowNs s + 2000000000) → t = (startNs s e).toNat →
        Commits q c e [.ctl, .od] s (asked (some
          { target := m, kind := .atSlot, eff := e, set := namedSet s
            epoch := if (curEpoch s).code = m.slotCode then {} else
              { asn0 := e, secs := t / 1000000000, nanos := t % 1000000000, code := m.slotCode } }))) ∧
      (changeKind s.ctl.mode m u.role = some .waiting → scheduleFit s (namedSet s) m = none →
        (s.clk.valid && epochValid s && hrReady s) = false →
        Commits q c effNoSlots [.ctl, .od] s (asked (some { target := m, kind := .waiting, eff := 0, set := namedSet s }))))) ∧
  (∀ (q : OdapReq) (u : Session) (p : ModeChange) (s : State), WriteAccepted q ⟨0x1200, 2, 0⟩ 2 (beOct 1 s.ctl.mode.code) u s →
    s.ctl.change = some p →
    (p.committed = false → Commits q (.modeChangeCancel q) (effNow s) [.ctl, .od] s (fun r =>
      r.ctl = { s.ctl with change := none } ∧ r.od = (odPut 0x1200 2 0 (beOct 1 s.ctl.mode.code) s).od)) ∧
    (p.committed = true → Refuses q (.modeChangeCancel q) (errA stTooLate) s)) ∧
  (∀ (q : OdapReq) (value : Nat) (u : Session) (s : State), WriteAccepted q ⟨0x1200, 8, 0⟩ 2 (beOct 1 value) u s →
    Commits q (.rebootWrite q value) (effNow s) [.ctl, .shd] s (fun r =>
      r.ctl = { s.ctl with rebootAt := some (s.clk.elapsed + 10 * msCycles) } ∧
      r.shd.ring = s.shd.ring.map (fun e => { e with persisted := true })))

/-- OPERATOR may request M5 to M8, INSTALLER M1 to M8, PEER M9 and M10, VENDOR what INSTALLER may and M11, and GESSO M2; M0 is
nobody's. -/
def Obligations.RolesAndTargets : Prop :=
  (∀ m, targetAllowed 1 m = decide (m ∈ [Mode.m5, .m6, .m7, .m8])) ∧
  (∀ m, targetAllowed 2 m = decide (m ∈ [Mode.m1, .m2, .m3, .m4, .m5, .m6, .m7, .m8])) ∧
  (∀ m, targetAllowed 4 m = decide (m ∈ [Mode.m9, .m10])) ∧
  (∀ m, targetAllowed 8 m = decide (m ∈ [Mode.m1, .m2, .m3, .m4, .m5, .m6, .m7, .m8, .m11])) ∧
  (∀ m, targetAllowed 16 m = decide (m ∈ [Mode.m2]))

/-- STEP_APPLY 1 with a step pending requests it at the NEXT_SUPERFRAME slot while slots run, and applies it at once where none
do; 0 withdraws a request whose amount is not fixed, and is TOO_LATE after. TIME_SET, where it may, stages its seconds.
TIME_SOURCE takes effect and starts the clock over from INVALID without VALID. ASN_EPOCH comes into force and the epoch it
replaces is kept, the three newest. -/
def Obligations.TimebaseWritesCommit : Prop :=
  (∀ (q : OdapReq) (u : Session) (s : State), WriteAccepted q ⟨0x2002, 2, 0⟩ 2 [1] u s → s.clk.stepReq = none → stepPendingNow s = true →
    (s.eas.running = true → Commits q (.stepApplyRequest q) (nextSuperframeE s) [.clk] s (fun r =>
      r.clk = { s.clk with stepReq := some { slot := nextSuperframeE s } })) ∧
    (s.eas.running = false → Commits q (.stepApplyRequest q) effNoSlots [.clk, .nod] s (fun r =>
      r.clk.now = ((s.clk.now : Int) + s.clk.stepAmount * nsUnit).toNat ∧ r.clk.stepPending = false ∧ r.clk.hist = []))) ∧
  (∀ (q : OdapReq) (u : Session) (p : StepReq) (s : State), WriteAccepted q ⟨0x2002, 2, 0⟩ 2 [0] u s → s.clk.stepReq = some p →
    if p.fixed = none then Commits q (.stepApplyAbort q) p.slot [.clk] s (fun r => r.clk = { s.clk with stepReq := none })
    else Refuses q (.stepApplyAbort q) (errA stTooLate) s) ∧
  (∀ (q : OdapReq) (u : Session) (x : Nat) (s : State), WriteAccepted q ⟨0x2002, 3, 0⟩ 5 (beOct 8 x) u s → x < 2 ^ 64 →
    if s.clk.valid = false ∨ x = nowSecs s + 1 then
      Commits q (.timeSetWrite q x) (effNow s) [.clk] s (fun r => r.clk = { s.clk with timeSet := some x })
    else Refuses q (.timeSetWrite q x) (errA stStepRefused) s) ∧
  (∀ (q : OdapReq) (u : Session) (x : Nat) (s : State), WriteAccepted q ⟨0x2001, 1, 0⟩ 2 (beOct 1 x) u s →
    Commits q (.timeSourceWrite q x) (effNow s) [.hed, .clk, .od, .ctl, .eas] s (fun r => r.clk.state = .invalid ∧ r.clk.valid = false ∧
      r.clk.stepPending = false ∧ r.clk.hist = [] ∧ r.clk.now = s.clk.now ∧ odGet r 0x2001 1 = beOct 1 x)) ∧
  (∀ (q : OdapReq) (u : Session) (e : Epoch) (s : State), WriteAccepted q ⟨0x2100, 1, 0⟩ 0xE (encodeEpoch e) u s →
    e.asn0 < 2 ^ 40 → e.secs < 2 ^ 48 → e.nanos < 2 ^ 32 → e.code < 2 ^ 8 →
    Commits q (.asnEpochWrite q e) (effNow s) [.hed, .clk, .od, .ctl, .eas] s (fun r => curEpoch r = e ∧ r.clk.now = s.clk.now ∧
      r.clk.oldEpochs = (if curEpoch s = {} then s.clk.oldEpochs else (curEpoch s :: s.clk.oldEpochs).take 3)))

/-- A CH_MAP write is announced and takes effect MODE_LEAD superframes on, or at once with no slots running. A registration
replaces the node's record and its two table entries; one that names the same node changes its supervision and row alone; one
that meets a full table is TABLE_FULL, counted, and changes nothing else; a deregistration frees the record and its work.
NODE_REJOIN marks the node and queues its wake. A window centre takes effect at the NEXT_SUPERFRAME slot in M5 to M10 while
slots run, and moves its synthesiser at once otherwise. A capture starts, or is armed for its time. A dwell rule waits for
that slot while slots run, and starts its accounts over at once otherwise. A handover is recorded with its snapshot and
shadows sent, and a withdrawal ends it as aborted. -/
def Obligations.AirAndNodeWritesCommit : Prop :=
  (∀ (q : OdapReq) (pan : Nat) (map : Octets) (u : Session) (s : State), WriteAccepted q ⟨0x4032, 1, pan⟩ 0xD map u s →
    let c : Instr := .chMapWrite q pan map
    let first := firstBoundaryAt s (nowNs s + 1)
    let e := firstBoundaryAt s ((startNs s first).toNat + modeLead s * 25600000000)
    (s.eas.running = true → Commits q c e [.hed, .eas, .nod] s (fun r =>
      r.eas = { s.eas with maps := s.eas.maps ++ [{ pan := pan, map := map, first := first, eff := e }] } ∧
      r.srv.pend = s.srv.pend ++ [⟨0x4032, 1, pan, map, some e⟩])) ∧
    (s.eas.running = false → Commits q c effNoSlots [.hed, .od] s (fun r => odGet r 0x4032 1 pan = map))) ∧
  (∀ (q : OdapReq) (row : Nat) (reg v : Octets) (d : ObjDesc) (u : Session) (s : State), WriteAccepted q ⟨0x5010, 1, row⟩ 0xE reg u s →
    odFind 0x5010 1 = some d → v = masked d reg →
    let c : Instr := .nodeRegWrite q row reg
    let t := touch q.session s
    (fieldNat v 0 8 = regEui s row → fieldNat v 0 8 ≠ 0 → fieldNat v 8 1 = regPan s row → fieldNat v 10 2 = regShort s row →
      (nodeRec s row).poisoned = false → (nodeRec s row).st ≠ .free →
      Commits q c (effNow s) [.hed, .nod, .od] s (fun r => odGet r 0x5010 1 row = v ∧
        nodeRec r row = { nodeRec s row with supSf := fieldNat v 12 2, txRow := fieldNat v 14 1 })) ∧
    (∀ t1 t2 e1 e2 x1 x2, fieldNat v 0 8 ≠ 0 →
      ¬ (fieldNat v 0 8 = regEui s row ∧ fieldNat v 8 1 = regPan s row ∧ fieldNat v 10 2 = regShort s row ∧
        (nodeRec s row).poisoned = false ∧ (nodeRec s row).st ≠ .free) →
      nodeEntries (odPut 0x5010 1 row v (dropEntries row t)) row = [e1, e2] →
      tableInsert e1 (odPut 0x5010 1 row v (dropEntries row t)) = (t1, x1) → x1 ≠ .tableFull →
      tableInsert e2 t1 = (t2, x2) → x2 ≠ .tableFull →
      Gives (exec c s) (fun r => Answers q 2 (effA (effNow s)) r ∧ odGet r 0x5010 1 row = v ∧ r.tre = t2.tre ∧
        nodeRec r row = { st := .registered, pan := fieldNat v 8 1, short := fieldNat v 10 2, eui := fieldNat v 0 8
                          supSf := fieldNat v 12 2, txRow := fieldNat v 14 1, halfWidth := 0 })) ∧
    ((registerNode row v t).2 = false → exec c s = .next (afterWrite q s (bump 0x6400 3 0 t, errA stTableFull)))) ∧
  (∀ (q : OdapReq) (row : Nat) (u : Session) (s : State), WriteAccepted q ⟨0x5010, 1, row⟩ 0xE (zeros 14 ++ [0xFF, 0]) u s →
    Commits q (.nodeDeregister q row) (effNow s) [.hed, .nod, .od, .tre, .rid, .pri] s (fun r => nodeRec r row = {} ∧ (nodeRec r row).st = .free ∧
      odGet r 0x5010 1 row = zeros 14 ++ [0xFF, 0] ∧ ∀ w ∈ r.pri.wake, w.node ≠ some row)) ∧
  (∀ (q : OdapReq) (node : Nat) (u : Session) (s : State), WriteAccepted q ⟨0x5011, 1, 0⟩ 4 (beOct 4 node) u s → node < 2 ^ 32 →
    Commits q (.nodeRejoinWrite q node) (effNow s) [.nod, .pri, .od] s (fun r =>
      nodeRec r node = { nodeRec s node with rejoin := some 2 } ∧
      (s.pri.wake.length < 256 → ∃ w ∈ r.pri.wake, w.type = 1 ∧ w.addr = (nodeRec s node).short))) ∧
  (∀ (q : OdapReq) (cfg v : Octets) (d : ObjDesc) (u : Session) (s : State), WriteAccepted q ⟨0x3300, 1, 0⟩ 0xE cfg u s →
    odFind 0x3300 1 = some d → v = captureCfg (masked d cfg) →
    Commits q (.captureCfgWrite q cfg) (effNow s) [.od, .pal, .free] s (fun r => odGet r 0x3300 1 = v ∧
      if fieldNat v 18 5 = 0 then r.pal.capState = 2 ∧ r.pal.capDone = 0 ∧ r.pal.capCfg = v ∧ r.pal.capFrom = s.clk.elapsed
      else r.pal.capState = 1)) ∧
  (∀ (q : OdapReq) (tx : Bool) (hz : Nat) (u : Session) (s : State), WriteAccepted q ⟨0x3000, if tx then 2 else 1, 0⟩ 4 (beOct 4 hz) u s →
    hz < 2 ^ 32 →
    if 5 ≤ s.ctl.mode.code ∧ s.ctl.mode.code ≤ 10 ∧ s.eas.running = true then
      Commits q (.sgCentreWrite q tx hz) (nextSuperframeE s) [.hed] s (fun r =>
        r.srv.pend = s.srv.pend ++ [⟨0x3000, if tx then 2 else 1, 0, beOct 4 hz, some (nextSuperframeE s)⟩])
    else Commits q (.sgCentreWrite q tx hz) (effNow s) [.hed, .rf, .od, .pal, .pri] s (fun r =>
      odGet r 0x3000 (if tx then 2 else 1) = beOct 4 hz ∧
      r.rf.synths = modAt (fun z => { z with centre := hz, locked := decide (hz ≠ 0), attempts := 0 }) s.rf.synths (if tx then 1 else 0))) ∧
  (∀ (q : OdapReq) (row : Nat) (rec : Octets) (d : ObjDesc) (u : Session) (s : State), WriteAccepted q ⟨0x3420, 1, row⟩ 0xE rec u s →
    odFind 0x3420 1 = some d →
    if s.eas.running = true then Commits q (.dwellRuleWrite q row rec) (nextSuperframeE s) [.hed, .eas] s (fun r =>
      r.srv.pend = s.srv.pend ++ [⟨0x3420, 1, row, masked d rec, some (nextSuperframeE s)⟩])
    else Commits q (.dwellRuleWrite q row rec) effNoSlots [.hed, .od, .pri] s (fun r => odGet r 0x3420 1 row = masked d rec ∧
      r.pri = (resetRule row (odPut 0x3420 1 row (masked d rec) s)).pri)) ∧
  (∀ (q : OdapReq) (region : Nat) (u : Session) (s : State), WriteAccepted q ⟨0x7030, 1, 0⟩ 3 (beOct 2 region) u s → region < 0xFFFF →
    exec (.hrHandoverWrite q region) s = .next (afterWrite q s (sendShadows region (sendSnapshot region (handoverStatus 1 0 0
      { touch q.session s with hed := { s.hed with withdrawn := none, handing := some { target := region, touched := regRows s } } })), effA effNone))) ∧
  (∀ (q : OdapReq) (u : Session) (s : State), WriteAccepted q ⟨0x7030, 1, 0⟩ 3 (beOct 2 0xFFFF) u s →
    Commits q (.hrHandoverCancel q) effNone [.hed, .od] s (fun r => r.hed = { s.hed with handing := none } ∧
      odGet r 0x7030 2 = beOct 1 4 ++ beOct 2 stAborted ++ beOct 5 0))

/-- KEY_DESTROY empties the slot under its next generation, so its handle is stale, and removes the stored key. FW_ACTIVATE marks
the idle bank pending, marks it and asks the reset where no step is due (a cold one in a mode that does not emit), or
withdraws it; FW_CONFIRM confirms the pending bank or rejects it. ATTEST_CHALLENGE forms and signs the report (zeros for the
signature where there is no root, log entry 185). A calibration request is queued at its opportunity, or is BUSY, and a
cancel aborts its row. RECOVER_REQUEST takes L2 at once, or asks L3 or L4 10 ms on where none is due; RECOVERY_RELEASE clears
the histories, the halt and the faulted functions. -/
def Obligations.SecurityAndFirmwareWritesCommit : Prop :=
  (∀ (q : OdapReq) (handle : Nat) (u : Session) (s : State), WriteAccepted q ⟨0x8010, 3, 0⟩ 3 (beOct 2 handle) u s → handle < 2 ^ 16 →
    Commits q (.keyDestroyWrite q handle) (effNow s) [.sec] s (fun r =>
      slotAt r (handle % 512) = { gen := ((slotAt s (handle % 512)).gen + 1) % 127 } ∧
      r.sec.storeSlots = serase (handle % 512) s.sec.storeSlots ∧ ∀ n, n ≠ handle % 512 → slotAt r n = slotAt s n)) ∧
  (∀ (q : OdapReq) (u : Session) (s : State), WriteAccepted q ⟨0x8810, 1, 0⟩ 2 [0] u s →
    Commits q (.fwActivateCancel q) (effNow s) [.fw] s (fun r =>
      bootRec r = { bootRec s with pending := none, pendDigest := [], seq := (bootRec s).seq + 1 })) ∧
  (∀ (q : OdapReq) (u : Session) (s : State), WriteAccepted q ⟨0x8810, 1, 0⟩ 2 [1] u s →
    Commits q (.fwActivateMark q) (effNow s) [.fw] s (fun r =>
      bootRec r = { bootRec s with pending := some (idleBank s), pendDigest := shake (manifest s (idleBank s)), seq := (bootRec s).seq + 1 } ∧
      r.fw.rejected = setAt s.fw.rejected (idleBank s) false)) ∧
  (∀ (q : OdapReq) (u : Session) (s : State), WriteAccepted q ⟨0x8810, 1, 0⟩ 2 [2] u s →
    Commits q (.fwActivateReset q) (effNow s) [.fw, .shd, .ctl] s (fun r =>
      (bootRec r).pending = some (idleBank s) ∧
      (warmOk (manifest s (idleBank s)) = true → s.shd.due = none → s.shd.cycleUntil = none → s.shd.warm = none →
        r.shd.due = some ⟨3, fnGesso, 0, 6, s.clk.elapsed⟩) ∧
      (warmOk (manifest s (idleBank s)) = false → s.ctl.mode.emits = false → s.shd.due = none → s.shd.cycleUntil = none → s.shd.warm = none →
        r.shd.due = some ⟨4, fnGesso, 0, 6, s.clk.elapsed⟩))) ∧
  (∀ (q : OdapReq) (u : Session) (b : Nat) (s : State), WriteAccepted q ⟨0x8810, 2, 0⟩ 2 [1] u s → (bootRec s).pending = some b →
    Commits q (.fwConfirm q) (effNow s) [.fw, .chip] s (fun r => (bootRec r).confirmed = b ∧ (bootRec r).pending = none ∧
      (bootRec r).trial = false ∧ (bootRec r).raise = false ∧ (bootRec r).confDigest = shake (manifest s b) ∧ r.fw.trialSince = none ∧
      r.chip = burn s.chip (blowFuses (manifest s b) s.chip))) ∧
  (∀ (q : OdapReq) (u : Session) (b : Nat) (s : State), WriteAccepted q ⟨0x8810, 2, 0⟩ 2 [0] u s → (bootRec s).pending = some b →
    Commits q (.fwReject q) (effNow s) [.fw, .shd, .ctl] s (fun r => (bootRec r).pending = none ∧ (bootRec r).trial = false ∧
      (bootRec r).rejDigest = (bootRec s).pendDigest ∧ (bootRec r).confirmed = (bootRec s).confirmed ∧
      r.fw.rejected = setAt s.fw.rejected b true)) ∧
  (∀ (q : OdapReq) (challenge : Octets) (u : Session) (s : State), WriteAccepted q ⟨0x8830, 1, 0⟩ 0xD challenge u s →
    let b := attestBody challenge s
    Commits q (.attestChallengeWrite q challenge) (effNow s) [.fw] s (fun r => r.fw = { s.fw with
      report := b ++ identitySign "FL96-ATTEST" b s, formedAt := some s.clk.elapsed })) ∧
  (∀ (q : OdapReq) (item target : Nat) (force : Bool) (u : Session) (s : State), item < 256 → target < 256 →
    WriteAccepted q ⟨0x9200, 1, 0⟩ 0xE (beOct 1 item ++ beOct 1 target ++ [if force then 1 else 0, 0]) u s →
    let c : Instr := if force then .calibRequestForce q item target else .calibRequestWrite q item target
    (∀ a, calibFull s force = false → opportunity s item target force = some a →
      Commits q c a [.shd, .eas] s (fun r => r.shd = { s.shd with
          cal := setAt s.shd.cal (calRow s) { item := item, target := target, force := force, st := 1, order := s.shd.calOrder, asn := a }
          calOrder := s.shd.calOrder + 1 } ∧
        r.eas = if force then { s.eas with notices := noticesInForce s ++
            [{ first := a, slots := 1, paths := noticePaths item target, calRow := calRow s }] } else s.eas)) ∧
    ((calibFull s force = true ∨ opportunity s item target force = none) →
      Gives (exec c s) (fun r => Answers q 2 (errA stBusy) r ∧ OnlyChanges [.srv, .shd] s r ∧ r.shd.cal = s.shd.cal))) ∧
  (∀ (q : OdapReq) (row : Nat) (x : CalReq) (u : Session) (s : State), WriteAccepted q ⟨0x9200, 3, 0⟩ 2 (beOct 1 row) u s → row < 256 →
    s.shd.cal[row]? = some x →
    Commits q (.calibCancelWrite q row) (effNow s) [.shd, .eas] s (fun r => r.shd.cal = modAt (fun x => { x with st := 4 }) s.shd.cal row)) ∧
  (∀ (q : OdapReq) (fn inst step : Nat) (u : Session) (s : State), fn < 256 → inst < 256 → step < 256 →
    WriteAccepted q ⟨0x9400, 4, 0⟩ 0xE (beOct 1 fn ++ beOct 1 inst ++ beOct 1 step) u s →
    let t := touch q.session s
    let c : Instr := .recoverRequestWrite q fn inst step
    (step ≠ 2 → s.shd.due = none → s.shd.cycleUntil = none → s.shd.warm = none → Commits q c (effNow s) [.shd] s (fun r =>
      r.shd = { s.shd with due := some ⟨step, fn, inst, 6, s.clk.elapsed + 10 * msCycles⟩ })) ∧
    (step = 2 → inL2 s fn inst = false → exec c s = .next (afterWrite q s (doL2 fn inst t, effA (effNow s)))) ∧
    (step = 2 → inL2 s fn inst = true → Commits q c (effNow s) [] s (fun _ => True))) ∧
  (∀ (q : OdapReq) (u : Session) (s : State), WriteAccepted q ⟨0x9400, 7, 0⟩ 2 [1] u s →
    Commits q (.recoveryReleaseWrite q) (effNow s) [.shd, .pwr] s (fun r => r.shd = { s.shd with halted := false, l3Hist := [], faulted := [] } ∧
      r.pwr = { s.pwr with backup := s.pwr.backup.take 56 ++ List.replicate 8 0 }))

/-- A downlink profile empties the buckets of the nodes that have it; a node's profile empties its own; a meter's write fills its
buckets; a shaper's empties its tokens; each takes effect at once, the store holding the new row. A static table row replaces
its entry, in place under the same key, which may wait for room in the notice ring, or is TABLE_FULL, counted, and changes
nothing else. -/
def Obligations.NetworkWritesTakeEffect : Prop :=
  (∀ (q : OdapReq) (row : Nat) (rec : Octets) (d : ObjDesc) (u : Session) (s : State), WriteAccepted q ⟨0x6800, 1, row⟩ 0xE rec u s →
    odFind 0x6800 1 = some d →
    Commits q (.dlProfileWrite q row rec) (effNow s) [.hed, .od, .rid] s (fun r => odGet r 0x6800 1 row = masked d rec ∧
      (∀ e, e ∈ r.rid.tokens ↔ e ∈ s.rid.tokens ∧ dlRow s e.1 ≠ row) ∧ r.rid.profAt = setAt s.rid.profAt row s.clk.elapsed)) ∧
  (∀ (q : OdapReq) (node profile : Nat) (u : Session) (s : State), WriteAccepted q ⟨0x6800, 2, node⟩ 2 (beOct 1 profile) u s →
    Commits q (.nodeDlProfileWrite q node profile) (effNow s) [.hed, .od, .rid] s (fun r => odGet r 0x6800 2 node = beOct 1 profile ∧
      r.rid = { s.rid with tokens := sinsert node (0, s.clk.elapsed) s.rid.tokens })) ∧
  (∀ (q : OdapReq) (row : Nat) (rec : Octets) (u : Session) (s : State), WriteAccepted q ⟨0x6820, 1, row⟩ 0xE rec u s →
    Commits q (.meterWrite q row rec) (effNow s) [.hed, .od, .rid] s (fun r => odGet r 0x6820 1 row = rec ∧
      r.rid = { s.rid with meters := serase row s.rid.meters })) ∧
  (∀ (q : OdapReq) (row : Nat) (rec : Octets) (u : Session) (s : State), WriteAccepted q ⟨0x6810, 2, row⟩ 0xE rec u s →
    Commits q (.shaperWrite q row rec) (effNow s) [.hed, .od, .rid] s (fun r => odGet r 0x6810 2 row = rec ∧
      r.rid = { s.rid with ports := modAt (fun p => { p with shapers := setAt p.shapers (row % 8) (0, s.clk.elapsed) }) s.rid.ports (row / 8) })) ∧
  (∀ (q : OdapReq) (ip6 : Bool) (row : Nat) (rec v : Octets) (d : ObjDesc) (u : Session) (s : State),
    let a : Addr := if ip6 then ⟨0x6420, 1, row⟩ else ⟨0x6410, 4, row⟩
    let entry := if ip6 then ip6StaticEntry else macStaticEntry
    let c : Instr := .staticTableWrite q ip6 row rec
    let old := odGet s a.idx a.sub row
    let t := touch q.session s
    let t0 := if octet0 old = 1 ∧ ¬ (octet0 v = 1 ∧ (entry old).key = (entry v).key) then tableDelete (entry old).tag (entry old).key t else t
    WriteAccepted q a 0xE rec u s → odFind a.idx a.sub = some d → v = masked d rec →
    (octet0 v ≠ 1 → Commits q c (effNow s) [.hed, .od, .tre] s (fun r => odGet r a.idx a.sub row = v ∧ r.tre = t0.tre)) ∧
    (∀ t1 x, octet0 v = 1 → tableInsert (entry v) t0 = (t1, x) → x ≠ .tableFull →
      Commits q c (effNow s) [.hed, .od, .tre] s (fun r => odGet r a.idx a.sub row = v ∧ r.tre = t1.tre)) ∧
    (∀ t1, octet0 v = 1 → tableInsert (entry v) t0 = (t1, .tableFull) →
      exec c s = .next (afterWrite q s (bump 0x6400 3 0 t, errA stTableFull))))

/-- FEED_SWITCH connects the train named, clears its DEVIATED mark and logs the order; FEED_CLEAR clears both marks of its train
and nothing else; TAMPER_CFG is copied to its input; TAMPER_CLEAR clears both latches and their counts and leaves the
settings. -/
def Obligations.FeedAndTamperWritesCommit : Prop :=
  (∀ (q : OdapReq) (train : Nat) (u : Session) (s : State), WriteAccepted q ⟨0xB010, 3, 0⟩ 2 (beOct 1 train) u s → train < 256 →
    Commits q (.feedSwitchWrite q train) (effNow s) [.pwr, .shd] s (fun r => r.pwr.train = train ∧
      r.pwr.deviated = setAt s.pwr.deviated train false ∧ r.pwr.gapEnd = some (s.clk.elapsed + 8400) ∧ r.pwr.failed = s.pwr.failed ∧
      r.shd = (logEvent 0x64 2 (beOct 1 train) s).shd)) ∧
  (∀ (q : OdapReq) (train : Nat) (u : Session) (s : State), WriteAccepted q ⟨0xB010, 4, 0⟩ 2 (beOct 1 train) u s → train < 256 →
    Commits q (.feedClearWrite q train) (effNow s) [.pwr] s (fun r => r.pwr = { s.pwr with
      deviated := setAt s.pwr.deviated train false, failed := setAt s.pwr.failed train false })) ∧
  (∀ (q : OdapReq) (input : Nat) (cfg v : Octets) (d : ObjDesc) (u : Session) (s : State), WriteAccepted q ⟨0xB200, 1, input⟩ 0xE cfg u s →
    odFind 0xB200 1 = some d → v = masked d cfg →
    Commits q (.tamperCfgWrite q input cfg) (effNow s) [.hed, .od, .pwr] s (fun r => odGet r 0xB200 1 input = v ∧
      r.pwr = { s.pwr with tamper := modAt (fun x =>
        { x with cfg := tamperBits v, active := x.active && armed { x with cfg := tamperBits v } }) s.pwr.tamper input })) ∧
  (∀ (q : OdapReq) (u : Session) (s : State), WriteAccepted q ⟨0xB200, 3, 0⟩ 2 [1] u s →
    Commits q (.tamperClearWrite q) (effNow s) [.pwr] s (fun r => r.pwr = { s.pwr with tamper := s.pwr.tamper.map (fun x =>
      { x with latched := false, count := 0, secs := 0, sub := 0 }) }))

/-- A committed change is taken up at its slot; an announced one whose beacon was never emitted is dropped and logged, reason 0;
a change that ends service is taken up when its superframe has been served. M1's power-down drops every domain but D0, and a
reboot drops them at its instant and boots 100 ms later. -/
def Obligations.ModeChangesComplete : Prop :=
  (∀ (c : ModeChange) (s : State), s.ctl.change = some c → (c.kind = .announced ∧ c.announced = true) ∨ c.kind = .atSlot → atSlot s c.eff = true →
    exec .modeChangeEffective s = .next (conclude s (takeChange c (advanceToSlot c.eff s)))) ∧
  (∀ (c : ModeChange) (s : State), s.ctl.change = some c → c.kind = .announced → c.announced = false → atSlot s c.eff = true →
    exec .modeChangeAbandon s = .next (conclude s (logEvent 0x2D 1 [BitVec.ofNat 8 c.target.code, 0] { s with ctl := { s.ctl with change := none } }))) ∧
  (∀ (c : ModeChange) (s : State), s.ctl.change = some c → c.kind = .endOfService → atSlot s c.eff = true →
    exec .endOfServiceComplete s = .next (conclude s (takeChange c (advanceToSlot c.eff s)))) ∧
  (∀ (t : Nat) (s : State), s.ctl.powerDownAt = some t → s.ctl.mode = .m1 →
    exec .m1PowerDown s = .next (conclude s (dropDomains s))) ∧
  (∀ (t : Nat) (s : State), s.ctl.rebootAt = some t →
    ∀ s1 : State, s1 = dropDomains (advanceElapsed t s) →
    exec .rebootAssert s = .next (conclude s (beginBoot 6 (advanceElapsed (s1.clk.elapsed + 100 * msCycles) s1))))

/-- Entering a mode makes it the current one, remembered as the working mode where it is one; entering any mode but M1 powers
that mode's domains, and entering M1 sets its power-down 100 ms ahead and stops the server. Entering or leaving M2 starts the
server over: no transaction, no transfer and no subscription is left (that it does on leaving M2 too is the model's choice,
log entry 152). Dropping the domains leaves M1 with its domains, an empty memory, no session and no server, the host side of
every block but Shed empty, and leaves the clock and the chip's fuses as they were, and every object but the mailbox
counters. -/
def Obligations.EnteringAModeSetsItsDomains : Prop :=
  (∀ (m : Mode) (s : State), (enterMode m s).ctl.mode = m ∧ (m.working = true → (enterMode m s).ctl.work = m) ∧
    (m ≠ .m1 → (enterMode m s).ctl.domains = m.domains s.chip.fPackage) ∧
    (m = .m1 → (enterMode m s).ctl.powerDownAt = some (s.clk.elapsed + 100 * msCycles) ∧ (enterMode m s).srv.up = false) ∧
    (s.srv.up = true → 2 ≤ s.ctl.mode.code → m ≠ .m1 → ((m = .m2 ∧ s.ctl.mode ≠ .m2) ∨ (m ≠ .m2 ∧ s.ctl.mode = .m2)) →
      (enterMode m s).srv.up = true ∧ (enterMode m s).srv.txns = [] ∧ (enterMode m s).srv.blocks = [] ∧ (enterMode m s).srv.subs = [])) ∧
  (∀ s : State, (dropDomains s).ctl.mode = .m1 ∧ (dropDomains s).ctl.domains = Mode.m1.domains s.chip.fPackage ∧ (dropDomains s).mem = [] ∧
    (∀ i c, (dropDomains s).host.chans[i]? = some c → i / 5 ≠ 4 → i % 5 ≠ 4 → c.fifo = [] ∧ c.credits = 8 ∧ c.txAborted = false) ∧
    (∀ i p, (dropDomains s).host.pages[i]? = some p → i ≠ 4 → p.doorbell = 0 ∧ p.mask = 0) ∧
    (dropDomains s).srv.up = false ∧ (dropDomains s).srv.sessions = [] ∧ (dropDomains s).srv.pend = s.srv.pend ∧
    (∀ i b r, i ≠ 0xA500 → b < 256 → r < 2 ^ 32 → odGet (dropDomains s) i b r = odGet s i b r) ∧
    (dropDomains s).clk = s.clk ∧ (dropDomains s).chip = s.chip)

/-- Where no step is due, SLOT_START brings the clock to the start of the next slot, ends the slot in progress and begins the
next, whose ASN becomes the running one. A step whose amount is fixed is applied at its own instant. The preparation window
opens 2 ms before the slot reads the node records, where a poisoned read takes its record out, and plans it. A port's pending
gate list takes over from the one in operation. -/
def Obligations.SlotsStartAndArePrepared : Prop :=
  (∀ (a : Nat) (s : State), stepDue s = none → s.eas.next = some a →
    ∀ s1 : State, s1 = endSlot (advanceNs (startNs s a).toNat s) →
    ∀ s2 : State, s2 = beginSlot a { s1 with eas := { s1.eas with asn := a, next := some (a + 1), running := true },
                                              clk := { s1.clk with ran := some (max a (s1.clk.ran.getD 0)) } } →
    exec .slotStart s = .next (conclude s { s2 with eas := { s2.eas with stepSlot := if s2.eas.stepSlot = some a then none else s2.eas.stepSlot } })) ∧
  (∀ (d : Int) (e : Nat) (s : State), stepDue s = some (d, e) → s.eas.running = true →
    exec .clockStepApply s = .next (conclude s (stepAtInstant d e s))) ∧
  (∀ (a prepUs : Nat) (overrun : Bool) (bad : List Nat) (s s0 : State), s.eas.next = some a → s.eas.restarting = false → s.eas.nextPlan.asn ≠ a →
    openWindow a s = some s0 →
    ∀ s1 : State, s1 = takeUpDue a s0 →
    ∀ s2 : State, s2 = bad.foldl (fun s a => poisonRead a s) { s1 with eas := { s1.eas with trapped := false } } →
    ∀ s3 : State, s3 = prepareSlot (s1.eas.next.getD a) prepUs (overrun || s.eas.trapped) s2 →
    exec (.preparationWindowOpen prepUs overrun bad) s = .next (conclude s { s3 with eas := { s3.eas with absent := [] } })) ∧
  (∀ (a : Nat) (s : State), (∀ d e, stepDue s = some (d, e) → e ≠ a ∨ d = 0) →
    openWindow a s = some (advanceNs (startNs s a - 2000000).toNat s)) ∧
  (∀ (port : Nat) (g : GateList) (at_ : Nat) (s : State), (egPort s port).pend = some (g, at_) →
    ∀ s1 : State, s1 = advanceNs at_ s →
    exec (.gateListSwitch port) s = .next (conclude s (modEgPort port (fun p => { p with oper := g, pend := none, entry := gateEntry g (nowNs s1) }) s1)))

/-- A step back is applied when the unstepped clock reads start(E), and every node's timing uncertainty rises by its size,
rounded up to 1 us. A step forward of at most T - 200 us is applied when the clock reads start(E) - d, a larger one 200 us
into slot E-1, and slots that it passes over are counted as step slots. The step is then no longer pending or requested. -/
def Obligations.StepIsAppliedByItsSize : Prop :=
  ∀ (d : Int) (e : Nat) (s : State),
    (d < 0 → stepAtInstant d e s = applyStep d (advanceNs (startNs s e).toNat s)) ∧
    (0 ≤ d → d ≤ (slotNs (epochFor s (e - 1)).code : Int) - 200000 → stepAtInstant d e s = applyStep d (advanceNs (startNs s e - d).toNat s)) ∧
    (0 ≤ d → (slotNs (epochFor s (e - 1)).code : Int) - 200000 < d →
      stepAtInstant d e s = passOver e (applyStep d (advanceNs (startNs s (e - 1) + 200000).toNat s))) ∧
    (applyStep d s).clk.stepPending = false ∧ (applyStep d s).clk.stepReq = none ∧
    (applyStep d s).clk.now = ((s.clk.now : Int) + d * nsUnit).toNat ∧
    (applyStep d s).nod.recs = s.nod.recs.map (fun p => (p.1, { p.2 with stepAdd := p.2.stepAdd + (d.natAbs + 999) / 1000 })) ∧
    (applyStep d s).mem = s.mem ∧ (applyStep d s).od = s.od

/-- In LOCKED, HOLDOVER and STEP_HELD a measurement leaves the clock's reading as it is. Above STEP_THRESHOLD it is refused: the
clock enters STEP_HELD with STEP_PENDING set and STEP_AMOUNT the offset. At or below it, LOCKED and HOLDOVER lead to LOCKED.
The offset measured is what the offset object reads. -/
def Obligations.MeasurementsNeverStepAValidClock : Prop :=
  (∀ (off : Int) (s : State), servoRuns s = false → Machine.measure off s = s) ∧
  ∀ (off : Int) (s : State), servoRuns s = true → s.clk.state ≠ .invalid → s.clk.state ≠ .acquiring →
    (Machine.measure off s).clk.now = s.clk.now ∧ (Machine.measure off s).clk.offset = off ∧ (Machine.measure off s).clk.valid = s.clk.valid ∧
    (stepThreshold s < off.natAbs → (Machine.measure off s).clk.state = .stepHeld ∧ (Machine.measure off s).clk.stepPending = true ∧ (Machine.measure off s).clk.stepAmount = off) ∧
    (off.natAbs ≤ stepThreshold s → s.clk.state ≠ .stepHeld → (Machine.measure off s).clk.state = .locked) ∧
    (Machine.measure off s).mem = s.mem ∧ (Machine.measure off s).ctl = s.ctl

/-- A message that the profile refuses is discarded and counted, with no answer and no other effect. A one-step Sync gives an
offset, a two-step one waits for its Follow_Up; a Delay_Req to a master and a Pdelay_Req are stamped and answered; their
responses complete the delay measurement of their port; an Announce of another clock is remembered under its sender and
enters the best master decision. -/
def Obligations.PtpMessagesRun : Prop :=
  ∀ (m : PtpMsg) (s : State), s.ctl.mode ≠ .m0 → s.ctl.mode ≠ .m1 → s.shd.warm = none →
    (ptpRefused m 2 s = true → ∀ c ∈ [Instr.sync m, .followUp m, .announce m],
      exec c s = .next (conclude s { s with clk := { s.clk with ptpDiscarded := s.clk.ptpDiscarded + 1 } })) ∧
    (ptpRefused m 0 s = true → ∀ c ∈ [Instr.delayReq m, .delayResp m],
      exec c s = .next (conclude s { s with clk := { s.clk with ptpDiscarded := s.clk.ptpDiscarded + 1 } })) ∧
    (ptpRefused m 1 s = true → ∀ c ∈ [Instr.pdelayReq m, .pdelayResp m, .pdelayRespFollowUp m],
      exec c s = .next (conclude s { s with clk := { s.clk with ptpDiscarded := s.clk.ptpDiscarded + 1 } })) ∧
    (ptpRefused m 2 s = false → ptpListens m s = true → m.twoStep = false → exec (.sync m) s = .next (conclude s (ptpOffset m (rxStamp m s) s))) ∧
    (ptpRefused m 2 s = false → ptpListens m s = true → m.twoStep = true →
      exec (.sync m) s = .next (conclude s (modPort m.port (fun p => { p with syncWait := some (m.seq, rxStamp m s - m.corr) }) s))) ∧
    (∀ t2, ptpRefused m 2 s = false → (portOf s m.port).syncWait = some (m.seq, t2) → ptpListens m s = true →
      exec (.followUp m) s = .next (conclude s (ptpOffset m t2 s))) ∧
    (ptpRefused m 0 s = false → (portOf s m.port).portState = 6 →
      exec (.delayReq m) s = .next (conclude s { s with out := s.out ++ [.ptp m.port 9 m.seq (rxStamp m s)] })) ∧
    (∀ t1 t2 t3, ptpRefused m 0 s = false → (portOf s m.port).reqSent = some (m.seq, t3) → (portOf s m.port).lastSync = some (t1, t2) → m.forUs = true →
      ptpListens m s = true →
      exec (.delayResp m) s = .next (conclude s (modPort m.port (fun p =>
        { p with reqSent := none, delay := some (((t2 - t1) + (m.origin - m.corr - t3)) / 2) }) s))) ∧
    (ptpRefused m 1 s = false → exec (.pdelayReq m) s = .next (conclude s
      { s with out := s.out ++ [.ptp m.port 3 m.seq (rxStamp m s)] ++ [.ptp m.port 10 m.seq (txStamp m.port s)] })) ∧
    (∀ t1, ptpRefused m 1 s = false → (portOf s m.port).reqSent = some (m.seq, t1) → m.forUs = true → m.twoStep = false →
      exec (.pdelayResp m) s = .next (conclude s (modPort m.port (fun p =>
        { p with reqSent := none, delay := some ((rxStamp m s - t1 - m.corr) / 2) }) s))) ∧
    (∀ t1, ptpRefused m 1 s = false → (portOf s m.port).reqSent = some (m.seq, t1) → m.forUs = true → m.twoStep = true →
      exec (.pdelayResp m) s = .next (conclude s (modPort m.port (fun p =>
        { p with reqSent := none, pdelayWait := some (m.seq, m.origin - m.corr, rxStamp m s - t1) }) s))) ∧
    (∀ t2 turn, ptpRefused m 1 s = false → (portOf s m.port).pdelayWait = some (m.seq, t2, turn) → m.forUs = true →
      exec (.pdelayRespFollowUp m) s = .next (conclude s (modPort m.port (fun p =>
        { p with pdelayWait := none, delay := some ((turn - (m.origin + m.corr - t2)) / 2) }) s))) ∧
    (ptpRefused m 2 s = false → exec (.announce m) s = .next (conclude s (decideStates none (noteAnnounce m s)))) ∧
    (m.source / 65536 ≠ clockIdentity s → m.steps < 255 → m.port < s.clk.ports.length →
      ∃ f ∈ (portOf (noteAnnounce m s) m.port).foreigns, f.source = m.source ∧ f.ds = announceDs m ∧ f.last = s.clk.elapsed)

/-- A PPS_IN edge is measured at its stamp less PPS_IN_DELAY. PPS_OUT marks the next integral second, advanced by PPS_OUT_DELAY.
When the source is lost, a LOCKED or STEP_HELD clock enters HOLDOVER with its rate at the frequency estimate; VALID and the
reading stay. A port whose master is no longer heard is decided anew, and its message timers send Sync, with its Follow_Up,
delay requests and Announce. -/
def Obligations.ClockTimersRun : Prop :=
  (∀ (jitter : Int) (s : State), odNat s 0x2001 1 = 1 ∨ odNat s 0x2001 1 = 2 → s.ctl.mode ≠ .m0 → s.ctl.mode ≠ .m1 →
    exec (.ppsInEdge jitter) s = .next (conclude s (ppsEdge ((nowNs s : Int) + clampInt (-4) 4 jitter - odInt s 0x2020 4) s))) ∧
  (∀ s : State, s.ctl.mode ≠ .m0 → s.ctl.mode ≠ .m1 →
    exec .ppsOutSecond s = .next (conclude s (ppsPulse (nowSecs s + 1)
      (advanceNs (((nowSecs s + 1) * 1000000000 : Int) - odInt s 0x2020 3).toNat s)))) ∧
  (∀ (t : Nat) (s : State), s.clk.lastMeas = some t →
    exec .sourceTimeout s = .next (conclude s (sourceLost (advanceElapsed (t + odNat s 0x2001 7 * msCycles) s)))) ∧
  (∀ s : State, (s.clk.state = .locked ∨ s.clk.state = .stepHeld → (sourceLost s).clk.state = .holdover ∧
      (sourceLost s).clk.rateCorr = (if servoRuns s then s.clk.freqEst else s.clk.rateCorr) ∧ (sourceLost s).clk.stepPending = false ∧
      (sourceLost s).clk.holdSince = s.clk.elapsed) ∧
    (sourceLost s).clk.sourceLost = true ∧ (sourceLost s).clk.valid = s.clk.valid ∧ (sourceLost s).clk.now = s.clk.now) ∧
  (∀ (port : Nat) (s : State), exec (.announceReceiptTimeout port) s = .next (conclude s (decideStates (some port) (loseMaster port s)))) ∧
  (∀ (port : Nat) (s : State) (i : Nat) (f : Foreign), portBest s port = some (i, f) →
    loseMaster port s = modPort port (fun p => { p with foreigns := p.foreigns.filter (fun x => x.source != f.source) }) s) ∧
  (∀ (port : Nat) (s : State), s.ctl.mode ≠ .m0 → s.ctl.mode ≠ .m1 → s.shd.warm = none → portActive s port = true →
    let p := portOf s port
    let step := modPort port (fun p => { p with seq := (p.seq + 1) % 65536 }) s
    (p.portState = 6 → odNat s 0x2010 6 = 1 → exec (.ptpMessageTimer port 0) s = .next (conclude s (emit (.ptp port 0 p.seq (txStamp port s)) step))) ∧
    (p.portState = 6 → odNat s 0x2010 6 ≠ 1 → exec (.ptpMessageTimer port 0) s = .next (conclude s
      (emit (.ptp port 8 p.seq (txStamp port s)) (emit (.ptp port 0 p.seq (txStamp port s)) step)))) ∧
    (odNat s 0x2010 5 = 1 ∨ p.portState = 8 ∨ p.portState = 9 → exec (.ptpMessageTimer port 1) s = .next (conclude s
      (modPort port (fun q => { q with reqSent := some (p.seq, txStamp port s) })
        (emit (.ptp port (if odNat s 0x2010 5 = 1 then 2 else 1) p.seq (txStamp port s)) step)))) ∧
    (p.portState = 6 → exec (.ptpMessageTimer port 2) s = .next (conclude s (emit (.announce port p.seq (announced s)) step))))

/-- An armed engine searches when its cell's window opens. A metric at or above PD_THRESH on either aerial is a detection, and
the engine decides; at the end of the hold it keeps one aerial and hunts. An SFD that matches within the window, after the
bits it needs, freezes the gain and opens the header; the hunt span ends 64 positions after the last metric at or above
PD_THRESH, and the engine searches, or is idle where the window has closed. A window that closes ends a search, and counts
where no SFD was found in it; a node that was not heard and that no Glaze partner was asked for loses its presumed contact.
The aerials' gains follow the powers measured at each event. -/
def Obligations.ReceptionBegins : Prop :=
  ∀ (i : Nat) (c : RxCell) (s : State), engineCell s i = some c →
    let e := engine s i
    let at_ (ns : Nat) : State := advanceNs ((startNs s s.eas.asn).toNat + ns) s
    (e.st = .armed → exec (.receiveWindowOpen i) s = .next (conclude s (modEngine i (fun e => { e with st := .search, window := true, sfdSeen := false })
      (at_ (c.openUs * 1000))))) ∧
    (∀ a b ns powers, e.st = .search → (cellProfile s c).pdThresh ≤ aerialMetric s c 0 a ∨ (cellProfile s c).pdThresh ≤ aerialMetric s c 1 b →
      exec (.preambleDetect i ⟨a, b, ns⟩ powers) s = .next (conclude s
        (modEngine i (fun e => { trackGain powers e with st := .decide, frozen := false, detNs := ns }) (at_ ns)))) ∧
    (∀ hold powers, e.st = .decide → holdSamples (cellProfile s c).phy ≤ hold.length →
      exec (.aerialHoldEnd i ⟨hold⟩ powers) s = .next (conclude s
      (modEngine i (fun e => { trackGain powers e with st := .hunt, aerial := (keptAerial s c hold).1
                                                       cbar := (keptAerial s c hold).2.1, single := (keptAerial s c hold).2.2 })
        (advanceNs ((startNs s s.eas.asn).toNat + e.detNs + holdNs (cellProfile s c).phy) s)))) ∧
    (∀ bits oqpskOk ns powers coded, e.st = .hunt → e.window = true → e.detNs + leastNs (cellProfile s c) ≤ ns →
      sfdMatch (cellProfile s c) bits oqpskOk = some coded →
      exec (.sfdFound i bits oqpskOk ns powers) s = .next (conclude s (modEngine i (fun e => { trackGain powers e with
        st := .header, coded := coded, sfdNs := ns, sfdSeen := true, frozen := true, watch := false
        training := trainingAt s c.band ns }) (at_ ns)))) ∧
    (∀ span powers, e.st = .hunt → huntSpan s c e.aerial span ≤ span.length →
      exec (.huntSpanEnd ⟨i, span, powers⟩) s = .next (conclude s
        (modEngine i (fun e => { trackGain powers e with st := if e.window then .search else .idle, frozen := false })
          (advanceNs ((startNs s s.eas.asn).toNat + e.detNs + holdNs (cellProfile s c).phy +
            airNs (cellProfile s c).phy (huntSpan s c e.aerial span)) s)))) ∧
    (e.window = true →
      ∀ s1 : State, s1 = modEngine i (fun e => { e with window := false }) (at_ (c.closeUs * 1000)) →
      ∀ s2 : State, s2 = (if e.sfdSeen then s1 else bump 0x3110 3 2 s1) →
      ∀ s3 : State, s3 = (if e.st = .search then modEngine i (fun e => { e with st := .idle }) s2 else s2) →
      (e.receiving = true ∨ c.partner = true ∨ c.kind ≠ 0 ∨ c.node = none → exec (.receiveWindowClose i) s = .next (conclude s s3)) ∧
      (∀ n, e.receiving = false → c.partner = false → c.kind = 0 → c.node = some n →
        exec (.receiveWindowClose i) s = .next (conclude s (if heardIn s3 s3.eas.asn n || glazeListed s3 s3.eas.asn n then s3 else withdrawPresumed n s3))))

/-- A PHR within the length limits opens the payload; one outside them abandons the reception for LENGTH, a mode switch for
MODE_SWITCH, and 32 symbols below the faded floor for FADE. A watch candidate that beats the current frame by WATCH_MARGIN
takes over while the window is open. A frame's end hands its report and octets on, with the power, quality and frequency
offset that the block measured; a frame whose CRC passes leaves the engine idle and waits for its lane; one whose CRC fails
leaves it searching while the window is open. An abandoned reception leaves it so too. -/
def Obligations.ReceptionEnds : Prop :=
  ∀ (i : Nat) (c : RxCell) (s : State), engineCell s i = some c →
    let e := engine s i
    (∀ len fcs2 soft, e.st = .header → len ≤ (if e.coded then c.maxCoded else c.maxPlain) → (if fcs2 then 2 else 4) ≤ len →
      exec (.phrDecoded i len false fcs2 soft) s = .next (conclude s
        (modEngine i (fun e => { e with st := .payload, len := len, fcs2 := fcs2 }) s))) ∧
    (∀ len fcs2 soft, e.st = .header → exec (.phrDecoded i len true fcs2 soft) s = .next (conclude s (abandon i 5 s))) ∧
    (∀ len fcs2 soft, e.st = .header → (if e.coded then c.maxCoded else c.maxPlain) < len ∨ len < (if fcs2 then 2 else 4) →
      exec (.phrDecoded i len false fcs2 soft) s = .next (conclude s (abandonSoft i 0 c len soft s))) ∧
    (∀ powers soft, e.st = .payload → 32 ≤ powers.length →
      (∀ p ∈ powers.drop (powers.length - 32), p < channelFloor s c e.aerial + 256 * (cellProfile s c).fadeMargin) →
      exec (.fadeAbandon i powers soft) s = .next (conclude s (abandonSoft i 1 c e.len soft s))) ∧
    (∀ (w : WatchSeen) bits ns powers coded, e.receiving = true → e.watch = false → e.window = true →
      (cellProfile s c).pdThresh ≤ aerialMetric s c 0 w.a ∨ (cellProfile s c).pdThresh ≤ aerialMetric s c 1 w.b →
      e.sfdNs ≤ w.detNs → w.detNs + leastNs (cellProfile s c) ≤ ns → holdSamples (cellProfile s c).phy ≤ w.hold.length →
      ns ≤ e.sfdNs + airNs (cellProfile s c).phy 64 →
      marginMet (keptAerial s c w.hold).2.1 e.cbar (cellProfile s c).watchMargin = true →
      sfdMatch (cellProfile s c) bits w.oqpskOk = some coded →
      exec (.watchTakeover i w bits ns powers) s = .next (conclude s (bump 0x3110 1 2 (modEngine i (fun e => { trackGain powers e with
        st := .header, aerial := (keptAerial s c w.hold).1, cbar := (keptAerial s c w.hold).2.1
        single := (keptAerial s c w.hold).2.2, coded := coded, sfdNs := ns, frozen := true
        watch := true, len := 0, training := trainingAt s c.band ns })
          (advanceNs ((startNs s s.eas.asn).toNat + ns) s))))) ∧
    (∀ (m : RxMeas) (f : RxFrame), e.st = .payload →
      ∀ f1 : RxFrame, f1 = { f with rssi := rssiOf s c e m.power, lq := lqOf m.snr, foff := foffOf (cellProfile s c) e.coded e.len m.offset
                                    psdu := padTo e.len f.psdu } →
      ∀ ns : Nat, ns = (startNs s s.eas.asn).toNat + e.sfdNs + airNs (cellProfile s c).phy (payloadBits (cellProfile s c) e.coded e.len) →
      ∀ crc : Bool, crc = fcsPasses e.fcs2 f1.psdu →
      ∀ s1 : State, s1 = noteReception i (bump 0x3110 3 (if crc then 0 else 1) (advanceNs ns s)) →
      exec (.frameEnd i ⟨m, f⟩) s = .next (conclude s (modEngine i (fun e => { e with
        st := if crc then .idle else if e.window then .search else .idle, frozen := false, watch := false }) (handOn i c f1 s1))) ∧
      (crc = true → c.partner = false → s1.ctl.mode ≠ .m4 → handOn i c f1 s1 = { s1 with
        out := s1.out ++ [.report (reportOct s1 i c f1 e.len true false) f1.psdu]
        nod := { s1.nod with mac := s1.nod.mac ++ [{ frame := f1, cell := c, asn := s1.eas.asn, offsetNs := e.sfdNs
                                                     fcs2 := e.fcs2, report := reportOct s1 i c f1 e.len true false }] } }) ∧
      (crc = false → keepsSoft s1 c e.coded = false → handOn i c f1 s1 = { s1 with
        out := s1.out ++ [.report (reportOct s1 i c f1 e.len false false) f1.psdu] })) ∧
    (∀ reason, i < s.pal.engines.length → let t := abandon i reason s
      (engine t i).st = (if e.window then .search else .idle) ∧ (engine t i).watch = false ∧ (engine t i).frozen = false ∧ (engine t i).len = 0)

/-- A self-test that passes is recorded at the running ASN; a first failure is re-initialised and tested again, a second marks
the engine FAULTY. An internal fault ends a reception of the engine, or of the pair it is in, with reason ENGINE_FAULT, and
the engine leaves service at the next slot start for the test; where too few healthy engines are then left, the loss of
capacity is logged. A measured block gives its path a peak, 6 dB over full scale where it clipped, and its powers to the
bins; a block in which the block itself transmits trains the leakage canceller's taps of the bins received. -/
def Obligations.EnginesAreTestedAndMeasured : Prop :=
  (∀ (i : Nat) (s : State), (engine s i).st = .test →
    ∀ s1 : State, s1 = endRequest 6 i true (odPut 0x3100 4 i (beOct 8 s.eas.asn) (modEngine i (fun e => { e with fails := 0, retest := false }) s)) →
    exec (.engineSelfTestComplete i true) s = .next (conclude s (if (engine s i).retest then logStep fnEngine i 2 0 s1 else s1))) ∧
  (∀ (i : Nat) (s : State), (engine s i).st = .test → (engine s i).fails = 0 → (engine s i).retest = false →
    exec (.engineSelfTestComplete i false) s = .next (conclude s
      (noteCapacity s (countStep fnEngine 2 (modEngine i (fun e => { e with fails := 1, retest := true }) s))))) ∧
  (∀ (i : Nat) (s : State), (engine s i).st = .test → (engine s i).fails ≠ 0 ∨ (engine s i).retest = true →
    ∀ s1 : State, s1 = endRequest 6 i false (logEvent 0x28 2 (beOct 1 i) (modEngine i (fun _ => { st := .faulty, fails := 2 }) s) fnEngine i) →
    exec (.engineSelfTestComplete i false) s = .next (conclude s (noteCapacity s s1))) ∧
  (∀ a b : State, needed a ≤ healthyCount a → healthyCount b < needed b → noteCapacity a b = logEvent 0x29 2 (beOct 1 (healthyCount b)) b) ∧
  (∀ (i : Nat) (s : State), (engine s i).st ≠ .off → (engine s i).st ≠ .test → (engine s i).st ≠ .faulty →
    exec (.engineInternalFault i) s = .next (conclude s (noteCapacity s (countStep fnEngine 2
      (modEngine i (fun e => { e with leaving := true, retest := true })
        (if (engine s (holderEngine s i)).receiving then abandon (holderEngine s i) 6 s else s)))))) ∧
  (∀ (i : Nat) (s : State), (pairsMode s = false → holderEngine s i = i) ∧ (pairsMode s = true → holderEngine s i = i - i % 2)) ∧
  (∀ (p : Nat) (peak : Int) (clipped : Bool) (powers : List (Nat × Int)) (knife : List (Nat × List KnifeSample)) (s : State),
    p < 4 → blockMeasured s p = true →
    let v := if clipped then fullScale (p / 2) (((rxPath s p).gain).getD (odNat s (bandIdx (p / 2) 0x3020) 6)) + 6 * 256 else peak
    ∀ s1 : State, s1 = { s with rf := { s.rf with paths := modAt (fun x => { x with peaks := (v :: x.peaks).take 64 }) s.rf.paths p } } →
    exec (.measurementBlockEnd p peak clipped ⟨powers, knife⟩) s = .next (conclude s
      (powers.foldl (fun s x => takeBin p x s) (if clipped then bump (bandIdx (p / 2) 0x3050) 4 (p % 2) s1 else s1)))) ∧
  (∀ (p : Nat) (peak : Int) (clipped : Bool) (powers : List (Nat × Int)) (knife : List (Nat × List KnifeSample)) (k : Nat) (s : State),
    p < 4 → blockMeasured s p = false → knifeSet s (p / 2) = some k → aerialOn s (p / 2) (p % 2) = true →
    exec (.measurementBlockEnd p peak clipped ⟨powers, knife⟩) s = .next (conclude s (knife.foldl (fun s x => knifeBin p k x s) s)))

/-- A carrier starts when its ramp begins and the synthesiser of its band is locked; with the synthesiser late it is dropped and
counted. At its end it counts as emitted. The loss of a lock is logged and cuts the band's carriers, or its receptions; the
first three attempts to lock again fail to the next, the fourth faults its paths. -/
def Obligations.CarriersAndSynthesisersRun : Prop :=
  (∀ (idx : Nat) (c : Carrier) (s : State), s.eas.active.tx[idx]? = some c → c.stage = 0 →
    ∀ s1 : State, s1 = advanceNs ((startNs s s.eas.asn).toNat + c.tc * 1000) s →
    ((synth s (txSynth c.band)).locked = true → exec (.carrierRampStart idx) s = .next (conclude s
      (modCarrier idx (fun c => { c with stage := 1 }) s1))) ∧
    ((synth s (txSynth c.band)).locked = false →
      ∀ s2 : State, s2 = bump (bandIdx c.band 0x3050) 1 0 (dropCarrier c (modCarrier idx (fun c => { c with stage := 3 }) s1)) →
      exec (.carrierRampStart idx) s = .next (conclude s
        { s2 with rf := { s2.rf with lateDrops := modAt (· + 1) s2.rf.lateDrops c.band } }))) ∧
  (∀ (idx : Nat) (c : Carrier) (s : State), s.eas.active.tx[idx]? = some c → c.stage = 1 →
    ∀ s1 : State, s1 = modCarrier idx (fun c => { c with stage := 2 }) (advanceNs ((startNs s s.eas.asn).toNat + c.te * 1000) s) →
    exec (.burstEnd idx) s = .next (conclude s (emitted c s1))) ∧
  (∀ (y : Nat) (s : State), y < 4 → (synth s y).locked = true →
    ∀ s1 : State, s1 = logEvent 0x20 2 (beOct 1 y) (modSynth y (fun z => { z with locked := false, attempts := 1 }) s) →
    exec (.synthLockLoss y) s = .next (conclude s (if y % 2 = 1 then cutCarriers (y / 2) s1 else cutReceptions (y / 2) s1))) ∧
  (∀ (y : Nat) (s : State), y < 4 → (synth s y).locked = false → 0 < (synth s y).attempts → (synth s y).attempts < 4 →
    let z := synth s y
    ∀ s1 : State, s1 = advanceNs (nowNs s + (if z.attempts < 3 then 80000 else 1200000)) s →
    ∀ s2 : State, s2 = modSynth y (fun z => { z with attempts := z.attempts + 1 }) s1 →
    exec (.synthRelockAttemptEnd y true) s = .next (conclude s (modSynth y (fun z => { z with locked := true, attempts := 0 })
      (if z.attempts = 3 then calibrate y z.centre s1 else s1))) ∧
    (z.attempts < 3 → exec (.synthRelockAttemptEnd y false) s = .next (conclude s s2)) ∧
    (z.attempts = 3 → exec (.synthRelockAttemptEnd y false) s = .next (conclude s ((synthPaths y).foldl (fun s p => fault fnRfPath p s) s2))))

/-- A calibration item that completes records its ASN and its die temperature and has its effect; an implausible result (of
FB_CAL, a coupled level outside -35 to -5 dBm) is logged, and the third in a row faults the path; the paths of its
synthesiser then take their next items. A pre-distortion update whose coefficients and clipped samples are in bounds takes
effect at the next slot start, to be checked there; one that is not is rejected (the coefficients computed are free values).
A dwell bucket's advance discards the charges that have aged out. A capture starts at its ASN and stops when its blocks are
taken. -/
def Obligations.CalibrationAndDwellRun : Prop :=
  (∀ (item path : Nat) (seen : ItemSeen) (s : State), (calItem s item path).running = true →
    ∀ us : Nat, us = (calItem s item path).startUs + itemUs s item path →
    ∀ s0 : State, s0 = advanceNs ((startNs s s.eas.asn).toNat + us * 1000) s →
    ∀ ok : Bool, ok = plausible item path seen →
    ∀ t : State, t = endRequest item path ok (itemResult item path ok s0) →
    exec (.calItemComplete item path seen) s = .next (conclude s
      ((synthPaths (pathSynth path)).foldl (fun s p => startNext t.eas.asn p us s) t))) ∧
  (∀ (path : Nat) (ok : Bool) (level : Int), path < 3 → plausible 4 path ⟨ok, level⟩ = (ok && decide (-35 * 256 ≤ level ∧ level ≤ -5 * 256))) ∧
  (∀ (item path : Nat) (seen : ItemSeen), item ≠ 4 ∨ 3 ≤ path → plausible item path seen = seen.ok) ∧
  (∀ (item path : Nat) (s : State), itemResult item path true s = itemEffect item path
    (odPut (bandIdx (path / 3) 0x3040) 1 (item - 1) (beOct 8 s.eas.asn) (setItem { calItem s item path with
      running := false, fails := 0, lastAt := some s.clk.elapsed, lastTemp := dieTempQ s (pathSensor path) } s))) ∧
  (∀ (item path : Nat) (s : State),
    let ran : CalItem := { calItem s item path with running := false, lastAt := some s.clk.elapsed, lastTemp := dieTempQ s (pathSensor path) }
    let logged (n : Nat) : State := logEvent 0x21 2 [BitVec.ofNat 8 item, BitVec.ofNat 8 path] (setItem { ran with fails := n } s)
    ((calItem s item path).fails < 2 → itemResult item path false s = logged ((calItem s item path).fails + 1)) ∧
    ((calItem s item path).fails = 2 → itemResult item path false s = fault fnRfPath path (setItem { ran with fails := 0 } (logged 3)))) ∧
  (∀ (k : Nat) (err : Int) (re im : List Int) (s : State), k < 9 →
    let band := if k = 8 then 1 else 0
    let coef := halfStep (dpdSet s k).coef (freeCoefs s.free)
    let xs := re.zip im
    let clipped := clipsOf (dpdSet s k).coef [] xs
    ∀ s1 : State, s1 = { s with free := s.free + 32, pri := { s.pri with clips := modAt (· + clipped) s.pri.clips band } } →
    dpdOn s band = true → (s.pri.fbCal[band]?).getD false = true → dpdInUse s band = k → odNat s 0x3410 4 ≤ (dpdSet s k).captured →
    exec (.dpdUpdate k err re im) s = .next (conclude s (if coefOk coef = true ∧ 10000 * clipped ≤ xs.length
      then modDpd k (fun d => { d with next := some coef, check := some (d.coef, err), captured := 0, nmse := err }) s1
      else dpdReject band k err s1))) ∧
  (∀ (t : Nat) (s : State), (s.pri.dwell.map (fun a => (bucketAt s a.rule s.clk.elapsed + 1) * bucketCycles s a.rule)).min? = some t →
    exec .dwellBucketAdvance s = .next (conclude s (pruneAccs (advanceElapsed t s)))) ∧
  (∀ (s : State) (a : DwellAcc), a ∈ (pruneAccs s).pri.dwell → ∀ x ∈ a.charges, bucketAt s a.rule s.clk.elapsed ≤ x.1 + 64) ∧
  (∀ s : State, s.pal.capState = 1 → s.ctl.mode = .m4 → odField s 0x3300 1 0 18 5 ≤ s.eas.asn →
    exec .captureStart s = .next (conclude s (startCapture s))) ∧
  (∀ s : State, s.pal.capState = 2 →
    let n := max 1 (captureSources s.pal.capCfg).length
    exec .captureStop s = .next (conclude s (endCapture 3
      (advanceElapsed (s.pal.capFrom + (captureLimit s.pal.capCfg + n - 1) / n * capturePeriod s.pal.capCfg) s))))

/-- A lane hands on the oldest frame of the MAC path. A node unheard for its supervision superframes is LOST, its cells
quarantined for two superframes and the loss logged. A missed sync confirm wakes the node again up to the retry limit, after
which it is LOST. A join directive unsent for four superframes is dropped. At its quarantine's end a node's rows are free, a
change that the spare's snapshot has to follow. A pending map is in force at its slot. -/
def Obligations.NodeTimersRun : Prop :=
  (∀ (lane : Nat) (m : MacFrame) (rest : List MacFrame) (s : State), lane < 8 → s.nod.mac = m :: rest →
    exec (.ccmLaneFrame lane) s = .next (conclude s (laneFrame m { s with nod := { s.nod with mac := rest } }))) ∧
  (∀ (n : Nat) (s : State), exec (.uplinkRelease n) s = .next (conclude s (releaseHead n s))) ∧
  (∀ (n a : Nat) (s : State), s.eas.next = some a → beaconSlot s a = true → supervised (nodeRec s n) = true →
    sfIndex s (nodeRec s n).lastRx + (nodeRec s n).supSf < sfIndex s a →
    exec (.nodeSupervisionExpiry n) s = .next (conclude s (declareLost n (sfIndex s a) (advanceNs (startNs s a - 2000000).toNat s)))) ∧
  (∀ (n a : Nat) (d : Nat) (s : State), (nodeRec s n).followup = some (a, d) → a + d + 2 ≤ s.eas.asn →
    ∀ s1 : State, s1 = modNode n (fun r => { r with followup := none }) (advanceNs (startNs s (a + d + 3)).toNat s) →
    ((nodeRec s n).st ≠ .desync → exec (.wakeFollowupMissed n) s = .next (conclude s s1)) ∧
    ((nodeRec s n).st = .desync → (nodeRec s n).wakeTries + 1 ≤ odNat s 0x5001 4 →
      exec (.wakeFollowupMissed n) s = .next (conclude s (wakeNode 0 n (modNode n (fun r => { r with wakeTries := r.wakeTries + 1 }) s1)))) ∧
    ((nodeRec s n).st = .desync → odNat s 0x5001 4 < (nodeRec s n).wakeTries + 1 →
      exec (.wakeFollowupMissed n) s = .next (conclude s (declareLost n (sfIndex s1 s1.eas.asn) (nodeLog 0x83 n (linkEvent 9 s1)))))) ∧
  (∀ (n : Nat) (j : JoinDir) (s : State), s.nod.joins.find? (fun j => j.node == n) = some j →
    j.sf + 4 < sfIndex s ((s.eas.next).getD s.eas.asn) →
    ∀ s1 : State, s1 = advanceNs ((j.sf + 5) * 25600000000) s →
    exec (.joinDirectiveExpiry n) s = .next (conclude s { s1 with nod := { s1.nod with joins := s1.nod.joins.filter (fun j => j.node != n) } })) ∧
  (∀ (n : Nat) (s : State), (nodeRec s n).st = .lost → (nodeRec s n).quarantine = true → atSlot s (nodeRec s n).qend = true →
    ∀ s1 : State, s1 = modNode n (fun r => { r with quarantine := false }) (advanceToSlot (nodeRec s n).qend s) →
    ∀ s2 : State, s2 = (quarantinedRows s1 n).foldl (fun s row => odPut 0x4013 1 row [0xFF, 0xFF, 0xFF, 0xFF] s) s1 →
    exec (.quarantineEnd n) s = .next (conclude s (if quarantinedRows s1 n = [] then s2 else { s2 with hed := { s2.hed with dirty := true } }))) ∧
  (∀ (pan : Nat) (m : MapChange) (s : State), s.eas.maps.find? (fun m => m.pan == pan) = some m → atSlot s m.eff = true →
    exec (.mapChangeEffective pan) s = .next (conclude s (applyMap m (advanceToSlot m.eff s))))

/-- While Trellis runs, an insertion of a key of its table's length and a deletion act on the table, or wait for room in the
notice ring; the insertion is answered and its entry kept among those its caller holds. A present key's entry is replaced in
place and then found, with no other table's array changed; a full table refuses, counts and changes nothing else. A lookup
answers with the entry; a bucket whose read is poisoned holds no match, and each poisoned read is logged and remembered.
Canvas applies the oldest notice to the shadow, and what waited goes on. The scrubber compares the next bucket whose notice
does not wait, ages the MAC entries of its bucket, and ends its walk with the buckets it left for later, passing over those
whose notice still waits. -/
def Obligations.TablesRun : Prop :=
  (∀ (tag flags value nxt : Nat) (key : Octets) (s : State), trellisRuns s = true → key.length = keyLen tag →
    ∀ e : TEntry, e = { tag := tag, flags := flags % 8, aux := if tag = 4 then macTime s else 0, value := value, next := nxt, key := key } →
    ∀ r : State × Inserted, r = tableInsert e s →
    (r.2 ≠ .tableFull → exec (.tableInsert tag flags value nxt key) s = .next (conclude s { r.1 with
      tre := { r.1.tre with owned := s.tre.owned.filter (fun x => !(x.tag == tag && x.key == key)) ++ [e] }
      out := r.1.out ++ [.inserted stOk] })) ∧
    (r.2 = .tableFull → exec (.tableInsert tag flags value nxt key) s = .next (conclude s { r.1 with
      tre := { r.1.tre with owned := s.tre.owned }, out := r.1.out ++ [.inserted stTableFull] }))) ∧
  (∀ (e : TEntry) (s : State), s.tre.waiting ≠ [] → tableInsert e s =
    if refuses s.chip e (settledTre s.tre.waiting s.tre) then (bump 0x6400 3 0 s, .tableFull) else (defer (.insert e) s, .waits)) ∧
  (∀ (tag : Nat) (key : Octets) (s : State), trellisRuns s = true → 1 ≤ tag → tag ≤ 5 →
    ∀ s0 : State, s0 = { s with tre := { s.tre with owned := s.tre.owned.filter (fun x => !(x.tag == tag && x.key == key)) } } →
    exec (.tableDelete tag key) s = .next (conclude s (if s0.tre.waiting = [] ∧ deletable tag key s0.tre = true
      then { s0 with tre := deleteEntry tag key s0.tre } else defer (.remove tag key) s0))) ∧
  (∀ (tag : Nat) (key : Octets) (bad : List Nat) (s : State),
    ∀ r : Option TEntry × List Nat, r = lookupPast s.tre tag key (s.tre.bad ++ bad) →
    exec (.tableLookup tag key bad) s = .next (conclude s (r.2.foldl (fun s a => logPoison a s)
      { s with tre := { s.tre with bad := s.tre.bad ++ r.2.filter (fun a => !s.tre.bad.contains a) }, out := s.out ++ [.lookup r.1] }))) ∧
  (∀ (tag : Nat) (key : Octets) (bad : List Nat) (t : Tre), badIn (arrayOf tag) (bucketOf 0 tag key) bad ≠ [] →
    badIn (arrayOf tag) (bucketOf 1 tag key) bad ≠ [] → (lookupPast t tag key bad).1 ≠ none →
    (∃ k < 8, (lookupPast t tag key bad).1 = some (entryAt t (arrayOf tag) (.stash k))) ∨ (lookupPast t tag key bad).1 = some t.reloc) ∧
  (∀ (e : TEntry) (t : Tre), (place t e.tag e.key).isSome = true → t.bad = [] → lookup (insertEntry e t).1 e.tag e.key = some e ∧
    (∀ arr, arr ≠ arrayOf e.tag → tarray (insertEntry e t).1 arr = tarray t arr)) ∧
  (∀ (e : TEntry) (s : State), s.tre.waiting = [] → 1 ≤ e.tag → e.tag ≤ 5 → place s.tre e.tag e.key = none →
    tableLimit s.chip e.tag ≤ tableCount s.tre e.tag → tableInsert e s = (bump 0x6400 3 0 s, .tableFull)) ∧
  (∀ s : State, s.ctl.domains[4]? = some .on → exec .digestRingAdvance s = .next (conclude s (ringAdvance s))) ∧
  (∀ (arr b d seq : Nat) (l : List (Nat × Nat × Nat × Nat)) (s : State), s.tre.ring = (arr, b, d, seq) :: l →
    ∀ s1 : State, s1 = { s with tre := { s.tre with ring := l, ap := (s.tre.ap + 1) % 510
                                                    shadow := sset emptyDigest s.tre.shadow (arr * 2 ^ 17 + b) d } } →
    ringAdvance s = resumeWaiting s.tre.waiting.length s1 ∧ (s.tre.waiting = [] → ringAdvance s = s1)) ∧
  (∀ (arr b : Nat) (poisoned : Bool) (s : State), trellisRuns s = true → s.tre.scrubAt = (arr, b) → arr < 3 →
    ∀ s1 : State, s1 = (if s.tre.ring.any (fun n => n.1 == arr && n.2.1 == b) then
      { s with tre := { s.tre with scrubLate := s.tre.scrubLate ++ [(arr, b)] } } else scrubCompare arr b poisoned s) →
    ∀ s2 : State, s2 = (if arr = 1 then ageBucket b s1 else s1) →
    ∀ s3 : State, s3 = { s2 with tre := { s2.tre with scrubAt := scrubNext arr b } } →
    exec (.scrubBucket poisoned) s = .next (conclude s (if (scrubNext arr b).1 = 3 ∧ s3.tre.scrubLate = [] then walkEnds s3 else s3))) ∧
  (∀ (a b : Nat) (l : List (Nat × Nat)) (poisoned : Bool) (s : State), trellisRuns s = true → 3 ≤ s.tre.scrubAt.1 → s.tre.scrubLate = (a, b) :: l →
    (s.tre.ring.any (fun n => n.1 == a && n.2.1 == b) = true →
      exec (.scrubBucket poisoned) s = .next (conclude s { s with tre := { s.tre with scrubLate := l ++ [(a, b)] } })) ∧
    (s.tre.ring.any (fun n => n.1 == a && n.2.1 == b) = false →
      ∀ s2 : State, s2 = scrubCompare a b poisoned { s with tre := { s.tre with scrubLate := l } } →
      exec (.scrubBucket poisoned) s = .next (conclude s (if l = [] then walkEnds s2 else s2))))

/-- The digest of a bucket is the CRC-16 of its four entries' 128 octets in address order, taken bit by bit, most significant
first, from 0xFFFF with polynomial 0x1021, not reflected and without a final XOR; over "123456789" it is 0x29B1. -/
def Obligations.BucketDigestIsCrc16 : Prop :=
  let step : BitVec 16 → Bool → BitVec 16 := fun r b => if r.getLsbD 15 != b then (r <<< 1) ^^^ 0x1021#16 else r <<< 1
  let bits : Octets → List Bool := fun o => o.flatMap (fun b => [7, 6, 5, 4, 3, 2, 1, 0].map (fun k => b.getLsbD k))
  (∀ o : Octets, crc16 o = ((bits o).foldl step 0xFFFF#16).toNat) ∧
    (∀ (t : Tre) (arr b : Nat), bucketDigest t arr b =
      crc16 (entryOctets (slotGet t arr b 0) ++ entryOctets (slotGet t arr b 1) ++ entryOctets (slotGet t arr b 2) ++ entryOctets (slotGet t arr b 3)) ∧
      ∀ k, (slotGet t arr b k).key.length ≤ 16 → (entryOctets (slotGet t arr b k)).length = 32) ∧
    crc16 [0x31, 0x32, 0x33, 0x34, 0x35, 0x36, 0x37, 0x38, 0x39] = 0x29B1

/-- A frame received on a live port is forwarded, learned from or dropped; one with a bad FCS is counted and goes no further. A
port that selects takes what waits for the backhaul and sends the control queue's head before any class. A gate list moves to
its next entry at its end. A shaper's tokens reach the head frame's size when their time has passed. Canvas's packets join a
node's queue, or the group's. -/
def Obligations.SwitchAndShapersRun : Prop :=
  (∀ (port : Nat) (f : EthFrame) (s : State), port < 2 → ethUp s port = true → trellisRuns s = true →
    exec (.ethFrameReceived port f) s = .next (conclude s (ethReceive port f s)) ∧
    (f.fcsOk = false → ethReceive port f s = bump 0x6400 3 4 (bump 0xA100 4 (8 * port + 4) s))) ∧
  (∀ (port : Nat) (s : State), port < 2 → ethUp s port = true →
    exec (.egressSelect port) s = .next (conclude s (egressSelect port (sendOwed s))) ∧
    ∀ s1 : State, s1 = takeOutbox none s →
    (∀ f l, (egPort s1 port).ctrl = f :: l → egressSelect port s = sendFrame port f (modEgPort port (fun p => { p with ctrl := l }) s1)) ∧
    ((egPort s1 port).ctrl = [] → egressSelect port s = selectClass port 8 (trimHeads port s1))) ∧
  (∀ (port : Nat) (s : State), port < 2 → gatesRun s port = true →
    let g := (egPort s port).oper
    ∀ s1 : State, s1 = advanceNs (nowNs s + (gateAt g.entries (gatePhase g (nowNs s)) 0).2) s →
    exec (.gateEntryBoundary port) s = .next (conclude s (modEgPort port (fun p => { p with entry := gateEntry g (nowNs s1) }) s1))) ∧
  (∀ (port cls : Nat) (f : EgFrame) (l : List EgFrame) (s : State), classQueue s port cls = f :: l →
    let rate := odField s 0x6810 2 (8 * port + cls) 0 4
    let need := (f.len + 20) * octetUnits
    0 < rate → shaperTokens s port cls < need → f.len + 20 ≤ odField s 0x6810 2 (8 * port + cls) 4 4 →
    exec (.shaperTokensRefilled port cls) s = .next (conclude s
      (advanceElapsed (s.clk.elapsed + (need - shaperTokens s port cls + rate - 1) / rate) s))) ∧
  (∀ (payload : Octets) (yellow : Bool) (s : State), s.ctl.domains[4]? = some .on →
    (∀ n, exec (.dlQueueFromCanvas (some n) payload yellow) s = .next (conclude s (dlEnqueue n payload yellow false s))) ∧
    exec (.dlQueueFromCanvas none payload yellow) s = .next (conclude s
      (if s.rid.group.length < (groupEnqueue payload yellow s).rid.group.length then wakeGroup (groupEnqueue payload yellow s)
       else groupEnqueue payload yellow s)))

/-- A write by a master that may write all four octets at an address outside the register pages stores each octet of the word,
least significant first. In memory that is no view of a node record or a table, the word stands there afterwards, the memory
stays canonical, and no other octet and no other part of the state changes. A write by any other master, or outside every
region, is a bus error: it is logged and answered, and no octet changes. The order of the octets in the word is the model's
choice (log entry 26). -/
def Obligations.MemoryWritesStoreTheirWord : Prop :=
  ∀ (master addr value : Nat) (s : State), inRange addr 0x4A000000 0x5000 = false → inRange addr 0x4C000000 0x2C = false → inRange addr 0x4E000000 0xC0 = false →
    let c : Instr := .registerWriteGeneric master addr value
    let viewed (a : Nat) : Bool := inRange a 0x81000000 0x2000000 || inRange a 0x20340000 0x40000 || inRange a 0x2033C000 0x2000 || trellisRange a
    (mayWrite s master addr 4 = true → exec c s = .next (conclude s
      (storeSet (addr + 3) (BitVec.ofNat 8 (value / 2 ^ 24)) (storeSet (addr + 2) (BitVec.ofNat 8 (value / 2 ^ 16))
        (storeSet (addr + 1) (BitVec.ofNat 8 (value / 2 ^ 8)) (storeSet addr (BitVec.ofNat 8 value) s)))))) ∧
    (mayWrite s master addr 4 = true → (∀ i, i < 4 → viewed (addr + i) = false) → Gives (exec c s) (fun t =>
      (Memory.wf s = true → Memory.wf t = true) ∧ (∀ i, i < 4 → (memGet t (addr + i)).toNat = value / 2 ^ (8 * i) % 256) ∧
      (∀ a, a < addr ∨ addr + 4 ≤ a → memGet t a = memGet s a) ∧ OnlyChanges [.mem] s t)) ∧
    (mayWrite s master addr 4 = false → Gives (exec c s) (fun t =>
      t.shd.seq = s.shd.seq + 1 ∧ .busError master addr ∈ t.out ∧ OnlyChanges [.shd] s t))

/-- A mailbox page is its own agent's; the cipher engine's registers, but CIPHER_LOCK, are its owner's; Overwinter's are Shed's
and Gesso's, and OW_TAMPER_CFG, KEK_NONCE and MAKE_SEAL are Gesso's alone. Any other write is a bus error: logged, answered,
and without effect. -/
def Obligations.RegisterPagesKeepTheirMasters : Prop :=
  ∀ (master addr value : Nat) (s : State),
    (∀ c ∈ [Instr.registerWriteGeneric master addr value],
      (inRange addr 0x4A000000 0x5000 = true → (addr - 0x4A000000) / 0x1000 ≠ master → exec c s = .next (conclude s (accessViolation master addr s))) ∧
      (inRange addr 0x4A000000 0x5000 = true → (addr - 0x4A000000) / 0x1000 = master →
        exec c s = .next (conclude s (pageWrite master ((addr - 0x4A000000) % 0x1000) value s))) ∧
      (inRange addr 0x4E000000 0xC0 = true → master ≠ 1 → master ≠ 4 → exec c s = .next (conclude s (accessViolation master addr s))) ∧
      (inRange addr 0x4E000060 0x20 = true ∨ addr = 0x4E000038 ∨ (addr = 0x4E000030 ∧ bit value 3 = true) → master ≠ 1 →
        exec c s = .next (conclude s (accessViolation master addr s))) ∧
      (inRange addr 0x4C000004 0x28 = true → cipherRuns s = true → s.sec.cipher.owner = 0 ∨ cipherOwner master ≠ s.sec.cipher.owner →
        ∃ a, exec c s = .next (conclude s (accessViolation master a s)))) ∧
    (∀ a, (accessViolation master a s).mem = s.mem ∧ (accessViolation master a s).sec = s.sec ∧ (accessViolation master a s).pwr = s.pwr ∧
      (accessViolation master a s).host = s.host ∧ (accessViolation master a s).shd.seq = s.shd.seq + 1 ∧
      .busError master a ∈ (accessViolation master a s).out) ∧
    (∀ nonce, master ≠ 1 → ∃ a, exec (.makeSealWrite master) s = .next (conclude s (accessViolation master a s)) ∧
      ∃ b, exec (.kekNonceWrite master nonce) s = .next (conclude s (accessViolation master b s)))

/-- A push with a credit adds its word and spends one credit; without one it is discarded and sets OVERRUN. A pop takes the head
word, sets LAST_END to its end mark and returns a credit; of an empty channel it gives the last word's low half, sets
UNDERRUN and pops nothing; the second word of a descriptor from PCIe gives its request to the server. The last word of a
message to Gesso names a service, which is refused where there is none. A write of RX_LEVEL never rings. A doorbell's bits
are set by its sender, and cleared and masked by its receiver. -/
def Obligations.MailboxesRun : Prop :=
  ∀ (snd rcv : Nat) (s : State), chanExists s snd rcv = true →
    ((page s snd).inReset = false → (page s rcv).inReset = false → (chan s snd rcv).txAborted = false → (chan s snd rcv).peerReset = false →
      ∀ (v : Nat) (c : Instr) (wide last : Bool), (c, last) ∈ [(Instr.mailboxPush snd rcv wide v, false), (.mailboxPushEnd snd rcv wide v, true)] →
      let w := if wide then v % 2 ^ 64 else v % 2 ^ 32 * 2 ^ 32 + (chan s snd rcv).low
      let asked (x : State) : State := if last ∧ rcv = 1 then refuseService snd x else x
      ∀ s0 : State, s0 = (if wide then modChan snd rcv (fun c => { c with low := v % 2 ^ 32 }) s else s) →
      ∀ s1 : State, s1 = modChan snd rcv (fun c => { c with fifo := c.fifo ++ [(w, last)], credits := c.credits - 1 }) s0 →
      (0 < (chan s0 snd rcv).credits → exec c s = .next (conclude s (asked
        (if levelCount (chan s0 snd rcv) < (chan s0 snd rcv).level ∧ (chan s0 snd rcv).level ≤ levelCount (chan s1 snd rcv)
          then setDoorbell rcv (2 ^ snd) s1 else s1)))) ∧
      ((chan s0 snd rcv).credits = 0 → exec c s = .next (conclude s (asked
        (bumpField 0xA500 1 (5 * snd + rcv) 0 4 (modChan snd rcv (fun c => { c with overrun := true }) s0)))))) ∧
    ((page s rcv).inReset = false →
      (∀ w l, (chan s snd rcv).fifo = w :: l →
        ∀ s1 : State, s1 = emit (.word rcv (w.1 % 2 ^ 32)) (modChan snd rcv (fun c => { c with
          fifo := l, last := w.1, lastEnd := w.2, credits := if c.txAborted then c.credits else min 8 (c.credits + 1) }) s) →
        exec (.mailboxPop rcv snd) s = .next (conclude s
          (if w.2 = true ∧ snd = 0 ∧ rcv = pcieServer s1 ∧ (chan s snd rcv).lastEnd = false
            then takeDescriptor rcv (chan s snd rcv).last w.1 s1 else s1))) ∧
      ((chan s snd rcv).fifo = [] → exec (.mailboxPop rcv snd) s = .next (conclude s
        (emit (.word rcv ((chan s snd rcv).last % 2 ^ 32)) (bumpField 0xA500 1 (5 * snd + rcv) 4 4
          (modChan snd rcv (fun c => { c with underrun := true }) s))))) ∧
      (∀ v, exec (.dbRingWrite snd rcv v) s = .next (conclude s (setDoorbell rcv (v &&& 0x7FFFFF00) s))) ∧
      (∀ (v : Nat) (toMask : Bool), rcv < 5 → rcv ≠ 0 → exec (.doorbellWrite rcv toMask v) s = .next (conclude s
        (modPage rcv (fun p => if toMask then { p with mask := v % 2 ^ 32 } else { p with doorbell := clearBits p.doorbell (v &&& 0xFFFFFF1F) }) s)))) ∧
    (∀ v, Gives (exec (.rxLevelWrite rcv snd v) s) (fun t => t.host.pages = s.host.pages ∧
      t.host.chans = modAt (fun c => { c with unit := bit v 4, level := if 1 ≤ v % 16 ∧ v % 16 ≤ 8 then v % 16 else c.level }) s.host.chans (5 * snd + rcv)))

/-- A read of a free lock by Gesso, Canvas or Shed makes it the owner. A usable key that the owner names is loaded; a command it
starts runs, counts the key's use and leaves STATE busy; an abort zeroes the output, and a release the key register too. A
completed command leaves STATE done, or AUTH_FAIL with its output zeroed. A lock whose owner starts nothing for 1 ms is
forced free, and logged. -/
def Obligations.CipherEngineRuns : Prop :=
  ∀ (master : Nat) (s : State), cipherRuns s = true →
    let c := s.sec.cipher
    (cipherOwner master ≠ 0 → c.owner = 0 → exec (.cipherLockRead master) s = .next (conclude s
      (emit (.word master (2 ^ 31 + cipherOwner master))
        (modCipher (fun c => { c with owner := cipherOwner master, idleSince := s.clk.elapsed }) s)))) ∧
    (cipherOwner master ≠ 0 → c.owner = cipherOwner master →
      exec (.cipherLockRelease master) s = .next (conclude s (cipherRelease s)) ∧
      (∀ handle, exec (.cipherKeyWrite master handle) s = .next (conclude s (cipherKey handle s))) ∧
      (∀ cmd, exec (.cipherCmdStart master cmd) s = .next (conclude s (cipherStart cmd s))) ∧
      (∀ m d n auto, c.cmd = some (m, d, n, auto) → exec (.cipherCmdAbort master) s = .next (conclude s (cipherEnd auto
        (modCipher (fun c => { c with cmd := none, st := 4, idleSince := s.clk.elapsed }) (zeroOutput s)))))) ∧
    (∀ h k, keyOf s h = some k → keysAllowed s = true → tamperHolds s = false → usable k 2 = true →
      bit k.masters (masterBit c.owner) = true → k.uses < 2 ^ k.hard →
      cipherKey h s = modCipher (fun c => { c with key := some h, st := 0, keyChange := softPassed s h }) s ∧
      ∀ cmd, c.cmd = none → c.gessoWait = false → c.key = some h → cipherFormat (cmd % 16) c.regs = false →
        cipherStart cmd s = modCipher (fun c => { c with st := 1, tooLate := false, cmd := some (cmd % 16, bit cmd 4, cmd / 64 % 4, bit cmd 8)
                                                         keyChange := softPassed (countUse h s) h }) (countUse h s)) ∧
    (c.owner ≠ 0 → c.cmd = none →
      ∀ t : State, t = advanceElapsed (c.idleSince + msCycles) s →
      exec .cipherLockIdleExpiry s = .next (conclude s (cipherRelease (secCount 7 (logEvent 0x42 1 (beOct 1 t.sec.cipher.owner) t))))) ∧
    (∀ mode decrypt tagLen auto h (authOk : Bool), c.cmd = some (mode, decrypt, tagLen, auto) → c.key = some h →
      exec (.cipherCommandComplete authOk) s = .next (conclude s (cipherComplete authOk s)) ∧
      (auto = false → c.gessoWait = false → (cipherInput (cipherReads mode decrypt tagLen s) s).2 = none →
        (cipherComplete authOk s).sec.cipher.cmd = none ∧
        (decrypt = true → 3 ≤ mode → authOk = false →
          (cipherComplete authOk s).sec.cipher.st = 3 ∧ (cipherComplete authOk s).mem = (zeroOutput s).mem) ∧
        ((decrypt = false ∨ mode < 3 ∨ authOk = true) → mayWrite s (ownerMaster c.owner) (cipherReg s 1) (cipherReg s 2) = true →
          (cipherComplete authOk s).sec.cipher.st = 2))) ∧
    (c.cmd = none → (cipherRelease s).sec.cipher.key = none ∧ (cipherRelease s).sec.cipher.cmd = none ∧
      (cipherRelease s).mem = s.mem ∧ (c.gessoWait = false → (cipherRelease s).sec.cipher.owner = 0))

/-- A write of OW_SET by Shed or Gesso makes the staged seconds and subsecond count due; at the next pulse the calendar reads
them, whatever the trim and the window, and Shed, where it runs, logs CAL_STEP with the step in ms. -/
def Obligations.CalendarStepIsAppliedAtThePulse : Prop :=
  (∀ (master : Nat) (s : State), master = 1 ∨ master = 4 →
    exec (.owSetWrite master) s = .next (conclude s { s with pwr := { s.pwr with setDue := true } })) ∧
  (∀ s : State, s.pwr.setDue = true →
    (owPulse s).pwr.secs = s.pwr.setSecs ∧ (owPulse s).pwr.sub = s.pwr.setSub ∧ (owPulse s).pwr.setDue = false ∧
    ∃ u : State, u.shd = s.shd ∧ u.pwr.secs = s.pwr.setSecs ∧ u.pwr.sub = s.pwr.setSub ∧
      owPulse s = channelStep 1 s.pwr.secs s.pwr.setSecs (channelStep 0 s.pwr.secs s.pwr.setSecs (if s.ctl.mode = .m0 then u else
        logEvent 0x67 2 (beInt 4 (((s.pwr.setSecs : Int) - s.pwr.secs) * 1000 + ((s.pwr.setSub : Int) - s.pwr.sub) * 1000 / 32768)) u)))

/-- An armed CALENDAR channel whose target a step reaches or passes fires at that edge with STEP set and is disarmed; a step back
fires nothing and lengthens the time remaining; a channel that has fired, or counts ELAPSED seconds, is left as it is. -/
def Obligations.CalendarStepNeverSkipsAnAlarm : Prop :=
  ∀ (secs sub ch : Nat) (s : State), ch < 2 →
    ((channelOf s ch).mode = 2 → s.pwr.secs < secs → secsTo s.pwr.secs (channelOf s ch).target ≤ secs - s.pwr.secs →
      channelOf (owStep secs sub s) ch = { channelOf s ch with mode := 0, count := 0, fired := true, step := true, waiting := s.ctl.mode == .m0 }) ∧
    ((channelOf s ch).mode = 2 → secs ≤ s.pwr.secs → channelOf (owStep secs sub s) ch = channelOf s ch ∧
      (s.pwr.secs < (channelOf s ch).target → (channelOf s ch).target < 2 ^ 32 →
        channelRemaining (owStep secs sub s) ch = channelRemaining s ch + (s.pwr.secs - secs))) ∧
    ((channelOf s ch).mode = 2 → s.pwr.secs < secs → secs - s.pwr.secs < secsTo s.pwr.secs (channelOf s ch).target →
      channelOf (owStep secs sub s) ch = channelOf s ch) ∧
    ((channelOf s ch).mode ≠ 2 → channelOf (owStep secs sub s) ch = channelOf s ch)

/-- In each window of 2^20 crystal pulses TRIM's magnitude of pulses is added, or removed, one at a time, so the window counts
2^20 + TRIM pulses; a new value takes effect at the next window's start. 0x200 is refused and leaves the value. -/
def Obligations.TrimAddsItsPulses : Prop :=
  (∀ trim : Int, trim.natAbs ≤ 511 → (((List.range (2 ^ 20)).map (fun k => trimmedPulses trim (k + 1))).sum : Int) = 2 ^ 20 + trim) ∧
  (∀ s : State, s.pwr.setDue = false → s.pwr.window + 1 = 2 ^ 20 → (owPulse s).pwr.window = 0 ∧ (owPulse s).pwr.trim = s.pwr.trimNext) ∧
  (∀ s : State, s.pwr.setDue = false → s.pwr.window + 1 ≠ 2 ^ 20 → (owPulse s).pwr.trim = s.pwr.trim) ∧
  (∀ (master value : Nat) (s : State), master = 1 ∨ master = 4 →
    (value % 1024 = 0x200 → exec (.owTrimWrite master value) s = .next (conclude s s)) ∧
    (value % 1024 ≠ 0x200 → exec (.owTrimWrite master value) s = .next (conclude s { s with pwr := { s.pwr with
      trimNext := if value % 1024 < 512 then (value % 1024 : Int) else (value % 1024 : Int) - 1024 } })))

/-- Gesso makes the seal while the node is powered and loads the nonce, zero being none. A master's first clock read captures all
four registers; later ones return the capture, which is released when all are read, or late after 1 ms; each value read is
noted as its register's last capture (log entry 189). A write of MODE and COUNT arms a channel: CALENDAR fixes its target,
and an armed channel fires in its time. A write of OW_FEED writes its marks. -/
def Obligations.OverwinterRegistersRun : Prop :=
  (∀ s : State, owPowered s = true → exec (.makeSealWrite 1) s = .next (conclude s { s with pwr := { s.pwr with sealed := true } })) ∧
  (∀ (nonce : Octets) (s : State), exec (.kekNonceWrite 1 nonce) s = .next (conclude s { s with pwr := { s.pwr with
    nonce := if padTo 32 nonce = zeros 32 then none else some (padTo 32 nonce) } })) ∧
  (∀ (master : Nat) (s : State), master = 1 ∨ master = 4 →
    (∀ reg, reg < 4 → owShadow s master = none →
      ∀ v : Nat, v = ((owClockRegs s)[reg]?).getD 0 → exec (.owClockShadowRead master reg) s = .next (conclude s
      { noteCapture master (0x4E000000 + 4 * reg) v (setShadow master
          (some { vals := owClockRegs s, read := setAt [false, false, false, false] reg true, at_ := s.clk.elapsed }) s) with
        out := s.out ++ [.word master v] })) ∧
    (∀ reg x, reg < 4 → owShadow s master = some x → s.clk.elapsed < x.at_ + msCycles →
      ∀ v : Nat, v = (x.vals[reg]?).getD 0 → exec (.owClockShadowRead master reg) s = .next (conclude s
      { noteCapture master (0x4E000000 + 4 * reg) v (setShadow master
          (if (setAt x.read reg true).all id then none else some { x with read := setAt x.read reg true }) s) with
        out := s.out ++ [.word master v] })) ∧
    (∀ x, owShadow s master = some x → exec (.owShadowTimeout master) s = .next (conclude s (settleShadow master (advanceElapsed (x.at_ + msCycles) s)))) ∧
    (∀ ch value, ch < 2 → exec (.countdownArm master ch value) s = .next (conclude s
      (armChannel ch (value / 2 ^ 30 % 4) (value % 2 ^ 24) (bit value 28) (bit value 29) s))) ∧
    (∀ value, exec (.owFeedWrite master value) s = .next (conclude s (writeFeed value s)))) ∧
  (∀ (ch : Nat) (s : State), (channelOf s ch).mode ≠ 0 → owPowered s = true →
    exec (.countdownFire ch) s = .next (conclude s (runToFire ch ((channelRemaining s ch + 1) * 32768 + (channelRemaining s ch + 1) * 32768 / 1024) s))) ∧
  (∀ (ch mode count : Nat) (s : State), 1 ≤ mode → mode ≤ 2 → 0 < count → ch < s.pwr.cd.length →
    (channelOf (armChannel ch mode count false false s) ch).mode = mode ∧ (channelOf (armChannel ch mode count false false s) ch).count = count ∧
    (channelOf (armChannel ch mode count false false s) ch).target = (s.pwr.secs + count) % 2 ^ 32 ∧
    (armChannel ch mode count false false s).mem = s.mem ∧ (armChannel ch mode count false false s).clk = s.clk)

/-- The main supply's return enters M1 with Shed started; a brownout drops everything but D0. A deviation over the limit with a
usable standby switches the feed, and the end of the gap counts it. A standby leaving its window is logged. VBAT below 2.2 V
is logged; a node without power loses its seal. The calendar's trim is set from the error of 600 s, and an error over 0.1 s
sets the calendar. An armed input's event latches and zeroises: the KEK, the lanes' keys, the DRBG's state and the calendar's
nonce are gone. From M2 on it is logged and counted, ends the sessions over UDP and the Hedgerow and leaves Gesso safe. The
input's release only clears it. -/
def Obligations.SupplyAndTamperEventsRun : Prop :=
  (∀ s : State, s.ctl.mode = .m0 →
    ∀ s1 : State, s1 = releaseReceiver 4 (modPwr (fun p => { p with main := true, onVbat := false })
      { s with ctl := { s.ctl with mode := .m1, domains := Mode.m1.domains s.chip.fPackage }, shd := { s.shd with bootRom := true, cycleUntil := none } }) →
    exec .mainSupplyValid s = .next (conclude s (actAlarms (startShed s1)))) ∧
  (∀ s : State, s.ctl.mode ≠ .m0 →
    exec .brownout s = .next (conclude s (losePower (if s.shd.cycleFor.isSome then s else latchBrownout s)))) ∧
  (∀ (rail : Nat) (sense : List Nat) (s : State), s.ctl.mode ≠ .m0 → rail < 6 →
    ∀ s1 : State, s1 = takeSense sense s →
    let dev : Int := (senseOf s1 s1.pwr.train rail : Int) - senseOf s1 (standby s1) rail
    inGap s1 = false → feedCfg s1 0 * railNominal rail < dev.natAbs * 1000 → standbyUsable s1 (standby s1) = true →
    exec (.feedDeviationDecision rail sense) s = .next (conclude s (connectTrain (standby s1) (some (s1.pwr.train, rail, dev))
      (modPwr (fun p => { p with deviated := setAt p.deviated s1.pwr.train true }) s1)))) ∧
  (∀ (t rail : Nat) (dev : Int) (s : State), s.pwr.gapEnd.isSome = true →
    ∀ s1 : State, s1 = modPwr (fun p => { p with gapEnd := none, gapAuto := none, switches := (p.switches + 1) % 2 ^ 32 }) s →
    (s.pwr.gapAuto = some (t, rail, dev) → exec .feedGapEnd s = .next (conclude s (logEvent 0x60 2 (beOct 1 t ++ beOct 1 rail ++ beInt 2 dev) s1))) ∧
    (s.pwr.gapAuto = none → exec .feedGapEnd s = .next (conclude s s1))) ∧
  (∀ (rail mv : Nat) (s : State), s.ctl.mode ≠ .m0 → rail < 6 → stbyOk s rail mv = false → s.pwr.stbyOut = false →
    exec (.standbyOutOfWindow rail mv) s = .next (conclude s (logEvent 0x62 2 (beOct 1 (standby s) ++ beOct 1 rail ++ beOct 2 mv)
      (modPwr (fun p => { p with sense := setAt p.sense (6 * standby s + rail) mv, stbyOut := true }) s)))) ∧
  (∀ (toVbat : Bool) (s : State), exec (.owSupplyChange toVbat) s = .next (conclude s (settleSeal (modPwr (fun p => { p with onVbat := toVbat }) s)))) ∧
  (∀ s : State, exec .sealBreak s = .next (conclude s { s with pwr := { s.pwr with sealed := false, nonce := none, train := 0 } })) ∧
  (∀ (mv : Nat) (s : State), ∀ s1 : State, s1 = settleSeal (modPwr (fun p => { p with vbat := mv }) s) →
    (s.ctl.mode ≠ .m0 → s.pwr.onVbat = false → mv < 2200 → s.pwr.vbatLogged = none → exec (.vbatLowCheck mv) s = .next (conclude s
      (logEvent 0x66 2 (beOct 2 mv) (modPwr (fun p => { p with vbatLogged := some s.clk.elapsed }) s1)))) ∧
    (s.ctl.mode = .m0 ∨ s.pwr.onVbat = true ∨ 2200 ≤ mv → exec (.vbatLowCheck mv) s = .next (conclude s s1))) ∧
  (∀ (d0 : Int) (t0 : Nat) (s : State), s.clk.state = .locked → s.clk.valid = true → s.pwr.trimRef = some (d0, t0) →
    ∀ s1 : State, s1 = advanceElapsed (t0 + 600 * secCycles) s → (owError s1).natAbs * 10 ≤ 32768 →
    exec .rtcTrimCheck s = .next (conclude s (noteTrim (modPwr (fun p => { p with trimNext := trimFor s1 d0 t0 }) s1)))) ∧
  (∀ (d0 : Int) (t0 : Nat) (s : State), s.clk.state = .locked → s.clk.valid = true → s.pwr.trimRef = some (d0, t0) →
    ∀ s1 : State, s1 = advanceElapsed (t0 + 600 * secCycles) s → 32768 < (owError s1).natAbs * 10 →
    exec .rtcTrimCheck s = .next (conclude s (noteTrim (owStep (nowSecs s1 % 2 ^ 32) (nowNanos s1 * 32768 / 1000000000) s1)))) ∧
  (∀ s : State, s.clk.state = .locked → s.clk.valid = true → s.pwr.trimRef = none →
    exec .rtcTrimCheck s = .next (conclude s (noteTrim (if (owError s).natAbs * 10 ≤ 32768 then s
      else owStep (nowSecs s % 2 ^ 32) (nowNanos s * 32768 / 1000000000) s)))) ∧
  (∀ (input : Nat) (s : State), input < 2 → armed (tamperOf s input) = true → (tamperOf s input).active = false → owPowered s = true →
    exec (.tamperInputActive input) s = .next (conclude s (speak (tamperEvent input s))) ∧
    (s.ctl.mode ≠ .m0 → s.ctl.mode ≠ .m1 → tamperEvent input s = gessoSafe (endSessions (fun u => decide (u.transport < 2))
      (secCount 10 (logEvent 0x43 3 (beOct 1 input) (zeroise (latchTamper input s))))))) ∧
  (∀ s : State, (zeroise s).sec.kek = none ∧ (zeroise s).sec.lanes = [none, none, none, none] ∧ (zeroise s).sec.drbg = none ∧
    (zeroise s).sec.cipher.key = none ∧ (zeroise s).sec.destroyed = true ∧ (zeroise s).pwr.nonce = none) ∧
  (∀ (input : Nat) (s : State), exec (.tamperInputRelease input) s = .next (conclude s
    { s with pwr := { s.pwr with tamper := modAt (fun t => { t with active := false }) s.pwr.tamper input } }))

/-- From M1 a boot that is due runs with the banks' verdicts. A warm reset that is due asserts, decides the bank and enters its
mode; Easel rejoins and Canvas serves again after it. A power cycle that is due is asked of the supervisor, and one it does
not make within 1 s falls back to a boot 100 ms after it drops the domains. A thermal trip logs, holds the unit and cycles
its power. In HOLDOVER, ALIGNED clears at its time. -/
def Obligations.BootsAndResetsRun : Prop :=
  (∀ (a b : BankVerdict) (cause : Nat) (s : State), s.ctl.mode = .m1 → s.shd.booting = some cause →
    exec (.coldBoot a b) s = .next (conclude s (coldBoot cause ((s.shd.cycleFor.map (·.1)).getD 0) a b s))) ∧
  (∀ (a b : BankVerdict) (d : DueStep) (s : State), s.shd.due = some d → d.step = 3 → 2 ≤ s.ctl.mode.code →
    exec (.warmResetAssert a b) s = .next (conclude s (warmMode (warmDecide a b
      (resetCause (if d.cause = 6 then 6 else 1) d.fn (assertWarm d.fn d.inst (advanceElapsed d.at_ s))))))) ∧
  (∀ (w : Warm) (s : State), s.shd.warm = some w → w.easel = false → exec .easelRejoin s = .next (conclude s (easelBack w s))) ∧
  (∀ s : State, s.shd.warm = none → s.eas.restarting = true → exec .easelRejoin s = .next (conclude s (easelRestarted s))) ∧
  (∀ (w : Warm) (s : State), s.shd.warm = some w → w.easel = true → s.ctl.mode = .m2 →
    exec .canvasServiceResume s = .next (conclude s (speak (sendHeartbeat (startServer
      { s with shd := { s.shd with warm := none }, hed := { s.hed with heardAt := s.clk.elapsed } }))))) ∧
  (∀ (w : Warm) (s : State), s.shd.warm = some w → w.easel = true → s.ctl.mode ≠ .m2 →
    ∀ s1 : State, s1 = releaseReceiver 2 { s with ctl := { s.ctl with domains := s.ctl.mode.domains s.chip.fPackage } } →
    exec .canvasServiceResume s = .next (conclude s (speak (sendHeartbeat (startServer
      { s1 with shd := { s1.shd with warm := none }, hed := { s1.hed with heardAt := s1.clk.elapsed } }))))) ∧
  (∀ (d : DueStep) (s : State), s.shd.due = some d → d.step = 4 →
    exec .powerCycle s = .next (conclude s (powerCycle d.fn d.inst d.cause (dropL2s (advanceElapsed d.at_ s))))) ∧
  (∀ (t : Nat) (f : Nat × Nat × Nat) (s : State), s.shd.cycleUntil = some t → s.shd.cycleFor = some f →
    ∀ s1 : State, s1 = dropDomains (advanceElapsed (t + secCycles) s) →
    ∀ s2 : State, s2 = advanceElapsed (s1.clk.elapsed + 100 * msCycles) { s1 with shd := { s1.shd with cycleUntil := none } } →
    exec .pwrCycleFallback s = .next (conclude s (if s2.shd.thermalHold then s2 else beginBoot f.2.2 s2))) ∧
  (∀ (d : DueStep) (s : State), s.shd.due = some d → d.cause = 6 →
    ∀ s1 : State, s1 = advanceElapsed d.at_ s →
    exec .recoverRequestAssert s = .next (conclude s (dropL2s { s1 with shd := { s1.shd with due := some { d with at_ := s1.clk.elapsed } } }))) ∧
  (∀ (sensor : Nat) (reading : Int) (s : State), s.ctl.mode ≠ .m0 → s.shd.cycleUntil = none → tjMaxQ s + 2560 ≤ reading →
    exec (.thermalTrip sensor reading) s = .next (conclude s (powerCycle 0 0 3 (recordL4
      (logEvent 0x0A 3 (beOct 1 sensor ++ beInt 2 reading) { s with shd := { s.shd with thermalHold := true } }))))) ∧
  (∀ s : State, s.clk.state = .holdover → aligned s = true → exec .alignedCleared s = .next (conclude s (speak (advanceElapsed (alignedEnd s) s))))

/-- Each watchdog and each fault of a function that runs is a fault of its ladder, which tries it again under L1 where it has
retries. A retry that passes ends step L1, the last that fails climbs; an L2 that completes is logged done. The log's timer
persists every entry and a severe entry's copy those at or above LOG_PERSIST_MIN. A domain outside its window is a fault of
it. A page of an image that fails its check is a bus error of a Canvas core, which one is free, and a patch's trap is
counted. -/
def Obligations.FaultsClimbTheLadder : Prop :=
  (∀ s : State, (s.eas.next.isSome = true → exec .easelWatchdogExpiry s = .next (conclude s (fault fnEasel 0 s))) ∧
    (4 ≤ s.eas.overruns → exec .easelOverrunLimit s = .next (conclude s (fault fnEasel 0 { s with eas := { s.eas with overruns := 0 } }))) ∧
    (∀ core, domainOn s 4 = true → exec (.canvasCoreWatchdogExpiry core) s = .next (conclude s (fault fnCore core s))) ∧
    (domainOn s 2 = true → exec .gessoWatchdogExpiry s = .next (conclude s (fault fnGesso 0 s))) ∧
    (∀ fn ∈ [fnTrellis, fnRiddle, fnGlaze], domainOn s 3 = true → exec (.operationOverdue fn) s = .next (conclude s (fault fn 0 s))) ∧
    (domainOn s 3 = true → s.sec.cipher.cmd.isSome = true → exec (.operationOverdue fnCipher) s = .next (conclude s (fault fnCipher 0 s))) ∧
    (∀ fn inst, faultTaken s fn inst = true → (hasL1 fn = false ∨ recCfg s fn 0 1 = 0) → fault fn inst s = ladder fn inst s) ∧
    (∀ fn inst, faultTaken s fn inst = true → hasL1 fn = true → 0 < recCfg s fn 0 1 → fault fn inst s = countStep fn 1 { s with shd := { s.shd with
      l1 := s.shd.l1 ++ [(fn, inst, recCfg s fn 0 1, s.clk.elapsed + recCfg s fn 1 2 * msCycles)] } }) ∧
    (domainOn s 5 = true → exec .storePoisonBurst s = .next (conclude s (fault fnStore 0 s))) ∧
    (∀ domain mv, 2 ≤ domain → domainOn s domain = true → mv < (domainWindow domain).1 ∨ (domainWindow domain).2 < mv → exec (.domainExcursion domain mv) s = .next (conclude s
      (fault fnDomain domain (logEvent 0x0B 2 (beOct 1 domain ++ beOct 2 mv) s fnDomain domain))))) ∧
  (∀ (fn inst tries due : Nat) (ok : Bool) (s : State), s.shd.l1.find? (fun x => x.1 == fn && x.2.1 == inst) = some (fn, inst, tries, due) →
    ∀ s1 : State, s1 = advanceElapsed due s →
    let rest := s1.shd.l1.filter (fun y => !(y.1 == fn && y.2.1 == inst))
    (ok = true → exec (.l1RetryTimer fn inst ok) s = .next (conclude s (logStep fn inst 1 0 { s1 with shd := { s1.shd with l1 := rest } }))) ∧
    (ok = false → 1 < tries → exec (.l1RetryTimer fn inst ok) s = .next (conclude s { s1 with shd := { s1.shd with
      l1 := rest ++ [(fn, inst, tries - 1, s1.clk.elapsed + recCfg s fn 1 2 * msCycles)] } })) ∧
    (ok = false → tries ≤ 1 → exec (.l1RetryTimer fn inst ok) s = .next (conclude s (ladder fn inst { s1 with shd := { s1.shd with l1 := rest } })))) ∧
  (∀ (fn inst since : Nat) (s : State), s.shd.l2.find? (fun x => x.1 == fn && x.2.1 == inst) = some (fn, inst, since) →
    ∀ s1 : State, s1 = advanceElapsed (since + l2BoundMs fn * msCycles) s →
    exec (.l2Complete fn inst) s = .next (conclude s (logStep fn inst 2 0 (l2End fn inst
      { s1 with shd := { s1.shd with l2 := s1.shd.l2.filter (fun y => !(y.1 == fn && y.2.1 == inst)) } })))) ∧
  (∀ s : State, s.ctl.mode ≠ .m0 → exec .logPersistTimer s = .next (conclude s (persistAll s)) ∧
    exec .logEntryCopy s = .next (conclude s (persistWhere (fun e => decide (odNat s 0x9100 4 ≤ e.sev)) s)) ∧
    (∀ e ∈ (persistAll s).shd.ring, e.persisted = true)) ∧
  (∀ (temps : List Int) (volts currents : List Nat) (pdet : List Int) (s : State), s.ctl.mode ≠ .m0 → temps.length = 8 →
    Gives (exec (.sensorSample temps volts currents pdet) s) (fun t => t.shd.temps = temps ∧ t.mem = s.mem ∧ t.sec = s.sec)) ∧
  (∀ s : State, s.ctl.mode ≠ .m0 →
    ∀ s1 : State, s1 = { s with shd := { s.shd with dogAt := some s.clk.elapsed, dogCount := dogExpiries s } } →
    ∀ s2 : State, s2 = logEvent 0x06 2 (beOct 1 (dogExpiries s)) (cipherLost 3 (releaseReceiver 4 (resetReceivers [4] s1))) →
    (dogExpiries s < 2 → exec (.shedWatchdogExpiry true) s = .next (conclude s s2)) ∧
    (s.shd.bootRom = false → s.shd.cycleUntil = none → exec (.shedWatchdogExpiry false) s = .next (conclude s (powerCycle 0 0 4 (recordL4 s2))))) ∧
  (∀ (part page b : Nat) (s : State), s.fw.running = some b → part = 2 ∨ part = 7 →
    (pageGood s b part page = true → exec (.flashPageFetch part page true) s = .next (conclude s s)) ∧
    (∀ ok, ok = false ∨ pageGood s b part page = false →
      exec (.flashPageFetch part page ok) s = .next (conclude s (fault fnCore ((takeFree s).1 % 4)
        (pageFault 2 (0x60100000 + 0x1000000 * b + partField (manifest s b) part 8 4 + 4096 * page) part page (takeFree s).2))))) ∧
  (∀ (entry : Nat) (s : State), entry < 64 → trapsOf s entry < 2 → s.eas.running = true →
    exec (.patchTrap entry) s = .next (conclude s (logEvent 0x14 2 (beOct 1 entry) { s with
      eas := { s.eas with trapped := s.eas.trapped || s.eas.next != s.eas.commitMark }
      fw := { s.fw with traps := sinsert entry (trapsOf s entry + 1) s.fw.traps } })))

/-- A port's link comes up with its speed unless it is disabled or D6 is off. PCIe, on an F package, comes up at no more than
PCIE_MAX_GEN and x2, and its reset starts its session anew. In M1 a UART frame or a wake edge boots; elsewhere a frame is
counted, and the record of one without fault goes to its session. A stale capture is logged, and a master other than a fixed
function reads the value captured before (free where none was, log entry 189) and is marked with its address. -/
def Obligations.HostLinksRun : Prop :=
  (∀ (port : Nat) (up : Bool) (speed : Nat) (s : State), exec (.ethLinkChange port up speed) s = .next (conclude s (setLink port up speed s)) ∧
    (∀ v, port < s.host.eth.length → port < 2 → up = true → linkSpeed (odNat s 0xA100 1 port) speed = some v → s.ctl.domains[6]? = some .on →
      (setLink port up speed s).host.eth[port]? = some (true, v)) ∧
    (port < s.host.eth.length → port < 2 → up = false ∨ linkSpeed (odNat s 0xA100 1 port) speed = none ∨ s.ctl.domains[6]? ≠ some .on →
      (setLink port up speed s).host.eth[port]? = some (false, 0)) ∧
    linkSpeed 1 speed = some 1000 ∧ linkSpeed 2 speed = some 2500 ∧ linkSpeed 3 speed = none) ∧
  (∀ s : State, s.chip.fPackage = true → exec .pcieReset s = .next (conclude s (pcieDown s)) ∧ (pcieDown s).host.pcie = (false, 0, 0) ∧
    (∀ u ∈ (pcieDown s).srv.sessions, u.transport = 2 → u = { id := u.id, transport := 2, role := u.role, lastMsg := s.clk.elapsed }) ∧
    (∀ x ∈ (pcieDown s).srv.txns, ∀ u ∈ s.srv.sessions, u.transport = 2 → x.session ≠ u.id)) ∧
  (∀ (gen width : Nat) (s : State), s.chip.fPackage = true → s.ctl.domains[6]? = some .on → 1 ≤ gen → 1 ≤ width →
    Gives (exec (.pcieLinkUp gen width) s) (fun t =>
      t.host.pcie = (true, min gen (odNat s 0xA200 2), min width 2) ∧ OnlyChanges [.host, .od] s t)) ∧
  (∀ (frame : Octets) (authOk overrun : Bool) (s : State),
    let o := uartUnstuff frame
    let rec_ := o.take (o.length - 2)
    let good : Prop := 2 ≤ o.length ∧ o.length ≤ 1402 ∧ o.drop (o.length - 2) = [BitVec.ofNat 8 (fcs16 rec_), BitVec.ofNat 8 (fcs16 rec_ / 256)]
    (s.ctl.mode = .m1 → s.shd.booting = none → s.shd.thermalHold = false → s.shd.cycleUntil = none →
      exec (.uartFrameReceived frame authOk overrun) s = .next (conclude s { s with
        shd := { s.shd with booting := some 0 }, ctl := { s.ctl with domains := setAt s.ctl.domains 2 .on } })) ∧
    (2 ≤ s.ctl.mode.code → overrun = true → exec (.uartFrameReceived frame authOk overrun) s = .next (conclude s (bump 0xA300 2 2 s))) ∧
    (2 ≤ s.ctl.mode.code → overrun = false → ¬ good → exec (.uartFrameReceived frame authOk overrun) s = .next (conclude s (bump 0xA300 2 1 s))) ∧
    (2 ≤ s.ctl.mode.code → overrun = false → good →
      exec (.uartFrameReceived frame authOk overrun) s = .next (conclude s (uartRecord rec_ authOk (bump 0xA300 2 0 s))))) ∧
  (∀ (pin : Nat) (rising : Bool) (s : State), pin < 8 → odField s 0xA400 1 pin 2 1 = (if rising then 1 else 2) → s.ctl.mode = .m1 →
    s.shd.booting = none → s.shd.thermalHold = false → s.shd.feedHold = false → s.shd.cycleUntil = none →
      exec (.gpioWake pin rising) s = .next (conclude s { s with
        shd := { s.shd with booting := some 0 }, ctl := { s.ctl with domains := setAt s.ctl.domains 2 .on } })) ∧
  (∀ (master addr : Nat) (s : State), master < s.host.pages.length →
    Gives (exec (.cdcStaleCapture master addr false) s) (fun t => (page t master).stale = true ∧ (page t master).staleAddr = addr ∧
      (page t master).staleCount = min 65535 ((page s master).staleCount + 1) ∧ t.shd.seq = s.shd.seq + 1 ∧ OnlyChanges [.host, .shd, .free] s t ∧
      .word master (lastCaptured master addr s).1 ∈ t.out) ∧
    (∀ v, s.host.captured.find? (fun p => p.1 == captureKey master addr) = some v → (lastCaptured master addr s).1 = v.2) ∧
    exec (.cdcStaleCapture master addr true) s = .next (conclude s (bump 0xA500 2 0 (logEvent 0x10 2 (beOct 1 master ++ beOct 4 addr) s))))

/-- While Gesso runs, each of its seven services answers a caller that it serves with what the service gives on the input, and
any other caller only with ACCESS_DENIED. Buffers outside the system SRAM are FORMAT_ERROR. A key operation on a usable
handle counts its use and answers; a lane is bound to a usable network key, or unbound; an accepted blob takes its slot and
counts its wrapping key's use; a signature is made over the input, of zeros where there is no root (log entry 185), where no
report is formed; a valid step of the life cycle is taken whole (log entry 188); FW_CONTROL acts as the objects of its name.
A trial that runs its full time with automatic confirmation confirms its bank. -/
def Obligations.GessoServesItsCallers : Prop :=
  (∀ (g : GessoReq) (s : State), gessoUp s = true →
    (∀ (op service : Nat) (c : Instr) (tagOk sigOk fits toNode : Bool) (row : Nat) (pre : String), (service, c) ∈ [(1, Instr.gessoKeyOp g tagOk), (3, .gessoKeyProvision g toNode row tagOk),
        (4, .gessoSign g pre fits), (5, .gessoAttest g), (6, .gessoLifeCycle g sigOk), (7, .gessoFwControl g op)] → g.caller ≠ 2 → g.caller ≠ 4 →
      exec c s = .next (conclude s (gessoRespond service g stAccessDenied [] s))) ∧
    (∀ pan, g.caller ≠ 3 → exec (.gessoLaneBind g pan) s = .next (conclude s (gessoRespond 2 g stAccessDenied [] s))) ∧
    (∀ (service : Nat) (f : Octets → State → State × Nat × Octets) (tagOk sigOk fits toNode : Bool) (row op : Nat) (pre : String) (c : Instr),
      (service, f, c) ∈ [(1, keyOp g tagOk, Instr.gessoKeyOp g tagOk), (3, keyProvision toNode row tagOk, .gessoKeyProvision g toNode row tagOk),
        (4, signData g.caller pre fits, .gessoSign g pre fits), (5, attestData, .gessoAttest g),
        (6, serveLifeCycle sigOk, .gessoLifeCycle g sigOk), (7, fun _ s => fwControl op s, .gessoFwControl g op)] →
      g.caller = 2 ∨ g.caller = 4 → bufferOk g.inOff g.inLen = true → bufferOk g.outOff g.outCap = true →
      let r := f (memRead s (0x20000000 + g.inOff) g.inLen) s
      (r.2.2.length ≤ g.outCap → exec c s = .next (conclude s (gessoRespond service g r.2.1 r.2.2 r.1))) ∧
      (g.outCap < r.2.2.length → exec c s = .next (conclude s (gessoRespond service g stFormatError [] s)))) ∧
    (∀ pan, g.caller = 3 → bufferOk g.inOff g.inLen = true → bufferOk g.outOff g.outCap = true →
      let r := laneBind g.handle pan s
      r.2.2.length ≤ g.outCap → exec (.gessoLaneBind g pan) s = .next (conclude s (gessoRespond 2 g r.2.1 r.2.2 r.1)))) ∧
  (∀ (g : GessoReq) (input : Octets) (tagOk : Bool) (s : State), keyOpFault g.caller g.handle s = 0 →
    (fieldNat input 0 1 = 1 → keyOp g tagOk input s = (countUse g.handle s, stOk,
      padTo ((input.drop 1).length + 16) (Config.crypto "AES-GCM seal" 0 [keyValue s g.handle, input.drop 1]))) ∧
    (fieldNat input 0 1 = 2 → keyOp g true input s = (countUse g.handle s, stOk,
      padTo ((input.drop 1).length - 16) (Config.crypto "AES-GCM open" 0 [keyValue s g.handle, input.drop 1]))) ∧
    (fieldNat input 0 1 = 2 → keyOp g false input s = (countUse g.handle s, stSignatureFail, [])) ∧
    (fieldNat input 0 1 = 3 → keyOp g tagOk input s = deriveKey g.handle (input.drop 1) (countUse g.handle s))) ∧
  (∀ (h pan : Nat) (k : KeySlot) (s : State),
    laneBind 0xFFFF pan s = ({ s with sec := { s.sec with lanes := setAt s.sec.lanes pan none } }, stOk, []) ∧
    (h ≠ 0xFFFF → useFault s h 0 = 0 → keyOf s h = some k →
      laneBind h pan s = ({ s with sec := { s.sec with lanes := setAt s.sec.lanes k.pan (some h) } }, stOk, []))) ∧
  (∀ (toNode tagOk : Bool) (row : Nat) (input : Octets) (s : State),
    let blob := input.drop 1
    let keyed : Bool := decide (wrapId blob < 65536)
    importFault toNode row (2 ^ fieldNat input 0 1) blob tagOk s = none →
    ∀ t : State, t = (if keyed then countUse (fieldNat blob 2 2) (importEffect toNode row blob s) else useOther (wrapId blob) (importEffect toNode row blob s)) →
    keyProvision toNode row tagOk input s = (shadowImported toNode row t,
      if (if keyed then softPassed t (fieldNat blob 2 2) else otherSoft t (wrapId blob)) then stKeyChangeRequired else stOk, [])) ∧
  (∀ (row : Nat) (blob : Octets) (s : State), bit (fieldNat blob 15 1) 0 = false → bit (fieldNat blob 15 1) 3 = false →
    slotAt (importEffect false row blob s) row = blobSlot (slotAt s row).gen (unwrapped blob s) blob) ∧
  (∀ (caller : Nat) (pre : String) (input : Octets) (s : State), caller ≠ 2 ∨ pre = "FL96-EXPORT" ∨ pre = "FL96-APP" → keysAllowed s = true →
    signData caller pre true input s = (s, stOk, identitySign pre input s) ∧
    (hasRoot s = true → identitySign pre input s = padTo 1280 (Config.crypto ("Falcon-1024 sign " ++ pre) 0 [identitySeed s, input])) ∧
    (hasRoot s = false → identitySign pre input s = zeros 1280)) ∧
  (∀ (input : Octets) (s : State), (hasRoot s = true → attestData input s = (formReport input s, stOk, (formReport input s).fw.report)) ∧
    (hasRoot s = false → attestData input s = (s, stAccessDenied, []))) ∧
  (∀ (sigOk : Bool) (input : Octets) (s : State), firstFailure (lcChecks 8 input sigOk s) = none →
    serveLifeCycle sigOk input s = (lifeCycle (fieldNat input 0 1) s, stOk, [])) ∧
  (∀ (op : Nat) (s : State), (op < 3 → fwActivateFault op s = 0 → fwControl op s = (fwActivate op s, stOk, [])) ∧
    (op = 3 ∨ op = 4 → fwConfirmFault (4 - op) s = 0 → fwControl op s = (fwConfirm (4 - op) s, stOk, []))) ∧
  (∀ (t p : Nat) (s : State), s.fw.trialSince = some t → (bootRec s).pending = some p → trialRuns s = true → odNat s 0x8810 3 = 1 → 3 ≤ s.ctl.mode.code →
    exec .fwTrialTimer s = .next (conclude s (confirmBank p (advanceElapsed (t + odNat s 0x8810 4 * secCycles) s))))

/-- A unit whose slots run sends its lists 3 s before the boundary to the partners that have none. A part of an active partner's
list in time is taken, and complete 500 ms before its superframe it is adopted; else it is counted lost. Requests go out for
open entries, are repeated and answered; at the end of the retention each entry still awaited counts late. A ready decision
takes a decoded frame that two usable records recover and fails otherwise, and what is retained no longer is discarded. -/
def Obligations.GlazeRuns : Prop :=
  (∀ s : State, s.eas.running = true →
    ∀ b : Nat, b = firstBoundaryAt s (nowNs s + 2000000000) →
    let peers := (s.gla.active.map (·.1)).filter (fun p => !s.gla.sent.any (fun l => l.peer == p && l.sf == sfIndex s b))
    offersRx s b = true → peers ≠ [] → ∀ s1 : State, s1 = advanceNs (startNs s b - 3000000000).toNat s →
    exec .glazeListSend s = .next (conclude s (peers.foldl (sendList b (listEntries s1 b)) s1))) ∧
  (∀ (e : Env) (s s1 : State),
    (∀ p, envCheck 0x40 e s = (s1, .accepted) → s1.gla.active.any (fun x => x.1 == e.src) = true → p.part < p.parts → nowNs s1 + 500000000 ≤ sfStart p.sf →
      exec (.glazeList e p) s = .next (conclude s (takePart e.src p s1))) ∧
    (∀ f, envCheck 0x41 e s = (s1, .accepted) → exec (.glazeFrame e f) s = .next (conclude s (partnerFrame e.src f.asn f.entry f.stamp { f.rx with rssi := f.rssi, lq := f.lq, psdu := f.psdu } s1))) ∧
    (∀ a reqSeq entries, envCheck 0x42 e s = (s1, .accepted) →
      (∀ t, ownerStart s1 e.src (a + 1) = some t →
        exec (.glazeReq e a reqSeq entries) s = .next (conclude s (entries.foldl (answerEntry e.src a reqSeq) (advanceNs (t + 500000).toNat s1)))) ∧
      (ownerStart s1 e.src (a + 1) = none →
        exec (.glazeReq e a reqSeq entries) s = .next (conclude s (entries.foldl (answerEntry e.src a reqSeq) s1)))) ∧
    (∀ a reqSeq entry kind seg nseg data rx, envCheck 0x43 e s = (s1, .accepted) →
      exec (.glazeAns e a reqSeq entry kind seg nseg data rx) s = .next (conclude s (takeAns e.src a reqSeq entry kind seg nseg data rx s1)))) ∧
  (∀ (owner sf : Nat) (s : State), s.gla.active.any (fun x => x.1 == owner) = true → nowNs s < sfStart sf →
    s.gla.adopted.any (fun l => l.peer == owner && l.sf == sf) = false →
    ∀ s1 : State, s1 = advanceNs ((sfStart sf : Int) - 500000000).toNat s →
    ∀ rest : List ListenList, rest = s1.gla.coming.filter (fun l => !(l.peer == owner && decide (l.sf ≤ sf))) →
    (∀ l, s1.gla.coming.find? (fun l => l.peer == owner && l.sf == sf) = some l → l.got.length = l.parts →
      exec (.glazeListDeadline owner sf) s = .next (conclude s (noteEpoch owner l.epoch
        { s1 with gla := { s1.gla with coming := rest, adopted := s1.gla.adopted ++ [l] } }))) ∧
    (∀ l, s1.gla.coming.find? (fun l => l.peer == owner && l.sf == sf) = some l → l.got.length ≠ l.parts →
      exec (.glazeListDeadline owner sf) s = .next (conclude s (glazeCount 13 { s1 with gla := { s1.gla with coming := rest } }))) ∧
    (s1.gla.coming.find? (fun l => l.peer == owner && l.sf == sf) = none →
      exec (.glazeListDeadline owner sf) s = .next (conclude s (glazeCount 13 { s1 with gla := { s1.gla with coming := rest } })))) ∧
  (∀ (a : Nat) (s : State), s.eas.running = true → s.eas.asn = a + 1 → nowNs s ≤ startNs s (a + 1) + 1000000 → s.gla.decs.any (fun d => d.asn == a) = false →
    let asked := ((askedPartners s a).map (fun p => (p, openEntries s a p))).filter (fun x => x.2 != [])
    let ds := newDecisions s a asked
    exec (.glazeReqSend a) s = .next (conclude s (asked.foldl (fun s x => requestFrom a x.1 (x.2.length) (x.2.map (·.num)) s)
      (ds.foldl holdNode { s with gla := { s.gla with decs := s.gla.decs ++ ds } })))) ∧
  (∀ (partner reqSeq : Nat) (r : GlazeReqSt) (s : State), s.gla.reqs.find? (fun r => r.partner == partner && r.seq == reqSeq) = some r → r.tries < 3 →
    ∀ s1 : State, s1 = advanceElapsed (r.at_ + odNat s 0x6000 4 * msCycles) s →
    let r1 := { r with tries := r.tries + 1, at_ := s1.clk.elapsed }
    exec (.glazeReqTimeout partner reqSeq) s = .next (conclude s (sendReq r1 { s1 with gla := { s1.gla with
      reqs := s1.gla.reqs.map (fun x => if x.partner == partner && x.seq == reqSeq then r1 else x) } }))) ∧
  (∀ (a : Nat) (s : State), s.gla.decs.any (fun d => d.asn == a) = true ∨ s.gla.reqs.any (fun r => r.asn == a) = true →
    ∀ s1 : State, s1 = advanceNs (startNs s (a + odNat s 0x6000 2)).toNat s →
    let missing := s1.gla.reqs.filter (fun r => r.asn == a)
    ∀ s2 : State, s2 = (missing.flatMap (·.awaited)).foldl (fun s _ => glazeCount 7 s) s1 →
    exec (.glazeRetentionExpiry a) s = .next (conclude s { s2 with gla := { s2.gla with
      reqs := s2.gla.reqs.filter (fun r => r.asn != a), expired := s2.gla.expired.filter (fun r => decide (a ≤ r.asn + 64)) ++ missing
      decs := s2.gla.decs.map (fun d => if d.asn == a then { d with ready := true } else d) } })) ∧
  (∀ (a n : Nat) (d : GlazeDec) (s : State), decOf s a n = some d → d.ready = true →
    let rs := usableRecords s d.records
    ∀ s1 : State, s1 = (List.range (d.records.length - rs.length)).foldl (fun s _ => glazeCount 8 s) s →
    exec (.glazeDecision a n none) s = .next (conclude s (failDecision a n s1)) ∧
    (∀ f, 2 ≤ rs.length → recoverable s d (combine rs).length f = true →
      exec (.glazeDecision a n (some f)) s = .next (conclude s (takeGlazeFrame n 9 (glazeUl s1 true a d.row n (referenceStamp d.records) f) s1))) ∧
    (∀ f, rs.length < 2 ∨ recoverable s d (combine rs).length f = false →
      exec (.glazeDecision a n (some f)) s = .next (conclude s (failDecision a n s1)))) ∧
  (∀ (owner a : Nat) (s : State), s.gla.recs.any (fun r => r.owner == owner && r.asn == a) = true ∨ s.gla.frames.any (fun g => g.owner == owner && g.asn == a) = true →
    ∀ s1 : State, s1 = advanceNs (discardNs s owner a) s →
    exec (.glazeRecordDiscard owner a) s = .next (conclude s { s1 with gla := { s1.gla with
      recs := s1.gla.recs.filter (fun r => !(r.owner == owner && r.asn == a)), frames := s1.gla.frames.filter (fun g => !(g.owner == owner && g.asn == a)) } }))

/-- A message that the envelope's checks refuse has no effect but the checks' own, and one of a stale epoch is answered with a
FENCE. Of the accepted: a newer LSA enters the database, a claim that loses is fenced, a DEAD or TAKEOVER silences a holder,
a FENCE fences a lower epoch, a snapshot and a delta join the mirror, an ACK is the spare's or settles a handover to its
target, a request is served and its answer taken. -/
def Obligations.HedgerowMessagesAreChecked : Prop :=
  (∀ (e : Env) (s s1 : State) (type : Nat) (c : Instr), Hears e type c →
    (envCheck type e s = (s1, .refused) → exec c s = .next (conclude s s1)) ∧
    (envCheck type e s = (s1, .stale) → exec c s = .next (conclude s (answerFence e s1)))) ∧
  (∀ (e : Env) (s s1 : State),
    (∀ b, envCheck 0x01 e s = (s1, .accepted) → e.unit = s1.chip.serial → exec (.heartbeat e b) s = .next (conclude s s1)) ∧
    (∀ b, envCheck 0x01 e s = (s1, .accepted) → e.unit ≠ s1.chip.serial →
      ∀ s2 : State, s2 = learnHeld b.held (hearWithdrawn e b { s1 with hed := { s1.hed with
        adj := putAdj (heardAdj e b s1) s1.hed.adj, heardAt := s1.clk.elapsed, isolated := false } }) →
      exec (.heartbeat e b) s = .next (conclude s (afterChange (settleExchange (hearAgain s1.hed.isolated
        (if (heardAdj e b s1).up ∧ ((hrAdjOf s1 e.src).map HrAdj.up).getD false = false ∧ (hrAdjOf s2 e.src).isSome then exchange e.src s2 else s2)))))) ∧
    (∀ b, envCheck 0x02 e s = (s1, .accepted) → b.serial ≠ s1.chip.serial → lsaNewer b s1 = true →
      let l : LsaRec := { origin := b.origin, serial := b.serial, seq := b.seq, variant := b.variant, stepping := b.stepping, mode := b.mode
                          flags := b.flags % 16, ipv6 := b.ipv6, held := b.held, adj := b.adj, suspects := b.suspects, cand := b.cand
                          spares := b.spares, takeoverS := b.takeoverS, isolateS := b.isolateS, at_ := s1.clk.elapsed }
      ∀ s2 : State, s2 = learnHeld b.held { s1 with hed := { s1.hed with lsdb := (s1.hed.lsdb.filter (fun x => x.origin != b.origin)) ++ [l] } } →
      exec (.lsa e b) s = .next (conclude s (afterChange (settleExchange
        (((upAdj s2).filter (fun x => x.addr != e.src)).foldl (fun s x => hrSend 0x02 x.addr (homeRegion s) (encodeLsa l) s) s2))))) ∧
    (∀ b, envCheck 0x02 e s = (s1, .accepted) → b.serial = s1.chip.serial ∨ lsaNewer b s1 = false → exec (.lsa e b) s = .next (conclude s s1)) ∧
    (∀ addr epoch h, envCheck 0x03 e s = (s1, .accepted) → e.unit ≠ s1.chip.serial → s1.hed.listenUntil = none → s1.hed.held.find? (fun h => h.1 == addr) = some h →
      ∀ s2 : State, s2 = hrSend 0x04 e.src addr (beOct 2 addr ++ beOct 4 h.2 ++ beOct 1 s1.ctl.mode.code ++ padTo 8 s1.chip.serial) s1 →
      exec (.claim e addr epoch) s = .next (conclude s
        (if holderWins epoch false e.unit h.2 (servesMode s1.ctl.mode.code) s1.chip.serial then speak (fenceRegion addr epoch s2) else s2))) ∧
    (∀ addr epoch mode serial, envCheck 0x04 e s = (s1, .accepted) → s1.hed.claim.map (·.1) = some addr → serial ≠ s1.chip.serial →
      holderWins epoch (servesMode mode) serial (((s1.hed.held.find? (fun h => h.1 == addr)).map (·.2)).getD (homeEpoch s1)) (servesMode s1.ctl.mode.code) s1.chip.serial = true →
      exec (.defend e addr epoch mode serial) s = .next (conclude s (speak (fenceRegion addr epoch s1)))) ∧
    (∀ addr epoch, envCheck 0x10 e s = (s1, .accepted) → holdsRegion s1 addr = true → e.unit ≠ s1.chip.serial → hrEpoch s1 addr ≤ epoch →
      exec (.dead e addr epoch) s = .next (conclude s (speak (isolate s1)))) ∧
    (∀ b, envCheck 0x11 e s = (s1, .accepted) → b.newHolder ≠ s1.chip.serial → s1.hed.incoming = none →
      ∀ s2 : State, s2 = noteMove b (learnEpoch b.region b.newEpoch s1) →
      exec (.takeover e b) s = .next (conclude s
        (if holdsRegion s2 b.region ∧ hrEpoch s2 b.region < b.newEpoch then speak (isolate s2) else speak s2))) ∧
    (∀ region epoch holder, envCheck 0x12 e s = (s1, .accepted) → holder = s1.chip.serial →
      exec (.fence e region epoch holder) s = .next (conclude s (learnEpoch region epoch (hrCount 5 s1)))) ∧
    (∀ seg nseg data sigOk, envCheck 0x20 e s = (s1, .accepted) → mirrorsRegion s1 e.region = true → seg < nseg →
      exec (.mirrorSnapshot e seg nseg data sigOk) s = .next (conclude s (takeSnapshot e seg nseg data sigOk s1))) ∧
    (∀ b m, envCheck 0x21 e s = (s1, .accepted) → mirrorOf s1 e.region = some m → mirrorsRegion s1 e.region = true → m.holder = e.src → m.snapshot.isSome = true → m.sf ≤ b.sf →
      exec (.mirrorDelta e b) s = .next (conclude s (putMirror (applyDelta b m) s1))) ∧
    (∀ region status digest, envCheck 0x22 e s = (s1, .accepted) → region = (servedRegion s1).1 → s1.hed.spare = some e.src → s1.hed.handing = none →
      exec (.mirrorAck e region status digest) s = .next (conclude s
        { s1 with hed := { s1.hed with ackDigest := if status = stOk then some digest else none } })) ∧
    (∀ region status digest h, envCheck 0x22 e s = (s1, .accepted) → region = (servedRegion s1).1 → s1.hed.spare ≠ some e.src →
      s1.hed.handing = some h → h.target = e.src → h.eff = none →
      (status = stOk → s1.ctl.mode.working = true → s1.ctl.change = none →
        exec (.mirrorAck e region status digest) s = .next (conclude s (speak (announceHandover h digest s1)))) ∧
      (status = stOk → s1.ctl.mode.working = false ∨ s1.ctl.change.isSome = true →
        exec (.mirrorAck e region status digest) s = .next (conclude s (handoverStatus 4 stInvalidState 0 { s1 with hed := { s1.hed with handing := none } }))) ∧
      (status ≠ stOk →
        exec (.mirrorAck e region status digest) s = .next (conclude s (handoverStatus 4 status 0 { s1 with hed := { s1.hed with handing := none } })))) ∧
    (∀ b m o, envCheck 0x13 e s = (s1, .accepted) → b.newHolder = s1.chip.serial → b.region = s1.hed.home → s1.hed.st = 3 → s1.ctl.mode = .m9 →
      mirrorOf s1 b.region = some m → m.snapshot = some o → padTo 32 (shake o) = padTo 32 b.digest →
      exec (.handover e b) s = .next (conclude s (speak (enterMode .m10 { s1 with hed := { s1.hed with
        incoming := some { kind := 2, region := b.region, epoch := b.newEpoch, eff := b.eff, mode := b.mode } } })))) ∧
    (∀ q op, envCheck 0x50 e s = (s1, .accepted) → exec (.odapReq e q op) s = .next (conclude s (servePeer e q op s1))) ∧
    (∀ rid status body, envCheck 0x51 e s = (s1, .accepted) → exec (.odapRsp e rid status body) s = .next (conclude s (shadowAnswered rid status body s1))))

/-- While the Hedgerow runs, its timers say a heartbeat and an LSA, mark an adjacency SUSPECT and a unit that heard none
isolated. An LSA too old leaves the database. A claim is said until it was said three times and is then done; the end of the
listening time claims the lowest address not heard of. A takeover or handover of an adopted epoch, or of a unit whose slots
do not run, takes effect. A handover's holder quiesces if the target is heard and withdraws if it is unknown, sends its FINAL
delta when quiet, and hands over at its slot. Deltas are sent after their superframe. A shadow unanswered for two superframes
is logged and waited for no longer. -/
def Obligations.HedgerowTimersRun : Prop :=
  (∀ s : State, hrRuns s = true →
    (s.hed.home ≠ 0xFFFF → exec .helloTimer s = .next (conclude s (sendHeartbeat (advanceElapsed (s.hed.helloAt + helloCycles s) s))) ∧
      exec .lsaRefreshTimer s = .next (conclude s (originateLsa (advanceElapsed (s.hed.lsaAt + odNat s 0x7001 7 * secCycles) s)))) ∧
    (∀ addr x, hrAdjOf s addr = some x → x.suspect = false →
      ∀ s1 : State, s1 = advanceElapsed (x.lastHb + 7 * helloCycles s / 2) s →
      ∀ s2 : State, s2 = { s1 with hed := { s1.hed with adj := putAdj { x with suspect := true } s1.hed.adj } } →
      s2.hed.mirrors.find? (fun m => m.holder == addr && s2.hed.mirroring.contains m.region) = none →
      exec (.suspectTimeout addr) s = .next (conclude s (afterChange s2))) ∧
    (odNat s 0x7001 4 ≠ 0 → s.hed.isolated = false → s.hed.claimed = true →
      ∀ s1 : State, s1 = advanceElapsed (s.hed.heardAt + odNat s 0x7001 4 * msCycles) s →
      ∀ s2 : State, s2 = { s1 with hed := { s1.hed with isolated := true } } →
      exec .isolationTimeout s = .next (conclude s (speak (if s2.hed.spare.isSome ∧ s2.hed.held ≠ [] then isolate s2 else s2)))) ∧
    (∀ addr n, s.hed.claim = some (addr, n) →
      ∀ s1 : State, s1 = (if n = 0 then s else advanceElapsed (s.hed.claimAt + secCycles) s) →
      (3 ≤ n → exec .claimTimer s = .next (conclude s (claimDone addr s1))) ∧
      (n < 3 → ∀ s2 : State, s2 = (hrAround s1).foldl (fun t d => hrSendTo 0x03 d.1 addr (homeEpoch t) .own d.2 none (nowNs t)
        (beOct 2 addr ++ beOct 4 (homeEpoch t)) t) s1 →
        exec .claimTimer s = .next (conclude s { s2 with hed := { s2.hed with claim := some (addr, n + 1), claimAt := s2.clk.elapsed } })))) ∧
  (∀ (origin : Nat) (l : LsaRec) (s : State), s.hed.lsdb.find? (fun l => l.origin == origin) = some l →
    ∀ s1 : State, s1 = advanceElapsed (l.at_ + 3 * odNat s 0x7001 7 * secCycles) s →
    exec (.lsaAgeExpiry origin) s = .next (conclude s (afterChange { s1 with hed := { s1.hed with lsdb := s1.hed.lsdb.filter (fun l => l.origin != origin) } }))) ∧
  (∀ (t a : Nat) (s : State), s.hed.listenUntil = some t → ∀ s1 : State, s1 = advanceElapsed t s →
    (List.range 4096).find? (fun a => !(s1.hed.claimsHeard ++ s1.hed.lsdb.flatMap (fun l => l.origin :: l.held.map (·.1))).contains a) = some a →
    exec .addressListenEnd s = .next (conclude s (odPut 0x7000 2 0 (beOct 2 a)
      { s1 with hed := { s1.hed with listenUntil := none, claimsHeard := [], home := a, claim := some (a, 0) } }))) ∧
  (∀ (i : Incoming) (s : State), s.hed.incoming = some i → i.adopted = true ∨ s.eas.running = false →
    (i.kind < 2 → exec .takeoverEffective s = .next (conclude s (regionEffective i s))) ∧
    (∀ m, i.kind = 2 → mirrorOf s i.region = some m → m.final = true → exec .handoverEffective s = .next (conclude s (regionEffective i s)))) ∧
  (∀ (h : Handing) (e : Nat) (s : State), s.hed.handing = some h → h.eff = some e →
    (h.quiesced = false → atSlot s (e - handSlots s) = true → ∀ s1 : State, s1 = advanceToSlot (e - handSlots s) s →
      (∀ x, hrAdjOf s1 h.target = some x → x.suspect = false →
        exec .handoverQuiesce s = .next (conclude s { s1 with hed := { s1.hed with handing := some { h with quiesced := true } } })) ∧
      (hrAdjOf s1 h.target = none → exec .handoverQuiesce s = .next (conclude s (speak (withdrawHandover h s1))))) ∧
    (h.quiesced = true → h.finalSent = false → atSlot s (e - 4) = true → ∀ s1 : State, s1 = advanceToSlot (e - 4) s →
      ∀ s2 : State, s2 = sendDelta h.target (sfIndex s1 (e - 1)) true (gackTailOf e s1) h.touched s1 →
      exec .finalDeltaSend s = .next (conclude s { s2 with hed := { s2.hed with handing := some { h with finalSent := true, touched := [] } } })) ∧
    (s.hed.incoming = none → atSlot s e = true → exec .handoverEffective s = .next (conclude s (handOver h e s)))) ∧
  (∀ s : State, s.hed.spare.isSome = true ∨ s.hed.handing.isSome = true → s.eas.running = true → s.ctl.mode.emits = true → s.hed.incoming = none →
    ∀ wait : Nat, wait = (odNat s 0x6000 2 + 2) * slotNs (curEpoch s).code →
    ∀ b : Nat, b = (nowNs s - wait) / 25600000000 →
    ∀ f : Nat, f = (if nowNs s ≤ b * 25600000000 + wait + 1000000000 then b else b + 1) →
    exec .mirrorDeltaSend s = .next (conclude s (sendDeltas (f - 1) (advanceNs (f * 25600000000 + wait) s)))) ∧
  (∀ (n f : Nat) (s : State), s.hed.shadowWait.find? (fun w => w.1 == n) = some (n, f) →
    ∀ s1 : State, s1 = advanceNs (sfStart (f + 2)) s →
    exec (.shadowWaitExpiry n) s = .next (conclude s (hrLog 8 (servedRegion s1).1 (servedRegion s1).2
      { s1 with hed := { s1.hed with shadowWait := s1.hed.shadowWait.filter (fun w => w.1 != n) } })))

/-- Each of these commands, under conditions on the state and its operands alone, answers the next state of its own effect: the
transaction requests; the trial's timer; Gesso's seven services for an accepted input whose answer fits; the capture's start
and stop; a calibration item, a pre-distortion update, within bounds or rejected, and a dwell advance; the Hedgerow's timers
(here a handover's from a target that is heard and a takeover of a unit whose slots do not run); the tables' commands in a
table with nothing waiting; the clock's and the ports' timers. -/
def Obligations.CommandsRunToCompletion : Prop :=
  (∀ (q : OdapReq) (u : Session) (s : State), TakenUp q 0 u s →
    ∀ t : State, t = touch q.session s →
    (firstFailure (txnChecks q t) = none → t.srv.txns.length < 4 →
      exec (.txnBegin q) s = .next (conclude s (respond q 0x20 (okA (beOct 4 t.srv.nextTxn)) true { t with srv := { t.srv with
        txns := t.srv.txns ++ [{ id := t.srv.nextTxn, session := u.id, lastReq := t.clk.elapsed }], nextTxn := (t.srv.nextTxn + 1) % 2 ^ 32 } }))) ∧
    (∀ x : Txn, ownTxn q t = some x → exec (.txnAbort q) s = .next (conclude s (respond q 0x22 (okA []) true (closeTxn x false t)))) ∧
    (∀ (authOk : Bool) (x : Txn) (e : Nat) (t1 : State), ownTxn q t = some x → e = (commonEff x.staged t).getD (nextSuperframeE t) →
      recheck e u q authOk t [] x.staged = none → setChecks e x.staged t = none → commitAll u authOk (commonEff x.staged t) 0 x.staged t = .ok t1 →
      ∀ a : Nat, a = (match commonEff x.staged t with
        | some e => e
        | none => if hasAir x.staged then effNoSlots else effNone) →
      exec (.txnCommit q authOk) s = .next (conclude s (respond q 0x21 (effA a) true (closeTxn x true (mergeChanges t.eas.changes t1)))))) ∧
  (∀ (t p : Nat) (s : State), s.fw.trialSince = some t → (bootRec s).pending = some p → trialRuns s = true → odNat s 0x8810 3 = 1 → 3 ≤ s.ctl.mode.code →
    exec .fwTrialTimer s = .next (conclude s (confirmBank p (advanceElapsed (t + odNat s 0x8810 4 * secCycles) s)))) ∧
  (∀ (g : GessoReq) (s : State), gessoUp s = true → bufferOk g.inOff g.inLen = true → bufferOk g.outOff g.outCap = true →
    ∀ i : Octets, i = memRead s (0x20000000 + g.inOff) g.inLen →
    (g.caller = 2 ∨ g.caller = 4 →
      (∀ tagOk, keyOpFault g.caller g.handle s = 0 → fieldNat i 0 1 = 1 →
        ∀ o : Octets, o = padTo ((i.drop 1).length + 16) (Config.crypto "AES-GCM seal" 0 [keyValue s g.handle, i.drop 1]) → o.length ≤ g.outCap →
        exec (.gessoKeyOp g tagOk) s = .next (conclude s (gessoRespond 1 g stOk o (countUse g.handle s)))) ∧
      (∀ toNode row tagOk, importFault toNode row (2 ^ fieldNat i 0 1) (i.drop 1) tagOk s = none →
        ∀ r : State × Nat × Octets, r = keyProvision toNode row tagOk i s → (r.2.1 = stOk ∨ r.2.1 = stKeyChangeRequired) ∧
        exec (.gessoKeyProvision g toNode row tagOk) s = .next (conclude s (gessoRespond 3 g r.2.1 [] r.1))) ∧
      (∀ pre, g.caller = 4 ∨ pre = "FL96-EXPORT" ∨ pre = "FL96-APP" → keysAllowed s = true → (identitySign pre i s).length ≤ g.outCap →
        exec (.gessoSign g pre true) s = .next (conclude s (gessoRespond 4 g stOk (identitySign pre i s) s))) ∧
      (hasRoot s = true → (formReport i s).fw.report.length ≤ g.outCap →
        exec (.gessoAttest g) s = .next (conclude s (gessoRespond 5 g stOk (formReport i s).fw.report (formReport i s)))) ∧
      (∀ sigOk, firstFailure (lcChecks 8 i sigOk s) = none →
        exec (.gessoLifeCycle g sigOk) s = .next (conclude s (gessoRespond 6 g stOk [] (lifeCycle (fieldNat i 0 1) s)))) ∧
      (∀ op, op < 3 → fwActivateFault op s = 0 →
        exec (.gessoFwControl g op) s = .next (conclude s (gessoRespond 7 g stOk [] (fwActivate op s))))) ∧
    (∀ pan k, g.caller = 3 → g.handle ≠ 0xFFFF → useFault s g.handle 0 = 0 → keyOf s g.handle = some k →
      exec (.gessoLaneBind g pan) s = .next (conclude s (gessoRespond 2 g stOk []
        { s with sec := { s.sec with lanes := setAt s.sec.lanes k.pan (some g.handle) } })))) ∧
  (∀ s : State, (s.pal.capState = 1 → s.ctl.mode = .m4 → odField s 0x3300 1 0 18 5 ≤ s.eas.asn →
      exec .captureStart s = .next (conclude s (startCapture s))) ∧
    (s.pal.capState = 2 → ∀ n : Nat, n = max 1 (captureSources s.pal.capCfg).length → exec .captureStop s = .next (conclude s (endCapture 3
      (advanceElapsed (s.pal.capFrom + (captureLimit s.pal.capCfg + n - 1) / n * capturePeriod s.pal.capCfg) s)))) ∧
    (∀ item path seen us, (calItem s item path).running = true → us = (calItem s item path).startUs + itemUs s item path → plausible item path seen = true →
      ∀ t : State, t = endRequest item path true (itemResult item path true (advanceNs ((startNs s s.eas.asn).toNat + us * 1000) s)) →
      exec (.calItemComplete item path seen) s = .next (conclude s ((synthPaths (pathSynth path)).foldl (fun s p => startNext t.eas.asn p us s) t))) ∧
    (∀ (k : Nat) (err : Int) (re im : List Int), k < 8 → dpdOn s 0 = true → (s.pri.fbCal[0]?).getD false = true → dpdInUse s 0 = k →
      odNat s 0x3410 4 ≤ (dpdSet s k).captured → ∀ coef, coef = halfStep (dpdSet s k).coef (freeCoefs s.free) →
      ∀ c : Nat, c = clipsOf (dpdSet s k).coef [] (re.zip im) →
      ∀ s1 : State, s1 = { s with free := s.free + 32, pri := { s.pri with clips := modAt (· + c) s.pri.clips 0 } } →
      exec (.dpdUpdate k err re im) s = .next (conclude s (if coefOk coef = true ∧ 10000 * c ≤ (re.zip im).length
        then modDpd k (fun d => { d with next := some coef, check := some (d.coef, err), captured := 0, nmse := err }) s1
        else dpdReject 0 k err s1))) ∧
    (∀ t, (s.pri.dwell.map (fun a => (bucketAt s a.rule s.clk.elapsed + 1) * bucketCycles s a.rule)).min? = some t →
      exec .dwellBucketAdvance s = .next (conclude s (pruneAccs (advanceElapsed t s))))) ∧
  (∀ s : State, hrRuns s = true → s.hed.home ≠ 0xFFFF →
    exec .helloTimer s = .next (conclude s (sendHeartbeat (advanceElapsed (s.hed.helloAt + helloCycles s) s))) ∧
    exec .lsaRefreshTimer s = .next (conclude s (originateLsa (advanceElapsed (s.hed.lsaAt + odNat s 0x7001 7 * secCycles) s))) ∧
    (∀ addr x, hrAdjOf s addr = some x → x.suspect = false →
      ∀ s1 : State, s1 = advanceElapsed (x.lastHb + 7 * helloCycles s / 2) s → s1.hed.mirrors = [] →
      exec (.suspectTimeout addr) s = .next (conclude s (afterChange { s1 with hed := { s1.hed with adj := putAdj { x with suspect := true } s1.hed.adj } }))) ∧
    (odNat s 0x7001 4 ≠ 0 → s.hed.isolated = false →
      ∀ s1 : State, s1 = advanceElapsed (s.hed.heardAt + odNat s 0x7001 4 * msCycles) s →
      ∀ s2 : State, s2 = { s1 with hed := { s1.hed with isolated := true } } →
      exec .isolationTimeout s = .next (conclude s (speak (if s2.hed.spare.isSome ∧ s2.hed.held ≠ [] then isolate s2 else s2)))) ∧
    (∀ addr, s.hed.claim = some (addr, 3) → exec .claimTimer s = .next (conclude s (claimDone addr (advanceElapsed (s.hed.claimAt + secCycles) s))))) ∧
  (∀ s : State, (∀ origin l, s.hed.lsdb.find? (fun l => l.origin == origin) = some l →
      ∀ s1 : State, s1 = advanceElapsed (l.at_ + 3 * odNat s 0x7001 7 * secCycles) s →
      exec (.lsaAgeExpiry origin) s = .next (conclude s (afterChange { s1 with hed := { s1.hed with lsdb := s1.hed.lsdb.filter (fun l => l.origin != origin) } }))) ∧
    (∀ t a, s.hed.listenUntil = some t → ∀ s1 : State, s1 = advanceElapsed t s →
      (List.range 4096).find? (fun a => !(s1.hed.claimsHeard ++ s1.hed.lsdb.flatMap (fun l => l.origin :: l.held.map (·.1))).contains a) = some a →
      exec .addressListenEnd s = .next (conclude s (odPut 0x7000 2 0 (beOct 2 a)
        { s1 with hed := { s1.hed with listenUntil := none, claimsHeard := [], home := a, claim := some (a, 0) } }))) ∧
    (∀ i, s.hed.incoming = some i → i.kind < 2 → s.eas.running = false → exec .takeoverEffective s = .next (conclude s (regionEffective i s))) ∧
    (s.hed.spare.isSome = true ∨ s.hed.handing.isSome = true → s.eas.running = true → s.ctl.mode.emits = true → s.hed.incoming = none →
      ∀ wait : Nat, wait = (odNat s 0x6000 2 + 2) * slotNs (curEpoch s).code →
      ∀ b : Nat, b = (nowNs s - wait) / 25600000000 →
      ∀ f : Nat, f = (if nowNs s ≤ b * 25600000000 + wait + 1000000000 then b else b + 1) →
      exec .mirrorDeltaSend s = .next (conclude s (sendDeltas (f - 1) (advanceNs (f * 25600000000 + wait) s)))) ∧
    (∀ h e, s.hed.handing = some h → h.eff = some e →
      (∀ x, h.quiesced = false → atSlot s (e - handSlots s) = true → ∀ s1 : State, s1 = advanceToSlot (e - handSlots s) s →
        hrAdjOf s1 h.target = some x → x.suspect = false →
        exec .handoverQuiesce s = .next (conclude s { s1 with hed := { s1.hed with handing := some { h with quiesced := true } } })) ∧
      (h.quiesced = true → h.finalSent = false → atSlot s (e - 4) = true → ∀ s1 : State, s1 = advanceToSlot (e - 4) s →
        ∀ s2 : State, s2 = sendDelta h.target (sfIndex s1 (e - 1)) true (gackTailOf e s1) h.touched s1 →
        exec .finalDeltaSend s = .next (conclude s { s2 with hed := { s2.hed with handing := some { h with finalSent := true, touched := [] } } })) ∧
      (s.hed.incoming = none → atSlot s e = true → exec .handoverEffective s = .next (conclude s (handOver h e s)))) ∧
    (∀ n f, s.hed.shadowWait.find? (fun w => w.1 == n) = some (n, f) → ∀ s1 : State, s1 = advanceNs (sfStart (f + 2)) s →
      exec (.shadowWaitExpiry n) s = .next (conclude s (hrLog 8 (servedRegion s1).1 (servedRegion s1).2
        { s1 with hed := { s1.hed with shadowWait := s1.hed.shadowWait.filter (fun w => w.1 != n) } })))) ∧
  (∀ (tag : Nat) (key : Octets) (s : State), trellisRuns s = true → 1 ≤ tag → tag ≤ 5 → key.length = keyLen tag → s.tre.waiting = [] →
    (∀ flags value nxt, ∀ e : TEntry, e = { tag := tag, flags := flags % 8, aux := if tag = 4 then macTime s else 0, value := value, next := nxt, key := key } →
      exec (.tableInsert tag flags value nxt key) s = .next (conclude s (ownInsert e s))) ∧
    exec (.tableDelete tag key) s = .next (conclude s (ownDelete tag key s)) ∧
    (s.tre.bad = [] → exec (.tableLookup tag key []) s = .next (conclude s (emit (.lookup (lookup s.tre tag key)) s))) ∧
    (∀ b, s.tre.scrubAt = (0, b) → s.tre.ring = [] → (scrubNext 0 b).1 ≠ 3 →
      exec (.scrubBucket false) s = .next (conclude s (let s1 := scrubCompare 0 b false s; { s1 with tre := { s1.tre with scrubAt := scrubNext 0 b } }))) ∧
    (∀ arr b d seq l, s.tre.ring = (arr, b, d, seq) :: l → s.ctl.domains[4]? = some .on →
      exec .digestRingAdvance s = .next (conclude s { s with tre := { s.tre with
        ring := l, ap := (s.tre.ap + 1) % 510, shadow := sset emptyDigest s.tre.shadow (arr * 2 ^ 17 + b) d } }))) ∧
  (∀ (port : Nat) (s : State), s.ctl.mode.working = true →
    (port < 2 → ethUp s port = true → exec (.egressSelect port) s = .next (conclude s (egressSelect port (sendOwed s)))) ∧
    (∀ f, port < 2 → ethUp s port = true → trellisRuns s = true → exec (.ethFrameReceived port f) s = .next (conclude s (ethReceive port f s))) ∧
    (port < 2 → gatesRun s port = true → ∀ g, g = (egPort s port).oper →
      ∀ s1 : State, s1 = advanceNs (nowNs s + (gateAt g.entries (gatePhase g (nowNs s)) 0).2) s →
      exec (.gateEntryBoundary port) s = .next (conclude s (modEgPort port (fun p => { p with entry := gateEntry g (nowNs s1) }) s1))) ∧
    (∀ cls f l rate need, classQueue s port cls = f :: l → rate = odField s 0x6810 2 (8 * port + cls) 0 4 → need = (f.len + 20) * octetUnits →
      0 < rate → shaperTokens s port cls < need → f.len + 20 ≤ odField s 0x6810 2 (8 * port + cls) 4 4 →
      exec (.shaperTokensRefilled port cls) s = .next (conclude s
        (advanceElapsed (s.clk.elapsed + (need - shaperTokens s port cls + rate - 1) / rate) s))) ∧
    (∀ n payload yellow, s.ctl.domains[4]? = some .on →
      exec (.dlQueueFromCanvas (some n) payload yellow) s = .next (conclude s (dlEnqueue n payload yellow false s))) ∧
    (∀ jitter, odNat s 0x2001 1 = 1 →
      exec (.ppsInEdge jitter) s = .next (conclude s (ppsEdge ((nowNs s : Int) + clampInt (-4) 4 jitter - odInt s 0x2020 4) s))) ∧
    exec .ppsOutSecond s = .next (conclude s (ppsPulse (nowSecs s + 1) (advanceNs (((nowSecs s + 1) * 1000000000 : Int) - odInt s 0x2020 3).toNat s))) ∧
    (∀ t, s.clk.lastMeas = some t →
      exec .sourceTimeout s = .next (conclude s (sourceLost (advanceElapsed (t + odNat s 0x2001 7 * msCycles) s)))) ∧
    exec (.announceReceiptTimeout port) s = .next (conclude s (decideStates (some port) (loseMaster port s))) ∧
    (s.shd.warm = none → portActive s port = true → (portOf s port).portState = 6 →
      exec (.ptpMessageTimer port 2) s = .next (conclude s (emit (.announce port (portOf s port).seq (announced s))
        (modPort port (fun p => { p with seq := (p.seq + 1) % 65536 }) s)))))
end

