-- ==== Sys2Proof/Laws/State.lean ====
section
/-!
SUPPORT. What each update of the state leaves as it was: one lemma per field and update, each true by unfolding, so that no later
proof unfolds a record update.
-/

namespace Sys2Proof.Machine

/-- What freeing one key leaves as it was, freeing the keys of a list leaves as it was. -/
theorem freed_keep {α : Type} (f : State → α) (h : ∀ n s, f (freeSlot n s) = f s) (l : List (Nat × KeySlot)) (s : State) :
    f (l.foldl (fun s e => freeSlot e.1 s) s) = f s := by
  induction l generalizing s with
  | nil => rfl
  | cons e l ih => rw [List.foldl_cons, ih, h]

variable (s : State)

@[simp] theorem odPut_chip (idx sub row : Nat) (v : Octets) : (odPut idx sub row v s).chip = s.chip := rfl
@[simp] theorem odPut_ctl (idx sub row : Nat) (v : Octets) : (odPut idx sub row v s).ctl = s.ctl := rfl
@[simp] theorem odPut_clk (idx sub row : Nat) (v : Octets) : (odPut idx sub row v s).clk = s.clk := rfl
@[simp] theorem odPut_srv (idx sub row : Nat) (v : Octets) : (odPut idx sub row v s).srv = s.srv := rfl
@[simp] theorem odPut_rf (idx sub row : Nat) (v : Octets) : (odPut idx sub row v s).rf = s.rf := rfl
@[simp] theorem odPut_pal (idx sub row : Nat) (v : Octets) : (odPut idx sub row v s).pal = s.pal := rfl
@[simp] theorem odPut_pri (idx sub row : Nat) (v : Octets) : (odPut idx sub row v s).pri = s.pri := rfl
@[simp] theorem odPut_nod (idx sub row : Nat) (v : Octets) : (odPut idx sub row v s).nod = s.nod := rfl
@[simp] theorem odPut_eas (idx sub row : Nat) (v : Octets) : (odPut idx sub row v s).eas = s.eas := rfl
@[simp] theorem odPut_gla (idx sub row : Nat) (v : Octets) : (odPut idx sub row v s).gla = s.gla := rfl
@[simp] theorem odPut_tre (idx sub row : Nat) (v : Octets) : (odPut idx sub row v s).tre = s.tre := rfl
@[simp] theorem odPut_rid (idx sub row : Nat) (v : Octets) : (odPut idx sub row v s).rid = s.rid := rfl
@[simp] theorem odPut_hed (idx sub row : Nat) (v : Octets) : (odPut idx sub row v s).hed = s.hed := rfl
@[simp] theorem odPut_sec (idx sub row : Nat) (v : Octets) : (odPut idx sub row v s).sec = s.sec := rfl
@[simp] theorem odPut_fw (idx sub row : Nat) (v : Octets) : (odPut idx sub row v s).fw = s.fw := rfl
@[simp] theorem odPut_shd (idx sub row : Nat) (v : Octets) : (odPut idx sub row v s).shd = s.shd := rfl
@[simp] theorem odPut_host (idx sub row : Nat) (v : Octets) : (odPut idx sub row v s).host = s.host := rfl
@[simp] theorem odPut_pwr (idx sub row : Nat) (v : Octets) : (odPut idx sub row v s).pwr = s.pwr := rfl
@[simp] theorem odPut_mem (idx sub row : Nat) (v : Octets) : (odPut idx sub row v s).mem = s.mem := rfl
@[simp] theorem odPut_out (idx sub row : Nat) (v : Octets) : (odPut idx sub row v s).out = s.out := rfl
@[simp] theorem odPut_free (idx sub row : Nat) (v : Octets) : (odPut idx sub row v s).free = s.free := rfl
@[simp] theorem odPut_pending (idx sub row : Nat) (v : Octets) : (odPut idx sub row v s).pending = s.pending := rfl

@[simp] theorem emit_chip (o : Output) : (emit o s).chip = s.chip := rfl
@[simp] theorem emit_ctl (o : Output) : (emit o s).ctl = s.ctl := rfl
@[simp] theorem emit_clk (o : Output) : (emit o s).clk = s.clk := rfl
@[simp] theorem emit_srv (o : Output) : (emit o s).srv = s.srv := rfl
@[simp] theorem emit_rf (o : Output) : (emit o s).rf = s.rf := rfl
@[simp] theorem emit_pal (o : Output) : (emit o s).pal = s.pal := rfl
@[simp] theorem emit_pri (o : Output) : (emit o s).pri = s.pri := rfl
@[simp] theorem emit_nod (o : Output) : (emit o s).nod = s.nod := rfl
@[simp] theorem emit_eas (o : Output) : (emit o s).eas = s.eas := rfl
@[simp] theorem emit_gla (o : Output) : (emit o s).gla = s.gla := rfl
@[simp] theorem emit_tre (o : Output) : (emit o s).tre = s.tre := rfl
@[simp] theorem emit_rid (o : Output) : (emit o s).rid = s.rid := rfl
@[simp] theorem emit_hed (o : Output) : (emit o s).hed = s.hed := rfl
@[simp] theorem emit_sec (o : Output) : (emit o s).sec = s.sec := rfl
@[simp] theorem emit_fw (o : Output) : (emit o s).fw = s.fw := rfl
@[simp] theorem emit_shd (o : Output) : (emit o s).shd = s.shd := rfl
@[simp] theorem emit_host (o : Output) : (emit o s).host = s.host := rfl
@[simp] theorem emit_pwr (o : Output) : (emit o s).pwr = s.pwr := rfl
@[simp] theorem emit_od (o : Output) : (emit o s).od = s.od := rfl
@[simp] theorem emit_mem (o : Output) : (emit o s).mem = s.mem := rfl
@[simp] theorem emit_free (o : Output) : (emit o s).free = s.free := rfl
@[simp] theorem emit_pending (o : Output) : (emit o s).pending = s.pending := rfl

@[simp] theorem memSet_chip (a : Nat) (b : Byte) : (memSet a b s).chip = s.chip := rfl
@[simp] theorem memSet_ctl (a : Nat) (b : Byte) : (memSet a b s).ctl = s.ctl := rfl
@[simp] theorem memSet_clk (a : Nat) (b : Byte) : (memSet a b s).clk = s.clk := rfl
@[simp] theorem memSet_srv (a : Nat) (b : Byte) : (memSet a b s).srv = s.srv := rfl
@[simp] theorem memSet_rf (a : Nat) (b : Byte) : (memSet a b s).rf = s.rf := rfl
@[simp] theorem memSet_pal (a : Nat) (b : Byte) : (memSet a b s).pal = s.pal := rfl
@[simp] theorem memSet_pri (a : Nat) (b : Byte) : (memSet a b s).pri = s.pri := rfl
@[simp] theorem memSet_nod (a : Nat) (b : Byte) : (memSet a b s).nod = s.nod := rfl
@[simp] theorem memSet_eas (a : Nat) (b : Byte) : (memSet a b s).eas = s.eas := rfl
@[simp] theorem memSet_gla (a : Nat) (b : Byte) : (memSet a b s).gla = s.gla := rfl
@[simp] theorem memSet_tre (a : Nat) (b : Byte) : (memSet a b s).tre = s.tre := rfl
@[simp] theorem memSet_rid (a : Nat) (b : Byte) : (memSet a b s).rid = s.rid := rfl
@[simp] theorem memSet_hed (a : Nat) (b : Byte) : (memSet a b s).hed = s.hed := rfl
@[simp] theorem memSet_sec (a : Nat) (b : Byte) : (memSet a b s).sec = s.sec := rfl
@[simp] theorem memSet_fw (a : Nat) (b : Byte) : (memSet a b s).fw = s.fw := rfl
@[simp] theorem memSet_shd (a : Nat) (b : Byte) : (memSet a b s).shd = s.shd := rfl
@[simp] theorem memSet_host (a : Nat) (b : Byte) : (memSet a b s).host = s.host := rfl
@[simp] theorem memSet_pwr (a : Nat) (b : Byte) : (memSet a b s).pwr = s.pwr := rfl
@[simp] theorem memSet_od (a : Nat) (b : Byte) : (memSet a b s).od = s.od := rfl
@[simp] theorem memSet_out (a : Nat) (b : Byte) : (memSet a b s).out = s.out := rfl
@[simp] theorem memSet_free (a : Nat) (b : Byte) : (memSet a b s).free = s.free := rfl
@[simp] theorem memSet_pending (a : Nat) (b : Byte) : (memSet a b s).pending = s.pending := rfl

@[simp] theorem modSession_chip (id : Nat) (f : Session → Session) : (modSession id f s).chip = s.chip := rfl
@[simp] theorem modSession_ctl (id : Nat) (f : Session → Session) : (modSession id f s).ctl = s.ctl := rfl
@[simp] theorem modSession_clk (id : Nat) (f : Session → Session) : (modSession id f s).clk = s.clk := rfl
@[simp] theorem modSession_rf (id : Nat) (f : Session → Session) : (modSession id f s).rf = s.rf := rfl
@[simp] theorem modSession_pal (id : Nat) (f : Session → Session) : (modSession id f s).pal = s.pal := rfl
@[simp] theorem modSession_pri (id : Nat) (f : Session → Session) : (modSession id f s).pri = s.pri := rfl
@[simp] theorem modSession_nod (id : Nat) (f : Session → Session) : (modSession id f s).nod = s.nod := rfl
@[simp] theorem modSession_eas (id : Nat) (f : Session → Session) : (modSession id f s).eas = s.eas := rfl
@[simp] theorem modSession_gla (id : Nat) (f : Session → Session) : (modSession id f s).gla = s.gla := rfl
@[simp] theorem modSession_tre (id : Nat) (f : Session → Session) : (modSession id f s).tre = s.tre := rfl
@[simp] theorem modSession_rid (id : Nat) (f : Session → Session) : (modSession id f s).rid = s.rid := rfl
@[simp] theorem modSession_hed (id : Nat) (f : Session → Session) : (modSession id f s).hed = s.hed := rfl
@[simp] theorem modSession_sec (id : Nat) (f : Session → Session) : (modSession id f s).sec = s.sec := rfl
@[simp] theorem modSession_fw (id : Nat) (f : Session → Session) : (modSession id f s).fw = s.fw := rfl
@[simp] theorem modSession_shd (id : Nat) (f : Session → Session) : (modSession id f s).shd = s.shd := rfl
@[simp] theorem modSession_host (id : Nat) (f : Session → Session) : (modSession id f s).host = s.host := rfl
@[simp] theorem modSession_pwr (id : Nat) (f : Session → Session) : (modSession id f s).pwr = s.pwr := rfl
@[simp] theorem modSession_od (id : Nat) (f : Session → Session) : (modSession id f s).od = s.od := rfl
@[simp] theorem modSession_mem (id : Nat) (f : Session → Session) : (modSession id f s).mem = s.mem := rfl
@[simp] theorem modSession_out (id : Nat) (f : Session → Session) : (modSession id f s).out = s.out := rfl
@[simp] theorem modSession_free (id : Nat) (f : Session → Session) : (modSession id f s).free = s.free := rfl
@[simp] theorem modSession_pending (id : Nat) (f : Session → Session) : (modSession id f s).pending = s.pending := rfl

@[simp] theorem modTxn_chip (id : Nat) (f : Txn → Txn) : (modTxn id f s).chip = s.chip := rfl
@[simp] theorem modTxn_ctl (id : Nat) (f : Txn → Txn) : (modTxn id f s).ctl = s.ctl := rfl
@[simp] theorem modTxn_clk (id : Nat) (f : Txn → Txn) : (modTxn id f s).clk = s.clk := rfl
@[simp] theorem modTxn_rf (id : Nat) (f : Txn → Txn) : (modTxn id f s).rf = s.rf := rfl
@[simp] theorem modTxn_pal (id : Nat) (f : Txn → Txn) : (modTxn id f s).pal = s.pal := rfl
@[simp] theorem modTxn_pri (id : Nat) (f : Txn → Txn) : (modTxn id f s).pri = s.pri := rfl
@[simp] theorem modTxn_nod (id : Nat) (f : Txn → Txn) : (modTxn id f s).nod = s.nod := rfl
@[simp] theorem modTxn_eas (id : Nat) (f : Txn → Txn) : (modTxn id f s).eas = s.eas := rfl
@[simp] theorem modTxn_gla (id : Nat) (f : Txn → Txn) : (modTxn id f s).gla = s.gla := rfl
@[simp] theorem modTxn_tre (id : Nat) (f : Txn → Txn) : (modTxn id f s).tre = s.tre := rfl
@[simp] theorem modTxn_rid (id : Nat) (f : Txn → Txn) : (modTxn id f s).rid = s.rid := rfl
@[simp] theorem modTxn_hed (id : Nat) (f : Txn → Txn) : (modTxn id f s).hed = s.hed := rfl
@[simp] theorem modTxn_sec (id : Nat) (f : Txn → Txn) : (modTxn id f s).sec = s.sec := rfl
@[simp] theorem modTxn_fw (id : Nat) (f : Txn → Txn) : (modTxn id f s).fw = s.fw := rfl
@[simp] theorem modTxn_shd (id : Nat) (f : Txn → Txn) : (modTxn id f s).shd = s.shd := rfl
@[simp] theorem modTxn_host (id : Nat) (f : Txn → Txn) : (modTxn id f s).host = s.host := rfl
@[simp] theorem modTxn_pwr (id : Nat) (f : Txn → Txn) : (modTxn id f s).pwr = s.pwr := rfl
@[simp] theorem modTxn_od (id : Nat) (f : Txn → Txn) : (modTxn id f s).od = s.od := rfl
@[simp] theorem modTxn_mem (id : Nat) (f : Txn → Txn) : (modTxn id f s).mem = s.mem := rfl
@[simp] theorem modTxn_out (id : Nat) (f : Txn → Txn) : (modTxn id f s).out = s.out := rfl
@[simp] theorem modTxn_free (id : Nat) (f : Txn → Txn) : (modTxn id f s).free = s.free := rfl
@[simp] theorem modTxn_pending (id : Nat) (f : Txn → Txn) : (modTxn id f s).pending = s.pending := rfl

@[simp] theorem modBlock_chip (session id : Nat) (f : Block → Block) : (modBlock session id f s).chip = s.chip := rfl
@[simp] theorem modBlock_ctl (session id : Nat) (f : Block → Block) : (modBlock session id f s).ctl = s.ctl := rfl
@[simp] theorem modBlock_clk (session id : Nat) (f : Block → Block) : (modBlock session id f s).clk = s.clk := rfl
@[simp] theorem modBlock_rf (session id : Nat) (f : Block → Block) : (modBlock session id f s).rf = s.rf := rfl
@[simp] theorem modBlock_pal (session id : Nat) (f : Block → Block) : (modBlock session id f s).pal = s.pal := rfl
@[simp] theorem modBlock_pri (session id : Nat) (f : Block → Block) : (modBlock session id f s).pri = s.pri := rfl
@[simp] theorem modBlock_nod (session id : Nat) (f : Block → Block) : (modBlock session id f s).nod = s.nod := rfl
@[simp] theorem modBlock_eas (session id : Nat) (f : Block → Block) : (modBlock session id f s).eas = s.eas := rfl
@[simp] theorem modBlock_gla (session id : Nat) (f : Block → Block) : (modBlock session id f s).gla = s.gla := rfl
@[simp] theorem modBlock_tre (session id : Nat) (f : Block → Block) : (modBlock session id f s).tre = s.tre := rfl
@[simp] theorem modBlock_rid (session id : Nat) (f : Block → Block) : (modBlock session id f s).rid = s.rid := rfl
@[simp] theorem modBlock_hed (session id : Nat) (f : Block → Block) : (modBlock session id f s).hed = s.hed := rfl
@[simp] theorem modBlock_sec (session id : Nat) (f : Block → Block) : (modBlock session id f s).sec = s.sec := rfl
@[simp] theorem modBlock_fw (session id : Nat) (f : Block → Block) : (modBlock session id f s).fw = s.fw := rfl
@[simp] theorem modBlock_shd (session id : Nat) (f : Block → Block) : (modBlock session id f s).shd = s.shd := rfl
@[simp] theorem modBlock_host (session id : Nat) (f : Block → Block) : (modBlock session id f s).host = s.host := rfl
@[simp] theorem modBlock_pwr (session id : Nat) (f : Block → Block) : (modBlock session id f s).pwr = s.pwr := rfl
@[simp] theorem modBlock_od (session id : Nat) (f : Block → Block) : (modBlock session id f s).od = s.od := rfl
@[simp] theorem modBlock_mem (session id : Nat) (f : Block → Block) : (modBlock session id f s).mem = s.mem := rfl
@[simp] theorem modBlock_out (session id : Nat) (f : Block → Block) : (modBlock session id f s).out = s.out := rfl
@[simp] theorem modBlock_free (session id : Nat) (f : Block → Block) : (modBlock session id f s).free = s.free := rfl
@[simp] theorem modBlock_pending (session id : Nat) (f : Block → Block) : (modBlock session id f s).pending = s.pending := rfl

@[simp] theorem modSub_chip (id : Nat) (f : Sub → Sub) : (modSub id f s).chip = s.chip := rfl
@[simp] theorem modSub_ctl (id : Nat) (f : Sub → Sub) : (modSub id f s).ctl = s.ctl := rfl
@[simp] theorem modSub_clk (id : Nat) (f : Sub → Sub) : (modSub id f s).clk = s.clk := rfl
@[simp] theorem modSub_rf (id : Nat) (f : Sub → Sub) : (modSub id f s).rf = s.rf := rfl
@[simp] theorem modSub_pal (id : Nat) (f : Sub → Sub) : (modSub id f s).pal = s.pal := rfl
@[simp] theorem modSub_pri (id : Nat) (f : Sub → Sub) : (modSub id f s).pri = s.pri := rfl
@[simp] theorem modSub_nod (id : Nat) (f : Sub → Sub) : (modSub id f s).nod = s.nod := rfl
@[simp] theorem modSub_eas (id : Nat) (f : Sub → Sub) : (modSub id f s).eas = s.eas := rfl
@[simp] theorem modSub_gla (id : Nat) (f : Sub → Sub) : (modSub id f s).gla = s.gla := rfl
@[simp] theorem modSub_tre (id : Nat) (f : Sub → Sub) : (modSub id f s).tre = s.tre := rfl
@[simp] theorem modSub_rid (id : Nat) (f : Sub → Sub) : (modSub id f s).rid = s.rid := rfl
@[simp] theorem modSub_hed (id : Nat) (f : Sub → Sub) : (modSub id f s).hed = s.hed := rfl
@[simp] theorem modSub_sec (id : Nat) (f : Sub → Sub) : (modSub id f s).sec = s.sec := rfl
@[simp] theorem modSub_fw (id : Nat) (f : Sub → Sub) : (modSub id f s).fw = s.fw := rfl
@[simp] theorem modSub_shd (id : Nat) (f : Sub → Sub) : (modSub id f s).shd = s.shd := rfl
@[simp] theorem modSub_host (id : Nat) (f : Sub → Sub) : (modSub id f s).host = s.host := rfl
@[simp] theorem modSub_pwr (id : Nat) (f : Sub → Sub) : (modSub id f s).pwr = s.pwr := rfl
@[simp] theorem modSub_od (id : Nat) (f : Sub → Sub) : (modSub id f s).od = s.od := rfl
@[simp] theorem modSub_mem (id : Nat) (f : Sub → Sub) : (modSub id f s).mem = s.mem := rfl
@[simp] theorem modSub_out (id : Nat) (f : Sub → Sub) : (modSub id f s).out = s.out := rfl
@[simp] theorem modSub_free (id : Nat) (f : Sub → Sub) : (modSub id f s).free = s.free := rfl
@[simp] theorem modSub_pending (id : Nat) (f : Sub → Sub) : (modSub id f s).pending = s.pending := rfl

@[simp] theorem modPort_chip (port : Nat) (f : PtpPort → PtpPort) : (modPort port f s).chip = s.chip := rfl
@[simp] theorem modPort_ctl (port : Nat) (f : PtpPort → PtpPort) : (modPort port f s).ctl = s.ctl := rfl
@[simp] theorem modPort_srv (port : Nat) (f : PtpPort → PtpPort) : (modPort port f s).srv = s.srv := rfl
@[simp] theorem modPort_rf (port : Nat) (f : PtpPort → PtpPort) : (modPort port f s).rf = s.rf := rfl
@[simp] theorem modPort_pal (port : Nat) (f : PtpPort → PtpPort) : (modPort port f s).pal = s.pal := rfl
@[simp] theorem modPort_pri (port : Nat) (f : PtpPort → PtpPort) : (modPort port f s).pri = s.pri := rfl
@[simp] theorem modPort_nod (port : Nat) (f : PtpPort → PtpPort) : (modPort port f s).nod = s.nod := rfl
@[simp] theorem modPort_eas (port : Nat) (f : PtpPort → PtpPort) : (modPort port f s).eas = s.eas := rfl
@[simp] theorem modPort_gla (port : Nat) (f : PtpPort → PtpPort) : (modPort port f s).gla = s.gla := rfl
@[simp] theorem modPort_tre (port : Nat) (f : PtpPort → PtpPort) : (modPort port f s).tre = s.tre := rfl
@[simp] theorem modPort_rid (port : Nat) (f : PtpPort → PtpPort) : (modPort port f s).rid = s.rid := rfl
@[simp] theorem modPort_hed (port : Nat) (f : PtpPort → PtpPort) : (modPort port f s).hed = s.hed := rfl
@[simp] theorem modPort_sec (port : Nat) (f : PtpPort → PtpPort) : (modPort port f s).sec = s.sec := rfl
@[simp] theorem modPort_fw (port : Nat) (f : PtpPort → PtpPort) : (modPort port f s).fw = s.fw := rfl
@[simp] theorem modPort_shd (port : Nat) (f : PtpPort → PtpPort) : (modPort port f s).shd = s.shd := rfl
@[simp] theorem modPort_host (port : Nat) (f : PtpPort → PtpPort) : (modPort port f s).host = s.host := rfl
@[simp] theorem modPort_pwr (port : Nat) (f : PtpPort → PtpPort) : (modPort port f s).pwr = s.pwr := rfl
@[simp] theorem modPort_od (port : Nat) (f : PtpPort → PtpPort) : (modPort port f s).od = s.od := rfl
@[simp] theorem modPort_mem (port : Nat) (f : PtpPort → PtpPort) : (modPort port f s).mem = s.mem := rfl
@[simp] theorem modPort_out (port : Nat) (f : PtpPort → PtpPort) : (modPort port f s).out = s.out := rfl
@[simp] theorem modPort_free (port : Nat) (f : PtpPort → PtpPort) : (modPort port f s).free = s.free := rfl
@[simp] theorem modPort_pending (port : Nat) (f : PtpPort → PtpPort) : (modPort port f s).pending = s.pending := rfl

@[simp] theorem modSynth_chip (y : Nat) (f : Synth → Synth) : (modSynth y f s).chip = s.chip := rfl
@[simp] theorem modSynth_ctl (y : Nat) (f : Synth → Synth) : (modSynth y f s).ctl = s.ctl := rfl
@[simp] theorem modSynth_clk (y : Nat) (f : Synth → Synth) : (modSynth y f s).clk = s.clk := rfl
@[simp] theorem modSynth_srv (y : Nat) (f : Synth → Synth) : (modSynth y f s).srv = s.srv := rfl
@[simp] theorem modSynth_pal (y : Nat) (f : Synth → Synth) : (modSynth y f s).pal = s.pal := rfl
@[simp] theorem modSynth_pri (y : Nat) (f : Synth → Synth) : (modSynth y f s).pri = s.pri := rfl
@[simp] theorem modSynth_nod (y : Nat) (f : Synth → Synth) : (modSynth y f s).nod = s.nod := rfl
@[simp] theorem modSynth_eas (y : Nat) (f : Synth → Synth) : (modSynth y f s).eas = s.eas := rfl
@[simp] theorem modSynth_gla (y : Nat) (f : Synth → Synth) : (modSynth y f s).gla = s.gla := rfl
@[simp] theorem modSynth_tre (y : Nat) (f : Synth → Synth) : (modSynth y f s).tre = s.tre := rfl
@[simp] theorem modSynth_rid (y : Nat) (f : Synth → Synth) : (modSynth y f s).rid = s.rid := rfl
@[simp] theorem modSynth_hed (y : Nat) (f : Synth → Synth) : (modSynth y f s).hed = s.hed := rfl
@[simp] theorem modSynth_sec (y : Nat) (f : Synth → Synth) : (modSynth y f s).sec = s.sec := rfl
@[simp] theorem modSynth_fw (y : Nat) (f : Synth → Synth) : (modSynth y f s).fw = s.fw := rfl
@[simp] theorem modSynth_shd (y : Nat) (f : Synth → Synth) : (modSynth y f s).shd = s.shd := rfl
@[simp] theorem modSynth_host (y : Nat) (f : Synth → Synth) : (modSynth y f s).host = s.host := rfl
@[simp] theorem modSynth_pwr (y : Nat) (f : Synth → Synth) : (modSynth y f s).pwr = s.pwr := rfl
@[simp] theorem modSynth_od (y : Nat) (f : Synth → Synth) : (modSynth y f s).od = s.od := rfl
@[simp] theorem modSynth_mem (y : Nat) (f : Synth → Synth) : (modSynth y f s).mem = s.mem := rfl
@[simp] theorem modSynth_out (y : Nat) (f : Synth → Synth) : (modSynth y f s).out = s.out := rfl
@[simp] theorem modSynth_free (y : Nat) (f : Synth → Synth) : (modSynth y f s).free = s.free := rfl
@[simp] theorem modSynth_pending (y : Nat) (f : Synth → Synth) : (modSynth y f s).pending = s.pending := rfl

@[simp] theorem modFe_chip (band : Nat) (f : FrontEnd → FrontEnd) : (modFe band f s).chip = s.chip := rfl
@[simp] theorem modFe_ctl (band : Nat) (f : FrontEnd → FrontEnd) : (modFe band f s).ctl = s.ctl := rfl
@[simp] theorem modFe_clk (band : Nat) (f : FrontEnd → FrontEnd) : (modFe band f s).clk = s.clk := rfl
@[simp] theorem modFe_srv (band : Nat) (f : FrontEnd → FrontEnd) : (modFe band f s).srv = s.srv := rfl
@[simp] theorem modFe_pal (band : Nat) (f : FrontEnd → FrontEnd) : (modFe band f s).pal = s.pal := rfl
@[simp] theorem modFe_pri (band : Nat) (f : FrontEnd → FrontEnd) : (modFe band f s).pri = s.pri := rfl
@[simp] theorem modFe_nod (band : Nat) (f : FrontEnd → FrontEnd) : (modFe band f s).nod = s.nod := rfl
@[simp] theorem modFe_eas (band : Nat) (f : FrontEnd → FrontEnd) : (modFe band f s).eas = s.eas := rfl
@[simp] theorem modFe_gla (band : Nat) (f : FrontEnd → FrontEnd) : (modFe band f s).gla = s.gla := rfl
@[simp] theorem modFe_tre (band : Nat) (f : FrontEnd → FrontEnd) : (modFe band f s).tre = s.tre := rfl
@[simp] theorem modFe_rid (band : Nat) (f : FrontEnd → FrontEnd) : (modFe band f s).rid = s.rid := rfl
@[simp] theorem modFe_hed (band : Nat) (f : FrontEnd → FrontEnd) : (modFe band f s).hed = s.hed := rfl
@[simp] theorem modFe_sec (band : Nat) (f : FrontEnd → FrontEnd) : (modFe band f s).sec = s.sec := rfl
@[simp] theorem modFe_fw (band : Nat) (f : FrontEnd → FrontEnd) : (modFe band f s).fw = s.fw := rfl
@[simp] theorem modFe_shd (band : Nat) (f : FrontEnd → FrontEnd) : (modFe band f s).shd = s.shd := rfl
@[simp] theorem modFe_host (band : Nat) (f : FrontEnd → FrontEnd) : (modFe band f s).host = s.host := rfl
@[simp] theorem modFe_pwr (band : Nat) (f : FrontEnd → FrontEnd) : (modFe band f s).pwr = s.pwr := rfl
@[simp] theorem modFe_od (band : Nat) (f : FrontEnd → FrontEnd) : (modFe band f s).od = s.od := rfl
@[simp] theorem modFe_mem (band : Nat) (f : FrontEnd → FrontEnd) : (modFe band f s).mem = s.mem := rfl
@[simp] theorem modFe_out (band : Nat) (f : FrontEnd → FrontEnd) : (modFe band f s).out = s.out := rfl
@[simp] theorem modFe_free (band : Nat) (f : FrontEnd → FrontEnd) : (modFe band f s).free = s.free := rfl
@[simp] theorem modFe_pending (band : Nat) (f : FrontEnd → FrontEnd) : (modFe band f s).pending = s.pending := rfl

@[simp] theorem setItem_chip (i : CalItem) : (setItem i s).chip = s.chip := rfl
@[simp] theorem setItem_ctl (i : CalItem) : (setItem i s).ctl = s.ctl := rfl
@[simp] theorem setItem_clk (i : CalItem) : (setItem i s).clk = s.clk := rfl
@[simp] theorem setItem_srv (i : CalItem) : (setItem i s).srv = s.srv := rfl
@[simp] theorem setItem_pal (i : CalItem) : (setItem i s).pal = s.pal := rfl
@[simp] theorem setItem_pri (i : CalItem) : (setItem i s).pri = s.pri := rfl
@[simp] theorem setItem_nod (i : CalItem) : (setItem i s).nod = s.nod := rfl
@[simp] theorem setItem_eas (i : CalItem) : (setItem i s).eas = s.eas := rfl
@[simp] theorem setItem_gla (i : CalItem) : (setItem i s).gla = s.gla := rfl
@[simp] theorem setItem_tre (i : CalItem) : (setItem i s).tre = s.tre := rfl
@[simp] theorem setItem_rid (i : CalItem) : (setItem i s).rid = s.rid := rfl
@[simp] theorem setItem_hed (i : CalItem) : (setItem i s).hed = s.hed := rfl
@[simp] theorem setItem_sec (i : CalItem) : (setItem i s).sec = s.sec := rfl
@[simp] theorem setItem_fw (i : CalItem) : (setItem i s).fw = s.fw := rfl
@[simp] theorem setItem_shd (i : CalItem) : (setItem i s).shd = s.shd := rfl
@[simp] theorem setItem_host (i : CalItem) : (setItem i s).host = s.host := rfl
@[simp] theorem setItem_pwr (i : CalItem) : (setItem i s).pwr = s.pwr := rfl
@[simp] theorem setItem_od (i : CalItem) : (setItem i s).od = s.od := rfl
@[simp] theorem setItem_mem (i : CalItem) : (setItem i s).mem = s.mem := rfl
@[simp] theorem setItem_out (i : CalItem) : (setItem i s).out = s.out := rfl
@[simp] theorem setItem_free (i : CalItem) : (setItem i s).free = s.free := rfl
@[simp] theorem setItem_pending (i : CalItem) : (setItem i s).pending = s.pending := rfl

@[simp] theorem modEngine_chip (i : Nat) (f : Engine → Engine) : (modEngine i f s).chip = s.chip := rfl
@[simp] theorem modEngine_ctl (i : Nat) (f : Engine → Engine) : (modEngine i f s).ctl = s.ctl := rfl
@[simp] theorem modEngine_clk (i : Nat) (f : Engine → Engine) : (modEngine i f s).clk = s.clk := rfl
@[simp] theorem modEngine_srv (i : Nat) (f : Engine → Engine) : (modEngine i f s).srv = s.srv := rfl
@[simp] theorem modEngine_rf (i : Nat) (f : Engine → Engine) : (modEngine i f s).rf = s.rf := rfl
@[simp] theorem modEngine_pri (i : Nat) (f : Engine → Engine) : (modEngine i f s).pri = s.pri := rfl
@[simp] theorem modEngine_nod (i : Nat) (f : Engine → Engine) : (modEngine i f s).nod = s.nod := rfl
@[simp] theorem modEngine_eas (i : Nat) (f : Engine → Engine) : (modEngine i f s).eas = s.eas := rfl
@[simp] theorem modEngine_gla (i : Nat) (f : Engine → Engine) : (modEngine i f s).gla = s.gla := rfl
@[simp] theorem modEngine_tre (i : Nat) (f : Engine → Engine) : (modEngine i f s).tre = s.tre := rfl
@[simp] theorem modEngine_rid (i : Nat) (f : Engine → Engine) : (modEngine i f s).rid = s.rid := rfl
@[simp] theorem modEngine_hed (i : Nat) (f : Engine → Engine) : (modEngine i f s).hed = s.hed := rfl
@[simp] theorem modEngine_sec (i : Nat) (f : Engine → Engine) : (modEngine i f s).sec = s.sec := rfl
@[simp] theorem modEngine_fw (i : Nat) (f : Engine → Engine) : (modEngine i f s).fw = s.fw := rfl
@[simp] theorem modEngine_shd (i : Nat) (f : Engine → Engine) : (modEngine i f s).shd = s.shd := rfl
@[simp] theorem modEngine_host (i : Nat) (f : Engine → Engine) : (modEngine i f s).host = s.host := rfl
@[simp] theorem modEngine_pwr (i : Nat) (f : Engine → Engine) : (modEngine i f s).pwr = s.pwr := rfl
@[simp] theorem modEngine_od (i : Nat) (f : Engine → Engine) : (modEngine i f s).od = s.od := rfl
@[simp] theorem modEngine_mem (i : Nat) (f : Engine → Engine) : (modEngine i f s).mem = s.mem := rfl
@[simp] theorem modEngine_out (i : Nat) (f : Engine → Engine) : (modEngine i f s).out = s.out := rfl
@[simp] theorem modEngine_free (i : Nat) (f : Engine → Engine) : (modEngine i f s).free = s.free := rfl
@[simp] theorem modEngine_pending (i : Nat) (f : Engine → Engine) : (modEngine i f s).pending = s.pending := rfl

@[simp] theorem modCarrier_chip (idx : Nat) (f : Carrier → Carrier) : (modCarrier idx f s).chip = s.chip := rfl
@[simp] theorem modCarrier_ctl (idx : Nat) (f : Carrier → Carrier) : (modCarrier idx f s).ctl = s.ctl := rfl
@[simp] theorem modCarrier_clk (idx : Nat) (f : Carrier → Carrier) : (modCarrier idx f s).clk = s.clk := rfl
@[simp] theorem modCarrier_srv (idx : Nat) (f : Carrier → Carrier) : (modCarrier idx f s).srv = s.srv := rfl
@[simp] theorem modCarrier_rf (idx : Nat) (f : Carrier → Carrier) : (modCarrier idx f s).rf = s.rf := rfl
@[simp] theorem modCarrier_pal (idx : Nat) (f : Carrier → Carrier) : (modCarrier idx f s).pal = s.pal := rfl
@[simp] theorem modCarrier_pri (idx : Nat) (f : Carrier → Carrier) : (modCarrier idx f s).pri = s.pri := rfl
@[simp] theorem modCarrier_nod (idx : Nat) (f : Carrier → Carrier) : (modCarrier idx f s).nod = s.nod := rfl
@[simp] theorem modCarrier_gla (idx : Nat) (f : Carrier → Carrier) : (modCarrier idx f s).gla = s.gla := rfl
@[simp] theorem modCarrier_tre (idx : Nat) (f : Carrier → Carrier) : (modCarrier idx f s).tre = s.tre := rfl
@[simp] theorem modCarrier_rid (idx : Nat) (f : Carrier → Carrier) : (modCarrier idx f s).rid = s.rid := rfl
@[simp] theorem modCarrier_hed (idx : Nat) (f : Carrier → Carrier) : (modCarrier idx f s).hed = s.hed := rfl
@[simp] theorem modCarrier_sec (idx : Nat) (f : Carrier → Carrier) : (modCarrier idx f s).sec = s.sec := rfl
@[simp] theorem modCarrier_fw (idx : Nat) (f : Carrier → Carrier) : (modCarrier idx f s).fw = s.fw := rfl
@[simp] theorem modCarrier_shd (idx : Nat) (f : Carrier → Carrier) : (modCarrier idx f s).shd = s.shd := rfl
@[simp] theorem modCarrier_host (idx : Nat) (f : Carrier → Carrier) : (modCarrier idx f s).host = s.host := rfl
@[simp] theorem modCarrier_pwr (idx : Nat) (f : Carrier → Carrier) : (modCarrier idx f s).pwr = s.pwr := rfl
@[simp] theorem modCarrier_od (idx : Nat) (f : Carrier → Carrier) : (modCarrier idx f s).od = s.od := rfl
@[simp] theorem modCarrier_mem (idx : Nat) (f : Carrier → Carrier) : (modCarrier idx f s).mem = s.mem := rfl
@[simp] theorem modCarrier_out (idx : Nat) (f : Carrier → Carrier) : (modCarrier idx f s).out = s.out := rfl
@[simp] theorem modCarrier_free (idx : Nat) (f : Carrier → Carrier) : (modCarrier idx f s).free = s.free := rfl
@[simp] theorem modCarrier_pending (idx : Nat) (f : Carrier → Carrier) : (modCarrier idx f s).pending = s.pending := rfl

@[simp] theorem modDpd_chip (k : Nat) (f : DpdSet → DpdSet) : (modDpd k f s).chip = s.chip := rfl
@[simp] theorem modDpd_ctl (k : Nat) (f : DpdSet → DpdSet) : (modDpd k f s).ctl = s.ctl := rfl
@[simp] theorem modDpd_clk (k : Nat) (f : DpdSet → DpdSet) : (modDpd k f s).clk = s.clk := rfl
@[simp] theorem modDpd_srv (k : Nat) (f : DpdSet → DpdSet) : (modDpd k f s).srv = s.srv := rfl
@[simp] theorem modDpd_rf (k : Nat) (f : DpdSet → DpdSet) : (modDpd k f s).rf = s.rf := rfl
@[simp] theorem modDpd_pal (k : Nat) (f : DpdSet → DpdSet) : (modDpd k f s).pal = s.pal := rfl
@[simp] theorem modDpd_nod (k : Nat) (f : DpdSet → DpdSet) : (modDpd k f s).nod = s.nod := rfl
@[simp] theorem modDpd_eas (k : Nat) (f : DpdSet → DpdSet) : (modDpd k f s).eas = s.eas := rfl
@[simp] theorem modDpd_gla (k : Nat) (f : DpdSet → DpdSet) : (modDpd k f s).gla = s.gla := rfl
@[simp] theorem modDpd_tre (k : Nat) (f : DpdSet → DpdSet) : (modDpd k f s).tre = s.tre := rfl
@[simp] theorem modDpd_rid (k : Nat) (f : DpdSet → DpdSet) : (modDpd k f s).rid = s.rid := rfl
@[simp] theorem modDpd_hed (k : Nat) (f : DpdSet → DpdSet) : (modDpd k f s).hed = s.hed := rfl
@[simp] theorem modDpd_sec (k : Nat) (f : DpdSet → DpdSet) : (modDpd k f s).sec = s.sec := rfl
@[simp] theorem modDpd_fw (k : Nat) (f : DpdSet → DpdSet) : (modDpd k f s).fw = s.fw := rfl
@[simp] theorem modDpd_shd (k : Nat) (f : DpdSet → DpdSet) : (modDpd k f s).shd = s.shd := rfl
@[simp] theorem modDpd_host (k : Nat) (f : DpdSet → DpdSet) : (modDpd k f s).host = s.host := rfl
@[simp] theorem modDpd_pwr (k : Nat) (f : DpdSet → DpdSet) : (modDpd k f s).pwr = s.pwr := rfl
@[simp] theorem modDpd_od (k : Nat) (f : DpdSet → DpdSet) : (modDpd k f s).od = s.od := rfl
@[simp] theorem modDpd_mem (k : Nat) (f : DpdSet → DpdSet) : (modDpd k f s).mem = s.mem := rfl
@[simp] theorem modDpd_out (k : Nat) (f : DpdSet → DpdSet) : (modDpd k f s).out = s.out := rfl
@[simp] theorem modDpd_free (k : Nat) (f : DpdSet → DpdSet) : (modDpd k f s).free = s.free := rfl
@[simp] theorem modDpd_pending (k : Nat) (f : DpdSet → DpdSet) : (modDpd k f s).pending = s.pending := rfl

@[simp] theorem setNode_chip (n : Nat) (r : NodeRec) : (setNode n r s).chip = s.chip := rfl
@[simp] theorem setNode_ctl (n : Nat) (r : NodeRec) : (setNode n r s).ctl = s.ctl := rfl
@[simp] theorem setNode_clk (n : Nat) (r : NodeRec) : (setNode n r s).clk = s.clk := rfl
@[simp] theorem setNode_srv (n : Nat) (r : NodeRec) : (setNode n r s).srv = s.srv := rfl
@[simp] theorem setNode_rf (n : Nat) (r : NodeRec) : (setNode n r s).rf = s.rf := rfl
@[simp] theorem setNode_pal (n : Nat) (r : NodeRec) : (setNode n r s).pal = s.pal := rfl
@[simp] theorem setNode_pri (n : Nat) (r : NodeRec) : (setNode n r s).pri = s.pri := rfl
@[simp] theorem setNode_eas (n : Nat) (r : NodeRec) : (setNode n r s).eas = s.eas := rfl
@[simp] theorem setNode_gla (n : Nat) (r : NodeRec) : (setNode n r s).gla = s.gla := rfl
@[simp] theorem setNode_tre (n : Nat) (r : NodeRec) : (setNode n r s).tre = s.tre := rfl
@[simp] theorem setNode_rid (n : Nat) (r : NodeRec) : (setNode n r s).rid = s.rid := rfl
@[simp] theorem setNode_hed (n : Nat) (r : NodeRec) : (setNode n r s).hed = s.hed := rfl
@[simp] theorem setNode_sec (n : Nat) (r : NodeRec) : (setNode n r s).sec = s.sec := rfl
@[simp] theorem setNode_fw (n : Nat) (r : NodeRec) : (setNode n r s).fw = s.fw := rfl
@[simp] theorem setNode_shd (n : Nat) (r : NodeRec) : (setNode n r s).shd = s.shd := rfl
@[simp] theorem setNode_host (n : Nat) (r : NodeRec) : (setNode n r s).host = s.host := rfl
@[simp] theorem setNode_pwr (n : Nat) (r : NodeRec) : (setNode n r s).pwr = s.pwr := rfl
@[simp] theorem setNode_od (n : Nat) (r : NodeRec) : (setNode n r s).od = s.od := rfl
@[simp] theorem setNode_mem (n : Nat) (r : NodeRec) : (setNode n r s).mem = s.mem := rfl
@[simp] theorem setNode_out (n : Nat) (r : NodeRec) : (setNode n r s).out = s.out := rfl
@[simp] theorem setNode_free (n : Nat) (r : NodeRec) : (setNode n r s).free = s.free := rfl
@[simp] theorem setNode_pending (n : Nat) (r : NodeRec) : (setNode n r s).pending = s.pending := rfl

@[simp] theorem setTokens_chip (n v t : Nat) : (setTokens n v t s).chip = s.chip := rfl
@[simp] theorem setTokens_ctl (n v t : Nat) : (setTokens n v t s).ctl = s.ctl := rfl
@[simp] theorem setTokens_clk (n v t : Nat) : (setTokens n v t s).clk = s.clk := rfl
@[simp] theorem setTokens_srv (n v t : Nat) : (setTokens n v t s).srv = s.srv := rfl
@[simp] theorem setTokens_rf (n v t : Nat) : (setTokens n v t s).rf = s.rf := rfl
@[simp] theorem setTokens_pal (n v t : Nat) : (setTokens n v t s).pal = s.pal := rfl
@[simp] theorem setTokens_pri (n v t : Nat) : (setTokens n v t s).pri = s.pri := rfl
@[simp] theorem setTokens_nod (n v t : Nat) : (setTokens n v t s).nod = s.nod := rfl
@[simp] theorem setTokens_eas (n v t : Nat) : (setTokens n v t s).eas = s.eas := rfl
@[simp] theorem setTokens_gla (n v t : Nat) : (setTokens n v t s).gla = s.gla := rfl
@[simp] theorem setTokens_tre (n v t : Nat) : (setTokens n v t s).tre = s.tre := rfl
@[simp] theorem setTokens_hed (n v t : Nat) : (setTokens n v t s).hed = s.hed := rfl
@[simp] theorem setTokens_sec (n v t : Nat) : (setTokens n v t s).sec = s.sec := rfl
@[simp] theorem setTokens_fw (n v t : Nat) : (setTokens n v t s).fw = s.fw := rfl
@[simp] theorem setTokens_shd (n v t : Nat) : (setTokens n v t s).shd = s.shd := rfl
@[simp] theorem setTokens_host (n v t : Nat) : (setTokens n v t s).host = s.host := rfl
@[simp] theorem setTokens_pwr (n v t : Nat) : (setTokens n v t s).pwr = s.pwr := rfl
@[simp] theorem setTokens_od (n v t : Nat) : (setTokens n v t s).od = s.od := rfl
@[simp] theorem setTokens_mem (n v t : Nat) : (setTokens n v t s).mem = s.mem := rfl
@[simp] theorem setTokens_out (n v t : Nat) : (setTokens n v t s).out = s.out := rfl
@[simp] theorem setTokens_free (n v t : Nat) : (setTokens n v t s).free = s.free := rfl
@[simp] theorem setTokens_pending (n v t : Nat) : (setTokens n v t s).pending = s.pending := rfl

@[simp] theorem setDlQueue_chip (n : Nat) (q : List DlFrame) : (setDlQueue n q s).chip = s.chip := rfl
@[simp] theorem setDlQueue_ctl (n : Nat) (q : List DlFrame) : (setDlQueue n q s).ctl = s.ctl := rfl
@[simp] theorem setDlQueue_clk (n : Nat) (q : List DlFrame) : (setDlQueue n q s).clk = s.clk := rfl
@[simp] theorem setDlQueue_srv (n : Nat) (q : List DlFrame) : (setDlQueue n q s).srv = s.srv := rfl
@[simp] theorem setDlQueue_rf (n : Nat) (q : List DlFrame) : (setDlQueue n q s).rf = s.rf := rfl
@[simp] theorem setDlQueue_pal (n : Nat) (q : List DlFrame) : (setDlQueue n q s).pal = s.pal := rfl
@[simp] theorem setDlQueue_pri (n : Nat) (q : List DlFrame) : (setDlQueue n q s).pri = s.pri := rfl
@[simp] theorem setDlQueue_nod (n : Nat) (q : List DlFrame) : (setDlQueue n q s).nod = s.nod := rfl
@[simp] theorem setDlQueue_eas (n : Nat) (q : List DlFrame) : (setDlQueue n q s).eas = s.eas := rfl
@[simp] theorem setDlQueue_gla (n : Nat) (q : List DlFrame) : (setDlQueue n q s).gla = s.gla := rfl
@[simp] theorem setDlQueue_tre (n : Nat) (q : List DlFrame) : (setDlQueue n q s).tre = s.tre := rfl
@[simp] theorem setDlQueue_hed (n : Nat) (q : List DlFrame) : (setDlQueue n q s).hed = s.hed := rfl
@[simp] theorem setDlQueue_sec (n : Nat) (q : List DlFrame) : (setDlQueue n q s).sec = s.sec := rfl
@[simp] theorem setDlQueue_fw (n : Nat) (q : List DlFrame) : (setDlQueue n q s).fw = s.fw := rfl
@[simp] theorem setDlQueue_shd (n : Nat) (q : List DlFrame) : (setDlQueue n q s).shd = s.shd := rfl
@[simp] theorem setDlQueue_host (n : Nat) (q : List DlFrame) : (setDlQueue n q s).host = s.host := rfl
@[simp] theorem setDlQueue_pwr (n : Nat) (q : List DlFrame) : (setDlQueue n q s).pwr = s.pwr := rfl
@[simp] theorem setDlQueue_od (n : Nat) (q : List DlFrame) : (setDlQueue n q s).od = s.od := rfl
@[simp] theorem setDlQueue_mem (n : Nat) (q : List DlFrame) : (setDlQueue n q s).mem = s.mem := rfl
@[simp] theorem setDlQueue_out (n : Nat) (q : List DlFrame) : (setDlQueue n q s).out = s.out := rfl
@[simp] theorem setDlQueue_free (n : Nat) (q : List DlFrame) : (setDlQueue n q s).free = s.free := rfl
@[simp] theorem setDlQueue_pending (n : Nat) (q : List DlFrame) : (setDlQueue n q s).pending = s.pending := rfl

@[simp] theorem modEgPort_chip (port : Nat) (f : EgPort → EgPort) : (modEgPort port f s).chip = s.chip := rfl
@[simp] theorem modEgPort_ctl (port : Nat) (f : EgPort → EgPort) : (modEgPort port f s).ctl = s.ctl := rfl
@[simp] theorem modEgPort_clk (port : Nat) (f : EgPort → EgPort) : (modEgPort port f s).clk = s.clk := rfl
@[simp] theorem modEgPort_srv (port : Nat) (f : EgPort → EgPort) : (modEgPort port f s).srv = s.srv := rfl
@[simp] theorem modEgPort_rf (port : Nat) (f : EgPort → EgPort) : (modEgPort port f s).rf = s.rf := rfl
@[simp] theorem modEgPort_pal (port : Nat) (f : EgPort → EgPort) : (modEgPort port f s).pal = s.pal := rfl
@[simp] theorem modEgPort_pri (port : Nat) (f : EgPort → EgPort) : (modEgPort port f s).pri = s.pri := rfl
@[simp] theorem modEgPort_nod (port : Nat) (f : EgPort → EgPort) : (modEgPort port f s).nod = s.nod := rfl
@[simp] theorem modEgPort_eas (port : Nat) (f : EgPort → EgPort) : (modEgPort port f s).eas = s.eas := rfl
@[simp] theorem modEgPort_gla (port : Nat) (f : EgPort → EgPort) : (modEgPort port f s).gla = s.gla := rfl
@[simp] theorem modEgPort_tre (port : Nat) (f : EgPort → EgPort) : (modEgPort port f s).tre = s.tre := rfl
@[simp] theorem modEgPort_hed (port : Nat) (f : EgPort → EgPort) : (modEgPort port f s).hed = s.hed := rfl
@[simp] theorem modEgPort_sec (port : Nat) (f : EgPort → EgPort) : (modEgPort port f s).sec = s.sec := rfl
@[simp] theorem modEgPort_fw (port : Nat) (f : EgPort → EgPort) : (modEgPort port f s).fw = s.fw := rfl
@[simp] theorem modEgPort_shd (port : Nat) (f : EgPort → EgPort) : (modEgPort port f s).shd = s.shd := rfl
@[simp] theorem modEgPort_host (port : Nat) (f : EgPort → EgPort) : (modEgPort port f s).host = s.host := rfl
@[simp] theorem modEgPort_pwr (port : Nat) (f : EgPort → EgPort) : (modEgPort port f s).pwr = s.pwr := rfl
@[simp] theorem modEgPort_od (port : Nat) (f : EgPort → EgPort) : (modEgPort port f s).od = s.od := rfl
@[simp] theorem modEgPort_mem (port : Nat) (f : EgPort → EgPort) : (modEgPort port f s).mem = s.mem := rfl
@[simp] theorem modEgPort_out (port : Nat) (f : EgPort → EgPort) : (modEgPort port f s).out = s.out := rfl
@[simp] theorem modEgPort_free (port : Nat) (f : EgPort → EgPort) : (modEgPort port f s).free = s.free := rfl
@[simp] theorem modEgPort_pending (port : Nat) (f : EgPort → EgPort) : (modEgPort port f s).pending = s.pending := rfl

@[simp] theorem defer_chip (op : TableOp) : (defer op s).chip = s.chip := rfl
@[simp] theorem defer_ctl (op : TableOp) : (defer op s).ctl = s.ctl := rfl
@[simp] theorem defer_clk (op : TableOp) : (defer op s).clk = s.clk := rfl
@[simp] theorem defer_srv (op : TableOp) : (defer op s).srv = s.srv := rfl
@[simp] theorem defer_rf (op : TableOp) : (defer op s).rf = s.rf := rfl
@[simp] theorem defer_pal (op : TableOp) : (defer op s).pal = s.pal := rfl
@[simp] theorem defer_pri (op : TableOp) : (defer op s).pri = s.pri := rfl
@[simp] theorem defer_nod (op : TableOp) : (defer op s).nod = s.nod := rfl
@[simp] theorem defer_eas (op : TableOp) : (defer op s).eas = s.eas := rfl
@[simp] theorem defer_gla (op : TableOp) : (defer op s).gla = s.gla := rfl
@[simp] theorem defer_rid (op : TableOp) : (defer op s).rid = s.rid := rfl
@[simp] theorem defer_hed (op : TableOp) : (defer op s).hed = s.hed := rfl
@[simp] theorem defer_sec (op : TableOp) : (defer op s).sec = s.sec := rfl
@[simp] theorem defer_fw (op : TableOp) : (defer op s).fw = s.fw := rfl
@[simp] theorem defer_shd (op : TableOp) : (defer op s).shd = s.shd := rfl
@[simp] theorem defer_host (op : TableOp) : (defer op s).host = s.host := rfl
@[simp] theorem defer_pwr (op : TableOp) : (defer op s).pwr = s.pwr := rfl
@[simp] theorem defer_od (op : TableOp) : (defer op s).od = s.od := rfl
@[simp] theorem defer_mem (op : TableOp) : (defer op s).mem = s.mem := rfl
@[simp] theorem defer_out (op : TableOp) : (defer op s).out = s.out := rfl
@[simp] theorem defer_free (op : TableOp) : (defer op s).free = s.free := rfl
@[simp] theorem defer_pending (op : TableOp) : (defer op s).pending = s.pending := rfl

@[simp] theorem freeSlot_chip (n : Nat) : (freeSlot n s).chip = s.chip := rfl
@[simp] theorem freeSlot_ctl (n : Nat) : (freeSlot n s).ctl = s.ctl := rfl
@[simp] theorem freeSlot_clk (n : Nat) : (freeSlot n s).clk = s.clk := rfl
@[simp] theorem freeSlot_srv (n : Nat) : (freeSlot n s).srv = s.srv := rfl
@[simp] theorem freeSlot_rf (n : Nat) : (freeSlot n s).rf = s.rf := rfl
@[simp] theorem freeSlot_pal (n : Nat) : (freeSlot n s).pal = s.pal := rfl
@[simp] theorem freeSlot_pri (n : Nat) : (freeSlot n s).pri = s.pri := rfl
@[simp] theorem freeSlot_nod (n : Nat) : (freeSlot n s).nod = s.nod := rfl
@[simp] theorem freeSlot_eas (n : Nat) : (freeSlot n s).eas = s.eas := rfl
@[simp] theorem freeSlot_gla (n : Nat) : (freeSlot n s).gla = s.gla := rfl
@[simp] theorem freeSlot_tre (n : Nat) : (freeSlot n s).tre = s.tre := rfl
@[simp] theorem freeSlot_rid (n : Nat) : (freeSlot n s).rid = s.rid := rfl
@[simp] theorem freeSlot_hed (n : Nat) : (freeSlot n s).hed = s.hed := rfl
@[simp] theorem freeSlot_fw (n : Nat) : (freeSlot n s).fw = s.fw := rfl
@[simp] theorem freeSlot_shd (n : Nat) : (freeSlot n s).shd = s.shd := rfl
@[simp] theorem freeSlot_host (n : Nat) : (freeSlot n s).host = s.host := rfl
@[simp] theorem freeSlot_pwr (n : Nat) : (freeSlot n s).pwr = s.pwr := rfl
@[simp] theorem freeSlot_od (n : Nat) : (freeSlot n s).od = s.od := rfl
@[simp] theorem freeSlot_mem (n : Nat) : (freeSlot n s).mem = s.mem := rfl
@[simp] theorem freeSlot_out (n : Nat) : (freeSlot n s).out = s.out := rfl
@[simp] theorem freeSlot_free (n : Nat) : (freeSlot n s).free = s.free := rfl
@[simp] theorem freeSlot_pending (n : Nat) : (freeSlot n s).pending = s.pending := rfl

@[simp] theorem setSlot_chip (n : Nat) (k : KeySlot) : (setSlot n k s).chip = s.chip := rfl
@[simp] theorem setSlot_ctl (n : Nat) (k : KeySlot) : (setSlot n k s).ctl = s.ctl := rfl
@[simp] theorem setSlot_clk (n : Nat) (k : KeySlot) : (setSlot n k s).clk = s.clk := rfl
@[simp] theorem setSlot_srv (n : Nat) (k : KeySlot) : (setSlot n k s).srv = s.srv := rfl
@[simp] theorem setSlot_rf (n : Nat) (k : KeySlot) : (setSlot n k s).rf = s.rf := rfl
@[simp] theorem setSlot_pal (n : Nat) (k : KeySlot) : (setSlot n k s).pal = s.pal := rfl
@[simp] theorem setSlot_pri (n : Nat) (k : KeySlot) : (setSlot n k s).pri = s.pri := rfl
@[simp] theorem setSlot_nod (n : Nat) (k : KeySlot) : (setSlot n k s).nod = s.nod := rfl
@[simp] theorem setSlot_eas (n : Nat) (k : KeySlot) : (setSlot n k s).eas = s.eas := rfl
@[simp] theorem setSlot_gla (n : Nat) (k : KeySlot) : (setSlot n k s).gla = s.gla := rfl
@[simp] theorem setSlot_tre (n : Nat) (k : KeySlot) : (setSlot n k s).tre = s.tre := rfl
@[simp] theorem setSlot_rid (n : Nat) (k : KeySlot) : (setSlot n k s).rid = s.rid := rfl
@[simp] theorem setSlot_hed (n : Nat) (k : KeySlot) : (setSlot n k s).hed = s.hed := rfl
@[simp] theorem setSlot_fw (n : Nat) (k : KeySlot) : (setSlot n k s).fw = s.fw := rfl
@[simp] theorem setSlot_shd (n : Nat) (k : KeySlot) : (setSlot n k s).shd = s.shd := rfl
@[simp] theorem setSlot_host (n : Nat) (k : KeySlot) : (setSlot n k s).host = s.host := rfl
@[simp] theorem setSlot_pwr (n : Nat) (k : KeySlot) : (setSlot n k s).pwr = s.pwr := rfl
@[simp] theorem setSlot_od (n : Nat) (k : KeySlot) : (setSlot n k s).od = s.od := rfl
@[simp] theorem setSlot_mem (n : Nat) (k : KeySlot) : (setSlot n k s).mem = s.mem := rfl
@[simp] theorem setSlot_out (n : Nat) (k : KeySlot) : (setSlot n k s).out = s.out := rfl
@[simp] theorem setSlot_free (n : Nat) (k : KeySlot) : (setSlot n k s).free = s.free := rfl
@[simp] theorem setSlot_pending (n : Nat) (k : KeySlot) : (setSlot n k s).pending = s.pending := rfl

@[simp] theorem setNodeKey_chip (n : Nat) (k : NodeKey) : (setNodeKey n k s).chip = s.chip := rfl
@[simp] theorem setNodeKey_ctl (n : Nat) (k : NodeKey) : (setNodeKey n k s).ctl = s.ctl := rfl
@[simp] theorem setNodeKey_clk (n : Nat) (k : NodeKey) : (setNodeKey n k s).clk = s.clk := rfl
@[simp] theorem setNodeKey_srv (n : Nat) (k : NodeKey) : (setNodeKey n k s).srv = s.srv := rfl
@[simp] theorem setNodeKey_rf (n : Nat) (k : NodeKey) : (setNodeKey n k s).rf = s.rf := rfl
@[simp] theorem setNodeKey_pal (n : Nat) (k : NodeKey) : (setNodeKey n k s).pal = s.pal := rfl
@[simp] theorem setNodeKey_pri (n : Nat) (k : NodeKey) : (setNodeKey n k s).pri = s.pri := rfl
@[simp] theorem setNodeKey_nod (n : Nat) (k : NodeKey) : (setNodeKey n k s).nod = s.nod := rfl
@[simp] theorem setNodeKey_eas (n : Nat) (k : NodeKey) : (setNodeKey n k s).eas = s.eas := rfl
@[simp] theorem setNodeKey_gla (n : Nat) (k : NodeKey) : (setNodeKey n k s).gla = s.gla := rfl
@[simp] theorem setNodeKey_tre (n : Nat) (k : NodeKey) : (setNodeKey n k s).tre = s.tre := rfl
@[simp] theorem setNodeKey_rid (n : Nat) (k : NodeKey) : (setNodeKey n k s).rid = s.rid := rfl
@[simp] theorem setNodeKey_hed (n : Nat) (k : NodeKey) : (setNodeKey n k s).hed = s.hed := rfl
@[simp] theorem setNodeKey_fw (n : Nat) (k : NodeKey) : (setNodeKey n k s).fw = s.fw := rfl
@[simp] theorem setNodeKey_shd (n : Nat) (k : NodeKey) : (setNodeKey n k s).shd = s.shd := rfl
@[simp] theorem setNodeKey_host (n : Nat) (k : NodeKey) : (setNodeKey n k s).host = s.host := rfl
@[simp] theorem setNodeKey_pwr (n : Nat) (k : NodeKey) : (setNodeKey n k s).pwr = s.pwr := rfl
@[simp] theorem setNodeKey_od (n : Nat) (k : NodeKey) : (setNodeKey n k s).od = s.od := rfl
@[simp] theorem setNodeKey_mem (n : Nat) (k : NodeKey) : (setNodeKey n k s).mem = s.mem := rfl
@[simp] theorem setNodeKey_out (n : Nat) (k : NodeKey) : (setNodeKey n k s).out = s.out := rfl
@[simp] theorem setNodeKey_free (n : Nat) (k : NodeKey) : (setNodeKey n k s).free = s.free := rfl
@[simp] theorem setNodeKey_pending (n : Nat) (k : NodeKey) : (setNodeKey n k s).pending = s.pending := rfl

@[simp] theorem modCipher_chip (f : Cipher → Cipher) : (modCipher f s).chip = s.chip := rfl
@[simp] theorem modCipher_ctl (f : Cipher → Cipher) : (modCipher f s).ctl = s.ctl := rfl
@[simp] theorem modCipher_clk (f : Cipher → Cipher) : (modCipher f s).clk = s.clk := rfl
@[simp] theorem modCipher_srv (f : Cipher → Cipher) : (modCipher f s).srv = s.srv := rfl
@[simp] theorem modCipher_rf (f : Cipher → Cipher) : (modCipher f s).rf = s.rf := rfl
@[simp] theorem modCipher_pal (f : Cipher → Cipher) : (modCipher f s).pal = s.pal := rfl
@[simp] theorem modCipher_pri (f : Cipher → Cipher) : (modCipher f s).pri = s.pri := rfl
@[simp] theorem modCipher_nod (f : Cipher → Cipher) : (modCipher f s).nod = s.nod := rfl
@[simp] theorem modCipher_eas (f : Cipher → Cipher) : (modCipher f s).eas = s.eas := rfl
@[simp] theorem modCipher_gla (f : Cipher → Cipher) : (modCipher f s).gla = s.gla := rfl
@[simp] theorem modCipher_tre (f : Cipher → Cipher) : (modCipher f s).tre = s.tre := rfl
@[simp] theorem modCipher_rid (f : Cipher → Cipher) : (modCipher f s).rid = s.rid := rfl
@[simp] theorem modCipher_hed (f : Cipher → Cipher) : (modCipher f s).hed = s.hed := rfl
@[simp] theorem modCipher_fw (f : Cipher → Cipher) : (modCipher f s).fw = s.fw := rfl
@[simp] theorem modCipher_shd (f : Cipher → Cipher) : (modCipher f s).shd = s.shd := rfl
@[simp] theorem modCipher_host (f : Cipher → Cipher) : (modCipher f s).host = s.host := rfl
@[simp] theorem modCipher_pwr (f : Cipher → Cipher) : (modCipher f s).pwr = s.pwr := rfl
@[simp] theorem modCipher_od (f : Cipher → Cipher) : (modCipher f s).od = s.od := rfl
@[simp] theorem modCipher_mem (f : Cipher → Cipher) : (modCipher f s).mem = s.mem := rfl
@[simp] theorem modCipher_out (f : Cipher → Cipher) : (modCipher f s).out = s.out := rfl
@[simp] theorem modCipher_free (f : Cipher → Cipher) : (modCipher f s).free = s.free := rfl
@[simp] theorem modCipher_pending (f : Cipher → Cipher) : (modCipher f s).pending = s.pending := rfl

@[simp] theorem putMirror_chip (m : Mirror) : (putMirror m s).chip = s.chip := rfl
@[simp] theorem putMirror_ctl (m : Mirror) : (putMirror m s).ctl = s.ctl := rfl
@[simp] theorem putMirror_clk (m : Mirror) : (putMirror m s).clk = s.clk := rfl
@[simp] theorem putMirror_srv (m : Mirror) : (putMirror m s).srv = s.srv := rfl
@[simp] theorem putMirror_rf (m : Mirror) : (putMirror m s).rf = s.rf := rfl
@[simp] theorem putMirror_pal (m : Mirror) : (putMirror m s).pal = s.pal := rfl
@[simp] theorem putMirror_pri (m : Mirror) : (putMirror m s).pri = s.pri := rfl
@[simp] theorem putMirror_nod (m : Mirror) : (putMirror m s).nod = s.nod := rfl
@[simp] theorem putMirror_eas (m : Mirror) : (putMirror m s).eas = s.eas := rfl
@[simp] theorem putMirror_gla (m : Mirror) : (putMirror m s).gla = s.gla := rfl
@[simp] theorem putMirror_tre (m : Mirror) : (putMirror m s).tre = s.tre := rfl
@[simp] theorem putMirror_rid (m : Mirror) : (putMirror m s).rid = s.rid := rfl
@[simp] theorem putMirror_sec (m : Mirror) : (putMirror m s).sec = s.sec := rfl
@[simp] theorem putMirror_fw (m : Mirror) : (putMirror m s).fw = s.fw := rfl
@[simp] theorem putMirror_shd (m : Mirror) : (putMirror m s).shd = s.shd := rfl
@[simp] theorem putMirror_host (m : Mirror) : (putMirror m s).host = s.host := rfl
@[simp] theorem putMirror_pwr (m : Mirror) : (putMirror m s).pwr = s.pwr := rfl
@[simp] theorem putMirror_od (m : Mirror) : (putMirror m s).od = s.od := rfl
@[simp] theorem putMirror_mem (m : Mirror) : (putMirror m s).mem = s.mem := rfl
@[simp] theorem putMirror_out (m : Mirror) : (putMirror m s).out = s.out := rfl
@[simp] theorem putMirror_free (m : Mirror) : (putMirror m s).free = s.free := rfl
@[simp] theorem putMirror_pending (m : Mirror) : (putMirror m s).pending = s.pending := rfl

@[simp] theorem modChan_chip (snd rcv : Nat) (f : Chan → Chan) : (modChan snd rcv f s).chip = s.chip := rfl
@[simp] theorem modChan_ctl (snd rcv : Nat) (f : Chan → Chan) : (modChan snd rcv f s).ctl = s.ctl := rfl
@[simp] theorem modChan_clk (snd rcv : Nat) (f : Chan → Chan) : (modChan snd rcv f s).clk = s.clk := rfl
@[simp] theorem modChan_srv (snd rcv : Nat) (f : Chan → Chan) : (modChan snd rcv f s).srv = s.srv := rfl
@[simp] theorem modChan_rf (snd rcv : Nat) (f : Chan → Chan) : (modChan snd rcv f s).rf = s.rf := rfl
@[simp] theorem modChan_pal (snd rcv : Nat) (f : Chan → Chan) : (modChan snd rcv f s).pal = s.pal := rfl
@[simp] theorem modChan_pri (snd rcv : Nat) (f : Chan → Chan) : (modChan snd rcv f s).pri = s.pri := rfl
@[simp] theorem modChan_nod (snd rcv : Nat) (f : Chan → Chan) : (modChan snd rcv f s).nod = s.nod := rfl
@[simp] theorem modChan_eas (snd rcv : Nat) (f : Chan → Chan) : (modChan snd rcv f s).eas = s.eas := rfl
@[simp] theorem modChan_gla (snd rcv : Nat) (f : Chan → Chan) : (modChan snd rcv f s).gla = s.gla := rfl
@[simp] theorem modChan_tre (snd rcv : Nat) (f : Chan → Chan) : (modChan snd rcv f s).tre = s.tre := rfl
@[simp] theorem modChan_rid (snd rcv : Nat) (f : Chan → Chan) : (modChan snd rcv f s).rid = s.rid := rfl
@[simp] theorem modChan_hed (snd rcv : Nat) (f : Chan → Chan) : (modChan snd rcv f s).hed = s.hed := rfl
@[simp] theorem modChan_sec (snd rcv : Nat) (f : Chan → Chan) : (modChan snd rcv f s).sec = s.sec := rfl
@[simp] theorem modChan_fw (snd rcv : Nat) (f : Chan → Chan) : (modChan snd rcv f s).fw = s.fw := rfl
@[simp] theorem modChan_shd (snd rcv : Nat) (f : Chan → Chan) : (modChan snd rcv f s).shd = s.shd := rfl
@[simp] theorem modChan_pwr (snd rcv : Nat) (f : Chan → Chan) : (modChan snd rcv f s).pwr = s.pwr := rfl
@[simp] theorem modChan_od (snd rcv : Nat) (f : Chan → Chan) : (modChan snd rcv f s).od = s.od := rfl
@[simp] theorem modChan_mem (snd rcv : Nat) (f : Chan → Chan) : (modChan snd rcv f s).mem = s.mem := rfl
@[simp] theorem modChan_out (snd rcv : Nat) (f : Chan → Chan) : (modChan snd rcv f s).out = s.out := rfl
@[simp] theorem modChan_free (snd rcv : Nat) (f : Chan → Chan) : (modChan snd rcv f s).free = s.free := rfl
@[simp] theorem modChan_pending (snd rcv : Nat) (f : Chan → Chan) : (modChan snd rcv f s).pending = s.pending := rfl

@[simp] theorem modPage_chip (r : Nat) (f : MbPage → MbPage) : (modPage r f s).chip = s.chip := rfl
@[simp] theorem modPage_ctl (r : Nat) (f : MbPage → MbPage) : (modPage r f s).ctl = s.ctl := rfl
@[simp] theorem modPage_clk (r : Nat) (f : MbPage → MbPage) : (modPage r f s).clk = s.clk := rfl
@[simp] theorem modPage_srv (r : Nat) (f : MbPage → MbPage) : (modPage r f s).srv = s.srv := rfl
@[simp] theorem modPage_rf (r : Nat) (f : MbPage → MbPage) : (modPage r f s).rf = s.rf := rfl
@[simp] theorem modPage_pal (r : Nat) (f : MbPage → MbPage) : (modPage r f s).pal = s.pal := rfl
@[simp] theorem modPage_pri (r : Nat) (f : MbPage → MbPage) : (modPage r f s).pri = s.pri := rfl
@[simp] theorem modPage_nod (r : Nat) (f : MbPage → MbPage) : (modPage r f s).nod = s.nod := rfl
@[simp] theorem modPage_eas (r : Nat) (f : MbPage → MbPage) : (modPage r f s).eas = s.eas := rfl
@[simp] theorem modPage_gla (r : Nat) (f : MbPage → MbPage) : (modPage r f s).gla = s.gla := rfl
@[simp] theorem modPage_tre (r : Nat) (f : MbPage → MbPage) : (modPage r f s).tre = s.tre := rfl
@[simp] theorem modPage_rid (r : Nat) (f : MbPage → MbPage) : (modPage r f s).rid = s.rid := rfl
@[simp] theorem modPage_hed (r : Nat) (f : MbPage → MbPage) : (modPage r f s).hed = s.hed := rfl
@[simp] theorem modPage_sec (r : Nat) (f : MbPage → MbPage) : (modPage r f s).sec = s.sec := rfl
@[simp] theorem modPage_fw (r : Nat) (f : MbPage → MbPage) : (modPage r f s).fw = s.fw := rfl
@[simp] theorem modPage_shd (r : Nat) (f : MbPage → MbPage) : (modPage r f s).shd = s.shd := rfl
@[simp] theorem modPage_pwr (r : Nat) (f : MbPage → MbPage) : (modPage r f s).pwr = s.pwr := rfl
@[simp] theorem modPage_od (r : Nat) (f : MbPage → MbPage) : (modPage r f s).od = s.od := rfl
@[simp] theorem modPage_mem (r : Nat) (f : MbPage → MbPage) : (modPage r f s).mem = s.mem := rfl
@[simp] theorem modPage_out (r : Nat) (f : MbPage → MbPage) : (modPage r f s).out = s.out := rfl
@[simp] theorem modPage_free (r : Nat) (f : MbPage → MbPage) : (modPage r f s).free = s.free := rfl
@[simp] theorem modPage_pending (r : Nat) (f : MbPage → MbPage) : (modPage r f s).pending = s.pending := rfl

@[simp] theorem modPwr_chip (f : Pwr → Pwr) : (modPwr f s).chip = s.chip := rfl
@[simp] theorem modPwr_ctl (f : Pwr → Pwr) : (modPwr f s).ctl = s.ctl := rfl
@[simp] theorem modPwr_clk (f : Pwr → Pwr) : (modPwr f s).clk = s.clk := rfl
@[simp] theorem modPwr_srv (f : Pwr → Pwr) : (modPwr f s).srv = s.srv := rfl
@[simp] theorem modPwr_rf (f : Pwr → Pwr) : (modPwr f s).rf = s.rf := rfl
@[simp] theorem modPwr_pal (f : Pwr → Pwr) : (modPwr f s).pal = s.pal := rfl
@[simp] theorem modPwr_pri (f : Pwr → Pwr) : (modPwr f s).pri = s.pri := rfl
@[simp] theorem modPwr_nod (f : Pwr → Pwr) : (modPwr f s).nod = s.nod := rfl
@[simp] theorem modPwr_eas (f : Pwr → Pwr) : (modPwr f s).eas = s.eas := rfl
@[simp] theorem modPwr_gla (f : Pwr → Pwr) : (modPwr f s).gla = s.gla := rfl
@[simp] theorem modPwr_tre (f : Pwr → Pwr) : (modPwr f s).tre = s.tre := rfl
@[simp] theorem modPwr_rid (f : Pwr → Pwr) : (modPwr f s).rid = s.rid := rfl
@[simp] theorem modPwr_hed (f : Pwr → Pwr) : (modPwr f s).hed = s.hed := rfl
@[simp] theorem modPwr_sec (f : Pwr → Pwr) : (modPwr f s).sec = s.sec := rfl
@[simp] theorem modPwr_fw (f : Pwr → Pwr) : (modPwr f s).fw = s.fw := rfl
@[simp] theorem modPwr_shd (f : Pwr → Pwr) : (modPwr f s).shd = s.shd := rfl
@[simp] theorem modPwr_host (f : Pwr → Pwr) : (modPwr f s).host = s.host := rfl
@[simp] theorem modPwr_od (f : Pwr → Pwr) : (modPwr f s).od = s.od := rfl
@[simp] theorem modPwr_mem (f : Pwr → Pwr) : (modPwr f s).mem = s.mem := rfl
@[simp] theorem modPwr_out (f : Pwr → Pwr) : (modPwr f s).out = s.out := rfl
@[simp] theorem modPwr_free (f : Pwr → Pwr) : (modPwr f s).free = s.free := rfl
@[simp] theorem modPwr_pending (f : Pwr → Pwr) : (modPwr f s).pending = s.pending := rfl

@[simp] theorem tableDelete_chip (tag : Nat) (key : Octets) : (tableDelete tag key s).chip = s.chip := by unfold tableDelete; split <;> rfl
@[simp] theorem tableDelete_ctl (tag : Nat) (key : Octets) : (tableDelete tag key s).ctl = s.ctl := by unfold tableDelete; split <;> rfl
@[simp] theorem tableDelete_clk (tag : Nat) (key : Octets) : (tableDelete tag key s).clk = s.clk := by unfold tableDelete; split <;> rfl
@[simp] theorem tableDelete_srv (tag : Nat) (key : Octets) : (tableDelete tag key s).srv = s.srv := by unfold tableDelete; split <;> rfl
@[simp] theorem tableDelete_rf (tag : Nat) (key : Octets) : (tableDelete tag key s).rf = s.rf := by unfold tableDelete; split <;> rfl
@[simp] theorem tableDelete_pal (tag : Nat) (key : Octets) : (tableDelete tag key s).pal = s.pal := by unfold tableDelete; split <;> rfl
@[simp] theorem tableDelete_pri (tag : Nat) (key : Octets) : (tableDelete tag key s).pri = s.pri := by unfold tableDelete; split <;> rfl
@[simp] theorem tableDelete_nod (tag : Nat) (key : Octets) : (tableDelete tag key s).nod = s.nod := by unfold tableDelete; split <;> rfl
@[simp] theorem tableDelete_eas (tag : Nat) (key : Octets) : (tableDelete tag key s).eas = s.eas := by unfold tableDelete; split <;> rfl
@[simp] theorem tableDelete_gla (tag : Nat) (key : Octets) : (tableDelete tag key s).gla = s.gla := by unfold tableDelete; split <;> rfl
@[simp] theorem tableDelete_rid (tag : Nat) (key : Octets) : (tableDelete tag key s).rid = s.rid := by unfold tableDelete; split <;> rfl
@[simp] theorem tableDelete_hed (tag : Nat) (key : Octets) : (tableDelete tag key s).hed = s.hed := by unfold tableDelete; split <;> rfl
@[simp] theorem tableDelete_sec (tag : Nat) (key : Octets) : (tableDelete tag key s).sec = s.sec := by unfold tableDelete; split <;> rfl
@[simp] theorem tableDelete_fw (tag : Nat) (key : Octets) : (tableDelete tag key s).fw = s.fw := by unfold tableDelete; split <;> rfl
@[simp] theorem tableDelete_shd (tag : Nat) (key : Octets) : (tableDelete tag key s).shd = s.shd := by unfold tableDelete; split <;> rfl
@[simp] theorem tableDelete_host (tag : Nat) (key : Octets) : (tableDelete tag key s).host = s.host := by unfold tableDelete; split <;> rfl
@[simp] theorem tableDelete_pwr (tag : Nat) (key : Octets) : (tableDelete tag key s).pwr = s.pwr := by unfold tableDelete; split <;> rfl
@[simp] theorem tableDelete_od (tag : Nat) (key : Octets) : (tableDelete tag key s).od = s.od := by unfold tableDelete; split <;> rfl
@[simp] theorem tableDelete_mem (tag : Nat) (key : Octets) : (tableDelete tag key s).mem = s.mem := by unfold tableDelete; split <;> rfl
@[simp] theorem tableDelete_out (tag : Nat) (key : Octets) : (tableDelete tag key s).out = s.out := by unfold tableDelete; split <;> rfl
@[simp] theorem tableDelete_free (tag : Nat) (key : Octets) : (tableDelete tag key s).free = s.free := by unfold tableDelete; split <;> rfl
@[simp] theorem tableDelete_pending (tag : Nat) (key : Octets) : (tableDelete tag key s).pending = s.pending := by unfold tableDelete; split <;> rfl

@[simp] theorem freeKeysOf_chip (pick : Nat → Bool) : (freeKeysOf pick s).chip = s.chip := freed_keep (·.chip) (fun n s => freeSlot_chip s n) _ s
@[simp] theorem freeKeysOf_ctl (pick : Nat → Bool) : (freeKeysOf pick s).ctl = s.ctl := freed_keep (·.ctl) (fun n s => freeSlot_ctl s n) _ s
@[simp] theorem freeKeysOf_clk (pick : Nat → Bool) : (freeKeysOf pick s).clk = s.clk := freed_keep (·.clk) (fun n s => freeSlot_clk s n) _ s
@[simp] theorem freeKeysOf_srv (pick : Nat → Bool) : (freeKeysOf pick s).srv = s.srv := freed_keep (·.srv) (fun n s => freeSlot_srv s n) _ s
@[simp] theorem freeKeysOf_rf (pick : Nat → Bool) : (freeKeysOf pick s).rf = s.rf := freed_keep (·.rf) (fun n s => freeSlot_rf s n) _ s
@[simp] theorem freeKeysOf_pal (pick : Nat → Bool) : (freeKeysOf pick s).pal = s.pal := freed_keep (·.pal) (fun n s => freeSlot_pal s n) _ s
@[simp] theorem freeKeysOf_pri (pick : Nat → Bool) : (freeKeysOf pick s).pri = s.pri := freed_keep (·.pri) (fun n s => freeSlot_pri s n) _ s
@[simp] theorem freeKeysOf_nod (pick : Nat → Bool) : (freeKeysOf pick s).nod = s.nod := freed_keep (·.nod) (fun n s => freeSlot_nod s n) _ s
@[simp] theorem freeKeysOf_eas (pick : Nat → Bool) : (freeKeysOf pick s).eas = s.eas := freed_keep (·.eas) (fun n s => freeSlot_eas s n) _ s
@[simp] theorem freeKeysOf_gla (pick : Nat → Bool) : (freeKeysOf pick s).gla = s.gla := freed_keep (·.gla) (fun n s => freeSlot_gla s n) _ s
@[simp] theorem freeKeysOf_tre (pick : Nat → Bool) : (freeKeysOf pick s).tre = s.tre := freed_keep (·.tre) (fun n s => freeSlot_tre s n) _ s
@[simp] theorem freeKeysOf_rid (pick : Nat → Bool) : (freeKeysOf pick s).rid = s.rid := freed_keep (·.rid) (fun n s => freeSlot_rid s n) _ s
@[simp] theorem freeKeysOf_hed (pick : Nat → Bool) : (freeKeysOf pick s).hed = s.hed := freed_keep (·.hed) (fun n s => freeSlot_hed s n) _ s
@[simp] theorem freeKeysOf_fw (pick : Nat → Bool) : (freeKeysOf pick s).fw = s.fw := freed_keep (·.fw) (fun n s => freeSlot_fw s n) _ s
@[simp] theorem freeKeysOf_shd (pick : Nat → Bool) : (freeKeysOf pick s).shd = s.shd := freed_keep (·.shd) (fun n s => freeSlot_shd s n) _ s
@[simp] theorem freeKeysOf_host (pick : Nat → Bool) : (freeKeysOf pick s).host = s.host := freed_keep (·.host) (fun n s => freeSlot_host s n) _ s
@[simp] theorem freeKeysOf_pwr (pick : Nat → Bool) : (freeKeysOf pick s).pwr = s.pwr := freed_keep (·.pwr) (fun n s => freeSlot_pwr s n) _ s
@[simp] theorem freeKeysOf_od (pick : Nat → Bool) : (freeKeysOf pick s).od = s.od := freed_keep (·.od) (fun n s => freeSlot_od s n) _ s
@[simp] theorem freeKeysOf_mem (pick : Nat → Bool) : (freeKeysOf pick s).mem = s.mem := freed_keep (·.mem) (fun n s => freeSlot_mem s n) _ s
@[simp] theorem freeKeysOf_out (pick : Nat → Bool) : (freeKeysOf pick s).out = s.out := freed_keep (·.out) (fun n s => freeSlot_out s n) _ s
@[simp] theorem freeKeysOf_free (pick : Nat → Bool) : (freeKeysOf pick s).free = s.free := freed_keep (·.free) (fun n s => freeSlot_free s n) _ s
@[simp] theorem freeKeysOf_pending (pick : Nat → Bool) : (freeKeysOf pick s).pending = s.pending := freed_keep (·.pending) (fun n s => freeSlot_pending s n) _ s

@[simp] theorem endSession_chip (id : Nat) : (endSession id s).chip = s.chip := freeKeysOf_chip s _
@[simp] theorem endSession_ctl (id : Nat) : (endSession id s).ctl = s.ctl := freeKeysOf_ctl s _
@[simp] theorem endSession_clk (id : Nat) : (endSession id s).clk = s.clk := freeKeysOf_clk s _
@[simp] theorem endSession_rf (id : Nat) : (endSession id s).rf = s.rf := freeKeysOf_rf s _
@[simp] theorem endSession_pal (id : Nat) : (endSession id s).pal = s.pal := freeKeysOf_pal s _
@[simp] theorem endSession_pri (id : Nat) : (endSession id s).pri = s.pri := freeKeysOf_pri s _
@[simp] theorem endSession_nod (id : Nat) : (endSession id s).nod = s.nod := freeKeysOf_nod s _
@[simp] theorem endSession_eas (id : Nat) : (endSession id s).eas = s.eas := freeKeysOf_eas s _
@[simp] theorem endSession_gla (id : Nat) : (endSession id s).gla = s.gla := freeKeysOf_gla s _
@[simp] theorem endSession_tre (id : Nat) : (endSession id s).tre = s.tre := freeKeysOf_tre s _
@[simp] theorem endSession_rid (id : Nat) : (endSession id s).rid = s.rid := freeKeysOf_rid s _
@[simp] theorem endSession_hed (id : Nat) : (endSession id s).hed = s.hed := freeKeysOf_hed s _
@[simp] theorem endSession_fw (id : Nat) : (endSession id s).fw = s.fw := freeKeysOf_fw s _
@[simp] theorem endSession_shd (id : Nat) : (endSession id s).shd = s.shd := freeKeysOf_shd s _
@[simp] theorem endSession_host (id : Nat) : (endSession id s).host = s.host := freeKeysOf_host s _
@[simp] theorem endSession_pwr (id : Nat) : (endSession id s).pwr = s.pwr := freeKeysOf_pwr s _
@[simp] theorem endSession_od (id : Nat) : (endSession id s).od = s.od := freeKeysOf_od s _
@[simp] theorem endSession_mem (id : Nat) : (endSession id s).mem = s.mem := freeKeysOf_mem s _
@[simp] theorem endSession_out (id : Nat) : (endSession id s).out = s.out := freeKeysOf_out s _
@[simp] theorem endSession_free (id : Nat) : (endSession id s).free = s.free := freeKeysOf_free s _
@[simp] theorem endSession_pending (id : Nat) : (endSession id s).pending = s.pending := freeKeysOf_pending s _

@[simp] theorem bump_chip (idx sub row n : Nat) : (bump idx sub row s n).chip = s.chip := rfl
@[simp] theorem bump_ctl (idx sub row n : Nat) : (bump idx sub row s n).ctl = s.ctl := rfl
@[simp] theorem bump_clk (idx sub row n : Nat) : (bump idx sub row s n).clk = s.clk := rfl
@[simp] theorem bump_srv (idx sub row n : Nat) : (bump idx sub row s n).srv = s.srv := rfl
@[simp] theorem bump_rf (idx sub row n : Nat) : (bump idx sub row s n).rf = s.rf := rfl
@[simp] theorem bump_pal (idx sub row n : Nat) : (bump idx sub row s n).pal = s.pal := rfl
@[simp] theorem bump_pri (idx sub row n : Nat) : (bump idx sub row s n).pri = s.pri := rfl
@[simp] theorem bump_nod (idx sub row n : Nat) : (bump idx sub row s n).nod = s.nod := rfl
@[simp] theorem bump_eas (idx sub row n : Nat) : (bump idx sub row s n).eas = s.eas := rfl
@[simp] theorem bump_gla (idx sub row n : Nat) : (bump idx sub row s n).gla = s.gla := rfl
@[simp] theorem bump_tre (idx sub row n : Nat) : (bump idx sub row s n).tre = s.tre := rfl
@[simp] theorem bump_rid (idx sub row n : Nat) : (bump idx sub row s n).rid = s.rid := rfl
@[simp] theorem bump_hed (idx sub row n : Nat) : (bump idx sub row s n).hed = s.hed := rfl
@[simp] theorem bump_sec (idx sub row n : Nat) : (bump idx sub row s n).sec = s.sec := rfl
@[simp] theorem bump_fw (idx sub row n : Nat) : (bump idx sub row s n).fw = s.fw := rfl
@[simp] theorem bump_shd (idx sub row n : Nat) : (bump idx sub row s n).shd = s.shd := rfl
@[simp] theorem bump_host (idx sub row n : Nat) : (bump idx sub row s n).host = s.host := rfl
@[simp] theorem bump_pwr (idx sub row n : Nat) : (bump idx sub row s n).pwr = s.pwr := rfl
@[simp] theorem bump_mem (idx sub row n : Nat) : (bump idx sub row s n).mem = s.mem := rfl
@[simp] theorem bump_out (idx sub row n : Nat) : (bump idx sub row s n).out = s.out := rfl
@[simp] theorem bump_free (idx sub row n : Nat) : (bump idx sub row s n).free = s.free := rfl
@[simp] theorem bump_pending (idx sub row n : Nat) : (bump idx sub row s n).pending = s.pending := rfl

@[simp] theorem bumpField_chip (idx sub row off size n : Nat) : (bumpField idx sub row off size s n).chip = s.chip := rfl
@[simp] theorem bumpField_ctl (idx sub row off size n : Nat) : (bumpField idx sub row off size s n).ctl = s.ctl := rfl
@[simp] theorem bumpField_clk (idx sub row off size n : Nat) : (bumpField idx sub row off size s n).clk = s.clk := rfl
@[simp] theorem bumpField_srv (idx sub row off size n : Nat) : (bumpField idx sub row off size s n).srv = s.srv := rfl
@[simp] theorem bumpField_rf (idx sub row off size n : Nat) : (bumpField idx sub row off size s n).rf = s.rf := rfl
@[simp] theorem bumpField_pal (idx sub row off size n : Nat) : (bumpField idx sub row off size s n).pal = s.pal := rfl
@[simp] theorem bumpField_pri (idx sub row off size n : Nat) : (bumpField idx sub row off size s n).pri = s.pri := rfl
@[simp] theorem bumpField_nod (idx sub row off size n : Nat) : (bumpField idx sub row off size s n).nod = s.nod := rfl
@[simp] theorem bumpField_eas (idx sub row off size n : Nat) : (bumpField idx sub row off size s n).eas = s.eas := rfl
@[simp] theorem bumpField_gla (idx sub row off size n : Nat) : (bumpField idx sub row off size s n).gla = s.gla := rfl
@[simp] theorem bumpField_tre (idx sub row off size n : Nat) : (bumpField idx sub row off size s n).tre = s.tre := rfl
@[simp] theorem bumpField_rid (idx sub row off size n : Nat) : (bumpField idx sub row off size s n).rid = s.rid := rfl
@[simp] theorem bumpField_hed (idx sub row off size n : Nat) : (bumpField idx sub row off size s n).hed = s.hed := rfl
@[simp] theorem bumpField_sec (idx sub row off size n : Nat) : (bumpField idx sub row off size s n).sec = s.sec := rfl
@[simp] theorem bumpField_fw (idx sub row off size n : Nat) : (bumpField idx sub row off size s n).fw = s.fw := rfl
@[simp] theorem bumpField_shd (idx sub row off size n : Nat) : (bumpField idx sub row off size s n).shd = s.shd := rfl
@[simp] theorem bumpField_host (idx sub row off size n : Nat) : (bumpField idx sub row off size s n).host = s.host := rfl
@[simp] theorem bumpField_pwr (idx sub row off size n : Nat) : (bumpField idx sub row off size s n).pwr = s.pwr := rfl
@[simp] theorem bumpField_mem (idx sub row off size n : Nat) : (bumpField idx sub row off size s n).mem = s.mem := rfl
@[simp] theorem bumpField_out (idx sub row off size n : Nat) : (bumpField idx sub row off size s n).out = s.out := rfl
@[simp] theorem bumpField_free (idx sub row off size n : Nat) : (bumpField idx sub row off size s n).free = s.free := rfl
@[simp] theorem bumpField_pending (idx sub row off size n : Nat) : (bumpField idx sub row off size s n).pending = s.pending := rfl

@[simp] theorem logEvent_chip (type sev : Nat) (data : Octets) (source inst : Nat) : (logEvent type sev data s source inst).chip = s.chip := rfl
@[simp] theorem logEvent_ctl (type sev : Nat) (data : Octets) (source inst : Nat) : (logEvent type sev data s source inst).ctl = s.ctl := rfl
@[simp] theorem logEvent_clk (type sev : Nat) (data : Octets) (source inst : Nat) : (logEvent type sev data s source inst).clk = s.clk := rfl
@[simp] theorem logEvent_srv (type sev : Nat) (data : Octets) (source inst : Nat) : (logEvent type sev data s source inst).srv = s.srv := rfl
@[simp] theorem logEvent_rf (type sev : Nat) (data : Octets) (source inst : Nat) : (logEvent type sev data s source inst).rf = s.rf := rfl
@[simp] theorem logEvent_pal (type sev : Nat) (data : Octets) (source inst : Nat) : (logEvent type sev data s source inst).pal = s.pal := rfl
@[simp] theorem logEvent_pri (type sev : Nat) (data : Octets) (source inst : Nat) : (logEvent type sev data s source inst).pri = s.pri := rfl
@[simp] theorem logEvent_nod (type sev : Nat) (data : Octets) (source inst : Nat) : (logEvent type sev data s source inst).nod = s.nod := rfl
@[simp] theorem logEvent_eas (type sev : Nat) (data : Octets) (source inst : Nat) : (logEvent type sev data s source inst).eas = s.eas := rfl
@[simp] theorem logEvent_gla (type sev : Nat) (data : Octets) (source inst : Nat) : (logEvent type sev data s source inst).gla = s.gla := rfl
@[simp] theorem logEvent_tre (type sev : Nat) (data : Octets) (source inst : Nat) : (logEvent type sev data s source inst).tre = s.tre := rfl
@[simp] theorem logEvent_rid (type sev : Nat) (data : Octets) (source inst : Nat) : (logEvent type sev data s source inst).rid = s.rid := rfl
@[simp] theorem logEvent_hed (type sev : Nat) (data : Octets) (source inst : Nat) : (logEvent type sev data s source inst).hed = s.hed := rfl
@[simp] theorem logEvent_sec (type sev : Nat) (data : Octets) (source inst : Nat) : (logEvent type sev data s source inst).sec = s.sec := rfl
@[simp] theorem logEvent_fw (type sev : Nat) (data : Octets) (source inst : Nat) : (logEvent type sev data s source inst).fw = s.fw := rfl
@[simp] theorem logEvent_host (type sev : Nat) (data : Octets) (source inst : Nat) : (logEvent type sev data s source inst).host = s.host := rfl
@[simp] theorem logEvent_pwr (type sev : Nat) (data : Octets) (source inst : Nat) : (logEvent type sev data s source inst).pwr = s.pwr := rfl
@[simp] theorem logEvent_od (type sev : Nat) (data : Octets) (source inst : Nat) : (logEvent type sev data s source inst).od = s.od := rfl
@[simp] theorem logEvent_mem (type sev : Nat) (data : Octets) (source inst : Nat) : (logEvent type sev data s source inst).mem = s.mem := rfl
@[simp] theorem logEvent_out (type sev : Nat) (data : Octets) (source inst : Nat) : (logEvent type sev data s source inst).out = s.out := rfl
@[simp] theorem logEvent_free (type sev : Nat) (data : Octets) (source inst : Nat) : (logEvent type sev data s source inst).free = s.free := rfl
@[simp] theorem logEvent_pending (type sev : Nat) (data : Octets) (source inst : Nat) : (logEvent type sev data s source inst).pending = s.pending := rfl

@[simp] theorem observeAll_ctl (t : State) : (observeAll s t).ctl = t.ctl := by unfold observeAll; split <;> rfl
@[simp] theorem toBackhaul_ctl (t : State) : (toBackhaul s t).ctl = t.ctl := rfl
@[simp] theorem conclude_ctl (t : State) : (conclude s t).ctl = t.ctl := (toBackhaul_ctl s _).trans (observeAll_ctl s t)
@[simp] theorem observeAll_clk (t : State) : (observeAll s t).clk = t.clk := by unfold observeAll; split <;> rfl
@[simp] theorem toBackhaul_clk (t : State) : (toBackhaul s t).clk = t.clk := rfl
@[simp] theorem conclude_clk (t : State) : (conclude s t).clk = t.clk := (toBackhaul_clk s _).trans (observeAll_clk s t)
@[simp] theorem observeAll_rf (t : State) : (observeAll s t).rf = t.rf := by unfold observeAll; split <;> rfl
@[simp] theorem toBackhaul_rf (t : State) : (toBackhaul s t).rf = t.rf := rfl
@[simp] theorem conclude_rf (t : State) : (conclude s t).rf = t.rf := (toBackhaul_rf s _).trans (observeAll_rf s t)
@[simp] theorem observeAll_pal (t : State) : (observeAll s t).pal = t.pal := by unfold observeAll; split <;> rfl
@[simp] theorem toBackhaul_pal (t : State) : (toBackhaul s t).pal = t.pal := rfl
@[simp] theorem conclude_pal (t : State) : (conclude s t).pal = t.pal := (toBackhaul_pal s _).trans (observeAll_pal s t)
@[simp] theorem observeAll_pri (t : State) : (observeAll s t).pri = t.pri := by unfold observeAll; split <;> rfl
@[simp] theorem toBackhaul_pri (t : State) : (toBackhaul s t).pri = t.pri := rfl
@[simp] theorem conclude_pri (t : State) : (conclude s t).pri = t.pri := (toBackhaul_pri s _).trans (observeAll_pri s t)
@[simp] theorem observeAll_nod (t : State) : (observeAll s t).nod = t.nod := by unfold observeAll; split <;> rfl
@[simp] theorem toBackhaul_nod (t : State) : (toBackhaul s t).nod = t.nod := rfl
@[simp] theorem conclude_nod (t : State) : (conclude s t).nod = t.nod := (toBackhaul_nod s _).trans (observeAll_nod s t)
@[simp] theorem observeAll_eas (t : State) : (observeAll s t).eas = t.eas := by unfold observeAll; split <;> rfl
@[simp] theorem toBackhaul_eas (t : State) : (toBackhaul s t).eas = t.eas := rfl
@[simp] theorem conclude_eas (t : State) : (conclude s t).eas = t.eas := (toBackhaul_eas s _).trans (observeAll_eas s t)
@[simp] theorem observeAll_gla (t : State) : (observeAll s t).gla = t.gla := by unfold observeAll; split <;> rfl
@[simp] theorem toBackhaul_gla (t : State) : (toBackhaul s t).gla = t.gla := rfl
@[simp] theorem conclude_gla (t : State) : (conclude s t).gla = t.gla := (toBackhaul_gla s _).trans (observeAll_gla s t)
@[simp] theorem observeAll_tre (t : State) : (observeAll s t).tre = t.tre := by unfold observeAll; split <;> rfl
@[simp] theorem toBackhaul_tre (t : State) : (toBackhaul s t).tre = t.tre := rfl
@[simp] theorem conclude_tre (t : State) : (conclude s t).tre = t.tre := (toBackhaul_tre s _).trans (observeAll_tre s t)
@[simp] theorem observeAll_rid (t : State) : (observeAll s t).rid = t.rid := by unfold observeAll; split <;> rfl
@[simp] theorem toBackhaul_rid (t : State) : (toBackhaul s t).rid = t.rid := rfl
@[simp] theorem conclude_rid (t : State) : (conclude s t).rid = t.rid := (toBackhaul_rid s _).trans (observeAll_rid s t)
@[simp] theorem observeAll_hed (t : State) : (observeAll s t).hed = t.hed := by unfold observeAll; split <;> rfl
@[simp] theorem toBackhaul_hed (t : State) : (toBackhaul s t).hed = t.hed := rfl
@[simp] theorem conclude_hed (t : State) : (conclude s t).hed = t.hed := (toBackhaul_hed s _).trans (observeAll_hed s t)
@[simp] theorem observeAll_sec (t : State) : (observeAll s t).sec = t.sec := by unfold observeAll; split <;> rfl
@[simp] theorem toBackhaul_sec (t : State) : (toBackhaul s t).sec = t.sec := rfl
@[simp] theorem conclude_sec (t : State) : (conclude s t).sec = t.sec := (toBackhaul_sec s _).trans (observeAll_sec s t)
@[simp] theorem observeAll_fw (t : State) : (observeAll s t).fw = t.fw := by unfold observeAll; split <;> rfl
@[simp] theorem toBackhaul_fw (t : State) : (toBackhaul s t).fw = t.fw := rfl
@[simp] theorem conclude_fw (t : State) : (conclude s t).fw = t.fw := (toBackhaul_fw s _).trans (observeAll_fw s t)
@[simp] theorem observeAll_shd (t : State) : (observeAll s t).shd = t.shd := by unfold observeAll; split <;> rfl
@[simp] theorem toBackhaul_shd (t : State) : (toBackhaul s t).shd = t.shd := rfl
@[simp] theorem conclude_shd (t : State) : (conclude s t).shd = t.shd := (toBackhaul_shd s _).trans (observeAll_shd s t)
@[simp] theorem observeAll_host (t : State) : (observeAll s t).host = t.host := by unfold observeAll; split <;> rfl
@[simp] theorem toBackhaul_host (t : State) : (toBackhaul s t).host = t.host := rfl
@[simp] theorem conclude_host (t : State) : (conclude s t).host = t.host := (toBackhaul_host s _).trans (observeAll_host s t)
@[simp] theorem observeAll_pwr (t : State) : (observeAll s t).pwr = t.pwr := by unfold observeAll; split <;> rfl
@[simp] theorem toBackhaul_pwr (t : State) : (toBackhaul s t).pwr = t.pwr := rfl
@[simp] theorem conclude_pwr (t : State) : (conclude s t).pwr = t.pwr := (toBackhaul_pwr s _).trans (observeAll_pwr s t)
@[simp] theorem observeAll_od (t : State) : (observeAll s t).od = t.od := by unfold observeAll; split <;> rfl
@[simp] theorem toBackhaul_od (t : State) : (toBackhaul s t).od = t.od := rfl
@[simp] theorem conclude_od (t : State) : (conclude s t).od = t.od := (toBackhaul_od s _).trans (observeAll_od s t)
@[simp] theorem observeAll_mem (t : State) : (observeAll s t).mem = t.mem := by unfold observeAll; split <;> rfl
@[simp] theorem toBackhaul_mem (t : State) : (toBackhaul s t).mem = t.mem := rfl
@[simp] theorem conclude_mem (t : State) : (conclude s t).mem = t.mem := (toBackhaul_mem s _).trans (observeAll_mem s t)
@[simp] theorem observeAll_free (t : State) : (observeAll s t).free = t.free := by unfold observeAll; split <;> rfl
@[simp] theorem toBackhaul_free (t : State) : (toBackhaul s t).free = t.free := rfl
@[simp] theorem conclude_free (t : State) : (conclude s t).free = t.free := (toBackhaul_free s _).trans (observeAll_free s t)
@[simp] theorem conclude_srv_up (t : State) : (conclude s t).srv.up = t.srv.up := by unfold conclude toUart toBackhaul; dsimp only; unfold observeAll; split <;> rfl
@[simp] theorem conclude_srv_sessions (t : State) : (conclude s t).srv.sessions = t.srv.sessions := by unfold conclude toUart toBackhaul; dsimp only; unfold observeAll; split <;> rfl
@[simp] theorem conclude_srv_nextSession (t : State) : (conclude s t).srv.nextSession = t.srv.nextSession := by unfold conclude toUart toBackhaul; dsimp only; unfold observeAll; split <;> rfl
@[simp] theorem conclude_srv_txns (t : State) : (conclude s t).srv.txns = t.srv.txns := by unfold conclude toUart toBackhaul; dsimp only; unfold observeAll; split <;> rfl
@[simp] theorem conclude_srv_nextTxn (t : State) : (conclude s t).srv.nextTxn = t.srv.nextTxn := by unfold conclude toUart toBackhaul; dsimp only; unfold observeAll; split <;> rfl
@[simp] theorem conclude_srv_blocks (t : State) : (conclude s t).srv.blocks = t.srv.blocks := by unfold conclude toUart toBackhaul; dsimp only; unfold observeAll; split <;> rfl
@[simp] theorem conclude_srv_nextSub (t : State) : (conclude s t).srv.nextSub = t.srv.nextSub := by unfold conclude toUart toBackhaul; dsimp only; unfold observeAll; split <;> rfl
@[simp] theorem conclude_srv_pend (t : State) : (conclude s t).srv.pend = t.srv.pend := by unfold conclude toUart toBackhaul; dsimp only; unfold observeAll; split <;> rfl
@[simp] theorem conclude_srv_importStaged (t : State) : (conclude s t).srv.importStaged = t.srv.importStaged := by unfold conclude toUart toBackhaul; dsimp only; unfold observeAll; split <;> rfl

@[simp] theorem conclude_chip (t : State) : (conclude s t).chip = burn s.chip t.chip := rfl
@[simp] theorem conclude_pending (t : State) : (conclude s t).pending = s.pending := rfl

@[simp] theorem toBackhaul_out (t : State) : (toBackhaul s t).out = t.out := rfl
@[simp] theorem toBackhaul_subs (t : State) : (toBackhaul s t).srv.subs = t.srv.subs := rfl

/-- Where nobody subscribes and neither the backhaul nor a peer is sent anything, a command's effect is all that happens to the server. -/
theorem conclude_srv_of_no_subs (t : State) (h : t.srv.subs = []) (h2 : (t.out.drop s.out.length).filterMap (backhaulOf t) = [])
    (h3 : (t.out.drop s.out.length).filterMap (peerNote t) = []) : (conclude s t).srv = t.srv := by
  unfold conclude toUart toBackhaul observeAll; rw [h]; dsimp only; rw [h2, h3, List.append_nil]; rfl

/-- Where nobody subscribes, a command sends what its effect sends, and the UART frames that carry it. -/
theorem conclude_out_of_no_subs (t : State) (h : t.srv.subs = []) :
    (conclude s t).out = t.out ++ ((t.out.drop s.out.length).filterMap (uartOf (toBackhaul s t))).map .uart := by
  unfold conclude toUart; rw [observeAll]; simp only [h]; rfl

/-- What a command sends comes before what its subscriptions send. -/
theorem conclude_out_prefix (t : State) : ∃ l, (conclude s t).out = t.out ++ l := by
  unfold conclude toUart; dsimp only; rw [toBackhaul_out]; unfold observeAll
  split
  · exact ⟨_, rfl⟩
  · exact ⟨_, List.append_assoc _ _ _⟩

end Sys2Proof.Machine
end

