-- ==== Sys2Proof/Laws/Exec.lean ====
section
/-!
SUPPORT. What every command does alike: it answers a next state that `conclude` makes, so the queue stands, the fuses are only ever
blown, and the subscriptions are served.
-/

namespace Sys2Proof.Machine

set_option linter.unusedTactic false
set_option linter.unreachableTactic false

/-- An outcome is the next state that some effect leaves, concluded. -/
def Concludes (s : State) (o : Host.Outcome State Fault Refusal) : Prop := ∃ t, o = .next (conclude s t)

theorem concludes_done (s t : State) : Concludes s (done s t) := ⟨t, rfl⟩

theorem concludes_ite (s : State) (c : Prop) [Decidable c] (a b : Host.Outcome State Fault Refusal) (ha : Concludes s a)
    (hb : Concludes s b) : Concludes s (if c then a else b) := by
  by_cases h : c
  · rw [if_pos h]; exact ha
  · rw [if_neg h]; exact hb

theorem execDtlsHandshake_concludes (h : ClientHello) (s : State) : Concludes s (execDtlsHandshake h s) := by
  unfold execDtlsHandshake
  repeat' with_reducible first | exact concludes_done _ _ | apply concludes_ite | extract_lets | split

theorem execSubscriptionPeriodTimer_concludes (sub : Nat) (s : State) : Concludes s (execSubscriptionPeriodTimer sub s) := by
  unfold execSubscriptionPeriodTimer
  repeat' with_reducible first | exact concludes_done _ _ | apply concludes_ite | extract_lets | split

theorem execSubscriptionGapExpiry_concludes (sub : Nat) (s : State) : Concludes s (execSubscriptionGapExpiry sub s) := by
  unfold execSubscriptionGapExpiry
  repeat' with_reducible first | exact concludes_done _ _ | apply concludes_ite | extract_lets | split

theorem execNotifyRetransmitTimer_concludes (sub : Nat) (s : State) : Concludes s (execNotifyRetransmitTimer sub s) := by
  unfold execNotifyRetransmitTimer
  repeat' with_reducible first | exact concludes_done _ _ | apply concludes_ite | extract_lets | split

theorem execSessionIdleExpiry_concludes (session : Nat) (s : State) : Concludes s (execSessionIdleExpiry session s) := by
  unfold execSessionIdleExpiry
  repeat' with_reducible first | exact concludes_done _ _ | apply concludes_ite | extract_lets | split

theorem execTxnIdleExpiry_concludes (txn : Nat) (s : State) : Concludes s (execTxnIdleExpiry txn s) := by
  unfold execTxnIdleExpiry
  repeat' with_reducible first | exact concludes_done _ _ | apply concludes_ite | extract_lets | split

theorem execBlockIdleExpiry_concludes (session block : Nat) (s : State) : Concludes s (execBlockIdleExpiry session block s) := by
  unfold execBlockIdleExpiry
  repeat' with_reducible first | exact concludes_done _ _ | apply concludes_ite | extract_lets | split

theorem execReplayCacheExpiry_concludes (session rid : Nat) (s : State) : Concludes s (execReplayCacheExpiry session rid s) := by
  unfold execReplayCacheExpiry
  repeat' with_reducible first | exact concludes_done _ _ | apply concludes_ite | extract_lets | split

theorem execModeChangeEffective_concludes (s : State) : Concludes s (execModeChangeEffective s) := by
  unfold execModeChangeEffective
  repeat' with_reducible first | exact concludes_done _ _ | apply concludes_ite | extract_lets | split

theorem execModeChangeAbandon_concludes (s : State) : Concludes s (execModeChangeAbandon s) := by
  unfold execModeChangeAbandon
  repeat' with_reducible first | exact concludes_done _ _ | apply concludes_ite | extract_lets | split

theorem execEndOfServiceComplete_concludes (s : State) : Concludes s (execEndOfServiceComplete s) := by
  unfold execEndOfServiceComplete
  repeat' with_reducible first | exact concludes_done _ _ | apply concludes_ite | extract_lets | split

theorem execM1PowerDown_concludes (s : State) : Concludes s (execM1PowerDown s) := by
  unfold execM1PowerDown
  repeat' with_reducible first | exact concludes_done _ _ | apply concludes_ite | extract_lets | split

theorem execRebootAssert_concludes (s : State) : Concludes s (execRebootAssert s) := by
  unfold execRebootAssert
  repeat' with_reducible first | exact concludes_done _ _ | apply concludes_ite | extract_lets | split

theorem execClockStepApply_concludes (s : State) : Concludes s (execClockStepApply s) := by
  unfold execClockStepApply
  repeat' with_reducible first | exact concludes_done _ _ | apply concludes_ite | extract_lets | split

theorem execMapChangeEffective_concludes (pan : Nat) (s : State) : Concludes s (execMapChangeEffective pan s) := by
  unfold execMapChangeEffective
  repeat' with_reducible first | exact concludes_done _ _ | apply concludes_ite | extract_lets | split

theorem execFwTrialTimer_concludes (s : State) : Concludes s (execFwTrialTimer s) := by
  unfold execFwTrialTimer
  repeat' with_reducible first | exact concludes_done _ _ | apply concludes_ite | extract_lets | split

theorem execRecoverRequestAssert_concludes (s : State) : Concludes s (execRecoverRequestAssert s) := by
  unfold execRecoverRequestAssert
  repeat' with_reducible first | exact concludes_done _ _ | apply concludes_ite | extract_lets | split

theorem execCaptureStart_concludes (s : State) : Concludes s (execCaptureStart s) := by
  unfold execCaptureStart
  repeat' with_reducible first | exact concludes_done _ _ | apply concludes_ite | extract_lets | split

theorem execCaptureStop_concludes (s : State) : Concludes s (execCaptureStop s) := by
  unfold execCaptureStop
  repeat' with_reducible first | exact concludes_done _ _ | apply concludes_ite | extract_lets | split

theorem execGateListSwitch_concludes (port : Nat) (s : State) : Concludes s (execGateListSwitch port s) := by
  unfold execGateListSwitch
  repeat' with_reducible first | exact concludes_done _ _ | apply concludes_ite | extract_lets | split

theorem execSlotStart_concludes (s : State) : Concludes s (execSlotStart s) := by
  unfold execSlotStart
  repeat' with_reducible first | exact concludes_done _ _ | apply concludes_ite | extract_lets | split

theorem execPreparationWindowOpen_concludes (prepUs : Nat) (overrun : Bool) (bad : List Nat) (s : State) : Concludes s (execPreparationWindowOpen prepUs overrun bad s) := by
  unfold execPreparationWindowOpen
  repeat' with_reducible first | exact concludes_done _ _ | apply concludes_ite | extract_lets | split

theorem execEaselOverrunLimit_concludes (s : State) : Concludes s (execEaselOverrunLimit s) := by
  unfold execEaselOverrunLimit
  repeat' with_reducible first | exact concludes_done _ _ | apply concludes_ite | extract_lets | split

theorem execReceiveWindowOpen_concludes (i : Nat) (s : State) : Concludes s (execReceiveWindowOpen i s) := by
  unfold execReceiveWindowOpen
  repeat' with_reducible first | exact concludes_done _ _ | apply concludes_ite | extract_lets | split

theorem execPreambleDetect_concludes (i : Nat) (seen : PreambleSeen) (powers : List (Int × Int)) (s : State) : Concludes s (execPreambleDetect i seen powers s) := by
  unfold execPreambleDetect
  repeat' with_reducible first | exact concludes_done _ _ | apply concludes_ite | extract_lets | split

theorem execAerialHoldEnd_concludes (i : Nat) (hold : HoldSeen) (powers : List (Int × Int)) (s : State) : Concludes s (execAerialHoldEnd i hold powers s) := by
  unfold execAerialHoldEnd
  repeat' with_reducible first | exact concludes_done _ _ | apply concludes_ite | extract_lets | split

theorem execSfdFound_concludes (i bits : Nat) (oqpskOk : Bool) (offsetNs : Nat) (powers : List (Int × Int)) (s : State) : Concludes s (execSfdFound i bits oqpskOk offsetNs powers s) := by
  unfold execSfdFound
  repeat' with_reducible first | exact concludes_done _ _ | apply concludes_ite | extract_lets | split

theorem execHuntSpanEnd_concludes (hunt : HuntSeen) (s : State) : Concludes s (execHuntSpanEnd hunt s) := by
  unfold execHuntSpanEnd
  repeat' with_reducible first | exact concludes_done _ _ | apply concludes_ite | extract_lets | split

theorem execPhrDecoded_concludes (i len : Nat) (modeSwitch fcs2 : Bool) (soft : SoftSeen) (s : State) : Concludes s (execPhrDecoded i len modeSwitch fcs2 soft s) := by
  unfold execPhrDecoded
  repeat' with_reducible first | exact concludes_done _ _ | apply concludes_ite | extract_lets | split

theorem execFadeAbandon_concludes (i : Nat) (powers : List Int) (soft : SoftSeen) (s : State) : Concludes s (execFadeAbandon i powers soft s) := by
  unfold execFadeAbandon
  repeat' with_reducible first | exact concludes_done _ _ | apply concludes_ite | extract_lets | split

theorem execWatchTakeover_concludes (i : Nat) (w : WatchSeen) (bits offsetNs : Nat) (powers : List (Int × Int)) (s : State) : Concludes s (execWatchTakeover i w bits offsetNs powers s) := by
  unfold execWatchTakeover
  repeat' with_reducible first | exact concludes_done _ _ | apply concludes_ite | extract_lets | split

theorem execFrameEnd_concludes (i : Nat) (r : Reception) (s : State) : Concludes s (execFrameEnd i r s) := by
  unfold execFrameEnd
  repeat' with_reducible first | exact concludes_done _ _ | apply concludes_ite | extract_lets | split

theorem execReceiveWindowClose_concludes (i : Nat) (s : State) : Concludes s (execReceiveWindowClose i s) := by
  unfold execReceiveWindowClose
  repeat' with_reducible first | exact concludes_done _ _ | apply concludes_ite | extract_lets | split

theorem execEngineSelfTestComplete_concludes (i : Nat) (pass : Bool) (s : State) : Concludes s (execEngineSelfTestComplete i pass s) := by
  unfold execEngineSelfTestComplete
  repeat' with_reducible first | exact concludes_done _ _ | apply concludes_ite | extract_lets | split

theorem execEngineInternalFault_concludes (i : Nat) (s : State) : Concludes s (execEngineInternalFault i s) := by
  unfold execEngineInternalFault
  repeat' with_reducible first | exact concludes_done _ _ | apply concludes_ite | extract_lets | split

theorem execMeasurementBlockEnd_concludes (p : Nat) (peak : Int) (clipped : Bool) (block : BlockSeen) (s : State) : Concludes s (execMeasurementBlockEnd p peak clipped block s) := by
  unfold execMeasurementBlockEnd
  repeat' with_reducible first | exact concludes_done _ _ | apply concludes_ite | extract_lets | split

theorem execCarrierRampStart_concludes (idx : Nat) (s : State) : Concludes s (execCarrierRampStart idx s) := by
  unfold execCarrierRampStart
  repeat' with_reducible first | exact concludes_done _ _ | apply concludes_ite | extract_lets | split

theorem execBurstEnd_concludes (idx : Nat) (s : State) : Concludes s (execBurstEnd idx s) := by
  unfold execBurstEnd
  repeat' with_reducible first | exact concludes_done _ _ | apply concludes_ite | extract_lets | split

theorem execSynthLockLoss_concludes (y : Nat) (s : State) : Concludes s (execSynthLockLoss y s) := by
  unfold execSynthLockLoss
  repeat' with_reducible first | exact concludes_done _ _ | apply concludes_ite | extract_lets | split

theorem execSynthRelockAttemptEnd_concludes (y : Nat) (locked : Bool) (s : State) : Concludes s (execSynthRelockAttemptEnd y locked s) := by
  unfold execSynthRelockAttemptEnd
  repeat' with_reducible first | exact concludes_done _ _ | apply concludes_ite | extract_lets | split

theorem execCalItemComplete_concludes (item path : Nat) (seen : ItemSeen) (s : State) : Concludes s (execCalItemComplete item path seen s) := by
  unfold execCalItemComplete
  repeat' with_reducible first | exact concludes_done _ _ | apply concludes_ite | extract_lets | split

theorem execDpdUpdate_concludes (k : Nat) (err : Int) (re im : List Int) (s : State) : Concludes s (execDpdUpdate k err re im s) := by
  unfold execDpdUpdate
  repeat' with_reducible first | exact concludes_done _ _ | apply concludes_ite | extract_lets | split

theorem execDwellBucketAdvance_concludes (s : State) : Concludes s (execDwellBucketAdvance s) := by
  unfold execDwellBucketAdvance
  repeat' with_reducible first | exact concludes_done _ _ | apply concludes_ite | extract_lets | split

theorem execCcmLaneFrame_concludes (lane : Nat) (s : State) : Concludes s (execCcmLaneFrame lane s) := by
  unfold execCcmLaneFrame
  repeat' with_reducible first | exact concludes_done _ _ | apply concludes_ite | extract_lets | split

theorem execWakeFollowupMissed_concludes (n : Nat) (s : State) : Concludes s (execWakeFollowupMissed n s) := by
  unfold execWakeFollowupMissed
  repeat' with_reducible first | exact concludes_done _ _ | apply concludes_ite | extract_lets | split

theorem execJoinDirectiveExpiry_concludes (n : Nat) (s : State) : Concludes s (execJoinDirectiveExpiry n s) := by
  unfold execJoinDirectiveExpiry
  repeat' with_reducible first | exact concludes_done _ _ | apply concludes_ite | extract_lets | split

theorem execNodeSupervisionExpiry_concludes (n : Nat) (s : State) : Concludes s (execNodeSupervisionExpiry n s) := by
  unfold execNodeSupervisionExpiry
  repeat' with_reducible first | exact concludes_done _ _ | apply concludes_ite | extract_lets | split

theorem execQuarantineEnd_concludes (n : Nat) (s : State) : Concludes s (execQuarantineEnd n s) := by
  unfold execQuarantineEnd
  repeat' with_reducible first | exact concludes_done _ _ | apply concludes_ite | extract_lets | split

theorem execPtpMessageTimer_concludes (port kind : Nat) (s : State) : Concludes s (execPtpMessageTimer port kind s) := by
  unfold execPtpMessageTimer
  repeat' with_reducible first | exact concludes_done _ _ | apply concludes_ite | extract_lets | split

theorem execPpsInEdge_concludes (jitter : Int) (s : State) : Concludes s (execPpsInEdge jitter s) := by
  unfold execPpsInEdge
  repeat' with_reducible first | exact concludes_done _ _ | apply concludes_ite | extract_lets | split

theorem execPpsOutSecond_concludes (s : State) : Concludes s (execPpsOutSecond s) := by
  unfold execPpsOutSecond
  repeat' with_reducible first | exact concludes_done _ _ | apply concludes_ite | extract_lets | split

theorem execSourceTimeout_concludes (s : State) : Concludes s (execSourceTimeout s) := by
  unfold execSourceTimeout
  repeat' with_reducible first | exact concludes_done _ _ | apply concludes_ite | extract_lets | split

theorem execCipherLockRead_concludes (master : Nat) (s : State) : Concludes s (execCipherLockRead master s) := by
  unfold execCipherLockRead
  repeat' with_reducible first | exact concludes_done _ _ | apply concludes_ite | extract_lets | split

theorem execCipherLockRelease_concludes (master : Nat) (s : State) : Concludes s (execCipherLockRelease master s) := by
  unfold execCipherLockRelease
  repeat' with_reducible first | exact concludes_done _ _ | apply concludes_ite | extract_lets | split

theorem execCipherLockIdleExpiry_concludes (s : State) : Concludes s (execCipherLockIdleExpiry s) := by
  unfold execCipherLockIdleExpiry
  repeat' with_reducible first | exact concludes_done _ _ | apply concludes_ite | extract_lets | split

theorem execMailboxPop_concludes (rcv snd : Nat) (s : State) : Concludes s (execMailboxPop rcv snd s) := by
  unfold execMailboxPop
  repeat' with_reducible first | exact concludes_done _ _ | apply concludes_ite | extract_lets | split

theorem execRxLevelWrite_concludes (rcv snd v : Nat) (s : State) : Concludes s (execRxLevelWrite rcv snd v s) := by
  unfold execRxLevelWrite
  repeat' with_reducible first | exact concludes_done _ _ | apply concludes_ite | extract_lets | split

theorem execDoorbellWrite_concludes (rcv : Nat) (toMask : Bool) (v : Nat) (s : State) : Concludes s (execDoorbellWrite rcv toMask v s) := by
  unfold execDoorbellWrite
  repeat' with_reducible first | exact concludes_done _ _ | apply concludes_ite | extract_lets | split

theorem execCountdownArm_concludes (master ch value : Nat) (s : State) : Concludes s (execCountdownArm master ch value s) := by
  unfold execCountdownArm
  repeat' with_reducible first | exact concludes_done _ _ | apply concludes_ite | extract_lets | split

theorem execOwClockShadowRead_concludes (master reg : Nat) (s : State) : Concludes s (execOwClockShadowRead master reg s) := by
  unfold execOwClockShadowRead
  repeat' with_reducible first | exact concludes_done _ _ | apply concludes_ite | extract_lets | split

theorem execOwShadowTimeout_concludes (master : Nat) (s : State) : Concludes s (execOwShadowTimeout master s) := by
  unfold execOwShadowTimeout
  repeat' with_reducible first | exact concludes_done _ _ | apply concludes_ite | extract_lets | split

theorem execGlazeListSend_concludes (s : State) : Concludes s (execGlazeListSend s) := by
  unfold execGlazeListSend
  repeat' with_reducible first | exact concludes_done _ _ | apply concludes_ite | extract_lets | split

/-- The end of GLAZE_LIST_DEADLINE, apart because the kernel would else evaluate the time it waits. -/
theorem listDeadline_concludes (s s1 : State) (owner sf : Nat) :
    Concludes s (have rest := s1.gla.coming.filter (fun l => !(l.peer == owner && decide (l.sf ≤ sf)))
      match s1.gla.coming.find? (fun l => l.peer == owner && l.sf == sf) with
      | some l =>
        if l.got.length = l.parts then done s (noteEpoch owner l.epoch { s1 with gla := { s1.gla with coming := rest, adopted := s1.gla.adopted ++ [l] } })
        else done s (glazeCount 13 { s1 with gla := { s1.gla with coming := rest } })
      | none => done s (glazeCount 13 { s1 with gla := { s1.gla with coming := rest } })) := by
  dsimp only
  split
  · split <;> exact concludes_done _ _
  · exact concludes_done _ _

theorem execGlazeListDeadline_concludes (owner sf : Nat) (s : State) : Concludes s (execGlazeListDeadline owner sf s) := by
  delta execGlazeListDeadline
  exact concludes_ite _ _ _ _ (concludes_done _ _) (listDeadline_concludes s _ owner sf)

theorem execGlazeReqSend_concludes (a : Nat) (s : State) : Concludes s (execGlazeReqSend a s) := by
  unfold execGlazeReqSend
  repeat' with_reducible first | exact concludes_done _ _ | apply concludes_ite | extract_lets | split

theorem execGlazeReqTimeout_concludes (partner reqSeq : Nat) (s : State) : Concludes s (execGlazeReqTimeout partner reqSeq s) := by
  unfold execGlazeReqTimeout
  repeat' with_reducible first | exact concludes_done _ _ | apply concludes_ite | extract_lets | split

theorem execGlazeRetentionExpiry_concludes (a : Nat) (s : State) : Concludes s (execGlazeRetentionExpiry a s) := by
  unfold execGlazeRetentionExpiry
  repeat' with_reducible first | exact concludes_done _ _ | apply concludes_ite | extract_lets | split

theorem execGlazeDecision_concludes (a n : Nat) (decoded : Option RxFrame) (s : State) : Concludes s (execGlazeDecision a n decoded s) := by
  unfold execGlazeDecision
  repeat' with_reducible first | exact concludes_done _ _ | apply concludes_ite | extract_lets | split

theorem execGlazeRecordDiscard_concludes (owner a : Nat) (s : State) : Concludes s (execGlazeRecordDiscard owner a s) := by
  unfold execGlazeRecordDiscard
  repeat' with_reducible first | exact concludes_done _ _ | apply concludes_ite | extract_lets | split

theorem execHelloTimer_concludes (s : State) : Concludes s (execHelloTimer s) := by
  unfold execHelloTimer
  repeat' with_reducible first | exact concludes_done _ _ | apply concludes_ite | extract_lets | split

theorem execSuspectTimeout_concludes (addr : Nat) (s : State) : Concludes s (execSuspectTimeout addr s) := by
  unfold execSuspectTimeout
  repeat' with_reducible first | exact concludes_done _ _ | apply concludes_ite | extract_lets | split

/-- ISOLATION_TIMEOUT from its time on, apart because the kernel would else evaluate that time. -/
theorem isolation_concludes (s a : State) (c : Prop) [Decidable c] (f : State → State) : Concludes s (if c then done s s else
    let s1 := a
    let s2 := { s1 with hed := { s1.hed with isolated := true } }
    done s (f s2)) := concludes_ite _ _ _ _ (concludes_done _ _) (concludes_done _ _)

theorem execIsolationTimeout_concludes (s : State) : Concludes s (execIsolationTimeout s) := by
  delta execIsolationTimeout
  exact isolation_concludes s _ _ (fun s2 => speak (if s2.hed.spare.isSome ∧ s2.hed.held ≠ [] then isolate s2 else s2))

theorem execLsaRefreshTimer_concludes (s : State) : Concludes s (execLsaRefreshTimer s) := by
  unfold execLsaRefreshTimer
  repeat' with_reducible first | exact concludes_done _ _ | apply concludes_ite | extract_lets | split

theorem execLsaAgeExpiry_concludes (origin : Nat) (s : State) : Concludes s (execLsaAgeExpiry origin s) := by
  unfold execLsaAgeExpiry
  repeat' with_reducible first | exact concludes_done _ _ | apply concludes_ite | extract_lets | split

theorem execClaimTimer_concludes (s : State) : Concludes s (execClaimTimer s) := by
  unfold execClaimTimer
  repeat' with_reducible first | exact concludes_done _ _ | apply concludes_ite | extract_lets | split

theorem execAddressListenEnd_concludes (s : State) : Concludes s (execAddressListenEnd s) := by
  unfold execAddressListenEnd
  repeat' with_reducible first | exact concludes_done _ _ | apply concludes_ite | extract_lets | split

theorem execTakeoverEffective_concludes (s : State) : Concludes s (execTakeoverEffective s) := by
  unfold execTakeoverEffective
  repeat' with_reducible first | exact concludes_done _ _ | apply concludes_ite | extract_lets | split

theorem execMirrorDeltaSend_concludes (s : State) : Concludes s (execMirrorDeltaSend s) := by
  unfold execMirrorDeltaSend
  repeat' with_reducible first | exact concludes_done _ _ | apply concludes_ite | extract_lets | split

theorem execHandoverQuiesce_concludes (s : State) : Concludes s (execHandoverQuiesce s) := by
  unfold execHandoverQuiesce
  repeat' with_reducible first | exact concludes_done _ _ | apply concludes_ite | extract_lets | split

theorem execFinalDeltaSend_concludes (s : State) : Concludes s (execFinalDeltaSend s) := by
  unfold execFinalDeltaSend
  repeat' with_reducible first | exact concludes_done _ _ | apply concludes_ite | extract_lets | split

theorem execHandoverEffective_concludes (s : State) : Concludes s (execHandoverEffective s) := by
  unfold execHandoverEffective
  repeat' with_reducible first | exact concludes_done _ _ | apply concludes_ite | extract_lets | split

theorem execShadowWaitExpiry_concludes (n : Nat) (s : State) : Concludes s (execShadowWaitExpiry n s) := by
  unfold execShadowWaitExpiry
  repeat' with_reducible first | exact concludes_done _ _ | apply concludes_ite | extract_lets | split

theorem execOdapReq_concludes (e : Env) (q : OdapReq) (op : PeerOp) (s : State) : Concludes s (execOdapReq e q op s) := by
  unfold execOdapReq
  repeat' with_reducible first | exact concludes_done _ _ | apply concludes_ite | extract_lets | split

theorem execEthFrameReceived_concludes (port : Nat) (f : EthFrame) (s : State) : Concludes s (execEthFrameReceived port f s) := by
  unfold execEthFrameReceived
  repeat' with_reducible first | exact concludes_done _ _ | apply concludes_ite | extract_lets | split

theorem execEgressSelect_concludes (port : Nat) (s : State) : Concludes s (execEgressSelect port s) := by
  unfold execEgressSelect
  repeat' with_reducible first | exact concludes_done _ _ | apply concludes_ite | extract_lets | split

theorem execTableInsert_concludes (tag flags value next : Nat) (key : Octets) (s : State) : Concludes s (execTableInsert tag flags value next key s) := by
  unfold execTableInsert
  repeat' with_reducible first | exact concludes_done _ _ | apply concludes_ite | extract_lets | split

theorem execTableDelete_concludes (tag : Nat) (key : Octets) (s : State) : Concludes s (execTableDelete tag key s) := by
  unfold execTableDelete
  repeat' with_reducible first | exact concludes_done _ _ | apply concludes_ite | extract_lets | split

theorem execScrubBucket_concludes (poisoned : Bool) (s : State) : Concludes s (execScrubBucket poisoned s) := by
  unfold execScrubBucket
  repeat' with_reducible first | exact concludes_done _ _ | apply concludes_ite | extract_lets | split

theorem execMainSupplyValid_concludes (s : State) : Concludes s (execMainSupplyValid s) := by
  unfold execMainSupplyValid
  repeat' with_reducible first | exact concludes_done _ _ | apply concludes_ite | extract_lets | split

theorem execUartFrameReceived_concludes (frame : Octets) (authOk overrun : Bool) (s : State) : Concludes s (execUartFrameReceived frame authOk overrun s) := by
  unfold execUartFrameReceived
  repeat' with_reducible first | exact concludes_done _ _ | apply concludes_ite | extract_lets | split

theorem execGpioWake_concludes (pin : Nat) (rising : Bool) (s : State) : Concludes s (execGpioWake pin rising s) := by
  unfold execGpioWake
  repeat' with_reducible first | exact concludes_done _ _ | apply concludes_ite | extract_lets | split

theorem execCountdownFire_concludes (ch : Nat) (s : State) : Concludes s (execCountdownFire ch s) := by
  unfold execCountdownFire
  repeat' with_reducible first | exact concludes_done _ _ | apply concludes_ite | extract_lets | split

theorem execColdBoot_concludes (a b : BankVerdict) (s : State) : Concludes s (execColdBoot a b s) := by
  unfold execColdBoot
  repeat' with_reducible first | exact concludes_done _ _ | apply concludes_ite | extract_lets | split

theorem execWarmResetAssert_concludes (a b : BankVerdict) (s : State) : Concludes s (execWarmResetAssert a b s) := by
  unfold execWarmResetAssert
  repeat' with_reducible first | exact concludes_done _ _ | apply concludes_ite | extract_lets | split

theorem execEaselRejoin_concludes (s : State) : Concludes s (execEaselRejoin s) := by
  unfold execEaselRejoin
  repeat' with_reducible first | exact concludes_done _ _ | apply concludes_ite | extract_lets | split

theorem execCanvasServiceResume_concludes (s : State) : Concludes s (execCanvasServiceResume s) := by
  unfold execCanvasServiceResume
  repeat' with_reducible first | exact concludes_done _ _ | apply concludes_ite | extract_lets | split

theorem execPowerCycle_concludes (s : State) : Concludes s (execPowerCycle s) := by
  unfold execPowerCycle
  repeat' with_reducible first | exact concludes_done _ _ | apply concludes_ite | extract_lets | split

theorem execPwrCycleFallback_concludes (s : State) : Concludes s (execPwrCycleFallback s) := by
  unfold execPwrCycleFallback
  repeat' with_reducible first | exact concludes_done _ _ | apply concludes_ite | extract_lets | split

theorem execBrownout_concludes (s : State) : Concludes s (execBrownout s) := by
  unfold execBrownout
  repeat' with_reducible first | exact concludes_done _ _ | apply concludes_ite | extract_lets | split

theorem execFeedDeviationDecision_concludes (rail : Nat) (sense : List Nat) (s : State) : Concludes s (execFeedDeviationDecision rail sense s) := by
  unfold execFeedDeviationDecision
  repeat' with_reducible first | exact concludes_done _ _ | apply concludes_ite | extract_lets | split

theorem execFeedGapEnd_concludes (s : State) : Concludes s (execFeedGapEnd s) := by
  unfold execFeedGapEnd
  repeat' with_reducible first | exact concludes_done _ _ | apply concludes_ite | extract_lets | split

theorem execStandbyOutOfWindow_concludes (rail mv : Nat) (s : State) : Concludes s (execStandbyOutOfWindow rail mv s) := by
  unfold execStandbyOutOfWindow
  repeat' with_reducible first | exact concludes_done _ _ | apply concludes_ite | extract_lets | split

theorem execVbatLowCheck_concludes (mv : Nat) (s : State) : Concludes s (execVbatLowCheck mv s) := by
  unfold execVbatLowCheck
  repeat' with_reducible first | exact concludes_done _ _ | apply concludes_ite | extract_lets | split

theorem execRtcTrimCheck_concludes (s : State) : Concludes s (execRtcTrimCheck s) := by
  unfold execRtcTrimCheck
  repeat' with_reducible first | exact concludes_done _ _ | apply concludes_ite | extract_lets | split

theorem execTamperInputActive_concludes (input : Nat) (s : State) : Concludes s (execTamperInputActive input s) := by
  unfold execTamperInputActive
  repeat' with_reducible first | exact concludes_done _ _ | apply concludes_ite | extract_lets | split

theorem execSensorSample_concludes (temps : List Int) (volts currents : List Nat) (pdet : List Int) (s : State) : Concludes s (execSensorSample temps volts currents pdet s) := by
  unfold execSensorSample
  repeat' with_reducible first | exact concludes_done _ _ | apply concludes_ite | extract_lets | split

theorem execThermalTrip_concludes (sensor : Nat) (reading : Int) (s : State) : Concludes s (execThermalTrip sensor reading s) := by
  unfold execThermalTrip
  repeat' with_reducible first | exact concludes_done _ _ | apply concludes_ite | extract_lets | split

theorem execDomainExcursion_concludes (domain mv : Nat) (s : State) : Concludes s (execDomainExcursion domain mv s) := by
  unfold execDomainExcursion
  repeat' with_reducible first | exact concludes_done _ _ | apply concludes_ite | extract_lets | split

theorem execShedWatchdogExpiry_concludes (digestOk : Bool) (s : State) : Concludes s (execShedWatchdogExpiry digestOk s) := by
  unfold execShedWatchdogExpiry
  repeat' with_reducible first | exact concludes_done _ _ | apply concludes_ite | extract_lets | split

theorem execEaselWatchdogExpiry_concludes (s : State) : Concludes s (execEaselWatchdogExpiry s) := by
  unfold execEaselWatchdogExpiry
  repeat' with_reducible first | exact concludes_done _ _ | apply concludes_ite | extract_lets | split

theorem execCanvasCoreWatchdogExpiry_concludes (core : Nat) (s : State) : Concludes s (execCanvasCoreWatchdogExpiry core s) := by
  unfold execCanvasCoreWatchdogExpiry
  repeat' with_reducible first | exact concludes_done _ _ | apply concludes_ite | extract_lets | split

theorem execGessoWatchdogExpiry_concludes (s : State) : Concludes s (execGessoWatchdogExpiry s) := by
  unfold execGessoWatchdogExpiry
  repeat' with_reducible first | exact concludes_done _ _ | apply concludes_ite | extract_lets | split

theorem execOperationOverdue_concludes (fn : Nat) (s : State) : Concludes s (execOperationOverdue fn s) := by
  unfold execOperationOverdue
  repeat' with_reducible first | exact concludes_done _ _ | apply concludes_ite | extract_lets | split

theorem execStorePoisonBurst_concludes (s : State) : Concludes s (execStorePoisonBurst s) := by
  unfold execStorePoisonBurst
  repeat' with_reducible first | exact concludes_done _ _ | apply concludes_ite | extract_lets | split

theorem execL1RetryTimer_concludes (fn inst : Nat) (ok : Bool) (s : State) : Concludes s (execL1RetryTimer fn inst ok s) := by
  unfold execL1RetryTimer
  repeat' with_reducible first | exact concludes_done _ _ | apply concludes_ite | extract_lets | split

theorem execL2Complete_concludes (fn inst : Nat) (s : State) : Concludes s (execL2Complete fn inst s) := by
  unfold execL2Complete
  repeat' with_reducible first | exact concludes_done _ _ | apply concludes_ite | extract_lets | split

theorem execLogPersistTimer_concludes (s : State) : Concludes s (execLogPersistTimer s) := by
  unfold execLogPersistTimer
  repeat' with_reducible first | exact concludes_done _ _ | apply concludes_ite | extract_lets | split

theorem execLogEntryCopy_concludes (s : State) : Concludes s (execLogEntryCopy s) := by
  unfold execLogEntryCopy
  repeat' with_reducible first | exact concludes_done _ _ | apply concludes_ite | extract_lets | split

theorem execCdcStaleCapture_concludes (master addr : Nat) (fixedFunction : Bool) (s : State) : Concludes s (execCdcStaleCapture master addr fixedFunction s) := by
  unfold execCdcStaleCapture
  repeat' with_reducible first | exact concludes_done _ _ | apply concludes_ite | extract_lets | split

theorem execPcieReset_concludes (s : State) : Concludes s (execPcieReset s) := by
  unfold execPcieReset
  repeat' with_reducible first | exact concludes_done _ _ | apply concludes_ite | extract_lets | split

theorem execFlashPageFetch_concludes (part page : Nat) (ok : Bool) (s : State) : Concludes s (execFlashPageFetch part page ok s) := by
  unfold execFlashPageFetch
  repeat' with_reducible first | exact concludes_done _ _ | apply concludes_ite | extract_lets | split

theorem execPatchTrap_concludes (entry : Nat) (s : State) : Concludes s (execPatchTrap entry s) := by
  unfold execPatchTrap
  repeat' with_reducible first | exact concludes_done _ _ | apply concludes_ite | extract_lets | split

theorem execAlignedCleared_concludes (s : State) : Concludes s (execAlignedCleared s) := by
  unfold execAlignedCleared
  repeat' with_reducible first | exact concludes_done _ _ | apply concludes_ite | extract_lets | split

theorem execPcieLinkUp_concludes (gen width : Nat) (s : State) : Concludes s (execPcieLinkUp gen width s) := by
  unfold execPcieLinkUp
  repeat' with_reducible first | exact concludes_done _ _ | apply concludes_ite | extract_lets | split

theorem execDigestRingAdvance_concludes (s : State) : Concludes s (execDigestRingAdvance s) := by
  unfold execDigestRingAdvance
  repeat' with_reducible first | exact concludes_done _ _ | apply concludes_ite | extract_lets | split

theorem execGateEntryBoundary_concludes (port : Nat) (s : State) : Concludes s (execGateEntryBoundary port s) := by
  unfold execGateEntryBoundary
  repeat' with_reducible first | exact concludes_done _ _ | apply concludes_ite | extract_lets | split

theorem execShaperTokensRefilled_concludes (port cls : Nat) (s : State) : Concludes s (execShaperTokensRefilled port cls s) := by
  unfold execShaperTokensRefilled
  repeat' with_reducible first | exact concludes_done _ _ | apply concludes_ite | extract_lets | split

theorem execDlQueueFromCanvas_concludes (node : Option Nat) (payload : Octets) (yellow : Bool) (s : State) : Concludes s (execDlQueueFromCanvas node payload yellow s) := by
  unfold execDlQueueFromCanvas
  repeat' with_reducible first | exact concludes_done _ _ | apply concludes_ite | extract_lets | split

/-- Every command answers a next state that concludes its effect. -/
theorem exec_concludes (i : Instr) (s : State) : Concludes s (exec i s) := by
  cases i with
  | read q a => exact ⟨_, rfl⟩
  | write q a ty v => exact ⟨_, rfl⟩
  | blockStart q a dir size => exact ⟨_, rfl⟩
  | blockSeg q block seg data => exact ⟨_, rfl⟩
  | blockEnd q block authOk => exact ⟨_, rfl⟩
  | blockAbort q block => exact ⟨_, rfl⟩
  | txnBegin q => exact ⟨_, rfl⟩
  | txnCommit q authOk => exact ⟨_, rfl⟩
  | txnAbort q => exact ⟨_, rfl⟩
  | subscribe q kind periodMs minGapMs evtLo evtHi a => exact ⟨_, rfl⟩
  | unsubscribe q sub => exact ⟨_, rfl⟩
  | notifyAck q sub seq => exact ⟨_, rfl⟩
  | odapRuntMessage session len => exact ⟨_, rfl⟩
  | dtlsHandshake hello => exact execDtlsHandshake_concludes hello s
  | subscriptionPeriodTimer sub => exact execSubscriptionPeriodTimer_concludes sub s
  | subscriptionGapExpiry sub => exact execSubscriptionGapExpiry_concludes sub s
  | notifyRetransmitTimer sub => exact execNotifyRetransmitTimer_concludes sub s
  | sessionIdleExpiry session => exact execSessionIdleExpiry_concludes session s
  | txnIdleExpiry txn => exact execTxnIdleExpiry_concludes txn s
  | blockIdleExpiry session block => exact execBlockIdleExpiry_concludes session block s
  | replayCacheExpiry session rid => exact execReplayCacheExpiry_concludes session rid s
  | modeRequestWrite q target => exact ⟨_, rfl⟩
  | modeChangeCancel q => exact ⟨_, rfl⟩
  | modeChangeEffective => exact execModeChangeEffective_concludes s
  | modeChangeAbandon => exact execModeChangeAbandon_concludes s
  | endOfServiceComplete => exact execEndOfServiceComplete_concludes s
  | m1PowerDown => exact execM1PowerDown_concludes s
  | rebootWrite q value => exact ⟨_, rfl⟩
  | rebootAssert => exact execRebootAssert_concludes s
  | stepApplyRequest q => exact ⟨_, rfl⟩
  | stepApplyAbort q => exact ⟨_, rfl⟩
  | clockStepApply => exact execClockStepApply_concludes s
  | timeSetWrite q seconds => exact ⟨_, rfl⟩
  | timeSourceWrite q source => exact ⟨_, rfl⟩
  | asnEpochWrite q epoch => exact ⟨_, rfl⟩
  | chMapWrite q pan map => exact ⟨_, rfl⟩
  | mapChangeEffective pan => exact execMapChangeEffective_concludes pan s
  | nodeRegWrite q row reg => exact ⟨_, rfl⟩
  | nodeDeregister q row => exact ⟨_, rfl⟩
  | nodeRejoinWrite q node => exact ⟨_, rfl⟩
  | keyDestroyWrite q handle => exact ⟨_, rfl⟩
  | fwActivateMark q => exact ⟨_, rfl⟩
  | fwActivateReset q => exact ⟨_, rfl⟩
  | fwActivateCancel q => exact ⟨_, rfl⟩
  | fwConfirm q => exact ⟨_, rfl⟩
  | fwReject q => exact ⟨_, rfl⟩
  | fwTrialTimer => exact execFwTrialTimer_concludes s
  | attestChallengeWrite q challenge => exact ⟨_, rfl⟩
  | calibRequestWrite q item target => exact ⟨_, rfl⟩
  | calibRequestForce q item target => exact ⟨_, rfl⟩
  | calibCancelWrite q row => exact ⟨_, rfl⟩
  | recoverRequestWrite q fn inst step => exact ⟨_, rfl⟩
  | recoverRequestAssert => exact execRecoverRequestAssert_concludes s
  | recoveryReleaseWrite q => exact ⟨_, rfl⟩
  | feedSwitchWrite q train => exact ⟨_, rfl⟩
  | feedClearWrite q train => exact ⟨_, rfl⟩
  | tamperCfgWrite q input cfg => exact ⟨_, rfl⟩
  | tamperClearWrite q => exact ⟨_, rfl⟩
  | hrHandoverWrite q region => exact ⟨_, rfl⟩
  | hrHandoverCancel q => exact ⟨_, rfl⟩
  | captureCfgWrite q cfg => exact ⟨_, rfl⟩
  | captureStart => exact execCaptureStart_concludes s
  | captureStop => exact execCaptureStop_concludes s
  | sgCentreWrite q tx hz => exact ⟨_, rfl⟩
  | gateListSwitch port => exact execGateListSwitch_concludes port s
  | dlProfileWrite q row rec => exact ⟨_, rfl⟩
  | nodeDlProfileWrite q node profile => exact ⟨_, rfl⟩
  | meterWrite q row rec => exact ⟨_, rfl⟩
  | shaperWrite q row rec => exact ⟨_, rfl⟩
  | dwellRuleWrite q row rec => exact ⟨_, rfl⟩
  | staticTableWrite q ip6 row rec => exact ⟨_, rfl⟩
  | slotStart => exact execSlotStart_concludes s
  | preparationWindowOpen prepUs overrun bad => exact execPreparationWindowOpen_concludes prepUs overrun bad s
  | easelOverrunLimit => exact execEaselOverrunLimit_concludes s
  | receiveWindowOpen eng => exact execReceiveWindowOpen_concludes eng s
  | preambleDetect eng seen powers => exact execPreambleDetect_concludes eng seen powers s
  | aerialHoldEnd eng hold powers => exact execAerialHoldEnd_concludes eng hold powers s
  | sfdFound eng bits oqpskOk offsetNs powers => exact execSfdFound_concludes eng bits oqpskOk offsetNs powers s
  | huntSpanEnd hunt => exact execHuntSpanEnd_concludes hunt s
  | phrDecoded eng len modeSwitch fcs2 soft => exact execPhrDecoded_concludes eng len modeSwitch fcs2 soft s
  | fadeAbandon eng powers soft => exact execFadeAbandon_concludes eng powers soft s
  | watchTakeover eng w bits offsetNs powers => exact execWatchTakeover_concludes eng w bits offsetNs powers s
  | frameEnd eng r => exact execFrameEnd_concludes eng r s
  | receiveWindowClose eng => exact execReceiveWindowClose_concludes eng s
  | engineSelfTestComplete eng pass => exact execEngineSelfTestComplete_concludes eng pass s
  | engineInternalFault eng => exact execEngineInternalFault_concludes eng s
  | measurementBlockEnd path peak clipped block => exact execMeasurementBlockEnd_concludes path peak clipped block s
  | carrierRampStart idx => exact execCarrierRampStart_concludes idx s
  | burstEnd idx => exact execBurstEnd_concludes idx s
  | synthLockLoss syn => exact execSynthLockLoss_concludes syn s
  | synthRelockAttemptEnd syn locked => exact execSynthRelockAttemptEnd_concludes syn locked s
  | calItemComplete item path seen => exact execCalItemComplete_concludes item path seen s
  | dpdUpdate set err re im => exact execDpdUpdate_concludes set err re im s
  | dwellBucketAdvance => exact execDwellBucketAdvance_concludes s
  | ccmLaneFrame lane => exact execCcmLaneFrame_concludes lane s
  | uplinkRelease node => exact ⟨_, rfl⟩
  | wakeFollowupMissed node => exact execWakeFollowupMissed_concludes node s
  | joinDirectiveExpiry node => exact execJoinDirectiveExpiry_concludes node s
  | nodeSupervisionExpiry node => exact execNodeSupervisionExpiry_concludes node s
  | quarantineEnd node => exact execQuarantineEnd_concludes node s
  | sync m => exact ⟨_, rfl⟩
  | followUp m => exact ⟨_, rfl⟩
  | delayReq m => exact ⟨_, rfl⟩
  | delayResp m => exact ⟨_, rfl⟩
  | announce m => exact ⟨_, rfl⟩
  | pdelayReq m => exact ⟨_, rfl⟩
  | pdelayResp m => exact ⟨_, rfl⟩
  | pdelayRespFollowUp m => exact ⟨_, rfl⟩
  | ptpMessageTimer port kind => exact execPtpMessageTimer_concludes port kind s
  | announceReceiptTimeout port => exact ⟨_, rfl⟩
  | ppsInEdge jitter => exact execPpsInEdge_concludes jitter s
  | ppsOutSecond => exact execPpsOutSecond_concludes s
  | sourceTimeout => exact execSourceTimeout_concludes s
  | registerWriteGeneric master addr value => exact ⟨_, rfl⟩
  | cipherLockRead master => exact execCipherLockRead_concludes master s
  | cipherLockRelease master => exact execCipherLockRelease_concludes master s
  | cipherKeyWrite master handle => exact ⟨_, rfl⟩
  | cipherCmdStart master cmd => exact ⟨_, rfl⟩
  | cipherCmdAbort master => exact ⟨_, rfl⟩
  | cipherCommandComplete authOk => exact ⟨_, rfl⟩
  | cipherLockIdleExpiry => exact execCipherLockIdleExpiry_concludes s
  | mailboxPush snd rcv wide value => exact ⟨_, rfl⟩
  | mailboxPushEnd snd rcv wide value => exact ⟨_, rfl⟩
  | dbRingWrite snd rcv value => exact ⟨_, rfl⟩
  | mailboxPop rcv snd => exact execMailboxPop_concludes rcv snd s
  | rxLevelWrite rcv snd value => exact execRxLevelWrite_concludes rcv snd value s
  | doorbellWrite rcv toMask value => exact execDoorbellWrite_concludes rcv toMask value s
  | owSetWrite master => exact ⟨_, rfl⟩
  | owTrimWrite master value => exact ⟨_, rfl⟩
  | owFeedWrite master value => exact ⟨_, rfl⟩
  | makeSealWrite master => exact ⟨_, rfl⟩
  | kekNonceWrite master nonce => exact ⟨_, rfl⟩
  | countdownArm master ch value => exact execCountdownArm_concludes master ch value s
  | owClockShadowRead master reg => exact execOwClockShadowRead_concludes master reg s
  | owShadowTimeout master => exact execOwShadowTimeout_concludes master s
  | gessoKeyOp g tagOk => exact ⟨_, rfl⟩
  | gessoLaneBind g pan => exact ⟨_, rfl⟩
  | gessoKeyProvision g toNode row tagOk => exact ⟨_, rfl⟩
  | gessoSign g pre fits => exact ⟨_, rfl⟩
  | gessoAttest g => exact ⟨_, rfl⟩
  | gessoLifeCycle g sigOk => exact ⟨_, rfl⟩
  | gessoFwControl g op => exact ⟨_, rfl⟩
  | glazeListSend => exact execGlazeListSend_concludes s
  | glazeList e p => exact ⟨_, rfl⟩
  | glazeListDeadline owner sf => exact execGlazeListDeadline_concludes owner sf s
  | glazeFrame e f => exact ⟨_, rfl⟩
  | glazeReqSend asn => exact execGlazeReqSend_concludes asn s
  | glazeReq e asn reqSeq entries => exact ⟨_, rfl⟩
  | glazeAns e asn reqSeq entry kind seg nseg data rx => exact ⟨_, rfl⟩
  | glazeReqTimeout partner reqSeq => exact execGlazeReqTimeout_concludes partner reqSeq s
  | glazeRetentionExpiry asn => exact execGlazeRetentionExpiry_concludes asn s
  | glazeDecision asn node decoded => exact execGlazeDecision_concludes asn node decoded s
  | glazeRecordDiscard owner asn => exact execGlazeRecordDiscard_concludes owner asn s
  | heartbeat e b => exact ⟨_, rfl⟩
  | helloTimer => exact execHelloTimer_concludes s
  | suspectTimeout addr => exact execSuspectTimeout_concludes addr s
  | isolationTimeout => exact execIsolationTimeout_concludes s
  | lsa e b => exact ⟨_, rfl⟩
  | lsaRefreshTimer => exact execLsaRefreshTimer_concludes s
  | lsaAgeExpiry origin => exact execLsaAgeExpiry_concludes origin s
  | claim e addr epoch => exact ⟨_, rfl⟩
  | defend e addr epoch mode serial => exact ⟨_, rfl⟩
  | claimTimer => exact execClaimTimer_concludes s
  | addressListenEnd => exact execAddressListenEnd_concludes s
  | dead e addr epoch => exact ⟨_, rfl⟩
  | takeover e b => exact ⟨_, rfl⟩
  | fence e region epoch holder => exact ⟨_, rfl⟩
  | handover e b => exact ⟨_, rfl⟩
  | takeoverEffective => exact execTakeoverEffective_concludes s
  | mirrorSnapshot e seg nseg data sigOk => exact ⟨_, rfl⟩
  | mirrorDelta e b => exact ⟨_, rfl⟩
  | mirrorAck e region status digest => exact ⟨_, rfl⟩
  | mirrorDeltaSend => exact execMirrorDeltaSend_concludes s
  | handoverQuiesce => exact execHandoverQuiesce_concludes s
  | finalDeltaSend => exact execFinalDeltaSend_concludes s
  | handoverEffective => exact execHandoverEffective_concludes s
  | shadowWaitExpiry node => exact execShadowWaitExpiry_concludes node s
  | odapReq e q op => exact execOdapReq_concludes e q op s
  | odapRsp e rid status body => exact ⟨_, rfl⟩
  | ethFrameReceived port f => exact execEthFrameReceived_concludes port f s
  | egressSelect port => exact execEgressSelect_concludes port s
  | ethLinkChange port up speed => exact ⟨_, rfl⟩
  | tableInsert tag flags value next key => exact execTableInsert_concludes tag flags value next key s
  | tableDelete tag key => exact execTableDelete_concludes tag key s
  | tableLookup tag key bad => exact ⟨_, rfl⟩
  | scrubBucket poisoned => exact execScrubBucket_concludes poisoned s
  | mainSupplyValid => exact execMainSupplyValid_concludes s
  | uartFrameReceived frame authOk overrun => exact execUartFrameReceived_concludes frame authOk overrun s
  | gpioWake pin rising => exact execGpioWake_concludes pin rising s
  | countdownFire ch => exact execCountdownFire_concludes ch s
  | coldBoot a b => exact execColdBoot_concludes a b s
  | warmResetAssert a b => exact execWarmResetAssert_concludes a b s
  | easelRejoin => exact execEaselRejoin_concludes s
  | canvasServiceResume => exact execCanvasServiceResume_concludes s
  | powerCycle => exact execPowerCycle_concludes s
  | pwrCycleFallback => exact execPwrCycleFallback_concludes s
  | brownout => exact execBrownout_concludes s
  | feedDeviationDecision rail sense => exact execFeedDeviationDecision_concludes rail sense s
  | feedGapEnd => exact execFeedGapEnd_concludes s
  | standbyOutOfWindow rail mv => exact execStandbyOutOfWindow_concludes rail mv s
  | owSupplyChange toVbat => exact ⟨_, rfl⟩
  | sealBreak => exact ⟨_, rfl⟩
  | vbatLowCheck mv => exact execVbatLowCheck_concludes mv s
  | rtcTrimCheck => exact execRtcTrimCheck_concludes s
  | tamperInputActive input => exact execTamperInputActive_concludes input s
  | sensorSample temps volts currents pdet => exact execSensorSample_concludes temps volts currents pdet s
  | thermalTrip sensor reading => exact execThermalTrip_concludes sensor reading s
  | domainExcursion domain mv => exact execDomainExcursion_concludes domain mv s
  | shedWatchdogExpiry digestOk => exact execShedWatchdogExpiry_concludes digestOk s
  | easelWatchdogExpiry => exact execEaselWatchdogExpiry_concludes s
  | canvasCoreWatchdogExpiry core => exact execCanvasCoreWatchdogExpiry_concludes core s
  | gessoWatchdogExpiry => exact execGessoWatchdogExpiry_concludes s
  | operationOverdue fn => exact execOperationOverdue_concludes fn s
  | storePoisonBurst => exact execStorePoisonBurst_concludes s
  | l1RetryTimer fn inst ok => exact execL1RetryTimer_concludes fn inst ok s
  | l2Complete fn inst => exact execL2Complete_concludes fn inst s
  | logPersistTimer => exact execLogPersistTimer_concludes s
  | logEntryCopy => exact execLogEntryCopy_concludes s
  | cdcStaleCapture master addr fixedFunction => exact execCdcStaleCapture_concludes master addr fixedFunction s
  | pcieReset => exact execPcieReset_concludes s
  | flashPageFetch part page ok => exact execFlashPageFetch_concludes part page ok s
  | patchTrap entry => exact execPatchTrap_concludes entry s
  | alignedCleared => exact execAlignedCleared_concludes s
  | tamperInputRelease input => exact ⟨_, rfl⟩
  | pcieLinkUp gen width => exact execPcieLinkUp_concludes gen width s
  | digestRingAdvance => exact execDigestRingAdvance_concludes s
  | gateEntryBoundary port => exact execGateEntryBoundary_concludes port s
  | shaperTokensRefilled port cls => exact execShaperTokensRefilled_concludes port cls s
  | dlQueueFromCanvas node payload yellow => exact execDlQueueFromCanvas_concludes node payload yellow s

end Sys2Proof.Machine
end

