-- ==== Sys2Proof/Laws/Frames.lean ====
section
/-!
SUPPORT. A part of the state that an effect leaves alone, the command leaves alone: serving the subscriptions, burning the fuses and handing
frames to the backhaul touch none of them.
-/

namespace Sys2Proof.Machine

variable {s t : State}

/-- Burning the fuses a chip already has changes nothing. -/
theorem burn_self (c : Chip) : burn c c = c := by
  have h : c.svn.mapIdx (fun i x => max x (c.svn.getD i 0)) = c.svn := by
    apply List.ext_getElem?
    intro i
    rw [List.getElem?_mapIdx, List.getD_eq_getElem?_getD]
    cases c.svn[i]? <;> simp
  have h2 : c.lcFuses.mapIdx (fun i x => (x.1 || (c.lcFuses.getD i (false, false)).1, x.2 || (c.lcFuses.getD i (false, false)).2)) =
      c.lcFuses := by
    apply List.ext_getElem?
    intro i
    rw [List.getElem?_mapIdx, List.getD_eq_getElem?_getD]
    cases c.lcFuses[i]? <;> simp
  simp only [burn, Nat.or_self, h, h2]

/-- What serving the subscriptions leaves of the server. -/
theorem conclude_server (s t : State) :
    { (conclude s t).srv with subs := [], outbox := [], peerNotes := [] } = { t.srv with subs := [], outbox := [], peerNotes := [] } := by
  unfold conclude toUart toBackhaul; dsimp only; unfold observeAll; split <;> rfl

/-- An effect that leaves a part alone makes a command that does. -/
theorem Part.same_conclude (p : Part) (h : p.same s t) : p.same s (conclude s t) := by
  cases p <;> simp only [Part.same, conclude_chip, conclude_ctl, conclude_clk, conclude_rf, conclude_pal, conclude_pri, conclude_nod,
    conclude_eas, conclude_gla, conclude_tre, conclude_rid, conclude_hed, conclude_sec, conclude_fw, conclude_shd, conclude_host,
    conclude_pwr, conclude_od, conclude_mem, conclude_free] at h ⊢ <;> try exact h
  · rw [h, burn_self]
  · exact (conclude_server s t).trans h

/-- What a command changes is at most what its effect changes. -/
theorem onlyChanges_conclude {ps : List Part} (h : ∀ p, p ∉ ps → p.same s t) : OnlyChanges ps s (conclude s t) :=
  ⟨rfl, fun p hp => p.same_conclude (h p hp)⟩

/-- What an effect sends, the command sends. -/
theorem mem_conclude_out {o : Output} (h : o ∈ t.out) : o ∈ (conclude s t).out := by
  obtain ⟨l, hl⟩ := conclude_out_prefix s t
  rw [hl]; exact List.mem_append_left _ h

end Sys2Proof.Machine
end

