-- ==== Sys2Proof/Laws/Octets.lean ====
section
/-!
SUPPORT. Big-endian octets and the lists the state keeps by number: what a read gives after a write.
-/

namespace Sys2Proof.Machine

theorem beNat_append (a : Octets) (b : BitVec 8) : beNat (a ++ [b]) = beNat a * 256 + b.toNat := by simp [beNat]

@[simp] theorem beOct_length (n x : Nat) : (beOct n x).length = n := by
  induction n generalizing x with
  | zero => rfl
  | succ n ih => simp [beOct, ih]

/-- Reading back `n` octets of a number gives it, cut to their width. -/
theorem beNat_beOct (n x : Nat) : beNat (beOct n x) = x % 256 ^ n := by
  induction n generalizing x with
  | zero => simp [beOct, beNat, Nat.mod_one]
  | succ n ih =>
    rw [beOct, beNat_append, ih]
    simp [Nat.pow_succ]
    rw [Nat.mul_comm (256 ^ n), Nat.mod_mul]
    omega

theorem getElem?_modAt {α : Type} (f : α → α) (l : List α) (n k : Nat) :
    (modAt f l n)[k]? = if k = n then (l[k]?).map f else l[k]? := by
  induction l generalizing n k with
  | nil => simp [modAt]
  | cons x l ih =>
    cases n with
    | zero => cases k <;> simp [modAt]
    | succ n => cases k with
      | zero => simp [modAt]
      | succ k => simp [modAt, ih]

theorem getElem?_setAt {α : Type} (l : List α) (n k : Nat) (v : α) :
    (setAt l n v)[k]? = if k = n then (l[k]?).map (fun _ => v) else l[k]? := by
  induction l generalizing n k with
  | nil => simp [setAt]
  | cons x l ih =>
    cases n with
    | zero => cases k <;> simp [setAt]
    | succ n => cases k with
      | zero => simp [setAt]
      | succ k => simp [setAt, ih]

end Sys2Proof.Machine
end

