-- ==== Sys2Proof/Laws/PerInstr.lean ====
section
/-!
SUPPORT. One lemma for each command on the command as syntax: no word of the table spells it, for the table gives its rows no bits.
-/

namespace Sys2Proof.Laws.Cmd

/-- The command table gives this command no word. -/
def Statement (i : Instr) : Prop := ∀ nbits w : Nat, decodeTableWord nbits w ≠ some i

theorem read (q : OdapReq) (a : Addr) : Statement (.read q a) := fun _ _ h => by cases h
theorem write (q : OdapReq) (a : Addr) (ty : Nat) (v : Octets) : Statement (.write q a ty v) := fun _ _ h => by cases h
theorem blockStart (q : OdapReq) (a : Addr) (dir size : Nat) : Statement (.blockStart q a dir size) := fun _ _ h => by cases h
theorem blockSeg (q : OdapReq) (block seg : Nat) (data : Octets) : Statement (.blockSeg q block seg data) := fun _ _ h => by cases h
theorem blockEnd (q : OdapReq) (block : Nat) (authOk : Bool) : Statement (.blockEnd q block authOk) := fun _ _ h => by cases h
theorem blockAbort (q : OdapReq) (block : Nat) : Statement (.blockAbort q block) := fun _ _ h => by cases h
theorem txnBegin (q : OdapReq) : Statement (.txnBegin q) := fun _ _ h => by cases h
theorem txnCommit (q : OdapReq) (authOk : Bool) : Statement (.txnCommit q authOk) := fun _ _ h => by cases h
theorem txnAbort (q : OdapReq) : Statement (.txnAbort q) := fun _ _ h => by cases h
theorem subscribe (q : OdapReq) (kind periodMs minGapMs evtLo evtHi : Nat) (a : Addr) : Statement (.subscribe q kind periodMs minGapMs evtLo evtHi a) := fun _ _ h => by cases h
theorem unsubscribe (q : OdapReq) (sub : Nat) : Statement (.unsubscribe q sub) := fun _ _ h => by cases h
theorem notifyAck (q : OdapReq) (sub seq : Nat) : Statement (.notifyAck q sub seq) := fun _ _ h => by cases h
theorem odapRuntMessage (session len : Nat) : Statement (.odapRuntMessage session len) := fun _ _ h => by cases h
theorem dtlsHandshake (hello : ClientHello) : Statement (.dtlsHandshake hello) := fun _ _ h => by cases h
theorem subscriptionPeriodTimer (sub : Nat) : Statement (.subscriptionPeriodTimer sub) := fun _ _ h => by cases h
theorem subscriptionGapExpiry (sub : Nat) : Statement (.subscriptionGapExpiry sub) := fun _ _ h => by cases h
theorem notifyRetransmitTimer (sub : Nat) : Statement (.notifyRetransmitTimer sub) := fun _ _ h => by cases h
theorem sessionIdleExpiry (session : Nat) : Statement (.sessionIdleExpiry session) := fun _ _ h => by cases h
theorem txnIdleExpiry (txn : Nat) : Statement (.txnIdleExpiry txn) := fun _ _ h => by cases h
theorem blockIdleExpiry (session block : Nat) : Statement (.blockIdleExpiry session block) := fun _ _ h => by cases h
theorem replayCacheExpiry (session rid : Nat) : Statement (.replayCacheExpiry session rid) := fun _ _ h => by cases h
theorem modeRequestWrite (q : OdapReq) (target : Nat) : Statement (.modeRequestWrite q target) := fun _ _ h => by cases h
theorem modeChangeCancel (q : OdapReq) : Statement (.modeChangeCancel q) := fun _ _ h => by cases h
theorem modeChangeEffective : Statement .modeChangeEffective := fun _ _ h => by cases h
theorem modeChangeAbandon : Statement .modeChangeAbandon := fun _ _ h => by cases h
theorem endOfServiceComplete : Statement .endOfServiceComplete := fun _ _ h => by cases h
theorem m1PowerDown : Statement .m1PowerDown := fun _ _ h => by cases h
theorem rebootWrite (q : OdapReq) (value : Nat) : Statement (.rebootWrite q value) := fun _ _ h => by cases h
theorem rebootAssert : Statement .rebootAssert := fun _ _ h => by cases h
theorem stepApplyRequest (q : OdapReq) : Statement (.stepApplyRequest q) := fun _ _ h => by cases h
theorem stepApplyAbort (q : OdapReq) : Statement (.stepApplyAbort q) := fun _ _ h => by cases h
theorem clockStepApply : Statement .clockStepApply := fun _ _ h => by cases h
theorem timeSetWrite (q : OdapReq) (seconds : Nat) : Statement (.timeSetWrite q seconds) := fun _ _ h => by cases h
theorem timeSourceWrite (q : OdapReq) (source : Nat) : Statement (.timeSourceWrite q source) := fun _ _ h => by cases h
theorem asnEpochWrite (q : OdapReq) (epoch : Epoch) : Statement (.asnEpochWrite q epoch) := fun _ _ h => by cases h
theorem chMapWrite (q : OdapReq) (pan : Nat) (map : Octets) : Statement (.chMapWrite q pan map) := fun _ _ h => by cases h
theorem mapChangeEffective (pan : Nat) : Statement (.mapChangeEffective pan) := fun _ _ h => by cases h
theorem nodeRegWrite (q : OdapReq) (row : Nat) (reg : Octets) : Statement (.nodeRegWrite q row reg) := fun _ _ h => by cases h
theorem nodeDeregister (q : OdapReq) (row : Nat) : Statement (.nodeDeregister q row) := fun _ _ h => by cases h
theorem nodeRejoinWrite (q : OdapReq) (node : Nat) : Statement (.nodeRejoinWrite q node) := fun _ _ h => by cases h
theorem keyDestroyWrite (q : OdapReq) (handle : Nat) : Statement (.keyDestroyWrite q handle) := fun _ _ h => by cases h
theorem fwActivateMark (q : OdapReq) : Statement (.fwActivateMark q) := fun _ _ h => by cases h
theorem fwActivateReset (q : OdapReq) : Statement (.fwActivateReset q) := fun _ _ h => by cases h
theorem fwActivateCancel (q : OdapReq) : Statement (.fwActivateCancel q) := fun _ _ h => by cases h
theorem fwConfirm (q : OdapReq) : Statement (.fwConfirm q) := fun _ _ h => by cases h
theorem fwReject (q : OdapReq) : Statement (.fwReject q) := fun _ _ h => by cases h
theorem fwTrialTimer : Statement .fwTrialTimer := fun _ _ h => by cases h
theorem attestChallengeWrite (q : OdapReq) (challenge : Octets) : Statement (.attestChallengeWrite q challenge) := fun _ _ h => by cases h
theorem calibRequestWrite (q : OdapReq) (item target : Nat) : Statement (.calibRequestWrite q item target) := fun _ _ h => by cases h
theorem calibRequestForce (q : OdapReq) (item target : Nat) : Statement (.calibRequestForce q item target) := fun _ _ h => by cases h
theorem calibCancelWrite (q : OdapReq) (row : Nat) : Statement (.calibCancelWrite q row) := fun _ _ h => by cases h
theorem recoverRequestWrite (q : OdapReq) (fn inst step : Nat) : Statement (.recoverRequestWrite q fn inst step) := fun _ _ h => by cases h
theorem recoverRequestAssert : Statement .recoverRequestAssert := fun _ _ h => by cases h
theorem recoveryReleaseWrite (q : OdapReq) : Statement (.recoveryReleaseWrite q) := fun _ _ h => by cases h
theorem feedSwitchWrite (q : OdapReq) (train : Nat) : Statement (.feedSwitchWrite q train) := fun _ _ h => by cases h
theorem feedClearWrite (q : OdapReq) (train : Nat) : Statement (.feedClearWrite q train) := fun _ _ h => by cases h
theorem tamperCfgWrite (q : OdapReq) (input : Nat) (cfg : Octets) : Statement (.tamperCfgWrite q input cfg) := fun _ _ h => by cases h
theorem tamperClearWrite (q : OdapReq) : Statement (.tamperClearWrite q) := fun _ _ h => by cases h
theorem hrHandoverWrite (q : OdapReq) (region : Nat) : Statement (.hrHandoverWrite q region) := fun _ _ h => by cases h
theorem hrHandoverCancel (q : OdapReq) : Statement (.hrHandoverCancel q) := fun _ _ h => by cases h
theorem captureCfgWrite (q : OdapReq) (cfg : Octets) : Statement (.captureCfgWrite q cfg) := fun _ _ h => by cases h
theorem captureStart : Statement .captureStart := fun _ _ h => by cases h
theorem captureStop : Statement .captureStop := fun _ _ h => by cases h
theorem sgCentreWrite (q : OdapReq) (tx : Bool) (hz : Nat) : Statement (.sgCentreWrite q tx hz) := fun _ _ h => by cases h
theorem gateListSwitch (port : Nat) : Statement (.gateListSwitch port) := fun _ _ h => by cases h
theorem dlProfileWrite (q : OdapReq) (row : Nat) (rec : Octets) : Statement (.dlProfileWrite q row rec) := fun _ _ h => by cases h
theorem nodeDlProfileWrite (q : OdapReq) (node profile : Nat) : Statement (.nodeDlProfileWrite q node profile) := fun _ _ h => by cases h
theorem meterWrite (q : OdapReq) (row : Nat) (rec : Octets) : Statement (.meterWrite q row rec) := fun _ _ h => by cases h
theorem shaperWrite (q : OdapReq) (row : Nat) (rec : Octets) : Statement (.shaperWrite q row rec) := fun _ _ h => by cases h
theorem dwellRuleWrite (q : OdapReq) (row : Nat) (rec : Octets) : Statement (.dwellRuleWrite q row rec) := fun _ _ h => by cases h
theorem staticTableWrite (q : OdapReq) (ip6 : Bool) (row : Nat) (rec : Octets) : Statement (.staticTableWrite q ip6 row rec) := fun _ _ h => by cases h
theorem slotStart : Statement .slotStart := fun _ _ h => by cases h
theorem preparationWindowOpen (prepUs : Nat) (overrun : Bool) (bad : List Nat) : Statement (.preparationWindowOpen prepUs overrun bad) := fun _ _ h => by cases h
theorem easelOverrunLimit : Statement .easelOverrunLimit := fun _ _ h => by cases h
theorem receiveWindowOpen (eng : Nat) : Statement (.receiveWindowOpen eng) := fun _ _ h => by cases h
theorem preambleDetect (eng : Nat) (seen : PreambleSeen) (powers : List (Int × Int)) : Statement (.preambleDetect eng seen powers) := fun _ _ h => by cases h
theorem aerialHoldEnd (eng : Nat) (hold : HoldSeen) (powers : List (Int × Int)) : Statement (.aerialHoldEnd eng hold powers) := fun _ _ h => by cases h
theorem sfdFound (eng bits : Nat) (oqpskOk : Bool) (offsetNs : Nat) (powers : List (Int × Int)) : Statement (.sfdFound eng bits oqpskOk offsetNs powers) := fun _ _ h => by cases h
theorem huntSpanEnd (hunt : HuntSeen) : Statement (.huntSpanEnd hunt) := fun _ _ h => by cases h
theorem phrDecoded (eng len : Nat) (modeSwitch fcs2 : Bool) (soft : SoftSeen) : Statement (.phrDecoded eng len modeSwitch fcs2 soft) := fun _ _ h => by cases h
theorem fadeAbandon (eng : Nat) (powers : List Int) (soft : SoftSeen) : Statement (.fadeAbandon eng powers soft) := fun _ _ h => by cases h
theorem watchTakeover (eng : Nat) (w : WatchSeen) (bits offsetNs : Nat) (powers : List (Int × Int)) : Statement (.watchTakeover eng w bits offsetNs powers) := fun _ _ h => by cases h
theorem frameEnd (eng : Nat) (r : Reception) : Statement (.frameEnd eng r) := fun _ _ h => by cases h
theorem receiveWindowClose (eng : Nat) : Statement (.receiveWindowClose eng) := fun _ _ h => by cases h
theorem engineSelfTestComplete (eng : Nat) (pass : Bool) : Statement (.engineSelfTestComplete eng pass) := fun _ _ h => by cases h
theorem engineInternalFault (eng : Nat) : Statement (.engineInternalFault eng) := fun _ _ h => by cases h
theorem measurementBlockEnd (path : Nat) (peak : Int) (clipped : Bool) (block : BlockSeen) : Statement (.measurementBlockEnd path peak clipped block) := fun _ _ h => by cases h
theorem carrierRampStart (idx : Nat) : Statement (.carrierRampStart idx) := fun _ _ h => by cases h
theorem burstEnd (idx : Nat) : Statement (.burstEnd idx) := fun _ _ h => by cases h
theorem synthLockLoss (syn : Nat) : Statement (.synthLockLoss syn) := fun _ _ h => by cases h
theorem synthRelockAttemptEnd (syn : Nat) (locked : Bool) : Statement (.synthRelockAttemptEnd syn locked) := fun _ _ h => by cases h
theorem calItemComplete (item path : Nat) (seen : ItemSeen) : Statement (.calItemComplete item path seen) := fun _ _ h => by cases h
theorem dpdUpdate (set : Nat) (err : Int) (re im : List Int) : Statement (.dpdUpdate set err re im) := fun _ _ h => by cases h
theorem dwellBucketAdvance : Statement .dwellBucketAdvance := fun _ _ h => by cases h
theorem ccmLaneFrame (lane : Nat) : Statement (.ccmLaneFrame lane) := fun _ _ h => by cases h
theorem uplinkRelease (node : Nat) : Statement (.uplinkRelease node) := fun _ _ h => by cases h
theorem wakeFollowupMissed (node : Nat) : Statement (.wakeFollowupMissed node) := fun _ _ h => by cases h
theorem joinDirectiveExpiry (node : Nat) : Statement (.joinDirectiveExpiry node) := fun _ _ h => by cases h
theorem nodeSupervisionExpiry (node : Nat) : Statement (.nodeSupervisionExpiry node) := fun _ _ h => by cases h
theorem quarantineEnd (node : Nat) : Statement (.quarantineEnd node) := fun _ _ h => by cases h
theorem sync (m : PtpMsg) : Statement (.sync m) := fun _ _ h => by cases h
theorem followUp (m : PtpMsg) : Statement (.followUp m) := fun _ _ h => by cases h
theorem delayReq (m : PtpMsg) : Statement (.delayReq m) := fun _ _ h => by cases h
theorem delayResp (m : PtpMsg) : Statement (.delayResp m) := fun _ _ h => by cases h
theorem announce (m : PtpMsg) : Statement (.announce m) := fun _ _ h => by cases h
theorem pdelayReq (m : PtpMsg) : Statement (.pdelayReq m) := fun _ _ h => by cases h
theorem pdelayResp (m : PtpMsg) : Statement (.pdelayResp m) := fun _ _ h => by cases h
theorem pdelayRespFollowUp (m : PtpMsg) : Statement (.pdelayRespFollowUp m) := fun _ _ h => by cases h
theorem ptpMessageTimer (port kind : Nat) : Statement (.ptpMessageTimer port kind) := fun _ _ h => by cases h
theorem announceReceiptTimeout (port : Nat) : Statement (.announceReceiptTimeout port) := fun _ _ h => by cases h
theorem ppsInEdge (jitter : Int) : Statement (.ppsInEdge jitter) := fun _ _ h => by cases h
theorem ppsOutSecond : Statement .ppsOutSecond := fun _ _ h => by cases h
theorem sourceTimeout : Statement .sourceTimeout := fun _ _ h => by cases h
theorem registerWriteGeneric (master addr value : Nat) : Statement (.registerWriteGeneric master addr value) := fun _ _ h => by cases h
theorem cipherLockRead (master : Nat) : Statement (.cipherLockRead master) := fun _ _ h => by cases h
theorem cipherLockRelease (master : Nat) : Statement (.cipherLockRelease master) := fun _ _ h => by cases h
theorem cipherKeyWrite (master handle : Nat) : Statement (.cipherKeyWrite master handle) := fun _ _ h => by cases h
theorem cipherCmdStart (master cmd : Nat) : Statement (.cipherCmdStart master cmd) := fun _ _ h => by cases h
theorem cipherCmdAbort (master : Nat) : Statement (.cipherCmdAbort master) := fun _ _ h => by cases h
theorem cipherCommandComplete (authOk : Bool) : Statement (.cipherCommandComplete authOk) := fun _ _ h => by cases h
theorem cipherLockIdleExpiry : Statement .cipherLockIdleExpiry := fun _ _ h => by cases h
theorem mailboxPush (snd rcv : Nat) (wide : Bool) (value : Nat) : Statement (.mailboxPush snd rcv wide value) := fun _ _ h => by cases h
theorem mailboxPushEnd (snd rcv : Nat) (wide : Bool) (value : Nat) : Statement (.mailboxPushEnd snd rcv wide value) := fun _ _ h => by cases h
theorem dbRingWrite (snd rcv value : Nat) : Statement (.dbRingWrite snd rcv value) := fun _ _ h => by cases h
theorem mailboxPop (rcv snd : Nat) : Statement (.mailboxPop rcv snd) := fun _ _ h => by cases h
theorem rxLevelWrite (rcv snd value : Nat) : Statement (.rxLevelWrite rcv snd value) := fun _ _ h => by cases h
theorem doorbellWrite (rcv : Nat) (toMask : Bool) (value : Nat) : Statement (.doorbellWrite rcv toMask value) := fun _ _ h => by cases h
theorem owSetWrite (master : Nat) : Statement (.owSetWrite master) := fun _ _ h => by cases h
theorem owTrimWrite (master value : Nat) : Statement (.owTrimWrite master value) := fun _ _ h => by cases h
theorem owFeedWrite (master value : Nat) : Statement (.owFeedWrite master value) := fun _ _ h => by cases h
theorem makeSealWrite (master : Nat) : Statement (.makeSealWrite master) := fun _ _ h => by cases h
theorem kekNonceWrite (master : Nat) (nonce : Octets) : Statement (.kekNonceWrite master nonce) := fun _ _ h => by cases h
theorem countdownArm (master ch value : Nat) : Statement (.countdownArm master ch value) := fun _ _ h => by cases h
theorem owClockShadowRead (master reg : Nat) : Statement (.owClockShadowRead master reg) := fun _ _ h => by cases h
theorem owShadowTimeout (master : Nat) : Statement (.owShadowTimeout master) := fun _ _ h => by cases h
theorem gessoKeyOp (g : GessoReq) (tagOk : Bool) : Statement (.gessoKeyOp g tagOk) := fun _ _ h => by cases h
theorem gessoLaneBind (g : GessoReq) (pan : Nat) : Statement (.gessoLaneBind g pan) := fun _ _ h => by cases h
theorem gessoKeyProvision (g : GessoReq) (toNode : Bool) (row : Nat) (tagOk : Bool) : Statement (.gessoKeyProvision g toNode row tagOk) := fun _ _ h => by cases h
theorem gessoSign (g : GessoReq) (pre : String) (fits : Bool) : Statement (.gessoSign g pre fits) := fun _ _ h => by cases h
theorem gessoAttest (g : GessoReq) : Statement (.gessoAttest g) := fun _ _ h => by cases h
theorem gessoLifeCycle (g : GessoReq) (sigOk : Bool) : Statement (.gessoLifeCycle g sigOk) := fun _ _ h => by cases h
theorem gessoFwControl (g : GessoReq) (op : Nat) : Statement (.gessoFwControl g op) := fun _ _ h => by cases h
theorem glazeListSend : Statement .glazeListSend := fun _ _ h => by cases h
theorem glazeList (e : Env) (p : ListPart) : Statement (.glazeList e p) := fun _ _ h => by cases h
theorem glazeListDeadline (owner sf : Nat) : Statement (.glazeListDeadline owner sf) := fun _ _ h => by cases h
theorem glazeFrame (e : Env) (f : GlazeFrame) : Statement (.glazeFrame e f) := fun _ _ h => by cases h
theorem glazeReqSend (asn : Nat) : Statement (.glazeReqSend asn) := fun _ _ h => by cases h
theorem glazeReq (e : Env) (asn reqSeq : Nat) (entries : List Nat) : Statement (.glazeReq e asn reqSeq entries) := fun _ _ h => by cases h
theorem glazeAns (e : Env) (asn reqSeq entry kind seg nseg : Nat) (data : Octets) (rx : RxFrame) : Statement (.glazeAns e asn reqSeq entry kind seg nseg data rx) := fun _ _ h => by cases h
theorem glazeReqTimeout (partner reqSeq : Nat) : Statement (.glazeReqTimeout partner reqSeq) := fun _ _ h => by cases h
theorem glazeRetentionExpiry (asn : Nat) : Statement (.glazeRetentionExpiry asn) := fun _ _ h => by cases h
theorem glazeDecision (asn node : Nat) (decoded : Option RxFrame) : Statement (.glazeDecision asn node decoded) := fun _ _ h => by cases h
theorem glazeRecordDiscard (owner asn : Nat) : Statement (.glazeRecordDiscard owner asn) := fun _ _ h => by cases h
theorem heartbeat (e : Env) (b : Heartbeat) : Statement (.heartbeat e b) := fun _ _ h => by cases h
theorem helloTimer : Statement .helloTimer := fun _ _ h => by cases h
theorem suspectTimeout (addr : Nat) : Statement (.suspectTimeout addr) := fun _ _ h => by cases h
theorem isolationTimeout : Statement .isolationTimeout := fun _ _ h => by cases h
theorem lsa (e : Env) (b : LsaBody) : Statement (.lsa e b) := fun _ _ h => by cases h
theorem lsaRefreshTimer : Statement .lsaRefreshTimer := fun _ _ h => by cases h
theorem lsaAgeExpiry (origin : Nat) : Statement (.lsaAgeExpiry origin) := fun _ _ h => by cases h
theorem claim (e : Env) (addr epoch : Nat) : Statement (.claim e addr epoch) := fun _ _ h => by cases h
theorem defend (e : Env) (addr epoch mode : Nat) (serial : Octets) : Statement (.defend e addr epoch mode serial) := fun _ _ h => by cases h
theorem claimTimer : Statement .claimTimer := fun _ _ h => by cases h
theorem addressListenEnd : Statement .addressListenEnd := fun _ _ h => by cases h
theorem dead (e : Env) (addr epoch : Nat) : Statement (.dead e addr epoch) := fun _ _ h => by cases h
theorem takeover (e : Env) (b : MoveBody) : Statement (.takeover e b) := fun _ _ h => by cases h
theorem fence (e : Env) (region epoch : Nat) (holder : Octets) : Statement (.fence e region epoch holder) := fun _ _ h => by cases h
theorem handover (e : Env) (b : MoveBody) : Statement (.handover e b) := fun _ _ h => by cases h
theorem takeoverEffective : Statement .takeoverEffective := fun _ _ h => by cases h
theorem mirrorSnapshot (e : Env) (seg nseg : Nat) (data : Octets) (sigOk : Bool) : Statement (.mirrorSnapshot e seg nseg data sigOk) := fun _ _ h => by cases h
theorem mirrorDelta (e : Env) (b : DeltaBody) : Statement (.mirrorDelta e b) := fun _ _ h => by cases h
theorem mirrorAck (e : Env) (region status : Nat) (digest : Octets) : Statement (.mirrorAck e region status digest) := fun _ _ h => by cases h
theorem mirrorDeltaSend : Statement .mirrorDeltaSend := fun _ _ h => by cases h
theorem handoverQuiesce : Statement .handoverQuiesce := fun _ _ h => by cases h
theorem finalDeltaSend : Statement .finalDeltaSend := fun _ _ h => by cases h
theorem handoverEffective : Statement .handoverEffective := fun _ _ h => by cases h
theorem shadowWaitExpiry (node : Nat) : Statement (.shadowWaitExpiry node) := fun _ _ h => by cases h
theorem odapReq (e : Env) (q : OdapReq) (op : PeerOp) : Statement (.odapReq e q op) := fun _ _ h => by cases h
theorem odapRsp (e : Env) (rid status : Nat) (body : Octets) : Statement (.odapRsp e rid status body) := fun _ _ h => by cases h
theorem ethFrameReceived (port : Nat) (f : EthFrame) : Statement (.ethFrameReceived port f) := fun _ _ h => by cases h
theorem egressSelect (port : Nat) : Statement (.egressSelect port) := fun _ _ h => by cases h
theorem ethLinkChange (port : Nat) (up : Bool) (speed : Nat) : Statement (.ethLinkChange port up speed) := fun _ _ h => by cases h
theorem tableInsert (tag flags value next : Nat) (key : Octets) : Statement (.tableInsert tag flags value next key) := fun _ _ h => by cases h
theorem tableDelete (tag : Nat) (key : Octets) : Statement (.tableDelete tag key) := fun _ _ h => by cases h
theorem tableLookup (tag : Nat) (key : Octets) (bad : List Nat) : Statement (.tableLookup tag key bad) := fun _ _ h => by cases h
theorem scrubBucket (poisoned : Bool) : Statement (.scrubBucket poisoned) := fun _ _ h => by cases h
theorem mainSupplyValid : Statement .mainSupplyValid := fun _ _ h => by cases h
theorem uartFrameReceived (frame : Octets) (authOk overrun : Bool) : Statement (.uartFrameReceived frame authOk overrun) := fun _ _ h => by cases h
theorem gpioWake (pin : Nat) (rising : Bool) : Statement (.gpioWake pin rising) := fun _ _ h => by cases h
theorem countdownFire (ch : Nat) : Statement (.countdownFire ch) := fun _ _ h => by cases h
theorem coldBoot (a b : BankVerdict) : Statement (.coldBoot a b) := fun _ _ h => by cases h
theorem warmResetAssert (a b : BankVerdict) : Statement (.warmResetAssert a b) := fun _ _ h => by cases h
theorem easelRejoin : Statement .easelRejoin := fun _ _ h => by cases h
theorem canvasServiceResume : Statement .canvasServiceResume := fun _ _ h => by cases h
theorem powerCycle : Statement .powerCycle := fun _ _ h => by cases h
theorem pwrCycleFallback : Statement .pwrCycleFallback := fun _ _ h => by cases h
theorem brownout : Statement .brownout := fun _ _ h => by cases h
theorem feedDeviationDecision (rail : Nat) (sense : List Nat) : Statement (.feedDeviationDecision rail sense) := fun _ _ h => by cases h
theorem feedGapEnd : Statement .feedGapEnd := fun _ _ h => by cases h
theorem standbyOutOfWindow (rail mv : Nat) : Statement (.standbyOutOfWindow rail mv) := fun _ _ h => by cases h
theorem owSupplyChange (toVbat : Bool) : Statement (.owSupplyChange toVbat) := fun _ _ h => by cases h
theorem sealBreak : Statement .sealBreak := fun _ _ h => by cases h
theorem vbatLowCheck (mv : Nat) : Statement (.vbatLowCheck mv) := fun _ _ h => by cases h
theorem rtcTrimCheck : Statement .rtcTrimCheck := fun _ _ h => by cases h
theorem tamperInputActive (input : Nat) : Statement (.tamperInputActive input) := fun _ _ h => by cases h
theorem sensorSample (temps : List Int) (volts currents : List Nat) (pdet : List Int) : Statement (.sensorSample temps volts currents pdet) := fun _ _ h => by cases h
theorem thermalTrip (sensor : Nat) (reading : Int) : Statement (.thermalTrip sensor reading) := fun _ _ h => by cases h
theorem domainExcursion (domain mv : Nat) : Statement (.domainExcursion domain mv) := fun _ _ h => by cases h
theorem shedWatchdogExpiry (digestOk : Bool) : Statement (.shedWatchdogExpiry digestOk) := fun _ _ h => by cases h
theorem easelWatchdogExpiry : Statement .easelWatchdogExpiry := fun _ _ h => by cases h
theorem canvasCoreWatchdogExpiry (core : Nat) : Statement (.canvasCoreWatchdogExpiry core) := fun _ _ h => by cases h
theorem gessoWatchdogExpiry : Statement .gessoWatchdogExpiry := fun _ _ h => by cases h
theorem operationOverdue (fn : Nat) : Statement (.operationOverdue fn) := fun _ _ h => by cases h
theorem storePoisonBurst : Statement .storePoisonBurst := fun _ _ h => by cases h
theorem l1RetryTimer (fn inst : Nat) (ok : Bool) : Statement (.l1RetryTimer fn inst ok) := fun _ _ h => by cases h
theorem l2Complete (fn inst : Nat) : Statement (.l2Complete fn inst) := fun _ _ h => by cases h
theorem logPersistTimer : Statement .logPersistTimer := fun _ _ h => by cases h
theorem logEntryCopy : Statement .logEntryCopy := fun _ _ h => by cases h
theorem cdcStaleCapture (master addr : Nat) (fixedFunction : Bool) : Statement (.cdcStaleCapture master addr fixedFunction) := fun _ _ h => by cases h
theorem pcieReset : Statement .pcieReset := fun _ _ h => by cases h
theorem flashPageFetch (part page : Nat) (ok : Bool) : Statement (.flashPageFetch part page ok) := fun _ _ h => by cases h
theorem patchTrap (entry : Nat) : Statement (.patchTrap entry) := fun _ _ h => by cases h
theorem alignedCleared : Statement .alignedCleared := fun _ _ h => by cases h
theorem tamperInputRelease (input : Nat) : Statement (.tamperInputRelease input) := fun _ _ h => by cases h
theorem pcieLinkUp (gen width : Nat) : Statement (.pcieLinkUp gen width) := fun _ _ h => by cases h
theorem digestRingAdvance : Statement .digestRingAdvance := fun _ _ h => by cases h
theorem gateEntryBoundary (port : Nat) : Statement (.gateEntryBoundary port) := fun _ _ h => by cases h
theorem shaperTokensRefilled (port cls : Nat) : Statement (.shaperTokensRefilled port cls) := fun _ _ h => by cases h
theorem dlQueueFromCanvas (node : Option Nat) (payload : Octets) (yellow : Bool) : Statement (.dlQueueFromCanvas node payload yellow) := fun _ _ h => by cases h

end Sys2Proof.Laws.Cmd
end

