-- ==== Sys2Proof/Laws/Server.lean ====
section
/-!
SUPPORT. The ODAP server as every request passes through it: taken up and run, replayed, refused, or not heard at all.
-/

namespace Sys2Proof.Machine

variable {q : OdapReq} {op : Nat} {need : Nat} {u : Session} {s : State} {h : Session → State → State × Answer}

/-- A request that is taken up is run on the state its message has touched, and its answer is cached. -/
theorem serve_run (hr : TakenUp q need u s) :
    serve q op need h s = respond q op (h u (touch q.session s)).2 true (h u (touch q.session s)).1 := by
  obtain ⟨h1, h2, h3⟩ := hr
  simp only [serve, h1, h2, h3]

/-- A request whose response is cached has that response again, marked DUPLICATE. -/
theorem serve_replay {r : Response} (h1 : s.srv.up = true) (h2 : findSession s q.session = some u)
    (h3 : admitReq q need u = .replay r) :
    serve q op need h s = emit (.odap q.session { r with dup := true }) (touch q.session s) := by
  simp only [serve, h1, h2, h3]

/-- A request that is not admitted is answered so, and not run. -/
theorem serve_refuse {a : Answer} {c : Bool} (h1 : s.srv.up = true) (h2 : findSession s q.session = some u)
    (h3 : admitReq q need u = .refuse a c) :
    serve q op need h s = respond q op a c (touch q.session s) := by
  simp only [serve, h1, h2, h3]

/-- Where no server runs, or the session does not exist, a request has no effect. -/
theorem serve_unheard (h1 : s.srv.up = false ∨ findSession s q.session = none) : serve q op need h s = s := by
  rcases h1 with h1 | h1
  · simp only [serve, h1]
  · cases hu : s.srv.up <;> simp only [serve, hu, h1]

/-- Every write of an object, under its own name or as WRITE, is served as a WRITE; every other request by its own effect. -/
theorem request_served {c : Instr} (hc : RequestOf q c) (s : State) :
    ∃ op h, exec c s = .next (conclude s (serve q op (bodyNeed c) h s)) := by
  cases hc <;> dsimp only [
    exec, execRead, execWrite, execBlockStart, execBlockSeg, execBlockEnd, execBlockAbort, execTxnBegin, execTxnCommit,
    execTxnAbort, execSubscribe, execUnsubscribe, execModeRequestWrite, execModeChangeCancel, execRebootWrite,
    execStepApplyRequest, execStepApplyAbort, execTimeSetWrite, execTimeSourceWrite, execAsnEpochWrite, execChMapWrite,
    execNodeRegWrite, execNodeDeregister, execNodeRejoinWrite, execKeyDestroyWrite, execFwActivateMark, execFwActivateReset,
    execFwActivateCancel, execFwConfirm, execFwReject, execAttestChallengeWrite, execCalibRequestWrite,
    execCalibRequestForce, execCalibCancelWrite, execRecoverRequestWrite, execRecoveryReleaseWrite, execFeedSwitchWrite,
    execFeedClearWrite, execTamperCfgWrite, execTamperClearWrite, execHrHandoverWrite, execHrHandoverCancel,
    execCaptureCfgWrite, execSgCentreWrite, execDlProfileWrite, execNodeDlProfileWrite, execMeterWrite, execShaperWrite,
    execDwellRuleWrite, execStaticTableWrite, odapRead, odapWrite, odapBlockStart, odapBlockSeg, odapBlockEnd,
    odapBlockAbort, odapTxnBegin, odapTxnCommit, odapTxnAbort, odapSubscribe, odapUnsubscribe, writeU8, writeU16, writeU32,
    writeRecord, writeOct, done] <;>
    exact ⟨_, _, rfl⟩

/-! What serving leaves as it was: everything but the sessions, their subscriptions and what was sent. -/

@[simp] theorem resumeSubs_od (id : Nat) : (resumeSubs id s).od = s.od := rfl
@[simp] theorem touch_chip (id : Nat) : (touch id s).chip = s.chip := rfl
@[simp] theorem touch_ctl (id : Nat) : (touch id s).ctl = s.ctl := rfl
@[simp] theorem touch_clk (id : Nat) : (touch id s).clk = s.clk := rfl
@[simp] theorem touch_eas (id : Nat) : (touch id s).eas = s.eas := rfl
@[simp] theorem touch_sec (id : Nat) : (touch id s).sec = s.sec := rfl
@[simp] theorem touch_fw (id : Nat) : (touch id s).fw = s.fw := rfl
@[simp] theorem touch_shd (id : Nat) : (touch id s).shd = s.shd := rfl
@[simp] theorem touch_host (id : Nat) : (touch id s).host = s.host := rfl
@[simp] theorem touch_pwr (id : Nat) : (touch id s).pwr = s.pwr := rfl
@[simp] theorem touch_od (id : Nat) : (touch id s).od = s.od := rfl
@[simp] theorem touch_mem (id : Nat) : (touch id s).mem = s.mem := rfl
@[simp] theorem touch_txns (id : Nat) : (touch id s).srv.txns = s.srv.txns := rfl
@[simp] theorem touch_blocks (id : Nat) : (touch id s).srv.blocks = s.srv.blocks := rfl
@[simp] theorem touch_up (id : Nat) : (touch id s).srv.up = s.srv.up := rfl

@[simp] theorem respond_chip (q : OdapReq) (op : Nat) (a : Answer) (c : Bool) (s : State) : (respond q op a c s).chip = s.chip := by
  unfold respond; dsimp only; split <;> (try split) <;> rfl
@[simp] theorem respond_ctl (q : OdapReq) (op : Nat) (a : Answer) (c : Bool) (s : State) : (respond q op a c s).ctl = s.ctl := by
  unfold respond; dsimp only; split <;> (try split) <;> rfl
@[simp] theorem respond_clk (q : OdapReq) (op : Nat) (a : Answer) (c : Bool) (s : State) : (respond q op a c s).clk = s.clk := by
  unfold respond; dsimp only; split <;> (try split) <;> rfl
@[simp] theorem respond_sec (q : OdapReq) (op : Nat) (a : Answer) (c : Bool) (s : State) : (respond q op a c s).sec = s.sec := by
  unfold respond; dsimp only; split <;> (try split) <;> rfl
@[simp] theorem respond_shd (q : OdapReq) (op : Nat) (a : Answer) (c : Bool) (s : State) : (respond q op a c s).shd = s.shd := by
  unfold respond; dsimp only; split <;> (try split) <;> rfl
@[simp] theorem respond_host (q : OdapReq) (op : Nat) (a : Answer) (c : Bool) (s : State) : (respond q op a c s).host = s.host := by
  unfold respond; dsimp only; split <;> (try split) <;> rfl
@[simp] theorem respond_pwr (q : OdapReq) (op : Nat) (a : Answer) (c : Bool) (s : State) : (respond q op a c s).pwr = s.pwr := by
  unfold respond; dsimp only; split <;> (try split) <;> rfl
@[simp] theorem respond_od (q : OdapReq) (op : Nat) (a : Answer) (c : Bool) (s : State) : (respond q op a c s).od = s.od := by
  unfold respond; dsimp only; split <;> (try split) <;> rfl
@[simp] theorem respond_mem (q : OdapReq) (op : Nat) (a : Answer) (c : Bool) (s : State) : (respond q op a c s).mem = s.mem := by
  unfold respond; dsimp only; split <;> (try split) <;> rfl

@[simp] theorem touch_rf (id : Nat) : (touch id s).rf = s.rf := rfl
@[simp] theorem touch_pal (id : Nat) : (touch id s).pal = s.pal := rfl
@[simp] theorem touch_pri (id : Nat) : (touch id s).pri = s.pri := rfl
@[simp] theorem touch_nod (id : Nat) : (touch id s).nod = s.nod := rfl
@[simp] theorem touch_gla (id : Nat) : (touch id s).gla = s.gla := rfl
@[simp] theorem touch_tre (id : Nat) : (touch id s).tre = s.tre := rfl
@[simp] theorem touch_rid (id : Nat) : (touch id s).rid = s.rid := rfl
@[simp] theorem touch_hed (id : Nat) : (touch id s).hed = s.hed := rfl
@[simp] theorem touch_free (id : Nat) : (touch id s).free = s.free := rfl
@[simp] theorem touch_pending (id : Nat) : (touch id s).pending = s.pending := rfl

@[simp] theorem respond_rf (q : OdapReq) (op : Nat) (a : Answer) (c : Bool) (s : State) : (respond q op a c s).rf = s.rf := by
  unfold respond; dsimp only; split <;> (try split) <;> rfl
@[simp] theorem respond_pal (q : OdapReq) (op : Nat) (a : Answer) (c : Bool) (s : State) : (respond q op a c s).pal = s.pal := by
  unfold respond; dsimp only; split <;> (try split) <;> rfl
@[simp] theorem respond_pri (q : OdapReq) (op : Nat) (a : Answer) (c : Bool) (s : State) : (respond q op a c s).pri = s.pri := by
  unfold respond; dsimp only; split <;> (try split) <;> rfl
@[simp] theorem respond_nod (q : OdapReq) (op : Nat) (a : Answer) (c : Bool) (s : State) : (respond q op a c s).nod = s.nod := by
  unfold respond; dsimp only; split <;> (try split) <;> rfl
@[simp] theorem respond_eas (q : OdapReq) (op : Nat) (a : Answer) (c : Bool) (s : State) : (respond q op a c s).eas = s.eas := by
  unfold respond; dsimp only; split <;> (try split) <;> rfl
@[simp] theorem respond_gla (q : OdapReq) (op : Nat) (a : Answer) (c : Bool) (s : State) : (respond q op a c s).gla = s.gla := by
  unfold respond; dsimp only; split <;> (try split) <;> rfl
@[simp] theorem respond_tre (q : OdapReq) (op : Nat) (a : Answer) (c : Bool) (s : State) : (respond q op a c s).tre = s.tre := by
  unfold respond; dsimp only; split <;> (try split) <;> rfl
@[simp] theorem respond_rid (q : OdapReq) (op : Nat) (a : Answer) (c : Bool) (s : State) : (respond q op a c s).rid = s.rid := by
  unfold respond; dsimp only; split <;> (try split) <;> rfl
@[simp] theorem respond_hed (q : OdapReq) (op : Nat) (a : Answer) (c : Bool) (s : State) : (respond q op a c s).hed = s.hed := by
  unfold respond; dsimp only; split <;> (try split) <;> rfl
@[simp] theorem respond_fw (q : OdapReq) (op : Nat) (a : Answer) (c : Bool) (s : State) : (respond q op a c s).fw = s.fw := by
  unfold respond; dsimp only; split <;> (try split) <;> rfl
@[simp] theorem respond_free (q : OdapReq) (op : Nat) (a : Answer) (c : Bool) (s : State) : (respond q op a c s).free = s.free := by
  unfold respond; dsimp only; split <;> (try split) <;> rfl
@[simp] theorem respond_pending (q : OdapReq) (op : Nat) (a : Answer) (c : Bool) (s : State) : (respond q op a c s).pending = s.pending := by
  unfold respond; dsimp only; split <;> (try split) <;> rfl

/-! The answers that are sent at once are none that is owed. -/

@[simp] theorem okA_ne_owedA (b : Octets) : okA b ≠ owedA := by intro h; injection h with h; exact absurd h (by decide)
@[simp] theorem effA_ne_owedA (e : Nat) : effA e ≠ owedA := okA_ne_owedA _
@[simp] theorem errA_ne_owedA (x d : Nat) : errA x d ≠ owedA := by intro h; injection h with _ h; cases h

/-- A response is sent, unless it is owed until later (R362). -/
theorem respond_answers (q : OdapReq) (op : Nat) (a : Answer) (c : Bool) (s : State) (h : a ≠ owedA) : Answers q op a (respond q op a c s) := by
  unfold Answers respond emit; dsimp only; rw [if_neg h]; exact List.mem_append_right _ (List.mem_singleton.2 rfl)

/-! Writes that pass every check of the server (`WriteAccepted`): what the commit answers. -/

/-- An accepted write of an object that is no domain answers its commit. -/
theorem write_accepted {a : Addr} {ty : Nat} {v : Octets} (d : ObjDesc) (h : WriteAccepted q a ty v u s)
    (hd : odFind a.idx a.sub = some d) (hn : d.ty ≠ .domain) :
    odapWrite q a ty v s =
      respond q 2 (commitWrite u a v true (touch q.session s)).2 true (commitWrite u a v true (touch q.session s)).1 := by
  obtain ⟨h1, h2, h3⟩ := h
  unfold odapWrite
  rw [serve_run h1]
  simp only [hd, hn, if_false, writeCore, h2, Option.map_none, Option.getD_none, h3]

/-- An accepted write of an unmasked object that is not stored answers what its owner commits. -/
theorem write_accepted_owned {a : Addr} {ty : Nat} {v : Octets} (d : ObjDesc) (h : WriteAccepted q a ty v u s)
    (hd : odFind a.idx a.sub = some d) (hn : d.ty ≠ .domain) (hm : masked d v = v) (hp : d.pers ≠ .stored)
    (r : State × Answer) (ho : ownerCommit u a v true (touch q.session s) = some r) :
    odapWrite q a ty v s = respond q 2 r.2 true r.1 := by
  rw [write_accepted d h hd hn]
  simp only [commitWrite, hd, hm, ho, storedChange, hp, false_and, if_false]

/-- An accepted write of a stored object that an owner commits. -/
theorem write_accepted_stored {a : Addr} {ty : Nat} {v : Octets} (d : ObjDesc) (h : WriteAccepted q a ty v u s)
    (hd : odFind a.idx a.sub = some d) (hn : d.ty ≠ .domain) (hp : d.pers = .stored)
    (r : State × Answer) (ho : ownerCommit u a (masked d v) true (touch q.session s) = some r) :
    odapWrite q a ty v s = respond q 2 (storedCommit r).2 true (storedCommit r).1 := by
  rw [write_accepted d h hd hn]
  simp only [commitWrite, hd, ho, storedChange, hp, true_and, storedCommit]

end Sys2Proof.Machine
end

