-- ==== Sys2Proof/Laws/Shapes.lean ====
section
/-!
SUPPORT. Which parts of the state a shared operation touches, said once for each: it answers the state it was given with those parts
anew, and so leaves every other part as it was.
-/

namespace Sys2Proof.Machine

/-- A fold of updates that each keep a part of the state keeps it. -/
theorem foldl_keeps {α β : Type} (p : State → β) (f : State → α → State) (h : ∀ t x, p (f t x) = p t) (l : List α) (s : State) :
    p (l.foldl f s) = p s := by
  induction l generalizing s with
  | nil => rfl
  | cons x l ih => rw [List.foldl_cons, ih, h]

/-! What `stopSlots` leaves: all but `eas`. -/

@[simp] theorem stopSlots_chip (s : State) : (stopSlots s).chip = s.chip := rfl
@[simp] theorem stopSlots_ctl (s : State) : (stopSlots s).ctl = s.ctl := rfl
@[simp] theorem stopSlots_clk (s : State) : (stopSlots s).clk = s.clk := rfl
@[simp] theorem stopSlots_srv (s : State) : (stopSlots s).srv = s.srv := rfl
@[simp] theorem stopSlots_rf (s : State) : (stopSlots s).rf = s.rf := rfl
@[simp] theorem stopSlots_pal (s : State) : (stopSlots s).pal = s.pal := rfl
@[simp] theorem stopSlots_pri (s : State) : (stopSlots s).pri = s.pri := rfl
@[simp] theorem stopSlots_nod (s : State) : (stopSlots s).nod = s.nod := rfl
@[simp] theorem stopSlots_gla (s : State) : (stopSlots s).gla = s.gla := rfl
@[simp] theorem stopSlots_tre (s : State) : (stopSlots s).tre = s.tre := rfl
@[simp] theorem stopSlots_rid (s : State) : (stopSlots s).rid = s.rid := rfl
@[simp] theorem stopSlots_hed (s : State) : (stopSlots s).hed = s.hed := rfl
@[simp] theorem stopSlots_sec (s : State) : (stopSlots s).sec = s.sec := rfl
@[simp] theorem stopSlots_fw (s : State) : (stopSlots s).fw = s.fw := rfl
@[simp] theorem stopSlots_shd (s : State) : (stopSlots s).shd = s.shd := rfl
@[simp] theorem stopSlots_host (s : State) : (stopSlots s).host = s.host := rfl
@[simp] theorem stopSlots_pwr (s : State) : (stopSlots s).pwr = s.pwr := rfl
@[simp] theorem stopSlots_od (s : State) : (stopSlots s).od = s.od := rfl
@[simp] theorem stopSlots_mem (s : State) : (stopSlots s).mem = s.mem := rfl
@[simp] theorem stopSlots_out (s : State) : (stopSlots s).out = s.out := rfl
@[simp] theorem stopSlots_free (s : State) : (stopSlots s).free = s.free := rfl
@[simp] theorem stopSlots_pending (s : State) : (stopSlots s).pending = s.pending := rfl

/-! What `unsettle` leaves: all but `ctl`. -/

@[simp] theorem unsettle_chip (s : State) : (unsettle s).chip = s.chip := by
  unfold unsettle; (repeat' split) <;> rfl
@[simp] theorem unsettle_clk (s : State) : (unsettle s).clk = s.clk := by
  unfold unsettle; (repeat' split) <;> rfl
@[simp] theorem unsettle_srv (s : State) : (unsettle s).srv = s.srv := by
  unfold unsettle; (repeat' split) <;> rfl
@[simp] theorem unsettle_rf (s : State) : (unsettle s).rf = s.rf := by
  unfold unsettle; (repeat' split) <;> rfl
@[simp] theorem unsettle_pal (s : State) : (unsettle s).pal = s.pal := by
  unfold unsettle; (repeat' split) <;> rfl
@[simp] theorem unsettle_pri (s : State) : (unsettle s).pri = s.pri := by
  unfold unsettle; (repeat' split) <;> rfl
@[simp] theorem unsettle_nod (s : State) : (unsettle s).nod = s.nod := by
  unfold unsettle; (repeat' split) <;> rfl
@[simp] theorem unsettle_eas (s : State) : (unsettle s).eas = s.eas := by
  unfold unsettle; (repeat' split) <;> rfl
@[simp] theorem unsettle_gla (s : State) : (unsettle s).gla = s.gla := by
  unfold unsettle; (repeat' split) <;> rfl
@[simp] theorem unsettle_tre (s : State) : (unsettle s).tre = s.tre := by
  unfold unsettle; (repeat' split) <;> rfl
@[simp] theorem unsettle_rid (s : State) : (unsettle s).rid = s.rid := by
  unfold unsettle; (repeat' split) <;> rfl
@[simp] theorem unsettle_hed (s : State) : (unsettle s).hed = s.hed := by
  unfold unsettle; (repeat' split) <;> rfl
@[simp] theorem unsettle_sec (s : State) : (unsettle s).sec = s.sec := by
  unfold unsettle; (repeat' split) <;> rfl
@[simp] theorem unsettle_fw (s : State) : (unsettle s).fw = s.fw := by
  unfold unsettle; (repeat' split) <;> rfl
@[simp] theorem unsettle_shd (s : State) : (unsettle s).shd = s.shd := by
  unfold unsettle; (repeat' split) <;> rfl
@[simp] theorem unsettle_host (s : State) : (unsettle s).host = s.host := by
  unfold unsettle; (repeat' split) <;> rfl
@[simp] theorem unsettle_pwr (s : State) : (unsettle s).pwr = s.pwr := by
  unfold unsettle; (repeat' split) <;> rfl
@[simp] theorem unsettle_od (s : State) : (unsettle s).od = s.od := by
  unfold unsettle; (repeat' split) <;> rfl
@[simp] theorem unsettle_mem (s : State) : (unsettle s).mem = s.mem := by
  unfold unsettle; (repeat' split) <;> rfl
@[simp] theorem unsettle_out (s : State) : (unsettle s).out = s.out := by
  unfold unsettle; (repeat' split) <;> rfl
@[simp] theorem unsettle_free (s : State) : (unsettle s).free = s.free := by
  unfold unsettle; (repeat' split) <;> rfl
@[simp] theorem unsettle_pending (s : State) : (unsettle s).pending = s.pending := by
  unfold unsettle; (repeat' split) <;> rfl

/-! What `joinSlots` leaves: all but `eas`. -/

@[simp] theorem joinSlots_chip (s : State) : (joinSlots s).chip = s.chip := rfl
@[simp] theorem joinSlots_ctl (s : State) : (joinSlots s).ctl = s.ctl := rfl
@[simp] theorem joinSlots_clk (s : State) : (joinSlots s).clk = s.clk := rfl
@[simp] theorem joinSlots_srv (s : State) : (joinSlots s).srv = s.srv := rfl
@[simp] theorem joinSlots_rf (s : State) : (joinSlots s).rf = s.rf := rfl
@[simp] theorem joinSlots_pal (s : State) : (joinSlots s).pal = s.pal := rfl
@[simp] theorem joinSlots_pri (s : State) : (joinSlots s).pri = s.pri := rfl
@[simp] theorem joinSlots_nod (s : State) : (joinSlots s).nod = s.nod := rfl
@[simp] theorem joinSlots_gla (s : State) : (joinSlots s).gla = s.gla := rfl
@[simp] theorem joinSlots_tre (s : State) : (joinSlots s).tre = s.tre := rfl
@[simp] theorem joinSlots_rid (s : State) : (joinSlots s).rid = s.rid := rfl
@[simp] theorem joinSlots_hed (s : State) : (joinSlots s).hed = s.hed := rfl
@[simp] theorem joinSlots_sec (s : State) : (joinSlots s).sec = s.sec := rfl
@[simp] theorem joinSlots_fw (s : State) : (joinSlots s).fw = s.fw := rfl
@[simp] theorem joinSlots_shd (s : State) : (joinSlots s).shd = s.shd := rfl
@[simp] theorem joinSlots_host (s : State) : (joinSlots s).host = s.host := rfl
@[simp] theorem joinSlots_pwr (s : State) : (joinSlots s).pwr = s.pwr := rfl
@[simp] theorem joinSlots_od (s : State) : (joinSlots s).od = s.od := rfl
@[simp] theorem joinSlots_mem (s : State) : (joinSlots s).mem = s.mem := rfl
@[simp] theorem joinSlots_out (s : State) : (joinSlots s).out = s.out := rfl
@[simp] theorem joinSlots_free (s : State) : (joinSlots s).free = s.free := rfl
@[simp] theorem joinSlots_pending (s : State) : (joinSlots s).pending = s.pending := rfl

/-! What `settleSlots` leaves: all but `ctl`, `eas`. -/

@[simp] theorem settleSlots_chip (s : State) : (settleSlots s).chip = s.chip := by
  unfold settleSlots; (repeat' split) <;> simp
@[simp] theorem settleSlots_clk (s : State) : (settleSlots s).clk = s.clk := by
  unfold settleSlots; (repeat' split) <;> simp
@[simp] theorem settleSlots_srv (s : State) : (settleSlots s).srv = s.srv := by
  unfold settleSlots; (repeat' split) <;> simp
@[simp] theorem settleSlots_rf (s : State) : (settleSlots s).rf = s.rf := by
  unfold settleSlots; (repeat' split) <;> simp
@[simp] theorem settleSlots_pal (s : State) : (settleSlots s).pal = s.pal := by
  unfold settleSlots; (repeat' split) <;> simp
@[simp] theorem settleSlots_pri (s : State) : (settleSlots s).pri = s.pri := by
  unfold settleSlots; (repeat' split) <;> simp
@[simp] theorem settleSlots_nod (s : State) : (settleSlots s).nod = s.nod := by
  unfold settleSlots; (repeat' split) <;> simp
@[simp] theorem settleSlots_gla (s : State) : (settleSlots s).gla = s.gla := by
  unfold settleSlots; (repeat' split) <;> simp
@[simp] theorem settleSlots_tre (s : State) : (settleSlots s).tre = s.tre := by
  unfold settleSlots; (repeat' split) <;> simp
@[simp] theorem settleSlots_rid (s : State) : (settleSlots s).rid = s.rid := by
  unfold settleSlots; (repeat' split) <;> simp
@[simp] theorem settleSlots_hed (s : State) : (settleSlots s).hed = s.hed := by
  unfold settleSlots; (repeat' split) <;> simp
@[simp] theorem settleSlots_sec (s : State) : (settleSlots s).sec = s.sec := by
  unfold settleSlots; (repeat' split) <;> simp
@[simp] theorem settleSlots_fw (s : State) : (settleSlots s).fw = s.fw := by
  unfold settleSlots; (repeat' split) <;> simp
@[simp] theorem settleSlots_shd (s : State) : (settleSlots s).shd = s.shd := by
  unfold settleSlots; (repeat' split) <;> simp
@[simp] theorem settleSlots_host (s : State) : (settleSlots s).host = s.host := by
  unfold settleSlots; (repeat' split) <;> simp
@[simp] theorem settleSlots_pwr (s : State) : (settleSlots s).pwr = s.pwr := by
  unfold settleSlots; (repeat' split) <;> simp
@[simp] theorem settleSlots_od (s : State) : (settleSlots s).od = s.od := by
  unfold settleSlots; (repeat' split) <;> simp
@[simp] theorem settleSlots_mem (s : State) : (settleSlots s).mem = s.mem := by
  unfold settleSlots; (repeat' split) <;> simp
@[simp] theorem settleSlots_out (s : State) : (settleSlots s).out = s.out := by
  unfold settleSlots; (repeat' split) <;> simp
@[simp] theorem settleSlots_free (s : State) : (settleSlots s).free = s.free := by
  unfold settleSlots; (repeat' split) <;> simp
@[simp] theorem settleSlots_pending (s : State) : (settleSlots s).pending = s.pending := by
  unfold settleSlots; (repeat' split) <;> simp

/-! What `settleWaiting` leaves: all but `ctl`. -/

@[simp] theorem settleWaiting_chip (s : State) : (settleWaiting s).chip = s.chip := by
  unfold settleWaiting; split <;> (try split) <;> rfl
@[simp] theorem settleWaiting_clk (s : State) : (settleWaiting s).clk = s.clk := by
  unfold settleWaiting; split <;> (try split) <;> rfl
@[simp] theorem settleWaiting_srv (s : State) : (settleWaiting s).srv = s.srv := by
  unfold settleWaiting; split <;> (try split) <;> rfl
@[simp] theorem settleWaiting_rf (s : State) : (settleWaiting s).rf = s.rf := by
  unfold settleWaiting; split <;> (try split) <;> rfl
@[simp] theorem settleWaiting_pal (s : State) : (settleWaiting s).pal = s.pal := by
  unfold settleWaiting; split <;> (try split) <;> rfl
@[simp] theorem settleWaiting_pri (s : State) : (settleWaiting s).pri = s.pri := by
  unfold settleWaiting; split <;> (try split) <;> rfl
@[simp] theorem settleWaiting_nod (s : State) : (settleWaiting s).nod = s.nod := by
  unfold settleWaiting; split <;> (try split) <;> rfl
@[simp] theorem settleWaiting_eas (s : State) : (settleWaiting s).eas = s.eas := by
  unfold settleWaiting; split <;> (try split) <;> rfl
@[simp] theorem settleWaiting_gla (s : State) : (settleWaiting s).gla = s.gla := by
  unfold settleWaiting; split <;> (try split) <;> rfl
@[simp] theorem settleWaiting_tre (s : State) : (settleWaiting s).tre = s.tre := by
  unfold settleWaiting; split <;> (try split) <;> rfl
@[simp] theorem settleWaiting_rid (s : State) : (settleWaiting s).rid = s.rid := by
  unfold settleWaiting; split <;> (try split) <;> rfl
@[simp] theorem settleWaiting_hed (s : State) : (settleWaiting s).hed = s.hed := by
  unfold settleWaiting; split <;> (try split) <;> rfl
@[simp] theorem settleWaiting_sec (s : State) : (settleWaiting s).sec = s.sec := by
  unfold settleWaiting; split <;> (try split) <;> rfl
@[simp] theorem settleWaiting_fw (s : State) : (settleWaiting s).fw = s.fw := by
  unfold settleWaiting; split <;> (try split) <;> rfl
@[simp] theorem settleWaiting_shd (s : State) : (settleWaiting s).shd = s.shd := by
  unfold settleWaiting; split <;> (try split) <;> rfl
@[simp] theorem settleWaiting_host (s : State) : (settleWaiting s).host = s.host := by
  unfold settleWaiting; split <;> (try split) <;> rfl
@[simp] theorem settleWaiting_pwr (s : State) : (settleWaiting s).pwr = s.pwr := by
  unfold settleWaiting; split <;> (try split) <;> rfl
@[simp] theorem settleWaiting_od (s : State) : (settleWaiting s).od = s.od := by
  unfold settleWaiting; split <;> (try split) <;> rfl
@[simp] theorem settleWaiting_mem (s : State) : (settleWaiting s).mem = s.mem := by
  unfold settleWaiting; split <;> (try split) <;> rfl
@[simp] theorem settleWaiting_out (s : State) : (settleWaiting s).out = s.out := by
  unfold settleWaiting; split <;> (try split) <;> rfl
@[simp] theorem settleWaiting_free (s : State) : (settleWaiting s).free = s.free := by
  unfold settleWaiting; split <;> (try split) <;> rfl
@[simp] theorem settleWaiting_pending (s : State) : (settleWaiting s).pending = s.pending := by
  unfold settleWaiting; split <;> (try split) <;> rfl

/-! What `logEvent` leaves: all but `shd`. -/


/-! What `emit` leaves: all but `out`. -/


/-! What `bump` leaves: all but `od`. -/


/-! What `modPwr` leaves: all but `pwr`. -/


/-! What `wake` leaves: all but `ctl`, `shd`. -/

@[simp] theorem wake_chip (u : Bool) (s : State) : (wake u s).chip = s.chip := by
  unfold wake; split <;> rfl
@[simp] theorem wake_clk (u : Bool) (s : State) : (wake u s).clk = s.clk := by
  unfold wake; split <;> rfl
@[simp] theorem wake_srv (u : Bool) (s : State) : (wake u s).srv = s.srv := by
  unfold wake; split <;> rfl
@[simp] theorem wake_rf (u : Bool) (s : State) : (wake u s).rf = s.rf := by
  unfold wake; split <;> rfl
@[simp] theorem wake_pal (u : Bool) (s : State) : (wake u s).pal = s.pal := by
  unfold wake; split <;> rfl
@[simp] theorem wake_pri (u : Bool) (s : State) : (wake u s).pri = s.pri := by
  unfold wake; split <;> rfl
@[simp] theorem wake_nod (u : Bool) (s : State) : (wake u s).nod = s.nod := by
  unfold wake; split <;> rfl
@[simp] theorem wake_eas (u : Bool) (s : State) : (wake u s).eas = s.eas := by
  unfold wake; split <;> rfl
@[simp] theorem wake_gla (u : Bool) (s : State) : (wake u s).gla = s.gla := by
  unfold wake; split <;> rfl
@[simp] theorem wake_tre (u : Bool) (s : State) : (wake u s).tre = s.tre := by
  unfold wake; split <;> rfl
@[simp] theorem wake_rid (u : Bool) (s : State) : (wake u s).rid = s.rid := by
  unfold wake; split <;> rfl
@[simp] theorem wake_hed (u : Bool) (s : State) : (wake u s).hed = s.hed := by
  unfold wake; split <;> rfl
@[simp] theorem wake_sec (u : Bool) (s : State) : (wake u s).sec = s.sec := by
  unfold wake; split <;> rfl
@[simp] theorem wake_fw (u : Bool) (s : State) : (wake u s).fw = s.fw := by
  unfold wake; split <;> rfl
@[simp] theorem wake_host (u : Bool) (s : State) : (wake u s).host = s.host := by
  unfold wake; split <;> rfl
@[simp] theorem wake_pwr (u : Bool) (s : State) : (wake u s).pwr = s.pwr := by
  unfold wake; split <;> rfl
@[simp] theorem wake_od (u : Bool) (s : State) : (wake u s).od = s.od := by
  unfold wake; split <;> rfl
@[simp] theorem wake_mem (u : Bool) (s : State) : (wake u s).mem = s.mem := by
  unfold wake; split <;> rfl
@[simp] theorem wake_out (u : Bool) (s : State) : (wake u s).out = s.out := by
  unfold wake; split <;> rfl
@[simp] theorem wake_free (u : Bool) (s : State) : (wake u s).free = s.free := by
  unfold wake; split <;> rfl
@[simp] theorem wake_pending (u : Bool) (s : State) : (wake u s).pending = s.pending := by
  unfold wake; split <;> rfl

/-! What `alarmFired` leaves: all but `ctl`, `shd`. -/

@[simp] theorem alarmFired_chip (c : Nat) (b : Bool) (s : State) : (alarmFired c b s).chip = s.chip := by
  unfold alarmFired; split <;> simp
@[simp] theorem alarmFired_clk (c : Nat) (b : Bool) (s : State) : (alarmFired c b s).clk = s.clk := by
  unfold alarmFired; split <;> simp
@[simp] theorem alarmFired_srv (c : Nat) (b : Bool) (s : State) : (alarmFired c b s).srv = s.srv := by
  unfold alarmFired; split <;> simp
@[simp] theorem alarmFired_rf (c : Nat) (b : Bool) (s : State) : (alarmFired c b s).rf = s.rf := by
  unfold alarmFired; split <;> simp
@[simp] theorem alarmFired_pal (c : Nat) (b : Bool) (s : State) : (alarmFired c b s).pal = s.pal := by
  unfold alarmFired; split <;> simp
@[simp] theorem alarmFired_pri (c : Nat) (b : Bool) (s : State) : (alarmFired c b s).pri = s.pri := by
  unfold alarmFired; split <;> simp
@[simp] theorem alarmFired_nod (c : Nat) (b : Bool) (s : State) : (alarmFired c b s).nod = s.nod := by
  unfold alarmFired; split <;> simp
@[simp] theorem alarmFired_eas (c : Nat) (b : Bool) (s : State) : (alarmFired c b s).eas = s.eas := by
  unfold alarmFired; split <;> simp
@[simp] theorem alarmFired_gla (c : Nat) (b : Bool) (s : State) : (alarmFired c b s).gla = s.gla := by
  unfold alarmFired; split <;> simp
@[simp] theorem alarmFired_tre (c : Nat) (b : Bool) (s : State) : (alarmFired c b s).tre = s.tre := by
  unfold alarmFired; split <;> simp
@[simp] theorem alarmFired_rid (c : Nat) (b : Bool) (s : State) : (alarmFired c b s).rid = s.rid := by
  unfold alarmFired; split <;> simp
@[simp] theorem alarmFired_hed (c : Nat) (b : Bool) (s : State) : (alarmFired c b s).hed = s.hed := by
  unfold alarmFired; split <;> simp
@[simp] theorem alarmFired_sec (c : Nat) (b : Bool) (s : State) : (alarmFired c b s).sec = s.sec := by
  unfold alarmFired; split <;> simp
@[simp] theorem alarmFired_fw (c : Nat) (b : Bool) (s : State) : (alarmFired c b s).fw = s.fw := by
  unfold alarmFired; split <;> simp
@[simp] theorem alarmFired_host (c : Nat) (b : Bool) (s : State) : (alarmFired c b s).host = s.host := by
  unfold alarmFired; split <;> simp
@[simp] theorem alarmFired_pwr (c : Nat) (b : Bool) (s : State) : (alarmFired c b s).pwr = s.pwr := by
  unfold alarmFired; split <;> simp
@[simp] theorem alarmFired_od (c : Nat) (b : Bool) (s : State) : (alarmFired c b s).od = s.od := by
  unfold alarmFired; split <;> simp
@[simp] theorem alarmFired_mem (c : Nat) (b : Bool) (s : State) : (alarmFired c b s).mem = s.mem := by
  unfold alarmFired; split <;> simp
@[simp] theorem alarmFired_out (c : Nat) (b : Bool) (s : State) : (alarmFired c b s).out = s.out := by
  unfold alarmFired; split <;> simp
@[simp] theorem alarmFired_free (c : Nat) (b : Bool) (s : State) : (alarmFired c b s).free = s.free := by
  unfold alarmFired; split <;> simp
@[simp] theorem alarmFired_pending (c : Nat) (b : Bool) (s : State) : (alarmFired c b s).pending = s.pending := by
  unfold alarmFired; split <;> simp

/-! What `fireChannel` leaves: all but `ctl`, `shd`, `pwr`. -/

@[simp] theorem fireChannel_chip (c : Nat) (b : Bool) (s : State) : (fireChannel c b s).chip = s.chip := by
  unfold fireChannel; simp
@[simp] theorem fireChannel_clk (c : Nat) (b : Bool) (s : State) : (fireChannel c b s).clk = s.clk := by
  unfold fireChannel; simp
@[simp] theorem fireChannel_srv (c : Nat) (b : Bool) (s : State) : (fireChannel c b s).srv = s.srv := by
  unfold fireChannel; simp
@[simp] theorem fireChannel_rf (c : Nat) (b : Bool) (s : State) : (fireChannel c b s).rf = s.rf := by
  unfold fireChannel; simp
@[simp] theorem fireChannel_pal (c : Nat) (b : Bool) (s : State) : (fireChannel c b s).pal = s.pal := by
  unfold fireChannel; simp
@[simp] theorem fireChannel_pri (c : Nat) (b : Bool) (s : State) : (fireChannel c b s).pri = s.pri := by
  unfold fireChannel; simp
@[simp] theorem fireChannel_nod (c : Nat) (b : Bool) (s : State) : (fireChannel c b s).nod = s.nod := by
  unfold fireChannel; simp
@[simp] theorem fireChannel_eas (c : Nat) (b : Bool) (s : State) : (fireChannel c b s).eas = s.eas := by
  unfold fireChannel; simp
@[simp] theorem fireChannel_gla (c : Nat) (b : Bool) (s : State) : (fireChannel c b s).gla = s.gla := by
  unfold fireChannel; simp
@[simp] theorem fireChannel_tre (c : Nat) (b : Bool) (s : State) : (fireChannel c b s).tre = s.tre := by
  unfold fireChannel; simp
@[simp] theorem fireChannel_rid (c : Nat) (b : Bool) (s : State) : (fireChannel c b s).rid = s.rid := by
  unfold fireChannel; simp
@[simp] theorem fireChannel_hed (c : Nat) (b : Bool) (s : State) : (fireChannel c b s).hed = s.hed := by
  unfold fireChannel; simp
@[simp] theorem fireChannel_sec (c : Nat) (b : Bool) (s : State) : (fireChannel c b s).sec = s.sec := by
  unfold fireChannel; simp
@[simp] theorem fireChannel_fw (c : Nat) (b : Bool) (s : State) : (fireChannel c b s).fw = s.fw := by
  unfold fireChannel; simp
@[simp] theorem fireChannel_host (c : Nat) (b : Bool) (s : State) : (fireChannel c b s).host = s.host := by
  unfold fireChannel; simp
@[simp] theorem fireChannel_od (c : Nat) (b : Bool) (s : State) : (fireChannel c b s).od = s.od := by
  unfold fireChannel; simp
@[simp] theorem fireChannel_mem (c : Nat) (b : Bool) (s : State) : (fireChannel c b s).mem = s.mem := by
  unfold fireChannel; simp
@[simp] theorem fireChannel_out (c : Nat) (b : Bool) (s : State) : (fireChannel c b s).out = s.out := by
  unfold fireChannel; simp
@[simp] theorem fireChannel_free (c : Nat) (b : Bool) (s : State) : (fireChannel c b s).free = s.free := by
  unfold fireChannel; simp
@[simp] theorem fireChannel_pending (c : Nat) (b : Bool) (s : State) : (fireChannel c b s).pending = s.pending := by
  unfold fireChannel; simp

/-! What `channelSecond` leaves: all but `ctl`, `shd`, `pwr`. -/

@[simp] theorem channelSecond_chip (c : Nat) (s : State) : (channelSecond c s).chip = s.chip := by
  unfold channelSecond; dsimp only; (repeat' split) <;> simp
@[simp] theorem channelSecond_clk (c : Nat) (s : State) : (channelSecond c s).clk = s.clk := by
  unfold channelSecond; dsimp only; (repeat' split) <;> simp
@[simp] theorem channelSecond_srv (c : Nat) (s : State) : (channelSecond c s).srv = s.srv := by
  unfold channelSecond; dsimp only; (repeat' split) <;> simp
@[simp] theorem channelSecond_rf (c : Nat) (s : State) : (channelSecond c s).rf = s.rf := by
  unfold channelSecond; dsimp only; (repeat' split) <;> simp
@[simp] theorem channelSecond_pal (c : Nat) (s : State) : (channelSecond c s).pal = s.pal := by
  unfold channelSecond; dsimp only; (repeat' split) <;> simp
@[simp] theorem channelSecond_pri (c : Nat) (s : State) : (channelSecond c s).pri = s.pri := by
  unfold channelSecond; dsimp only; (repeat' split) <;> simp
@[simp] theorem channelSecond_nod (c : Nat) (s : State) : (channelSecond c s).nod = s.nod := by
  unfold channelSecond; dsimp only; (repeat' split) <;> simp
@[simp] theorem channelSecond_eas (c : Nat) (s : State) : (channelSecond c s).eas = s.eas := by
  unfold channelSecond; dsimp only; (repeat' split) <;> simp
@[simp] theorem channelSecond_gla (c : Nat) (s : State) : (channelSecond c s).gla = s.gla := by
  unfold channelSecond; dsimp only; (repeat' split) <;> simp
@[simp] theorem channelSecond_tre (c : Nat) (s : State) : (channelSecond c s).tre = s.tre := by
  unfold channelSecond; dsimp only; (repeat' split) <;> simp
@[simp] theorem channelSecond_rid (c : Nat) (s : State) : (channelSecond c s).rid = s.rid := by
  unfold channelSecond; dsimp only; (repeat' split) <;> simp
@[simp] theorem channelSecond_hed (c : Nat) (s : State) : (channelSecond c s).hed = s.hed := by
  unfold channelSecond; dsimp only; (repeat' split) <;> simp
@[simp] theorem channelSecond_sec (c : Nat) (s : State) : (channelSecond c s).sec = s.sec := by
  unfold channelSecond; dsimp only; (repeat' split) <;> simp
@[simp] theorem channelSecond_fw (c : Nat) (s : State) : (channelSecond c s).fw = s.fw := by
  unfold channelSecond; dsimp only; (repeat' split) <;> simp
@[simp] theorem channelSecond_host (c : Nat) (s : State) : (channelSecond c s).host = s.host := by
  unfold channelSecond; dsimp only; (repeat' split) <;> simp
@[simp] theorem channelSecond_od (c : Nat) (s : State) : (channelSecond c s).od = s.od := by
  unfold channelSecond; dsimp only; (repeat' split) <;> simp
@[simp] theorem channelSecond_mem (c : Nat) (s : State) : (channelSecond c s).mem = s.mem := by
  unfold channelSecond; dsimp only; (repeat' split) <;> simp
@[simp] theorem channelSecond_out (c : Nat) (s : State) : (channelSecond c s).out = s.out := by
  unfold channelSecond; dsimp only; (repeat' split) <;> simp
@[simp] theorem channelSecond_free (c : Nat) (s : State) : (channelSecond c s).free = s.free := by
  unfold channelSecond; dsimp only; (repeat' split) <;> simp
@[simp] theorem channelSecond_pending (c : Nat) (s : State) : (channelSecond c s).pending = s.pending := by
  unfold channelSecond; dsimp only; (repeat' split) <;> simp

/-! What `owTrimmed` leaves: all but `ctl`, `shd`, `pwr`. -/

@[simp] theorem owTrimmed_chip (s : State) : (owTrimmed s).chip = s.chip := by
  unfold owTrimmed; split <;> simp
@[simp] theorem owTrimmed_clk (s : State) : (owTrimmed s).clk = s.clk := by
  unfold owTrimmed; split <;> simp
@[simp] theorem owTrimmed_srv (s : State) : (owTrimmed s).srv = s.srv := by
  unfold owTrimmed; split <;> simp
@[simp] theorem owTrimmed_rf (s : State) : (owTrimmed s).rf = s.rf := by
  unfold owTrimmed; split <;> simp
@[simp] theorem owTrimmed_pal (s : State) : (owTrimmed s).pal = s.pal := by
  unfold owTrimmed; split <;> simp
@[simp] theorem owTrimmed_pri (s : State) : (owTrimmed s).pri = s.pri := by
  unfold owTrimmed; split <;> simp
@[simp] theorem owTrimmed_nod (s : State) : (owTrimmed s).nod = s.nod := by
  unfold owTrimmed; split <;> simp
@[simp] theorem owTrimmed_eas (s : State) : (owTrimmed s).eas = s.eas := by
  unfold owTrimmed; split <;> simp
@[simp] theorem owTrimmed_gla (s : State) : (owTrimmed s).gla = s.gla := by
  unfold owTrimmed; split <;> simp
@[simp] theorem owTrimmed_tre (s : State) : (owTrimmed s).tre = s.tre := by
  unfold owTrimmed; split <;> simp
@[simp] theorem owTrimmed_rid (s : State) : (owTrimmed s).rid = s.rid := by
  unfold owTrimmed; split <;> simp
@[simp] theorem owTrimmed_hed (s : State) : (owTrimmed s).hed = s.hed := by
  unfold owTrimmed; split <;> simp
@[simp] theorem owTrimmed_sec (s : State) : (owTrimmed s).sec = s.sec := by
  unfold owTrimmed; split <;> simp
@[simp] theorem owTrimmed_fw (s : State) : (owTrimmed s).fw = s.fw := by
  unfold owTrimmed; split <;> simp
@[simp] theorem owTrimmed_host (s : State) : (owTrimmed s).host = s.host := by
  unfold owTrimmed; split <;> simp
@[simp] theorem owTrimmed_od (s : State) : (owTrimmed s).od = s.od := by
  unfold owTrimmed; split <;> simp
@[simp] theorem owTrimmed_mem (s : State) : (owTrimmed s).mem = s.mem := by
  unfold owTrimmed; split <;> simp
@[simp] theorem owTrimmed_out (s : State) : (owTrimmed s).out = s.out := by
  unfold owTrimmed; split <;> simp
@[simp] theorem owTrimmed_free (s : State) : (owTrimmed s).free = s.free := by
  unfold owTrimmed; split <;> simp
@[simp] theorem owTrimmed_pending (s : State) : (owTrimmed s).pending = s.pending := by
  unfold owTrimmed; split <;> simp

/-! What `channelStep` leaves: all but `ctl`, `shd`, `pwr`. -/

@[simp] theorem channelStep_chip (c o n : Nat) (s : State) : (channelStep c o n s).chip = s.chip := by
  unfold channelStep; dsimp only; split <;> simp
@[simp] theorem channelStep_clk (c o n : Nat) (s : State) : (channelStep c o n s).clk = s.clk := by
  unfold channelStep; dsimp only; split <;> simp
@[simp] theorem channelStep_srv (c o n : Nat) (s : State) : (channelStep c o n s).srv = s.srv := by
  unfold channelStep; dsimp only; split <;> simp
@[simp] theorem channelStep_rf (c o n : Nat) (s : State) : (channelStep c o n s).rf = s.rf := by
  unfold channelStep; dsimp only; split <;> simp
@[simp] theorem channelStep_pal (c o n : Nat) (s : State) : (channelStep c o n s).pal = s.pal := by
  unfold channelStep; dsimp only; split <;> simp
@[simp] theorem channelStep_pri (c o n : Nat) (s : State) : (channelStep c o n s).pri = s.pri := by
  unfold channelStep; dsimp only; split <;> simp
@[simp] theorem channelStep_nod (c o n : Nat) (s : State) : (channelStep c o n s).nod = s.nod := by
  unfold channelStep; dsimp only; split <;> simp
@[simp] theorem channelStep_eas (c o n : Nat) (s : State) : (channelStep c o n s).eas = s.eas := by
  unfold channelStep; dsimp only; split <;> simp
@[simp] theorem channelStep_gla (c o n : Nat) (s : State) : (channelStep c o n s).gla = s.gla := by
  unfold channelStep; dsimp only; split <;> simp
@[simp] theorem channelStep_tre (c o n : Nat) (s : State) : (channelStep c o n s).tre = s.tre := by
  unfold channelStep; dsimp only; split <;> simp
@[simp] theorem channelStep_rid (c o n : Nat) (s : State) : (channelStep c o n s).rid = s.rid := by
  unfold channelStep; dsimp only; split <;> simp
@[simp] theorem channelStep_hed (c o n : Nat) (s : State) : (channelStep c o n s).hed = s.hed := by
  unfold channelStep; dsimp only; split <;> simp
@[simp] theorem channelStep_sec (c o n : Nat) (s : State) : (channelStep c o n s).sec = s.sec := by
  unfold channelStep; dsimp only; split <;> simp
@[simp] theorem channelStep_fw (c o n : Nat) (s : State) : (channelStep c o n s).fw = s.fw := by
  unfold channelStep; dsimp only; split <;> simp
@[simp] theorem channelStep_host (c o n : Nat) (s : State) : (channelStep c o n s).host = s.host := by
  unfold channelStep; dsimp only; split <;> simp
@[simp] theorem channelStep_od (c o n : Nat) (s : State) : (channelStep c o n s).od = s.od := by
  unfold channelStep; dsimp only; split <;> simp
@[simp] theorem channelStep_mem (c o n : Nat) (s : State) : (channelStep c o n s).mem = s.mem := by
  unfold channelStep; dsimp only; split <;> simp
@[simp] theorem channelStep_out (c o n : Nat) (s : State) : (channelStep c o n s).out = s.out := by
  unfold channelStep; dsimp only; split <;> simp
@[simp] theorem channelStep_free (c o n : Nat) (s : State) : (channelStep c o n s).free = s.free := by
  unfold channelStep; dsimp only; split <;> simp
@[simp] theorem channelStep_pending (c o n : Nat) (s : State) : (channelStep c o n s).pending = s.pending := by
  unfold channelStep; dsimp only; split <;> simp

/-! What `owStep` leaves: all but `ctl`, `shd`, `pwr`. -/

@[simp] theorem owStep_chip (a b : Nat) (s : State) : (owStep a b s).chip = s.chip := by
  unfold owStep; dsimp only; split <;> simp
@[simp] theorem owStep_clk (a b : Nat) (s : State) : (owStep a b s).clk = s.clk := by
  unfold owStep; dsimp only; split <;> simp
@[simp] theorem owStep_srv (a b : Nat) (s : State) : (owStep a b s).srv = s.srv := by
  unfold owStep; dsimp only; split <;> simp
@[simp] theorem owStep_rf (a b : Nat) (s : State) : (owStep a b s).rf = s.rf := by
  unfold owStep; dsimp only; split <;> simp
@[simp] theorem owStep_pal (a b : Nat) (s : State) : (owStep a b s).pal = s.pal := by
  unfold owStep; dsimp only; split <;> simp
@[simp] theorem owStep_pri (a b : Nat) (s : State) : (owStep a b s).pri = s.pri := by
  unfold owStep; dsimp only; split <;> simp
@[simp] theorem owStep_nod (a b : Nat) (s : State) : (owStep a b s).nod = s.nod := by
  unfold owStep; dsimp only; split <;> simp
@[simp] theorem owStep_eas (a b : Nat) (s : State) : (owStep a b s).eas = s.eas := by
  unfold owStep; dsimp only; split <;> simp
@[simp] theorem owStep_gla (a b : Nat) (s : State) : (owStep a b s).gla = s.gla := by
  unfold owStep; dsimp only; split <;> simp
@[simp] theorem owStep_tre (a b : Nat) (s : State) : (owStep a b s).tre = s.tre := by
  unfold owStep; dsimp only; split <;> simp
@[simp] theorem owStep_rid (a b : Nat) (s : State) : (owStep a b s).rid = s.rid := by
  unfold owStep; dsimp only; split <;> simp
@[simp] theorem owStep_hed (a b : Nat) (s : State) : (owStep a b s).hed = s.hed := by
  unfold owStep; dsimp only; split <;> simp
@[simp] theorem owStep_sec (a b : Nat) (s : State) : (owStep a b s).sec = s.sec := by
  unfold owStep; dsimp only; split <;> simp
@[simp] theorem owStep_fw (a b : Nat) (s : State) : (owStep a b s).fw = s.fw := by
  unfold owStep; dsimp only; split <;> simp
@[simp] theorem owStep_host (a b : Nat) (s : State) : (owStep a b s).host = s.host := by
  unfold owStep; dsimp only; split <;> simp
@[simp] theorem owStep_od (a b : Nat) (s : State) : (owStep a b s).od = s.od := by
  unfold owStep; dsimp only; split <;> simp
@[simp] theorem owStep_mem (a b : Nat) (s : State) : (owStep a b s).mem = s.mem := by
  unfold owStep; dsimp only; split <;> simp
@[simp] theorem owStep_out (a b : Nat) (s : State) : (owStep a b s).out = s.out := by
  unfold owStep; dsimp only; split <;> simp
@[simp] theorem owStep_free (a b : Nat) (s : State) : (owStep a b s).free = s.free := by
  unfold owStep; dsimp only; split <;> simp
@[simp] theorem owStep_pending (a b : Nat) (s : State) : (owStep a b s).pending = s.pending := by
  unfold owStep; dsimp only; split <;> simp

/-! What `owPulse` leaves: all but `ctl`, `shd`, `pwr`. -/

@[simp] theorem owPulse_chip (s : State) : (owPulse s).chip = s.chip := by
  unfold owPulse; dsimp only; (repeat' split) <;> simp
@[simp] theorem owPulse_clk (s : State) : (owPulse s).clk = s.clk := by
  unfold owPulse; dsimp only; (repeat' split) <;> simp
@[simp] theorem owPulse_srv (s : State) : (owPulse s).srv = s.srv := by
  unfold owPulse; dsimp only; (repeat' split) <;> simp
@[simp] theorem owPulse_rf (s : State) : (owPulse s).rf = s.rf := by
  unfold owPulse; dsimp only; (repeat' split) <;> simp
@[simp] theorem owPulse_pal (s : State) : (owPulse s).pal = s.pal := by
  unfold owPulse; dsimp only; (repeat' split) <;> simp
@[simp] theorem owPulse_pri (s : State) : (owPulse s).pri = s.pri := by
  unfold owPulse; dsimp only; (repeat' split) <;> simp
@[simp] theorem owPulse_nod (s : State) : (owPulse s).nod = s.nod := by
  unfold owPulse; dsimp only; (repeat' split) <;> simp
@[simp] theorem owPulse_eas (s : State) : (owPulse s).eas = s.eas := by
  unfold owPulse; dsimp only; (repeat' split) <;> simp
@[simp] theorem owPulse_gla (s : State) : (owPulse s).gla = s.gla := by
  unfold owPulse; dsimp only; (repeat' split) <;> simp
@[simp] theorem owPulse_tre (s : State) : (owPulse s).tre = s.tre := by
  unfold owPulse; dsimp only; (repeat' split) <;> simp
@[simp] theorem owPulse_rid (s : State) : (owPulse s).rid = s.rid := by
  unfold owPulse; dsimp only; (repeat' split) <;> simp
@[simp] theorem owPulse_hed (s : State) : (owPulse s).hed = s.hed := by
  unfold owPulse; dsimp only; (repeat' split) <;> simp
@[simp] theorem owPulse_sec (s : State) : (owPulse s).sec = s.sec := by
  unfold owPulse; dsimp only; (repeat' split) <;> simp
@[simp] theorem owPulse_fw (s : State) : (owPulse s).fw = s.fw := by
  unfold owPulse; dsimp only; (repeat' split) <;> simp
@[simp] theorem owPulse_host (s : State) : (owPulse s).host = s.host := by
  unfold owPulse; dsimp only; (repeat' split) <;> simp
@[simp] theorem owPulse_od (s : State) : (owPulse s).od = s.od := by
  unfold owPulse; dsimp only; (repeat' split) <;> simp
@[simp] theorem owPulse_mem (s : State) : (owPulse s).mem = s.mem := by
  unfold owPulse; dsimp only; (repeat' split) <;> simp
@[simp] theorem owPulse_out (s : State) : (owPulse s).out = s.out := by
  unfold owPulse; dsimp only; (repeat' split) <;> simp
@[simp] theorem owPulse_free (s : State) : (owPulse s).free = s.free := by
  unfold owPulse; dsimp only; (repeat' split) <;> simp
@[simp] theorem owPulse_pending (s : State) : (owPulse s).pending = s.pending := by
  unfold owPulse; dsimp only; (repeat' split) <;> simp

/-! What `owPulses` leaves: all but `ctl`, `shd`, `pwr`. -/

@[simp] theorem owPulses_chip (n : Nat) (s : State) : (owPulses n s).chip = s.chip := by
  induction n generalizing s with
  | zero => rfl
  | succ n ih => rw [owPulses, ih]; simp
@[simp] theorem owPulses_clk (n : Nat) (s : State) : (owPulses n s).clk = s.clk := by
  induction n generalizing s with
  | zero => rfl
  | succ n ih => rw [owPulses, ih]; simp
@[simp] theorem owPulses_srv (n : Nat) (s : State) : (owPulses n s).srv = s.srv := by
  induction n generalizing s with
  | zero => rfl
  | succ n ih => rw [owPulses, ih]; simp
@[simp] theorem owPulses_rf (n : Nat) (s : State) : (owPulses n s).rf = s.rf := by
  induction n generalizing s with
  | zero => rfl
  | succ n ih => rw [owPulses, ih]; simp
@[simp] theorem owPulses_pal (n : Nat) (s : State) : (owPulses n s).pal = s.pal := by
  induction n generalizing s with
  | zero => rfl
  | succ n ih => rw [owPulses, ih]; simp
@[simp] theorem owPulses_pri (n : Nat) (s : State) : (owPulses n s).pri = s.pri := by
  induction n generalizing s with
  | zero => rfl
  | succ n ih => rw [owPulses, ih]; simp
@[simp] theorem owPulses_nod (n : Nat) (s : State) : (owPulses n s).nod = s.nod := by
  induction n generalizing s with
  | zero => rfl
  | succ n ih => rw [owPulses, ih]; simp
@[simp] theorem owPulses_eas (n : Nat) (s : State) : (owPulses n s).eas = s.eas := by
  induction n generalizing s with
  | zero => rfl
  | succ n ih => rw [owPulses, ih]; simp
@[simp] theorem owPulses_gla (n : Nat) (s : State) : (owPulses n s).gla = s.gla := by
  induction n generalizing s with
  | zero => rfl
  | succ n ih => rw [owPulses, ih]; simp
@[simp] theorem owPulses_tre (n : Nat) (s : State) : (owPulses n s).tre = s.tre := by
  induction n generalizing s with
  | zero => rfl
  | succ n ih => rw [owPulses, ih]; simp
@[simp] theorem owPulses_rid (n : Nat) (s : State) : (owPulses n s).rid = s.rid := by
  induction n generalizing s with
  | zero => rfl
  | succ n ih => rw [owPulses, ih]; simp
@[simp] theorem owPulses_hed (n : Nat) (s : State) : (owPulses n s).hed = s.hed := by
  induction n generalizing s with
  | zero => rfl
  | succ n ih => rw [owPulses, ih]; simp
@[simp] theorem owPulses_sec (n : Nat) (s : State) : (owPulses n s).sec = s.sec := by
  induction n generalizing s with
  | zero => rfl
  | succ n ih => rw [owPulses, ih]; simp
@[simp] theorem owPulses_fw (n : Nat) (s : State) : (owPulses n s).fw = s.fw := by
  induction n generalizing s with
  | zero => rfl
  | succ n ih => rw [owPulses, ih]; simp
@[simp] theorem owPulses_host (n : Nat) (s : State) : (owPulses n s).host = s.host := by
  induction n generalizing s with
  | zero => rfl
  | succ n ih => rw [owPulses, ih]; simp
@[simp] theorem owPulses_od (n : Nat) (s : State) : (owPulses n s).od = s.od := by
  induction n generalizing s with
  | zero => rfl
  | succ n ih => rw [owPulses, ih]; simp
@[simp] theorem owPulses_mem (n : Nat) (s : State) : (owPulses n s).mem = s.mem := by
  induction n generalizing s with
  | zero => rfl
  | succ n ih => rw [owPulses, ih]; simp
@[simp] theorem owPulses_out (n : Nat) (s : State) : (owPulses n s).out = s.out := by
  induction n generalizing s with
  | zero => rfl
  | succ n ih => rw [owPulses, ih]; simp
@[simp] theorem owPulses_free (n : Nat) (s : State) : (owPulses n s).free = s.free := by
  induction n generalizing s with
  | zero => rfl
  | succ n ih => rw [owPulses, ih]; simp
@[simp] theorem owPulses_pending (n : Nat) (s : State) : (owPulses n s).pending = s.pending := by
  induction n generalizing s with
  | zero => rfl
  | succ n ih => rw [owPulses, ih]; simp

/-! What `owAdvance` leaves: all but `ctl`, `shd`, `pwr`. -/

@[simp] theorem owAdvance_chip (n : Nat) (s : State) : (owAdvance n s).chip = s.chip := by
  unfold owAdvance; dsimp only; split <;> simp
@[simp] theorem owAdvance_clk (n : Nat) (s : State) : (owAdvance n s).clk = s.clk := by
  unfold owAdvance; dsimp only; split <;> simp
@[simp] theorem owAdvance_srv (n : Nat) (s : State) : (owAdvance n s).srv = s.srv := by
  unfold owAdvance; dsimp only; split <;> simp
@[simp] theorem owAdvance_rf (n : Nat) (s : State) : (owAdvance n s).rf = s.rf := by
  unfold owAdvance; dsimp only; split <;> simp
@[simp] theorem owAdvance_pal (n : Nat) (s : State) : (owAdvance n s).pal = s.pal := by
  unfold owAdvance; dsimp only; split <;> simp
@[simp] theorem owAdvance_pri (n : Nat) (s : State) : (owAdvance n s).pri = s.pri := by
  unfold owAdvance; dsimp only; split <;> simp
@[simp] theorem owAdvance_nod (n : Nat) (s : State) : (owAdvance n s).nod = s.nod := by
  unfold owAdvance; dsimp only; split <;> simp
@[simp] theorem owAdvance_eas (n : Nat) (s : State) : (owAdvance n s).eas = s.eas := by
  unfold owAdvance; dsimp only; split <;> simp
@[simp] theorem owAdvance_gla (n : Nat) (s : State) : (owAdvance n s).gla = s.gla := by
  unfold owAdvance; dsimp only; split <;> simp
@[simp] theorem owAdvance_tre (n : Nat) (s : State) : (owAdvance n s).tre = s.tre := by
  unfold owAdvance; dsimp only; split <;> simp
@[simp] theorem owAdvance_rid (n : Nat) (s : State) : (owAdvance n s).rid = s.rid := by
  unfold owAdvance; dsimp only; split <;> simp
@[simp] theorem owAdvance_hed (n : Nat) (s : State) : (owAdvance n s).hed = s.hed := by
  unfold owAdvance; dsimp only; split <;> simp
@[simp] theorem owAdvance_sec (n : Nat) (s : State) : (owAdvance n s).sec = s.sec := by
  unfold owAdvance; dsimp only; split <;> simp
@[simp] theorem owAdvance_fw (n : Nat) (s : State) : (owAdvance n s).fw = s.fw := by
  unfold owAdvance; dsimp only; split <;> simp
@[simp] theorem owAdvance_host (n : Nat) (s : State) : (owAdvance n s).host = s.host := by
  unfold owAdvance; dsimp only; split <;> simp
@[simp] theorem owAdvance_od (n : Nat) (s : State) : (owAdvance n s).od = s.od := by
  unfold owAdvance; dsimp only; split <;> simp
@[simp] theorem owAdvance_mem (n : Nat) (s : State) : (owAdvance n s).mem = s.mem := by
  unfold owAdvance; dsimp only; split <;> simp
@[simp] theorem owAdvance_out (n : Nat) (s : State) : (owAdvance n s).out = s.out := by
  unfold owAdvance; dsimp only; split <;> simp
@[simp] theorem owAdvance_free (n : Nat) (s : State) : (owAdvance n s).free = s.free := by
  unfold owAdvance; dsimp only; split <;> simp
@[simp] theorem owAdvance_pending (n : Nat) (s : State) : (owAdvance n s).pending = s.pending := by
  unfold owAdvance; dsimp only; split <;> simp

/-! What `clockTicks` leaves: all but `ctl`, `clk`, `shd`, `pwr`. -/

@[simp] theorem clockTicks_chip (n : Nat) (s : State) : (clockTicks n s).chip = s.chip := by
  unfold clockTicks; dsimp only; split <;> simp
@[simp] theorem clockTicks_srv (n : Nat) (s : State) : (clockTicks n s).srv = s.srv := by
  unfold clockTicks; dsimp only; split <;> simp
@[simp] theorem clockTicks_rf (n : Nat) (s : State) : (clockTicks n s).rf = s.rf := by
  unfold clockTicks; dsimp only; split <;> simp
@[simp] theorem clockTicks_pal (n : Nat) (s : State) : (clockTicks n s).pal = s.pal := by
  unfold clockTicks; dsimp only; split <;> simp
@[simp] theorem clockTicks_pri (n : Nat) (s : State) : (clockTicks n s).pri = s.pri := by
  unfold clockTicks; dsimp only; split <;> simp
@[simp] theorem clockTicks_nod (n : Nat) (s : State) : (clockTicks n s).nod = s.nod := by
  unfold clockTicks; dsimp only; split <;> simp
@[simp] theorem clockTicks_eas (n : Nat) (s : State) : (clockTicks n s).eas = s.eas := by
  unfold clockTicks; dsimp only; split <;> simp
@[simp] theorem clockTicks_gla (n : Nat) (s : State) : (clockTicks n s).gla = s.gla := by
  unfold clockTicks; dsimp only; split <;> simp
@[simp] theorem clockTicks_tre (n : Nat) (s : State) : (clockTicks n s).tre = s.tre := by
  unfold clockTicks; dsimp only; split <;> simp
@[simp] theorem clockTicks_rid (n : Nat) (s : State) : (clockTicks n s).rid = s.rid := by
  unfold clockTicks; dsimp only; split <;> simp
@[simp] theorem clockTicks_hed (n : Nat) (s : State) : (clockTicks n s).hed = s.hed := by
  unfold clockTicks; dsimp only; split <;> simp
@[simp] theorem clockTicks_sec (n : Nat) (s : State) : (clockTicks n s).sec = s.sec := by
  unfold clockTicks; dsimp only; split <;> simp
@[simp] theorem clockTicks_fw (n : Nat) (s : State) : (clockTicks n s).fw = s.fw := by
  unfold clockTicks; dsimp only; split <;> simp
@[simp] theorem clockTicks_host (n : Nat) (s : State) : (clockTicks n s).host = s.host := by
  unfold clockTicks; dsimp only; split <;> simp
@[simp] theorem clockTicks_od (n : Nat) (s : State) : (clockTicks n s).od = s.od := by
  unfold clockTicks; dsimp only; split <;> simp
@[simp] theorem clockTicks_mem (n : Nat) (s : State) : (clockTicks n s).mem = s.mem := by
  unfold clockTicks; dsimp only; split <;> simp
@[simp] theorem clockTicks_out (n : Nat) (s : State) : (clockTicks n s).out = s.out := by
  unfold clockTicks; dsimp only; split <;> simp
@[simp] theorem clockTicks_free (n : Nat) (s : State) : (clockTicks n s).free = s.free := by
  unfold clockTicks; dsimp only; split <;> simp
@[simp] theorem clockTicks_pending (n : Nat) (s : State) : (clockTicks n s).pending = s.pending := by
  unfold clockTicks; dsimp only; split <;> simp

/-! What `advanceElapsed` leaves: all but `ctl`, `clk`, `shd`, `pwr`. -/

@[simp] theorem advanceElapsed_chip (n : Nat) (s : State) : (advanceElapsed n s).chip = s.chip := by
  unfold advanceElapsed; split <;> simp
@[simp] theorem advanceElapsed_srv (n : Nat) (s : State) : (advanceElapsed n s).srv = s.srv := by
  unfold advanceElapsed; split <;> simp
@[simp] theorem advanceElapsed_rf (n : Nat) (s : State) : (advanceElapsed n s).rf = s.rf := by
  unfold advanceElapsed; split <;> simp
@[simp] theorem advanceElapsed_pal (n : Nat) (s : State) : (advanceElapsed n s).pal = s.pal := by
  unfold advanceElapsed; split <;> simp
@[simp] theorem advanceElapsed_pri (n : Nat) (s : State) : (advanceElapsed n s).pri = s.pri := by
  unfold advanceElapsed; split <;> simp
@[simp] theorem advanceElapsed_nod (n : Nat) (s : State) : (advanceElapsed n s).nod = s.nod := by
  unfold advanceElapsed; split <;> simp
@[simp] theorem advanceElapsed_eas (n : Nat) (s : State) : (advanceElapsed n s).eas = s.eas := by
  unfold advanceElapsed; split <;> simp
@[simp] theorem advanceElapsed_gla (n : Nat) (s : State) : (advanceElapsed n s).gla = s.gla := by
  unfold advanceElapsed; split <;> simp
@[simp] theorem advanceElapsed_tre (n : Nat) (s : State) : (advanceElapsed n s).tre = s.tre := by
  unfold advanceElapsed; split <;> simp
@[simp] theorem advanceElapsed_rid (n : Nat) (s : State) : (advanceElapsed n s).rid = s.rid := by
  unfold advanceElapsed; split <;> simp
@[simp] theorem advanceElapsed_hed (n : Nat) (s : State) : (advanceElapsed n s).hed = s.hed := by
  unfold advanceElapsed; split <;> simp
@[simp] theorem advanceElapsed_sec (n : Nat) (s : State) : (advanceElapsed n s).sec = s.sec := by
  unfold advanceElapsed; split <;> simp
@[simp] theorem advanceElapsed_fw (n : Nat) (s : State) : (advanceElapsed n s).fw = s.fw := by
  unfold advanceElapsed; split <;> simp
@[simp] theorem advanceElapsed_host (n : Nat) (s : State) : (advanceElapsed n s).host = s.host := by
  unfold advanceElapsed; split <;> simp
@[simp] theorem advanceElapsed_od (n : Nat) (s : State) : (advanceElapsed n s).od = s.od := by
  unfold advanceElapsed; split <;> simp
@[simp] theorem advanceElapsed_mem (n : Nat) (s : State) : (advanceElapsed n s).mem = s.mem := by
  unfold advanceElapsed; split <;> simp
@[simp] theorem advanceElapsed_out (n : Nat) (s : State) : (advanceElapsed n s).out = s.out := by
  unfold advanceElapsed; split <;> simp
@[simp] theorem advanceElapsed_free (n : Nat) (s : State) : (advanceElapsed n s).free = s.free := by
  unfold advanceElapsed; split <;> simp
@[simp] theorem advanceElapsed_pending (n : Nat) (s : State) : (advanceElapsed n s).pending = s.pending := by
  unfold advanceElapsed; split <;> simp

/-! What `advanceNs` leaves: all but `ctl`, `clk`, `shd`, `pwr`. -/

@[simp] theorem advanceNs_chip (n : Nat) (s : State) : (advanceNs n s).chip = s.chip := by
  unfold advanceNs; split <;> simp
@[simp] theorem advanceNs_srv (n : Nat) (s : State) : (advanceNs n s).srv = s.srv := by
  unfold advanceNs; split <;> simp
@[simp] theorem advanceNs_rf (n : Nat) (s : State) : (advanceNs n s).rf = s.rf := by
  unfold advanceNs; split <;> simp
@[simp] theorem advanceNs_pal (n : Nat) (s : State) : (advanceNs n s).pal = s.pal := by
  unfold advanceNs; split <;> simp
@[simp] theorem advanceNs_pri (n : Nat) (s : State) : (advanceNs n s).pri = s.pri := by
  unfold advanceNs; split <;> simp
@[simp] theorem advanceNs_nod (n : Nat) (s : State) : (advanceNs n s).nod = s.nod := by
  unfold advanceNs; split <;> simp
@[simp] theorem advanceNs_eas (n : Nat) (s : State) : (advanceNs n s).eas = s.eas := by
  unfold advanceNs; split <;> simp
@[simp] theorem advanceNs_gla (n : Nat) (s : State) : (advanceNs n s).gla = s.gla := by
  unfold advanceNs; split <;> simp
@[simp] theorem advanceNs_tre (n : Nat) (s : State) : (advanceNs n s).tre = s.tre := by
  unfold advanceNs; split <;> simp
@[simp] theorem advanceNs_rid (n : Nat) (s : State) : (advanceNs n s).rid = s.rid := by
  unfold advanceNs; split <;> simp
@[simp] theorem advanceNs_hed (n : Nat) (s : State) : (advanceNs n s).hed = s.hed := by
  unfold advanceNs; split <;> simp
@[simp] theorem advanceNs_sec (n : Nat) (s : State) : (advanceNs n s).sec = s.sec := by
  unfold advanceNs; split <;> simp
@[simp] theorem advanceNs_fw (n : Nat) (s : State) : (advanceNs n s).fw = s.fw := by
  unfold advanceNs; split <;> simp
@[simp] theorem advanceNs_host (n : Nat) (s : State) : (advanceNs n s).host = s.host := by
  unfold advanceNs; split <;> simp
@[simp] theorem advanceNs_od (n : Nat) (s : State) : (advanceNs n s).od = s.od := by
  unfold advanceNs; split <;> simp
@[simp] theorem advanceNs_mem (n : Nat) (s : State) : (advanceNs n s).mem = s.mem := by
  unfold advanceNs; split <;> simp
@[simp] theorem advanceNs_out (n : Nat) (s : State) : (advanceNs n s).out = s.out := by
  unfold advanceNs; split <;> simp
@[simp] theorem advanceNs_free (n : Nat) (s : State) : (advanceNs n s).free = s.free := by
  unfold advanceNs; split <;> simp
@[simp] theorem advanceNs_pending (n : Nat) (s : State) : (advanceNs n s).pending = s.pending := by
  unfold advanceNs; split <;> simp

/-! What `endCapture` leaves: all but `pal`. -/

@[simp] theorem endCapture_chip (n : Nat) (s : State) : (endCapture n s).chip = s.chip := rfl
@[simp] theorem endCapture_ctl (n : Nat) (s : State) : (endCapture n s).ctl = s.ctl := rfl
@[simp] theorem endCapture_clk (n : Nat) (s : State) : (endCapture n s).clk = s.clk := rfl
@[simp] theorem endCapture_srv (n : Nat) (s : State) : (endCapture n s).srv = s.srv := rfl
@[simp] theorem endCapture_rf (n : Nat) (s : State) : (endCapture n s).rf = s.rf := rfl
@[simp] theorem endCapture_pri (n : Nat) (s : State) : (endCapture n s).pri = s.pri := rfl
@[simp] theorem endCapture_nod (n : Nat) (s : State) : (endCapture n s).nod = s.nod := rfl
@[simp] theorem endCapture_eas (n : Nat) (s : State) : (endCapture n s).eas = s.eas := rfl
@[simp] theorem endCapture_gla (n : Nat) (s : State) : (endCapture n s).gla = s.gla := rfl
@[simp] theorem endCapture_tre (n : Nat) (s : State) : (endCapture n s).tre = s.tre := rfl
@[simp] theorem endCapture_rid (n : Nat) (s : State) : (endCapture n s).rid = s.rid := rfl
@[simp] theorem endCapture_hed (n : Nat) (s : State) : (endCapture n s).hed = s.hed := rfl
@[simp] theorem endCapture_sec (n : Nat) (s : State) : (endCapture n s).sec = s.sec := rfl
@[simp] theorem endCapture_fw (n : Nat) (s : State) : (endCapture n s).fw = s.fw := rfl
@[simp] theorem endCapture_shd (n : Nat) (s : State) : (endCapture n s).shd = s.shd := rfl
@[simp] theorem endCapture_host (n : Nat) (s : State) : (endCapture n s).host = s.host := rfl
@[simp] theorem endCapture_pwr (n : Nat) (s : State) : (endCapture n s).pwr = s.pwr := rfl
@[simp] theorem endCapture_od (n : Nat) (s : State) : (endCapture n s).od = s.od := rfl
@[simp] theorem endCapture_mem (n : Nat) (s : State) : (endCapture n s).mem = s.mem := rfl
@[simp] theorem endCapture_out (n : Nat) (s : State) : (endCapture n s).out = s.out := rfl
@[simp] theorem endCapture_free (n : Nat) (s : State) : (endCapture n s).free = s.free := rfl
@[simp] theorem endCapture_pending (n : Nat) (s : State) : (endCapture n s).pending = s.pending := rfl

/-! What `leaveSurvey` leaves: all but `pal`. -/

@[simp] theorem leaveSurvey_chip (s : State) : (leaveSurvey s).chip = s.chip := by
  unfold leaveSurvey; dsimp only; split <;> simp
@[simp] theorem leaveSurvey_ctl (s : State) : (leaveSurvey s).ctl = s.ctl := by
  unfold leaveSurvey; dsimp only; split <;> simp
@[simp] theorem leaveSurvey_clk (s : State) : (leaveSurvey s).clk = s.clk := by
  unfold leaveSurvey; dsimp only; split <;> simp
@[simp] theorem leaveSurvey_srv (s : State) : (leaveSurvey s).srv = s.srv := by
  unfold leaveSurvey; dsimp only; split <;> simp
@[simp] theorem leaveSurvey_rf (s : State) : (leaveSurvey s).rf = s.rf := by
  unfold leaveSurvey; dsimp only; split <;> simp
@[simp] theorem leaveSurvey_pri (s : State) : (leaveSurvey s).pri = s.pri := by
  unfold leaveSurvey; dsimp only; split <;> simp
@[simp] theorem leaveSurvey_nod (s : State) : (leaveSurvey s).nod = s.nod := by
  unfold leaveSurvey; dsimp only; split <;> simp
@[simp] theorem leaveSurvey_eas (s : State) : (leaveSurvey s).eas = s.eas := by
  unfold leaveSurvey; dsimp only; split <;> simp
@[simp] theorem leaveSurvey_gla (s : State) : (leaveSurvey s).gla = s.gla := by
  unfold leaveSurvey; dsimp only; split <;> simp
@[simp] theorem leaveSurvey_tre (s : State) : (leaveSurvey s).tre = s.tre := by
  unfold leaveSurvey; dsimp only; split <;> simp
@[simp] theorem leaveSurvey_rid (s : State) : (leaveSurvey s).rid = s.rid := by
  unfold leaveSurvey; dsimp only; split <;> simp
@[simp] theorem leaveSurvey_hed (s : State) : (leaveSurvey s).hed = s.hed := by
  unfold leaveSurvey; dsimp only; split <;> simp
@[simp] theorem leaveSurvey_sec (s : State) : (leaveSurvey s).sec = s.sec := by
  unfold leaveSurvey; dsimp only; split <;> simp
@[simp] theorem leaveSurvey_fw (s : State) : (leaveSurvey s).fw = s.fw := by
  unfold leaveSurvey; dsimp only; split <;> simp
@[simp] theorem leaveSurvey_shd (s : State) : (leaveSurvey s).shd = s.shd := by
  unfold leaveSurvey; dsimp only; split <;> simp
@[simp] theorem leaveSurvey_host (s : State) : (leaveSurvey s).host = s.host := by
  unfold leaveSurvey; dsimp only; split <;> simp
@[simp] theorem leaveSurvey_pwr (s : State) : (leaveSurvey s).pwr = s.pwr := by
  unfold leaveSurvey; dsimp only; split <;> simp
@[simp] theorem leaveSurvey_od (s : State) : (leaveSurvey s).od = s.od := by
  unfold leaveSurvey; dsimp only; split <;> simp
@[simp] theorem leaveSurvey_mem (s : State) : (leaveSurvey s).mem = s.mem := by
  unfold leaveSurvey; dsimp only; split <;> simp
@[simp] theorem leaveSurvey_out (s : State) : (leaveSurvey s).out = s.out := by
  unfold leaveSurvey; dsimp only; split <;> simp
@[simp] theorem leaveSurvey_free (s : State) : (leaveSurvey s).free = s.free := by
  unfold leaveSurvey; dsimp only; split <;> simp
@[simp] theorem leaveSurvey_pending (s : State) : (leaveSurvey s).pending = s.pending := by
  unfold leaveSurvey; dsimp only; split <;> simp

/-! What `stopServer` leaves: all but `srv`, `sec`. -/

@[simp] theorem stopServer_chip (s : State) : (stopServer s).chip = s.chip := by
  unfold stopServer; simp
@[simp] theorem stopServer_ctl (s : State) : (stopServer s).ctl = s.ctl := by
  unfold stopServer; simp
@[simp] theorem stopServer_clk (s : State) : (stopServer s).clk = s.clk := by
  unfold stopServer; simp
@[simp] theorem stopServer_rf (s : State) : (stopServer s).rf = s.rf := by
  unfold stopServer; simp
@[simp] theorem stopServer_pal (s : State) : (stopServer s).pal = s.pal := by
  unfold stopServer; simp
@[simp] theorem stopServer_pri (s : State) : (stopServer s).pri = s.pri := by
  unfold stopServer; simp
@[simp] theorem stopServer_nod (s : State) : (stopServer s).nod = s.nod := by
  unfold stopServer; simp
@[simp] theorem stopServer_eas (s : State) : (stopServer s).eas = s.eas := by
  unfold stopServer; simp
@[simp] theorem stopServer_gla (s : State) : (stopServer s).gla = s.gla := by
  unfold stopServer; simp
@[simp] theorem stopServer_tre (s : State) : (stopServer s).tre = s.tre := by
  unfold stopServer; simp
@[simp] theorem stopServer_rid (s : State) : (stopServer s).rid = s.rid := by
  unfold stopServer; simp
@[simp] theorem stopServer_hed (s : State) : (stopServer s).hed = s.hed := by
  unfold stopServer; simp
@[simp] theorem stopServer_fw (s : State) : (stopServer s).fw = s.fw := by
  unfold stopServer; simp
@[simp] theorem stopServer_shd (s : State) : (stopServer s).shd = s.shd := by
  unfold stopServer; simp
@[simp] theorem stopServer_host (s : State) : (stopServer s).host = s.host := by
  unfold stopServer; simp
@[simp] theorem stopServer_pwr (s : State) : (stopServer s).pwr = s.pwr := by
  unfold stopServer; simp
@[simp] theorem stopServer_od (s : State) : (stopServer s).od = s.od := by
  unfold stopServer; simp
@[simp] theorem stopServer_mem (s : State) : (stopServer s).mem = s.mem := by
  unfold stopServer; simp
@[simp] theorem stopServer_out (s : State) : (stopServer s).out = s.out := by
  unfold stopServer; simp
@[simp] theorem stopServer_free (s : State) : (stopServer s).free = s.free := by
  unfold stopServer; simp
@[simp] theorem stopServer_pending (s : State) : (stopServer s).pending = s.pending := by
  unfold stopServer; simp

/-! What `feIdle` leaves: all but `rf`. -/

@[simp] theorem feIdle_chip (s : State) : (feIdle s).chip = s.chip := rfl
@[simp] theorem feIdle_ctl (s : State) : (feIdle s).ctl = s.ctl := rfl
@[simp] theorem feIdle_clk (s : State) : (feIdle s).clk = s.clk := rfl
@[simp] theorem feIdle_srv (s : State) : (feIdle s).srv = s.srv := rfl
@[simp] theorem feIdle_pal (s : State) : (feIdle s).pal = s.pal := rfl
@[simp] theorem feIdle_pri (s : State) : (feIdle s).pri = s.pri := rfl
@[simp] theorem feIdle_nod (s : State) : (feIdle s).nod = s.nod := rfl
@[simp] theorem feIdle_eas (s : State) : (feIdle s).eas = s.eas := rfl
@[simp] theorem feIdle_gla (s : State) : (feIdle s).gla = s.gla := rfl
@[simp] theorem feIdle_tre (s : State) : (feIdle s).tre = s.tre := rfl
@[simp] theorem feIdle_rid (s : State) : (feIdle s).rid = s.rid := rfl
@[simp] theorem feIdle_hed (s : State) : (feIdle s).hed = s.hed := rfl
@[simp] theorem feIdle_sec (s : State) : (feIdle s).sec = s.sec := rfl
@[simp] theorem feIdle_fw (s : State) : (feIdle s).fw = s.fw := rfl
@[simp] theorem feIdle_shd (s : State) : (feIdle s).shd = s.shd := rfl
@[simp] theorem feIdle_host (s : State) : (feIdle s).host = s.host := rfl
@[simp] theorem feIdle_pwr (s : State) : (feIdle s).pwr = s.pwr := rfl
@[simp] theorem feIdle_od (s : State) : (feIdle s).od = s.od := rfl
@[simp] theorem feIdle_mem (s : State) : (feIdle s).mem = s.mem := rfl
@[simp] theorem feIdle_out (s : State) : (feIdle s).out = s.out := rfl
@[simp] theorem feIdle_free (s : State) : (feIdle s).free = s.free := rfl
@[simp] theorem feIdle_pending (s : State) : (feIdle s).pending = s.pending := rfl

/-! What `silence` leaves: all but `rf`, `eas`. -/

@[simp] theorem silence_chip (s : State) : (silence s).chip = s.chip := rfl
@[simp] theorem silence_ctl (s : State) : (silence s).ctl = s.ctl := rfl
@[simp] theorem silence_clk (s : State) : (silence s).clk = s.clk := rfl
@[simp] theorem silence_srv (s : State) : (silence s).srv = s.srv := rfl
@[simp] theorem silence_pal (s : State) : (silence s).pal = s.pal := rfl
@[simp] theorem silence_pri (s : State) : (silence s).pri = s.pri := rfl
@[simp] theorem silence_nod (s : State) : (silence s).nod = s.nod := rfl
@[simp] theorem silence_gla (s : State) : (silence s).gla = s.gla := rfl
@[simp] theorem silence_tre (s : State) : (silence s).tre = s.tre := rfl
@[simp] theorem silence_rid (s : State) : (silence s).rid = s.rid := rfl
@[simp] theorem silence_hed (s : State) : (silence s).hed = s.hed := rfl
@[simp] theorem silence_sec (s : State) : (silence s).sec = s.sec := rfl
@[simp] theorem silence_fw (s : State) : (silence s).fw = s.fw := rfl
@[simp] theorem silence_shd (s : State) : (silence s).shd = s.shd := rfl
@[simp] theorem silence_host (s : State) : (silence s).host = s.host := rfl
@[simp] theorem silence_pwr (s : State) : (silence s).pwr = s.pwr := rfl
@[simp] theorem silence_od (s : State) : (silence s).od = s.od := rfl
@[simp] theorem silence_mem (s : State) : (silence s).mem = s.mem := rfl
@[simp] theorem silence_out (s : State) : (silence s).out = s.out := rfl
@[simp] theorem silence_free (s : State) : (silence s).free = s.free := rfl
@[simp] theorem silence_pending (s : State) : (silence s).pending = s.pending := rfl

/-! What `clearFloors` leaves: all but `pal`. -/

@[simp] theorem clearFloors_chip (s : State) : (clearFloors s).chip = s.chip := rfl
@[simp] theorem clearFloors_ctl (s : State) : (clearFloors s).ctl = s.ctl := rfl
@[simp] theorem clearFloors_clk (s : State) : (clearFloors s).clk = s.clk := rfl
@[simp] theorem clearFloors_srv (s : State) : (clearFloors s).srv = s.srv := rfl
@[simp] theorem clearFloors_rf (s : State) : (clearFloors s).rf = s.rf := rfl
@[simp] theorem clearFloors_pri (s : State) : (clearFloors s).pri = s.pri := rfl
@[simp] theorem clearFloors_nod (s : State) : (clearFloors s).nod = s.nod := rfl
@[simp] theorem clearFloors_eas (s : State) : (clearFloors s).eas = s.eas := rfl
@[simp] theorem clearFloors_gla (s : State) : (clearFloors s).gla = s.gla := rfl
@[simp] theorem clearFloors_tre (s : State) : (clearFloors s).tre = s.tre := rfl
@[simp] theorem clearFloors_rid (s : State) : (clearFloors s).rid = s.rid := rfl
@[simp] theorem clearFloors_hed (s : State) : (clearFloors s).hed = s.hed := rfl
@[simp] theorem clearFloors_sec (s : State) : (clearFloors s).sec = s.sec := rfl
@[simp] theorem clearFloors_fw (s : State) : (clearFloors s).fw = s.fw := rfl
@[simp] theorem clearFloors_shd (s : State) : (clearFloors s).shd = s.shd := rfl
@[simp] theorem clearFloors_host (s : State) : (clearFloors s).host = s.host := rfl
@[simp] theorem clearFloors_pwr (s : State) : (clearFloors s).pwr = s.pwr := rfl
@[simp] theorem clearFloors_od (s : State) : (clearFloors s).od = s.od := rfl
@[simp] theorem clearFloors_mem (s : State) : (clearFloors s).mem = s.mem := rfl
@[simp] theorem clearFloors_out (s : State) : (clearFloors s).out = s.out := rfl
@[simp] theorem clearFloors_free (s : State) : (clearFloors s).free = s.free := rfl
@[simp] theorem clearFloors_pending (s : State) : (clearFloors s).pending = s.pending := rfl

/-! What `dropKnife` leaves: all but `pal`. -/

@[simp] theorem dropKnife_chip (y i : Nat) (s : State) : (dropKnife y i s).chip = s.chip := rfl
@[simp] theorem dropKnife_ctl (y i : Nat) (s : State) : (dropKnife y i s).ctl = s.ctl := rfl
@[simp] theorem dropKnife_clk (y i : Nat) (s : State) : (dropKnife y i s).clk = s.clk := rfl
@[simp] theorem dropKnife_srv (y i : Nat) (s : State) : (dropKnife y i s).srv = s.srv := rfl
@[simp] theorem dropKnife_rf (y i : Nat) (s : State) : (dropKnife y i s).rf = s.rf := rfl
@[simp] theorem dropKnife_pri (y i : Nat) (s : State) : (dropKnife y i s).pri = s.pri := rfl
@[simp] theorem dropKnife_nod (y i : Nat) (s : State) : (dropKnife y i s).nod = s.nod := rfl
@[simp] theorem dropKnife_eas (y i : Nat) (s : State) : (dropKnife y i s).eas = s.eas := rfl
@[simp] theorem dropKnife_gla (y i : Nat) (s : State) : (dropKnife y i s).gla = s.gla := rfl
@[simp] theorem dropKnife_tre (y i : Nat) (s : State) : (dropKnife y i s).tre = s.tre := rfl
@[simp] theorem dropKnife_rid (y i : Nat) (s : State) : (dropKnife y i s).rid = s.rid := rfl
@[simp] theorem dropKnife_hed (y i : Nat) (s : State) : (dropKnife y i s).hed = s.hed := rfl
@[simp] theorem dropKnife_sec (y i : Nat) (s : State) : (dropKnife y i s).sec = s.sec := rfl
@[simp] theorem dropKnife_fw (y i : Nat) (s : State) : (dropKnife y i s).fw = s.fw := rfl
@[simp] theorem dropKnife_shd (y i : Nat) (s : State) : (dropKnife y i s).shd = s.shd := rfl
@[simp] theorem dropKnife_host (y i : Nat) (s : State) : (dropKnife y i s).host = s.host := rfl
@[simp] theorem dropKnife_pwr (y i : Nat) (s : State) : (dropKnife y i s).pwr = s.pwr := rfl
@[simp] theorem dropKnife_od (y i : Nat) (s : State) : (dropKnife y i s).od = s.od := rfl
@[simp] theorem dropKnife_mem (y i : Nat) (s : State) : (dropKnife y i s).mem = s.mem := rfl
@[simp] theorem dropKnife_out (y i : Nat) (s : State) : (dropKnife y i s).out = s.out := rfl
@[simp] theorem dropKnife_free (y i : Nat) (s : State) : (dropKnife y i s).free = s.free := rfl
@[simp] theorem dropKnife_pending (y i : Nat) (s : State) : (dropKnife y i s).pending = s.pending := rfl

/-! What `useEntry` leaves: all but `rf`. -/

@[simp] theorem useEntry_chip (y c : Nat) (s : State) : (useEntry y c s).chip = s.chip := rfl
@[simp] theorem useEntry_ctl (y c : Nat) (s : State) : (useEntry y c s).ctl = s.ctl := rfl
@[simp] theorem useEntry_clk (y c : Nat) (s : State) : (useEntry y c s).clk = s.clk := rfl
@[simp] theorem useEntry_srv (y c : Nat) (s : State) : (useEntry y c s).srv = s.srv := rfl
@[simp] theorem useEntry_pal (y c : Nat) (s : State) : (useEntry y c s).pal = s.pal := rfl
@[simp] theorem useEntry_pri (y c : Nat) (s : State) : (useEntry y c s).pri = s.pri := rfl
@[simp] theorem useEntry_nod (y c : Nat) (s : State) : (useEntry y c s).nod = s.nod := rfl
@[simp] theorem useEntry_eas (y c : Nat) (s : State) : (useEntry y c s).eas = s.eas := rfl
@[simp] theorem useEntry_gla (y c : Nat) (s : State) : (useEntry y c s).gla = s.gla := rfl
@[simp] theorem useEntry_tre (y c : Nat) (s : State) : (useEntry y c s).tre = s.tre := rfl
@[simp] theorem useEntry_rid (y c : Nat) (s : State) : (useEntry y c s).rid = s.rid := rfl
@[simp] theorem useEntry_hed (y c : Nat) (s : State) : (useEntry y c s).hed = s.hed := rfl
@[simp] theorem useEntry_sec (y c : Nat) (s : State) : (useEntry y c s).sec = s.sec := rfl
@[simp] theorem useEntry_fw (y c : Nat) (s : State) : (useEntry y c s).fw = s.fw := rfl
@[simp] theorem useEntry_shd (y c : Nat) (s : State) : (useEntry y c s).shd = s.shd := rfl
@[simp] theorem useEntry_host (y c : Nat) (s : State) : (useEntry y c s).host = s.host := rfl
@[simp] theorem useEntry_pwr (y c : Nat) (s : State) : (useEntry y c s).pwr = s.pwr := rfl
@[simp] theorem useEntry_od (y c : Nat) (s : State) : (useEntry y c s).od = s.od := rfl
@[simp] theorem useEntry_mem (y c : Nat) (s : State) : (useEntry y c s).mem = s.mem := rfl
@[simp] theorem useEntry_out (y c : Nat) (s : State) : (useEntry y c s).out = s.out := rfl
@[simp] theorem useEntry_free (y c : Nat) (s : State) : (useEntry y c s).free = s.free := rfl
@[simp] theorem useEntry_pending (y c : Nat) (s : State) : (useEntry y c s).pending = s.pending := rfl

/-! What `settleTrial` leaves: all but `fw`. -/

@[simp] theorem settleTrial_chip (s : State) : (settleTrial s).chip = s.chip := by
  unfold settleTrial; split <;> rfl
@[simp] theorem settleTrial_ctl (s : State) : (settleTrial s).ctl = s.ctl := by
  unfold settleTrial; split <;> rfl
@[simp] theorem settleTrial_clk (s : State) : (settleTrial s).clk = s.clk := by
  unfold settleTrial; split <;> rfl
@[simp] theorem settleTrial_srv (s : State) : (settleTrial s).srv = s.srv := by
  unfold settleTrial; split <;> rfl
@[simp] theorem settleTrial_rf (s : State) : (settleTrial s).rf = s.rf := by
  unfold settleTrial; split <;> rfl
@[simp] theorem settleTrial_pal (s : State) : (settleTrial s).pal = s.pal := by
  unfold settleTrial; split <;> rfl
@[simp] theorem settleTrial_pri (s : State) : (settleTrial s).pri = s.pri := by
  unfold settleTrial; split <;> rfl
@[simp] theorem settleTrial_nod (s : State) : (settleTrial s).nod = s.nod := by
  unfold settleTrial; split <;> rfl
@[simp] theorem settleTrial_eas (s : State) : (settleTrial s).eas = s.eas := by
  unfold settleTrial; split <;> rfl
@[simp] theorem settleTrial_gla (s : State) : (settleTrial s).gla = s.gla := by
  unfold settleTrial; split <;> rfl
@[simp] theorem settleTrial_tre (s : State) : (settleTrial s).tre = s.tre := by
  unfold settleTrial; split <;> rfl
@[simp] theorem settleTrial_rid (s : State) : (settleTrial s).rid = s.rid := by
  unfold settleTrial; split <;> rfl
@[simp] theorem settleTrial_hed (s : State) : (settleTrial s).hed = s.hed := by
  unfold settleTrial; split <;> rfl
@[simp] theorem settleTrial_sec (s : State) : (settleTrial s).sec = s.sec := by
  unfold settleTrial; split <;> rfl
@[simp] theorem settleTrial_shd (s : State) : (settleTrial s).shd = s.shd := by
  unfold settleTrial; split <;> rfl
@[simp] theorem settleTrial_host (s : State) : (settleTrial s).host = s.host := by
  unfold settleTrial; split <;> rfl
@[simp] theorem settleTrial_pwr (s : State) : (settleTrial s).pwr = s.pwr := by
  unfold settleTrial; split <;> rfl
@[simp] theorem settleTrial_od (s : State) : (settleTrial s).od = s.od := by
  unfold settleTrial; split <;> rfl
@[simp] theorem settleTrial_mem (s : State) : (settleTrial s).mem = s.mem := by
  unfold settleTrial; split <;> rfl
@[simp] theorem settleTrial_out (s : State) : (settleTrial s).out = s.out := by
  unfold settleTrial; split <;> rfl
@[simp] theorem settleTrial_free (s : State) : (settleTrial s).free = s.free := by
  unfold settleTrial; split <;> rfl
@[simp] theorem settleTrial_pending (s : State) : (settleTrial s).pending = s.pending := by
  unfold settleTrial; split <;> rfl

/-! What `modSynth` leaves: all but `rf`. -/


/-! What `calibrate` leaves: all but `rf`, `pri`, `pal`. -/

@[simp] theorem calibrate_chip (y c : Nat) (s : State) : (calibrate y c s).chip = s.chip := by
  unfold calibrate; dsimp only; (repeat' split) <;> simp
@[simp] theorem calibrate_ctl (y c : Nat) (s : State) : (calibrate y c s).ctl = s.ctl := by
  unfold calibrate; dsimp only; (repeat' split) <;> simp
@[simp] theorem calibrate_clk (y c : Nat) (s : State) : (calibrate y c s).clk = s.clk := by
  unfold calibrate; dsimp only; (repeat' split) <;> simp
@[simp] theorem calibrate_srv (y c : Nat) (s : State) : (calibrate y c s).srv = s.srv := by
  unfold calibrate; dsimp only; (repeat' split) <;> simp
@[simp] theorem calibrate_nod (y c : Nat) (s : State) : (calibrate y c s).nod = s.nod := by
  unfold calibrate; dsimp only; (repeat' split) <;> simp
@[simp] theorem calibrate_eas (y c : Nat) (s : State) : (calibrate y c s).eas = s.eas := by
  unfold calibrate; dsimp only; (repeat' split) <;> simp
@[simp] theorem calibrate_gla (y c : Nat) (s : State) : (calibrate y c s).gla = s.gla := by
  unfold calibrate; dsimp only; (repeat' split) <;> simp
@[simp] theorem calibrate_tre (y c : Nat) (s : State) : (calibrate y c s).tre = s.tre := by
  unfold calibrate; dsimp only; (repeat' split) <;> simp
@[simp] theorem calibrate_rid (y c : Nat) (s : State) : (calibrate y c s).rid = s.rid := by
  unfold calibrate; dsimp only; (repeat' split) <;> simp
@[simp] theorem calibrate_hed (y c : Nat) (s : State) : (calibrate y c s).hed = s.hed := by
  unfold calibrate; dsimp only; (repeat' split) <;> simp
@[simp] theorem calibrate_sec (y c : Nat) (s : State) : (calibrate y c s).sec = s.sec := by
  unfold calibrate; dsimp only; (repeat' split) <;> simp
@[simp] theorem calibrate_fw (y c : Nat) (s : State) : (calibrate y c s).fw = s.fw := by
  unfold calibrate; dsimp only; (repeat' split) <;> simp
@[simp] theorem calibrate_shd (y c : Nat) (s : State) : (calibrate y c s).shd = s.shd := by
  unfold calibrate; dsimp only; (repeat' split) <;> simp
@[simp] theorem calibrate_host (y c : Nat) (s : State) : (calibrate y c s).host = s.host := by
  unfold calibrate; dsimp only; (repeat' split) <;> simp
@[simp] theorem calibrate_pwr (y c : Nat) (s : State) : (calibrate y c s).pwr = s.pwr := by
  unfold calibrate; dsimp only; (repeat' split) <;> simp
@[simp] theorem calibrate_od (y c : Nat) (s : State) : (calibrate y c s).od = s.od := by
  unfold calibrate; dsimp only; (repeat' split) <;> simp
@[simp] theorem calibrate_mem (y c : Nat) (s : State) : (calibrate y c s).mem = s.mem := by
  unfold calibrate; dsimp only; (repeat' split) <;> simp
@[simp] theorem calibrate_out (y c : Nat) (s : State) : (calibrate y c s).out = s.out := by
  unfold calibrate; dsimp only; (repeat' split) <;> simp
@[simp] theorem calibrate_free (y c : Nat) (s : State) : (calibrate y c s).free = s.free := by
  unfold calibrate; dsimp only; (repeat' split) <;> simp
@[simp] theorem calibrate_pending (y c : Nat) (s : State) : (calibrate y c s).pending = s.pending := by
  unfold calibrate; dsimp only; (repeat' split) <;> simp

/-! What `movedFloors` leaves: all but `pal`. -/

@[simp] theorem movedFloors_chip (y c : Nat) (s : State) : (movedFloors y c s).chip = s.chip := by
  unfold movedFloors; split <;> rfl
@[simp] theorem movedFloors_ctl (y c : Nat) (s : State) : (movedFloors y c s).ctl = s.ctl := by
  unfold movedFloors; split <;> rfl
@[simp] theorem movedFloors_clk (y c : Nat) (s : State) : (movedFloors y c s).clk = s.clk := by
  unfold movedFloors; split <;> rfl
@[simp] theorem movedFloors_srv (y c : Nat) (s : State) : (movedFloors y c s).srv = s.srv := by
  unfold movedFloors; split <;> rfl
@[simp] theorem movedFloors_rf (y c : Nat) (s : State) : (movedFloors y c s).rf = s.rf := by
  unfold movedFloors; split <;> rfl
@[simp] theorem movedFloors_pri (y c : Nat) (s : State) : (movedFloors y c s).pri = s.pri := by
  unfold movedFloors; split <;> rfl
@[simp] theorem movedFloors_nod (y c : Nat) (s : State) : (movedFloors y c s).nod = s.nod := by
  unfold movedFloors; split <;> rfl
@[simp] theorem movedFloors_eas (y c : Nat) (s : State) : (movedFloors y c s).eas = s.eas := by
  unfold movedFloors; split <;> rfl
@[simp] theorem movedFloors_gla (y c : Nat) (s : State) : (movedFloors y c s).gla = s.gla := by
  unfold movedFloors; split <;> rfl
@[simp] theorem movedFloors_tre (y c : Nat) (s : State) : (movedFloors y c s).tre = s.tre := by
  unfold movedFloors; split <;> rfl
@[simp] theorem movedFloors_rid (y c : Nat) (s : State) : (movedFloors y c s).rid = s.rid := by
  unfold movedFloors; split <;> rfl
@[simp] theorem movedFloors_hed (y c : Nat) (s : State) : (movedFloors y c s).hed = s.hed := by
  unfold movedFloors; split <;> rfl
@[simp] theorem movedFloors_sec (y c : Nat) (s : State) : (movedFloors y c s).sec = s.sec := by
  unfold movedFloors; split <;> rfl
@[simp] theorem movedFloors_fw (y c : Nat) (s : State) : (movedFloors y c s).fw = s.fw := by
  unfold movedFloors; split <;> rfl
@[simp] theorem movedFloors_shd (y c : Nat) (s : State) : (movedFloors y c s).shd = s.shd := by
  unfold movedFloors; split <;> rfl
@[simp] theorem movedFloors_host (y c : Nat) (s : State) : (movedFloors y c s).host = s.host := by
  unfold movedFloors; split <;> rfl
@[simp] theorem movedFloors_pwr (y c : Nat) (s : State) : (movedFloors y c s).pwr = s.pwr := by
  unfold movedFloors; split <;> rfl
@[simp] theorem movedFloors_od (y c : Nat) (s : State) : (movedFloors y c s).od = s.od := by
  unfold movedFloors; split <;> rfl
@[simp] theorem movedFloors_mem (y c : Nat) (s : State) : (movedFloors y c s).mem = s.mem := by
  unfold movedFloors; split <;> rfl
@[simp] theorem movedFloors_out (y c : Nat) (s : State) : (movedFloors y c s).out = s.out := by
  unfold movedFloors; split <;> rfl
@[simp] theorem movedFloors_free (y c : Nat) (s : State) : (movedFloors y c s).free = s.free := by
  unfold movedFloors; split <;> rfl
@[simp] theorem movedFloors_pending (y c : Nat) (s : State) : (movedFloors y c s).pending = s.pending := by
  unfold movedFloors; split <;> rfl

/-! What `moveCentre` leaves: all but `rf`, `pri`, `pal`. -/

@[simp] theorem moveCentre_chip (y c : Nat) (s : State) : (moveCentre y c s).chip = s.chip := by
  unfold moveCentre; dsimp only; (repeat' split) <;> simp
@[simp] theorem moveCentre_ctl (y c : Nat) (s : State) : (moveCentre y c s).ctl = s.ctl := by
  unfold moveCentre; dsimp only; (repeat' split) <;> simp
@[simp] theorem moveCentre_clk (y c : Nat) (s : State) : (moveCentre y c s).clk = s.clk := by
  unfold moveCentre; dsimp only; (repeat' split) <;> simp
@[simp] theorem moveCentre_srv (y c : Nat) (s : State) : (moveCentre y c s).srv = s.srv := by
  unfold moveCentre; dsimp only; (repeat' split) <;> simp
@[simp] theorem moveCentre_nod (y c : Nat) (s : State) : (moveCentre y c s).nod = s.nod := by
  unfold moveCentre; dsimp only; (repeat' split) <;> simp
@[simp] theorem moveCentre_eas (y c : Nat) (s : State) : (moveCentre y c s).eas = s.eas := by
  unfold moveCentre; dsimp only; (repeat' split) <;> simp
@[simp] theorem moveCentre_gla (y c : Nat) (s : State) : (moveCentre y c s).gla = s.gla := by
  unfold moveCentre; dsimp only; (repeat' split) <;> simp
@[simp] theorem moveCentre_tre (y c : Nat) (s : State) : (moveCentre y c s).tre = s.tre := by
  unfold moveCentre; dsimp only; (repeat' split) <;> simp
@[simp] theorem moveCentre_rid (y c : Nat) (s : State) : (moveCentre y c s).rid = s.rid := by
  unfold moveCentre; dsimp only; (repeat' split) <;> simp
@[simp] theorem moveCentre_hed (y c : Nat) (s : State) : (moveCentre y c s).hed = s.hed := by
  unfold moveCentre; dsimp only; (repeat' split) <;> simp
@[simp] theorem moveCentre_sec (y c : Nat) (s : State) : (moveCentre y c s).sec = s.sec := by
  unfold moveCentre; dsimp only; (repeat' split) <;> simp
@[simp] theorem moveCentre_fw (y c : Nat) (s : State) : (moveCentre y c s).fw = s.fw := by
  unfold moveCentre; dsimp only; (repeat' split) <;> simp
@[simp] theorem moveCentre_shd (y c : Nat) (s : State) : (moveCentre y c s).shd = s.shd := by
  unfold moveCentre; dsimp only; (repeat' split) <;> simp
@[simp] theorem moveCentre_host (y c : Nat) (s : State) : (moveCentre y c s).host = s.host := by
  unfold moveCentre; dsimp only; (repeat' split) <;> simp
@[simp] theorem moveCentre_pwr (y c : Nat) (s : State) : (moveCentre y c s).pwr = s.pwr := by
  unfold moveCentre; dsimp only; (repeat' split) <;> simp
@[simp] theorem moveCentre_od (y c : Nat) (s : State) : (moveCentre y c s).od = s.od := by
  unfold moveCentre; dsimp only; (repeat' split) <;> simp
@[simp] theorem moveCentre_mem (y c : Nat) (s : State) : (moveCentre y c s).mem = s.mem := by
  unfold moveCentre; dsimp only; (repeat' split) <;> simp
@[simp] theorem moveCentre_out (y c : Nat) (s : State) : (moveCentre y c s).out = s.out := by
  unfold moveCentre; dsimp only; (repeat' split) <;> simp
@[simp] theorem moveCentre_free (y c : Nat) (s : State) : (moveCentre y c s).free = s.free := by
  unfold moveCentre; dsimp only; (repeat' split) <;> simp
@[simp] theorem moveCentre_pending (y c : Nat) (s : State) : (moveCentre y c s).pending = s.pending := by
  unfold moveCentre; dsimp only; (repeat' split) <;> simp

/-! What `powerSynths` leaves: all but `rf`, `pri`, `pal`. -/

@[simp] theorem powerSynths_chip (s : State) : (powerSynths s).chip = s.chip := by
  unfold powerSynths; refine foldl_keeps (·.chip) _ (fun t x => ?_) _ s; (repeat' split) <;> simp
@[simp] theorem powerSynths_ctl (s : State) : (powerSynths s).ctl = s.ctl := by
  unfold powerSynths; refine foldl_keeps (·.ctl) _ (fun t x => ?_) _ s; (repeat' split) <;> simp
@[simp] theorem powerSynths_clk (s : State) : (powerSynths s).clk = s.clk := by
  unfold powerSynths; refine foldl_keeps (·.clk) _ (fun t x => ?_) _ s; (repeat' split) <;> simp
@[simp] theorem powerSynths_srv (s : State) : (powerSynths s).srv = s.srv := by
  unfold powerSynths; refine foldl_keeps (·.srv) _ (fun t x => ?_) _ s; (repeat' split) <;> simp
@[simp] theorem powerSynths_nod (s : State) : (powerSynths s).nod = s.nod := by
  unfold powerSynths; refine foldl_keeps (·.nod) _ (fun t x => ?_) _ s; (repeat' split) <;> simp
@[simp] theorem powerSynths_eas (s : State) : (powerSynths s).eas = s.eas := by
  unfold powerSynths; refine foldl_keeps (·.eas) _ (fun t x => ?_) _ s; (repeat' split) <;> simp
@[simp] theorem powerSynths_gla (s : State) : (powerSynths s).gla = s.gla := by
  unfold powerSynths; refine foldl_keeps (·.gla) _ (fun t x => ?_) _ s; (repeat' split) <;> simp
@[simp] theorem powerSynths_tre (s : State) : (powerSynths s).tre = s.tre := by
  unfold powerSynths; refine foldl_keeps (·.tre) _ (fun t x => ?_) _ s; (repeat' split) <;> simp
@[simp] theorem powerSynths_rid (s : State) : (powerSynths s).rid = s.rid := by
  unfold powerSynths; refine foldl_keeps (·.rid) _ (fun t x => ?_) _ s; (repeat' split) <;> simp
@[simp] theorem powerSynths_hed (s : State) : (powerSynths s).hed = s.hed := by
  unfold powerSynths; refine foldl_keeps (·.hed) _ (fun t x => ?_) _ s; (repeat' split) <;> simp
@[simp] theorem powerSynths_sec (s : State) : (powerSynths s).sec = s.sec := by
  unfold powerSynths; refine foldl_keeps (·.sec) _ (fun t x => ?_) _ s; (repeat' split) <;> simp
@[simp] theorem powerSynths_fw (s : State) : (powerSynths s).fw = s.fw := by
  unfold powerSynths; refine foldl_keeps (·.fw) _ (fun t x => ?_) _ s; (repeat' split) <;> simp
@[simp] theorem powerSynths_shd (s : State) : (powerSynths s).shd = s.shd := by
  unfold powerSynths; refine foldl_keeps (·.shd) _ (fun t x => ?_) _ s; (repeat' split) <;> simp
@[simp] theorem powerSynths_host (s : State) : (powerSynths s).host = s.host := by
  unfold powerSynths; refine foldl_keeps (·.host) _ (fun t x => ?_) _ s; (repeat' split) <;> simp
@[simp] theorem powerSynths_pwr (s : State) : (powerSynths s).pwr = s.pwr := by
  unfold powerSynths; refine foldl_keeps (·.pwr) _ (fun t x => ?_) _ s; (repeat' split) <;> simp
@[simp] theorem powerSynths_od (s : State) : (powerSynths s).od = s.od := by
  unfold powerSynths; refine foldl_keeps (·.od) _ (fun t x => ?_) _ s; (repeat' split) <;> simp
@[simp] theorem powerSynths_mem (s : State) : (powerSynths s).mem = s.mem := by
  unfold powerSynths; refine foldl_keeps (·.mem) _ (fun t x => ?_) _ s; (repeat' split) <;> simp
@[simp] theorem powerSynths_out (s : State) : (powerSynths s).out = s.out := by
  unfold powerSynths; refine foldl_keeps (·.out) _ (fun t x => ?_) _ s; (repeat' split) <;> simp
@[simp] theorem powerSynths_free (s : State) : (powerSynths s).free = s.free := by
  unfold powerSynths; refine foldl_keeps (·.free) _ (fun t x => ?_) _ s; (repeat' split) <;> simp
@[simp] theorem powerSynths_pending (s : State) : (powerSynths s).pending = s.pending := by
  unfold powerSynths; refine foldl_keeps (·.pending) _ (fun t x => ?_) _ s; (repeat' split) <;> simp

/-! What `hrCount` leaves: all but `od`. -/

@[simp] theorem hrCount_chip (row : Nat) (s : State) : (hrCount row s).chip = s.chip := rfl
@[simp] theorem hrCount_ctl (row : Nat) (s : State) : (hrCount row s).ctl = s.ctl := rfl
@[simp] theorem hrCount_clk (row : Nat) (s : State) : (hrCount row s).clk = s.clk := rfl
@[simp] theorem hrCount_srv (row : Nat) (s : State) : (hrCount row s).srv = s.srv := rfl
@[simp] theorem hrCount_rf (row : Nat) (s : State) : (hrCount row s).rf = s.rf := rfl
@[simp] theorem hrCount_pal (row : Nat) (s : State) : (hrCount row s).pal = s.pal := rfl
@[simp] theorem hrCount_pri (row : Nat) (s : State) : (hrCount row s).pri = s.pri := rfl
@[simp] theorem hrCount_nod (row : Nat) (s : State) : (hrCount row s).nod = s.nod := rfl
@[simp] theorem hrCount_eas (row : Nat) (s : State) : (hrCount row s).eas = s.eas := rfl
@[simp] theorem hrCount_gla (row : Nat) (s : State) : (hrCount row s).gla = s.gla := rfl
@[simp] theorem hrCount_tre (row : Nat) (s : State) : (hrCount row s).tre = s.tre := rfl
@[simp] theorem hrCount_rid (row : Nat) (s : State) : (hrCount row s).rid = s.rid := rfl
@[simp] theorem hrCount_hed (row : Nat) (s : State) : (hrCount row s).hed = s.hed := rfl
@[simp] theorem hrCount_sec (row : Nat) (s : State) : (hrCount row s).sec = s.sec := rfl
@[simp] theorem hrCount_fw (row : Nat) (s : State) : (hrCount row s).fw = s.fw := rfl
@[simp] theorem hrCount_shd (row : Nat) (s : State) : (hrCount row s).shd = s.shd := rfl
@[simp] theorem hrCount_host (row : Nat) (s : State) : (hrCount row s).host = s.host := rfl
@[simp] theorem hrCount_pwr (row : Nat) (s : State) : (hrCount row s).pwr = s.pwr := rfl
@[simp] theorem hrCount_mem (row : Nat) (s : State) : (hrCount row s).mem = s.mem := rfl
@[simp] theorem hrCount_out (row : Nat) (s : State) : (hrCount row s).out = s.out := rfl
@[simp] theorem hrCount_free (row : Nat) (s : State) : (hrCount row s).free = s.free := rfl
@[simp] theorem hrCount_pending (row : Nat) (s : State) : (hrCount row s).pending = s.pending := rfl

/-! What `hrLog` leaves: all but `shd`. -/

@[simp] theorem hrLog_chip (sub region epoch : Nat) (s : State) : (hrLog sub region epoch s).chip = s.chip := rfl
@[simp] theorem hrLog_ctl (sub region epoch : Nat) (s : State) : (hrLog sub region epoch s).ctl = s.ctl := rfl
@[simp] theorem hrLog_clk (sub region epoch : Nat) (s : State) : (hrLog sub region epoch s).clk = s.clk := rfl
@[simp] theorem hrLog_srv (sub region epoch : Nat) (s : State) : (hrLog sub region epoch s).srv = s.srv := rfl
@[simp] theorem hrLog_rf (sub region epoch : Nat) (s : State) : (hrLog sub region epoch s).rf = s.rf := rfl
@[simp] theorem hrLog_pal (sub region epoch : Nat) (s : State) : (hrLog sub region epoch s).pal = s.pal := rfl
@[simp] theorem hrLog_pri (sub region epoch : Nat) (s : State) : (hrLog sub region epoch s).pri = s.pri := rfl
@[simp] theorem hrLog_nod (sub region epoch : Nat) (s : State) : (hrLog sub region epoch s).nod = s.nod := rfl
@[simp] theorem hrLog_eas (sub region epoch : Nat) (s : State) : (hrLog sub region epoch s).eas = s.eas := rfl
@[simp] theorem hrLog_gla (sub region epoch : Nat) (s : State) : (hrLog sub region epoch s).gla = s.gla := rfl
@[simp] theorem hrLog_tre (sub region epoch : Nat) (s : State) : (hrLog sub region epoch s).tre = s.tre := rfl
@[simp] theorem hrLog_rid (sub region epoch : Nat) (s : State) : (hrLog sub region epoch s).rid = s.rid := rfl
@[simp] theorem hrLog_hed (sub region epoch : Nat) (s : State) : (hrLog sub region epoch s).hed = s.hed := rfl
@[simp] theorem hrLog_sec (sub region epoch : Nat) (s : State) : (hrLog sub region epoch s).sec = s.sec := rfl
@[simp] theorem hrLog_fw (sub region epoch : Nat) (s : State) : (hrLog sub region epoch s).fw = s.fw := rfl
@[simp] theorem hrLog_host (sub region epoch : Nat) (s : State) : (hrLog sub region epoch s).host = s.host := rfl
@[simp] theorem hrLog_pwr (sub region epoch : Nat) (s : State) : (hrLog sub region epoch s).pwr = s.pwr := rfl
@[simp] theorem hrLog_od (sub region epoch : Nat) (s : State) : (hrLog sub region epoch s).od = s.od := rfl
@[simp] theorem hrLog_mem (sub region epoch : Nat) (s : State) : (hrLog sub region epoch s).mem = s.mem := rfl
@[simp] theorem hrLog_out (sub region epoch : Nat) (s : State) : (hrLog sub region epoch s).out = s.out := rfl
@[simp] theorem hrLog_free (sub region epoch : Nat) (s : State) : (hrLog sub region epoch s).free = s.free := rfl
@[simp] theorem hrLog_pending (sub region epoch : Nat) (s : State) : (hrLog sub region epoch s).pending = s.pending := rfl

/-! What `learnEpoch` leaves: all but `hed`. -/

@[simp] theorem learnEpoch_chip (region epoch : Nat) (s : State) : (learnEpoch region epoch s).chip = s.chip := by
  unfold learnEpoch; split <;> rfl
@[simp] theorem learnEpoch_ctl (region epoch : Nat) (s : State) : (learnEpoch region epoch s).ctl = s.ctl := by
  unfold learnEpoch; split <;> rfl
@[simp] theorem learnEpoch_clk (region epoch : Nat) (s : State) : (learnEpoch region epoch s).clk = s.clk := by
  unfold learnEpoch; split <;> rfl
@[simp] theorem learnEpoch_srv (region epoch : Nat) (s : State) : (learnEpoch region epoch s).srv = s.srv := by
  unfold learnEpoch; split <;> rfl
@[simp] theorem learnEpoch_rf (region epoch : Nat) (s : State) : (learnEpoch region epoch s).rf = s.rf := by
  unfold learnEpoch; split <;> rfl
@[simp] theorem learnEpoch_pal (region epoch : Nat) (s : State) : (learnEpoch region epoch s).pal = s.pal := by
  unfold learnEpoch; split <;> rfl
@[simp] theorem learnEpoch_pri (region epoch : Nat) (s : State) : (learnEpoch region epoch s).pri = s.pri := by
  unfold learnEpoch; split <;> rfl
@[simp] theorem learnEpoch_nod (region epoch : Nat) (s : State) : (learnEpoch region epoch s).nod = s.nod := by
  unfold learnEpoch; split <;> rfl
@[simp] theorem learnEpoch_eas (region epoch : Nat) (s : State) : (learnEpoch region epoch s).eas = s.eas := by
  unfold learnEpoch; split <;> rfl
@[simp] theorem learnEpoch_gla (region epoch : Nat) (s : State) : (learnEpoch region epoch s).gla = s.gla := by
  unfold learnEpoch; split <;> rfl
@[simp] theorem learnEpoch_tre (region epoch : Nat) (s : State) : (learnEpoch region epoch s).tre = s.tre := by
  unfold learnEpoch; split <;> rfl
@[simp] theorem learnEpoch_rid (region epoch : Nat) (s : State) : (learnEpoch region epoch s).rid = s.rid := by
  unfold learnEpoch; split <;> rfl
@[simp] theorem learnEpoch_sec (region epoch : Nat) (s : State) : (learnEpoch region epoch s).sec = s.sec := by
  unfold learnEpoch; split <;> rfl
@[simp] theorem learnEpoch_fw (region epoch : Nat) (s : State) : (learnEpoch region epoch s).fw = s.fw := by
  unfold learnEpoch; split <;> rfl
@[simp] theorem learnEpoch_shd (region epoch : Nat) (s : State) : (learnEpoch region epoch s).shd = s.shd := by
  unfold learnEpoch; split <;> rfl
@[simp] theorem learnEpoch_host (region epoch : Nat) (s : State) : (learnEpoch region epoch s).host = s.host := by
  unfold learnEpoch; split <;> rfl
@[simp] theorem learnEpoch_pwr (region epoch : Nat) (s : State) : (learnEpoch region epoch s).pwr = s.pwr := by
  unfold learnEpoch; split <;> rfl
@[simp] theorem learnEpoch_od (region epoch : Nat) (s : State) : (learnEpoch region epoch s).od = s.od := by
  unfold learnEpoch; split <;> rfl
@[simp] theorem learnEpoch_mem (region epoch : Nat) (s : State) : (learnEpoch region epoch s).mem = s.mem := by
  unfold learnEpoch; split <;> rfl
@[simp] theorem learnEpoch_out (region epoch : Nat) (s : State) : (learnEpoch region epoch s).out = s.out := by
  unfold learnEpoch; split <;> rfl
@[simp] theorem learnEpoch_free (region epoch : Nat) (s : State) : (learnEpoch region epoch s).free = s.free := by
  unfold learnEpoch; split <;> rfl
@[simp] theorem learnEpoch_pending (region epoch : Nat) (s : State) : (learnEpoch region epoch s).pending = s.pending := by
  unfold learnEpoch; split <;> rfl

/-! What `learnHeld` leaves: all but `hed`. -/

@[simp] theorem learnHeld_chip (held : List (Nat × Nat)) (s : State) : (learnHeld held s).chip = s.chip := foldl_keeps (·.chip) (fun (t : State) (x : Nat × Nat) => learnEpoch x.1 x.2 t) (fun t x => learnEpoch_chip x.1 x.2 t) held s
@[simp] theorem learnHeld_ctl (held : List (Nat × Nat)) (s : State) : (learnHeld held s).ctl = s.ctl := foldl_keeps (·.ctl) (fun (t : State) (x : Nat × Nat) => learnEpoch x.1 x.2 t) (fun t x => learnEpoch_ctl x.1 x.2 t) held s
@[simp] theorem learnHeld_clk (held : List (Nat × Nat)) (s : State) : (learnHeld held s).clk = s.clk := foldl_keeps (·.clk) (fun (t : State) (x : Nat × Nat) => learnEpoch x.1 x.2 t) (fun t x => learnEpoch_clk x.1 x.2 t) held s
@[simp] theorem learnHeld_srv (held : List (Nat × Nat)) (s : State) : (learnHeld held s).srv = s.srv := foldl_keeps (·.srv) (fun (t : State) (x : Nat × Nat) => learnEpoch x.1 x.2 t) (fun t x => learnEpoch_srv x.1 x.2 t) held s
@[simp] theorem learnHeld_rf (held : List (Nat × Nat)) (s : State) : (learnHeld held s).rf = s.rf := foldl_keeps (·.rf) (fun (t : State) (x : Nat × Nat) => learnEpoch x.1 x.2 t) (fun t x => learnEpoch_rf x.1 x.2 t) held s
@[simp] theorem learnHeld_pal (held : List (Nat × Nat)) (s : State) : (learnHeld held s).pal = s.pal := foldl_keeps (·.pal) (fun (t : State) (x : Nat × Nat) => learnEpoch x.1 x.2 t) (fun t x => learnEpoch_pal x.1 x.2 t) held s
@[simp] theorem learnHeld_pri (held : List (Nat × Nat)) (s : State) : (learnHeld held s).pri = s.pri := foldl_keeps (·.pri) (fun (t : State) (x : Nat × Nat) => learnEpoch x.1 x.2 t) (fun t x => learnEpoch_pri x.1 x.2 t) held s
@[simp] theorem learnHeld_nod (held : List (Nat × Nat)) (s : State) : (learnHeld held s).nod = s.nod := foldl_keeps (·.nod) (fun (t : State) (x : Nat × Nat) => learnEpoch x.1 x.2 t) (fun t x => learnEpoch_nod x.1 x.2 t) held s
@[simp] theorem learnHeld_eas (held : List (Nat × Nat)) (s : State) : (learnHeld held s).eas = s.eas := foldl_keeps (·.eas) (fun (t : State) (x : Nat × Nat) => learnEpoch x.1 x.2 t) (fun t x => learnEpoch_eas x.1 x.2 t) held s
@[simp] theorem learnHeld_gla (held : List (Nat × Nat)) (s : State) : (learnHeld held s).gla = s.gla := foldl_keeps (·.gla) (fun (t : State) (x : Nat × Nat) => learnEpoch x.1 x.2 t) (fun t x => learnEpoch_gla x.1 x.2 t) held s
@[simp] theorem learnHeld_tre (held : List (Nat × Nat)) (s : State) : (learnHeld held s).tre = s.tre := foldl_keeps (·.tre) (fun (t : State) (x : Nat × Nat) => learnEpoch x.1 x.2 t) (fun t x => learnEpoch_tre x.1 x.2 t) held s
@[simp] theorem learnHeld_rid (held : List (Nat × Nat)) (s : State) : (learnHeld held s).rid = s.rid := foldl_keeps (·.rid) (fun (t : State) (x : Nat × Nat) => learnEpoch x.1 x.2 t) (fun t x => learnEpoch_rid x.1 x.2 t) held s
@[simp] theorem learnHeld_sec (held : List (Nat × Nat)) (s : State) : (learnHeld held s).sec = s.sec := foldl_keeps (·.sec) (fun (t : State) (x : Nat × Nat) => learnEpoch x.1 x.2 t) (fun t x => learnEpoch_sec x.1 x.2 t) held s
@[simp] theorem learnHeld_fw (held : List (Nat × Nat)) (s : State) : (learnHeld held s).fw = s.fw := foldl_keeps (·.fw) (fun (t : State) (x : Nat × Nat) => learnEpoch x.1 x.2 t) (fun t x => learnEpoch_fw x.1 x.2 t) held s
@[simp] theorem learnHeld_shd (held : List (Nat × Nat)) (s : State) : (learnHeld held s).shd = s.shd := foldl_keeps (·.shd) (fun (t : State) (x : Nat × Nat) => learnEpoch x.1 x.2 t) (fun t x => learnEpoch_shd x.1 x.2 t) held s
@[simp] theorem learnHeld_host (held : List (Nat × Nat)) (s : State) : (learnHeld held s).host = s.host := foldl_keeps (·.host) (fun (t : State) (x : Nat × Nat) => learnEpoch x.1 x.2 t) (fun t x => learnEpoch_host x.1 x.2 t) held s
@[simp] theorem learnHeld_pwr (held : List (Nat × Nat)) (s : State) : (learnHeld held s).pwr = s.pwr := foldl_keeps (·.pwr) (fun (t : State) (x : Nat × Nat) => learnEpoch x.1 x.2 t) (fun t x => learnEpoch_pwr x.1 x.2 t) held s
@[simp] theorem learnHeld_od (held : List (Nat × Nat)) (s : State) : (learnHeld held s).od = s.od := foldl_keeps (·.od) (fun (t : State) (x : Nat × Nat) => learnEpoch x.1 x.2 t) (fun t x => learnEpoch_od x.1 x.2 t) held s
@[simp] theorem learnHeld_mem (held : List (Nat × Nat)) (s : State) : (learnHeld held s).mem = s.mem := foldl_keeps (·.mem) (fun (t : State) (x : Nat × Nat) => learnEpoch x.1 x.2 t) (fun t x => learnEpoch_mem x.1 x.2 t) held s
@[simp] theorem learnHeld_out (held : List (Nat × Nat)) (s : State) : (learnHeld held s).out = s.out := foldl_keeps (·.out) (fun (t : State) (x : Nat × Nat) => learnEpoch x.1 x.2 t) (fun t x => learnEpoch_out x.1 x.2 t) held s
@[simp] theorem learnHeld_free (held : List (Nat × Nat)) (s : State) : (learnHeld held s).free = s.free := foldl_keeps (·.free) (fun (t : State) (x : Nat × Nat) => learnEpoch x.1 x.2 t) (fun t x => learnEpoch_free x.1 x.2 t) held s
@[simp] theorem learnHeld_pending (held : List (Nat × Nat)) (s : State) : (learnHeld held s).pending = s.pending := foldl_keeps (·.pending) (fun (t : State) (x : Nat × Nat) => learnEpoch x.1 x.2 t) (fun t x => learnEpoch_pending x.1 x.2 t) held s

/-! What `glazeCount` leaves: all but `od`. -/

@[simp] theorem glazeCount_chip (row : Nat) (s : State) : (glazeCount row s).chip = s.chip := rfl
@[simp] theorem glazeCount_ctl (row : Nat) (s : State) : (glazeCount row s).ctl = s.ctl := rfl
@[simp] theorem glazeCount_clk (row : Nat) (s : State) : (glazeCount row s).clk = s.clk := rfl
@[simp] theorem glazeCount_srv (row : Nat) (s : State) : (glazeCount row s).srv = s.srv := rfl
@[simp] theorem glazeCount_rf (row : Nat) (s : State) : (glazeCount row s).rf = s.rf := rfl
@[simp] theorem glazeCount_pal (row : Nat) (s : State) : (glazeCount row s).pal = s.pal := rfl
@[simp] theorem glazeCount_pri (row : Nat) (s : State) : (glazeCount row s).pri = s.pri := rfl
@[simp] theorem glazeCount_nod (row : Nat) (s : State) : (glazeCount row s).nod = s.nod := rfl
@[simp] theorem glazeCount_eas (row : Nat) (s : State) : (glazeCount row s).eas = s.eas := rfl
@[simp] theorem glazeCount_gla (row : Nat) (s : State) : (glazeCount row s).gla = s.gla := rfl
@[simp] theorem glazeCount_tre (row : Nat) (s : State) : (glazeCount row s).tre = s.tre := rfl
@[simp] theorem glazeCount_rid (row : Nat) (s : State) : (glazeCount row s).rid = s.rid := rfl
@[simp] theorem glazeCount_hed (row : Nat) (s : State) : (glazeCount row s).hed = s.hed := rfl
@[simp] theorem glazeCount_sec (row : Nat) (s : State) : (glazeCount row s).sec = s.sec := rfl
@[simp] theorem glazeCount_fw (row : Nat) (s : State) : (glazeCount row s).fw = s.fw := rfl
@[simp] theorem glazeCount_shd (row : Nat) (s : State) : (glazeCount row s).shd = s.shd := rfl
@[simp] theorem glazeCount_host (row : Nat) (s : State) : (glazeCount row s).host = s.host := rfl
@[simp] theorem glazeCount_pwr (row : Nat) (s : State) : (glazeCount row s).pwr = s.pwr := rfl
@[simp] theorem glazeCount_mem (row : Nat) (s : State) : (glazeCount row s).mem = s.mem := rfl
@[simp] theorem glazeCount_out (row : Nat) (s : State) : (glazeCount row s).out = s.out := rfl
@[simp] theorem glazeCount_free (row : Nat) (s : State) : (glazeCount row s).free = s.free := rfl
@[simp] theorem glazeCount_pending (row : Nat) (s : State) : (glazeCount row s).pending = s.pending := rfl

/-! What `logPoison` leaves: all but `shd`. -/

@[simp] theorem logPoison_chip (a : Nat) (s : State) : (logPoison a s).chip = s.chip := rfl
@[simp] theorem logPoison_ctl (a : Nat) (s : State) : (logPoison a s).ctl = s.ctl := rfl
@[simp] theorem logPoison_clk (a : Nat) (s : State) : (logPoison a s).clk = s.clk := rfl
@[simp] theorem logPoison_srv (a : Nat) (s : State) : (logPoison a s).srv = s.srv := rfl
@[simp] theorem logPoison_rf (a : Nat) (s : State) : (logPoison a s).rf = s.rf := rfl
@[simp] theorem logPoison_pal (a : Nat) (s : State) : (logPoison a s).pal = s.pal := rfl
@[simp] theorem logPoison_pri (a : Nat) (s : State) : (logPoison a s).pri = s.pri := rfl
@[simp] theorem logPoison_nod (a : Nat) (s : State) : (logPoison a s).nod = s.nod := rfl
@[simp] theorem logPoison_eas (a : Nat) (s : State) : (logPoison a s).eas = s.eas := rfl
@[simp] theorem logPoison_gla (a : Nat) (s : State) : (logPoison a s).gla = s.gla := rfl
@[simp] theorem logPoison_tre (a : Nat) (s : State) : (logPoison a s).tre = s.tre := rfl
@[simp] theorem logPoison_rid (a : Nat) (s : State) : (logPoison a s).rid = s.rid := rfl
@[simp] theorem logPoison_hed (a : Nat) (s : State) : (logPoison a s).hed = s.hed := rfl
@[simp] theorem logPoison_sec (a : Nat) (s : State) : (logPoison a s).sec = s.sec := rfl
@[simp] theorem logPoison_fw (a : Nat) (s : State) : (logPoison a s).fw = s.fw := rfl
@[simp] theorem logPoison_host (a : Nat) (s : State) : (logPoison a s).host = s.host := rfl
@[simp] theorem logPoison_pwr (a : Nat) (s : State) : (logPoison a s).pwr = s.pwr := rfl
@[simp] theorem logPoison_od (a : Nat) (s : State) : (logPoison a s).od = s.od := rfl
@[simp] theorem logPoison_mem (a : Nat) (s : State) : (logPoison a s).mem = s.mem := rfl
@[simp] theorem logPoison_out (a : Nat) (s : State) : (logPoison a s).out = s.out := rfl
@[simp] theorem logPoison_free (a : Nat) (s : State) : (logPoison a s).free = s.free := rfl
@[simp] theorem logPoison_pending (a : Nat) (s : State) : (logPoison a s).pending = s.pending := rfl

end Sys2Proof.Machine
end

