-- ==== Sys2Proof/Laws/Sparse.lean ====
section
/-!
SUPPORT. Sparse stores: what is written is read back, nothing else is disturbed, and the canonical form is kept.
-/

namespace Sys2Proof.Machine

variable {α : Type}

theorem sfind_sinsert (l : List (Nat × α)) (k j : Nat) (v : α) :
    sfind (sinsert k v l) j = if k = j then some v else sfind l j := by
  induction l with
  | nil => simp [sinsert, sfind]
  | cons e l ih =>
    obtain ⟨k', v'⟩ := e
    simp only [sinsert]
    split
    · simp only [sfind]
    · split
      · simp only [sfind]; subst_vars; split <;> rfl
      · simp only [sfind, ih]
        by_cases h1 : k' = j <;> by_cases h2 : k = j <;> simp_all

theorem sfind_serase_ne (l : List (Nat × α)) (k j : Nat) (h : k ≠ j) : sfind (serase k l) j = sfind l j := by
  induction l with
  | nil => rfl
  | cons e l ih =>
    obtain ⟨k', v'⟩ := e
    simp only [serase]
    split
    · subst_vars; simp only [sfind, if_neg h, ih]
    · simp only [sfind, ih]

theorem sfind_serase_self (l : List (Nat × α)) (k : Nat) : sfind (serase k l) k = none := by
  induction l with
  | nil => rfl
  | cons e l ih =>
    obtain ⟨k', v'⟩ := e
    simp only [serase]
    split
    · exact ih
    · simp only [sfind]; rw [if_neg (by assumption)]; exact ih

/-- A write is read back. -/
@[simp] theorem sget_sset_self [DecidableEq α] (d : Nat → α) (l : List (Nat × α)) (k : Nat) (v : α) :
    sget d (sset d l k v) k = v := by
  unfold sset sget
  split
  · rw [sfind_serase_self]; simp_all
  · rw [sfind_sinsert]; simp

/-- A write leaves every other key as it was. -/
theorem sget_sset_ne [DecidableEq α] (d : Nat → α) (l : List (Nat × α)) (k j : Nat) (v : α) (h : k ≠ j) :
    sget d (sset d l k v) j = sget d l j := by
  unfold sset sget
  split
  · rw [sfind_serase_ne _ _ _ h]
  · rw [sfind_sinsert, if_neg h]

theorem srising_weaken {l : List (Nat × α)} {a : Nat} {lo : Option Nat} (h : srising (some a) l = true) (ha : ∀ b, lo = some b → b ≤ a) :
    srising lo l = true := by
  cases l with
  | nil => rfl
  | cons e l =>
    obtain ⟨k, v⟩ := e
    simp only [srising, Bool.and_eq_true, decide_eq_true_eq] at h ⊢
    refine ⟨?_, h.2⟩
    cases lo with
    | none => rfl
    | some b => have := ha b rfl; simp; omega

theorem srising_sinsert {l : List (Nat × α)} {lo : Option Nat} (k : Nat) (v : α) (h : srising lo l = true)
    (hk : ∀ b, lo = some b → b < k) : srising lo (sinsert k v l) = true := by
  induction l generalizing lo with
  | nil => cases lo <;> simp [sinsert, srising]; exact hk _ rfl
  | cons e l ih =>
    obtain ⟨k', v'⟩ := e
    simp only [srising, Bool.and_eq_true] at h
    simp only [sinsert]
    split
    · simp only [srising, Bool.and_eq_true, decide_eq_true_eq]
      refine ⟨?_, by assumption, h.2⟩
      cases lo with
      | none => rfl
      | some b => simpa using hk b rfl
    · split
      · subst_vars; simp only [srising, Bool.and_eq_true]; exact h
      · simp only [srising, Bool.and_eq_true]
        exact ⟨h.1, ih h.2 (fun b hb => by cases hb; omega)⟩

theorem srising_serase {l : List (Nat × α)} {lo : Option Nat} (k : Nat) (h : srising lo l = true) : srising lo (serase k l) = true := by
  induction l generalizing lo with
  | nil => rfl
  | cons e l ih =>
    obtain ⟨k', v'⟩ := e
    simp only [srising, Bool.and_eq_true] at h
    simp only [serase]
    split
    · refine srising_weaken (ih h.2) (fun b hb => ?_)
      subst hb; have := h.1; simp at this; omega
    · simp only [srising, Bool.and_eq_true]; exact ⟨h.1, ih h.2⟩

/-- A write keeps the keys rising. -/
theorem srising_sset [DecidableEq α] (d : Nat → α) {l : List (Nat × α)} (k : Nat) (v : α) (h : srising none l = true) :
    srising none (sset d l k v) = true := by
  unfold sset
  split
  · exact srising_serase k h
  · exact srising_sinsert k v h (fun b hb => by cases hb)

theorem mem_serase {l : List (Nat × α)} {k : Nat} {e : Nat × α} (h : e ∈ serase k l) : e ∈ l := by
  induction l with
  | nil => exact h
  | cons x l ih =>
    obtain ⟨k', v'⟩ := x
    simp only [serase] at h
    split at h
    · exact List.mem_cons_of_mem _ (ih h)
    · rcases List.mem_cons.1 h with h | h
      · exact h ▸ List.mem_cons_self
      · exact List.mem_cons_of_mem _ (ih h)

theorem mem_sinsert {l : List (Nat × α)} {k : Nat} {v : α} {e : Nat × α} (h : e ∈ sinsert k v l) : e = (k, v) ∨ e ∈ l := by
  induction l with
  | nil => simpa [sinsert] using h
  | cons x l ih =>
    obtain ⟨k', v'⟩ := x
    simp only [sinsert] at h
    split at h
    · simpa using h
    · split at h
      · rcases List.mem_cons.1 h with h | h
        · exact .inl h
        · exact .inr (List.mem_cons_of_mem _ h)
      · rcases List.mem_cons.1 h with h | h
        · exact .inr (h ▸ List.mem_cons_self)
        · rcases ih h with h | h
          · exact .inl h
          · exact .inr (List.mem_cons_of_mem _ h)

/-- A write keeps the canonical form. -/
theorem swf_sset [DecidableEq α] (d : Nat → α) {l : List (Nat × α)} (k : Nat) (v : α) (h : swf d l = true) :
    swf d (sset d l k v) = true := by
  simp only [swf, Bool.and_eq_true, List.all_eq_true, decide_eq_true_eq] at h ⊢
  refine ⟨srising_sset d k v h.1, fun e he => ?_⟩
  unfold sset at he
  split at he
  · exact h.2 e (mem_serase he)
  · rcases mem_sinsert he with he | he
    · subst he; assumption
    · exact h.2 e he

/-! ### Memory -/

@[simp] theorem memGet_memSet_self (s : State) (a : Nat) (b : Byte) : memGet (memSet a b s) a = b :=
  sget_sset_self memDefault s.mem a b

theorem memGet_memSet_ne (s : State) (a a' : Nat) (b : Byte) (h : a ≠ a') : memGet (memSet a b s) a' = memGet s a' :=
  sget_sset_ne memDefault s.mem a a' b h

/-- Writing an octet keeps the memory in its canonical form. -/
theorem wf_memSet {s : State} (a : Nat) (b : Byte) (h : Memory.wf s = true) : Memory.wf (memSet a b s) = true :=
  swf_sset memDefault a b h

/-- Writing octets keeps the memory in its canonical form. -/
theorem wf_memWrite {s : State} (a : Nat) (o : Octets) (h : Memory.wf s = true) : Memory.wf (memWrite a o s) = true := by
  induction o generalizing a s with
  | nil => exact h
  | cons b l ih => exact ih (a + 1) (wf_memSet a b h)

/-- Writing octets leaves every address outside them as it was. -/
theorem memGet_memWrite_outside (s : State) (a x : Nat) (o : Octets) (h : x < a ∨ a + o.length ≤ x) :
    memGet (memWrite a o s) x = memGet s x := by
  induction o generalizing a s with
  | nil => rfl
  | cons b l ih =>
    simp only [List.length_cons] at h
    have := ih (memSet a b s) (a + 1) (by omega)
    simp only [memWrite, this]
    exact memGet_memSet_ne s a x b (by omega)

/-- Octets written are read back. -/
theorem memGet_memWrite_inside (s : State) (a : Nat) (o : Octets) (i : Nat) (hi : i < o.length) :
    memGet (memWrite a o s) (a + i) = o[i] := by
  induction o generalizing a s i with
  | nil => simp at hi
  | cons b l ih =>
    cases i with
    | zero =>
      simp only [memWrite, Nat.add_zero, List.getElem_cons_zero]
      rw [memGet_memWrite_outside _ _ _ _ (.inl (by omega))]
      exact memGet_memSet_self s a b
    | succ i =>
      have := ih (memSet a b s) (a + 1) i (by simpa using hi)
      simp only [memWrite, List.getElem_cons_succ]
      rw [← this]
      congr 1
      omega

/-- The object store reads back what is put. -/
@[simp] theorem odGet_odPut_self (s : State) (i b r : Nat) (v : Octets) : odGet (odPut i b r v s) i b r = v :=
  sget_sset_self odDefault s.od (odKey i b r) v

/-- Putting one object's row leaves every other row as it was. -/
theorem odGet_odPut_ne (s : State) (i b r i' b' r' : Nat) (v : Octets) (h : odKey i b r ≠ odKey i' b' r') :
    odGet (odPut i b r v s) i' b' r' = odGet s i' b' r' :=
  sget_sset_ne odDefault s.od _ _ v h

/-- Keeping only some entries keeps the canonical form. -/
theorem srising_filter {l : List (Nat × α)} {lo : Option Nat} (p : Nat × α → Bool) (h : srising lo l = true) :
    srising lo (l.filter p) = true := by
  induction l generalizing lo with
  | nil => rfl
  | cons e l ih =>
    obtain ⟨k, v⟩ := e
    simp only [srising, Bool.and_eq_true] at h
    simp only [List.filter]
    split
    · simp only [srising, Bool.and_eq_true]; exact ⟨h.1, ih h.2⟩
    · refine srising_weaken (ih h.2) (fun b hb => ?_)
      subst hb; have := h.1; simp at this; omega

theorem swf_filter [DecidableEq α] (d : Nat → α) {l : List (Nat × α)} (p : Nat × α → Bool) (h : swf d l = true) :
    swf d (l.filter p) = true := by
  simp only [swf, Bool.and_eq_true, List.all_eq_true] at h ⊢
  exact ⟨srising_filter p h.1, fun e he => h.2 e (List.mem_filter.1 he).1⟩

/-- The memory right after reset is in its canonical form. -/
theorem wf_reset : Memory.wf State.reset = true := rfl

end Sys2Proof.Machine
end

