-- ==== Sys2Proof/Machine/Registers.lean ====
section
/-!
DEFINITION. What the registers read as: the mailbox pages (Tables 18-4 to 18-7, 18-9), HOST_STATUS (Table 18-3), the shared cipher
engine (Tables 15-6, 15-7, 15-9), Overwinter (Tables 19-4, 19-5). The command table has a row for a read only
where the read changes the state (RX_LO, CIPHER_LOCK, the clock registers); every other read is one of these functions of the state.
-/

namespace Sys2Proof.Machine

/-! ### Mailbox pages -/

/-- TX_STATUS (Table 18-5); on the C package a channel to HOST reads as one whose receiver stays in reset (R451). -/
def txStatus (s : State) (snd rcv : Nat) : Nat :=
  if rcv = 0 ∧ ¬ s.chip.fPackage then 2 ^ 8 + 2 ^ 7
  else
    let c := chan s snd rcv
    b2n c.overrun * 2 ^ 9 + b2n c.txAborted * 2 ^ 8 + b2n c.peerReset * 2 ^ 7 + (if c.txAborted then 0 else c.credits)

/-- RX_STATUS (Table 18-6). -/
def rxStatus (s : State) (snd rcv : Nat) : Nat :=
  let c := chan s snd rcv
  b2n c.rxAborted * 2 ^ 15 + b2n c.underrun * 2 ^ 14 + b2n c.lastEnd * 2 ^ 13 + b2n ((c.fifo.head?.map (·.2)).getD false) * 2 ^ 12 +
    b2n (c.fifo == []) * 2 ^ 11 + packets c * 2 ^ 4 + c.fifo.length

/-- A register of a mailbox page (Table 18-4); write-only and reserved offsets read as zero (R5). -/
def pageRead (s : State) (self off : Nat) : Nat :=
  let p := page s self
  if off < 0x200 then
    let d := off / 0x40
    if off % 0x40 = 0x10 ∧ d < 5 ∧ d ≠ self then txStatus s self d else 0
  else if off < 0x400 then
    let r := (off - 0x200) / 0x40
    if r < 5 ∧ r ≠ self then
      match off % 0x40 with
      | 0x04 => (chan s r self).last / 2 ^ 32
      | 0x08 => rxStatus s r self
      | 0x10 => b2n (chan s r self).unit * 2 ^ 4 + (chan s r self).level
      | _ => 0
    else 0
  else match off with
    | 0x400 => p.doorbell
    | 0x404 => p.mask
    | 0x408 => b2n p.stale * 2 ^ 31 + p.staleCount
    | 0x40C => p.staleAddr
    | 0x410 => self
    | _ => 0

/-- A receiver's interrupt is asserted while DOORBELL & DOORBELL_MASK is not zero (R446). -/
def interrupt (s : State) (r : Nat) : Bool := rung (page s r) != 0

/-- HOST_STATUS (Table 18-3, R435). -/
def hostStatus (s : State) : Nat :=
  s.ctl.mode.code * 2 ^ 8 + b2n (trialRuns s) * 2 ^ 2 + (if ¬ s.srv.up then 0 else if s.ctl.mode = .m2 then 2 else 1)

/-! ### GPIO -/

/-- A GPIO as it stands (R440): none where it is high-impedance; else the processor that owns it, its direction and its pull, as GPIO_CFG names them. Until a
boot has read the configuration store every one is an input without pull; GPIO_8 to GPIO_23 are of D3. -/
def gpioPin (s : State) (i : Nat) : Option (Nat × Nat × Nat) :=
  if 8 ≤ i ∧ s.ctl.domains[3]? ≠ some .on then none
  else if s.shd.bootRom ∧ s.ctl.mode.code ≤ 1 then some (0, 0, 0)
  else some (odField s 0xA400 1 i 0 1, odField s 0xA400 1 i 1 1, odField s 0xA400 1 i 3 1)

/-! ### The shared cipher engine -/

/-- CIPHER_STATUS (Table 15-9). -/
def cipherStatus (s : State) : Nat :=
  let c := s.sec.cipher
  b2n c.keyChange * 2 ^ 9 + b2n c.tooLate * 2 ^ 8 + c.st

/-- A register of the engine other than CIPHER_LOCK (Table 15-6), for its owner. -/
def cipherRead (s : State) (off : Nat) : Nat :=
  if off = 0x0C then cipherStatus s
  else if 0x10 ≤ off ∧ off ≤ 0x28 ∧ off % 4 = 0 then (s.sec.cipher.regs[(off - 0x10) / 4]?).getD 0
  else 0

/-! ### Overwinter -/

/-- OW_STATUS (Table 19-5). -/
def owStatus (s : State) : Nat :=
  let p := s.pwr
  b2n p.shadowLate * 2 ^ 6 + b2n (decide (p.vbat < 2200)) * 2 ^ 5 + b2n p.onVbat * 2 ^ 4 + b2n p.sealed * 2 ^ 2 +
    b2n (p.tamper.any (·.active)) * 2 + b2n (p.tamper.any (·.latched))

/-- OW_FEED (Table 19-4). -/
def owFeed (s : State) : Nat :=
  let p := s.pwr
  b2n p.brownout * 2 ^ 7 + b2n p.postSwitch * 2 ^ 6 + p.action % 2 * 2 ^ 5 + b2n (markOf p.failed 1) * 2 ^ 4 + b2n (markOf p.failed 0) * 2 ^ 3 +
    b2n (markOf p.deviated 1) * 2 ^ 2 + b2n (markOf p.deviated 0) * 2 + p.train

/-- OW_CD_0 and OW_CD_1: MODE, STEP, FIRED and the seconds that remain. -/
def owChannel (s : State) (ch : Nat) : Nat :=
  let c := channelOf s ch
  c.mode * 2 ^ 30 + b2n c.step * 2 ^ 29 + b2n c.fired * 2 ^ 28 + channelRemaining s ch % 2 ^ 24

/-- The latched input with the first event, whose time OW_TAMPER_TIME reads (R480). -/
def firstTamper (s : State) : Option Tamper :=
  match tamperOf s 0, tamperOf s 1 with
  | a, b =>
    if a.latched ∧ b.latched then some (if b.secs * 32768 + b.sub < a.secs * 32768 + a.sub then b else a)
    else if a.latched then some a else if b.latched then some b else none

/-- A register of Overwinter other than the four clock registers (Table 19-4); write-only and reserved offsets read as zero (R5). -/
def owRead (s : State) (off : Nat) : Nat :=
  match off with
  | 0x10 => s.pwr.setSecs
  | 0x14 => s.pwr.setSub
  | 0x1C => (s.pwr.trimNext % 1024).toNat
  | 0x20 => odNat s 0xB100 2
  | 0x24 => owChannel s 0
  | 0x28 => owChannel s 1
  | 0x30 => owStatus s
  | 0x34 => owFeed s
  | 0x38 => (tamperOf s 1).cfg * 2 ^ 8 + (tamperOf s 0).cfg
  | 0x3C => b2n (tamperOf s 1).latched * 2 ^ 17 + b2n (tamperOf s 0).latched * 2 ^ 16 + (tamperOf s 1).count * 2 ^ 8 + (tamperOf s 0).count
  | 0x40 => ((firstTamper s).map (·.secs)).getD 0
  | 0x44 => ((firstTamper s).map (·.sub)).getD 0
  | _ =>
    if 0x80 ≤ off ∧ off < 0xC0 ∧ off % 4 = 0 then
      ((List.range 4).map (fun i => (s.pwr.backup[off - 0x80 + i]?).getD 0 * 2 ^ (8 * i))).sum
    else 0

/-! ### The read -/

/-- A 32-bit read, without effect on the state, by a master at an address of the register region: its word, or none where R26 makes it a
bus error. CIPHER_LOCK and the clock registers, whose reads have an effect, are commands. -/
def regRead (s : State) (master addr : Nat) : Option Nat :=
  if inRange addr 0x4A000000 0x5000 then
    let self := (addr - 0x4A000000) / 0x1000
    if self = master ∧ (self ≠ 0 ∨ s.chip.fPackage) then some (pageRead s self ((addr - 0x4A000000) % 0x1000)) else none
  else if inRange addr 0x4C000004 0x28 then
    if cipherOwner master ≠ 0 ∧ s.sec.cipher.owner = cipherOwner master then some (cipherRead s (addr - 0x4C000000)) else none
  else if inRange addr 0x4E000010 0xB0 then
    if owMaster master then some (owRead s (addr - 0x4E000000)) else none
  else none

end Sys2Proof.Machine
end

