-- ==== Sys2Proof/Tests/Slice0.lean ====
section
/-!
SUPPORT. Tests: ill-formed commands that the checks refuse, states and operands that meet the hypotheses of every statement, and single
steps whose result a rule of the spec gives.
-/

namespace Sys2Proof.Tests

open Sys2Proof.Machine

set_option Elab.async false

/-! ### Small states -/

/-- A well-formed request on session 1 with a body of `n` octets. -/
def rq (n : Nat := 16) (txn : Nat := 0) : OdapReq := { session := 1, len := 16 + n, rid := 5, txn := txn, bodyLen := n }

def ses (role : Nat) : Session := { id := 1, transport := 0, role := role }

/-- A unit in a mode that serves one session of a role. -/
def sv (role : Nat) (m : Mode := .m5) : State :=
  { State.reset with
    srv := { up := true, sessions := [ses role] }
    ctl := { mode := m, domains := m.domains false }
    shd := { State.reset.shd with bootRom := false } }

/-- The fuses of the life cycle `n`, with no cell of a pair stuck. -/
def lcAt (n : Nat) : List (Bool × Bool) := (List.range 4).map (fun i => (decide (i < n), decide (i < n)))

def gateAddr : Addr := ⟨0x6830, 1, 0⟩

/-- The one default gate-list value (Table 13-7). -/
def gateVal : Octets := [0, 0, 0, 0, 0, 0, 0, 0, 0, 0, 0, 0, 0, 0, 0, 0, 0, 0, 0, 0, 0, 1, 0, 0, 255, 0, 0, 0, 0, 15, 66, 64]

/-- A write transfer of GATE_ADMIN with or without its one segment, and a read transfer of SCHEMA. -/
def blockOf (w got : Bool) : Block :=
  { session := 1, id := 0, idx := if w then 0x6830 else 0x1010, sub := 1, row := 0, isWrite := w, size := 32
    snapshot := if w then [] else zeros 32, segs := if got then [(0, gateVal)] else [] }

def withBlock (b : Block) (role : Nat := 2) : State := { sv role with srv := { (sv role).srv with blocks := [b] } }

/-- A transaction 7 of session 1 that stages a write of STEP_THRESHOLD, or of an object that is not there. -/
def txnOf (ok : Bool) : Txn := { id := 7, session := 1, staged := [if ok then ⟨0x2001, 2, 0, beOct 4 1000⟩ else ⟨0x2001, 200, 0, []⟩] }

/-- Transaction 7 with a cell moved to a slot that no superframe has, and with the time of a clock whose time is VALID. -/
def farTxn : Txn := { id := 7, session := 1, staged := [⟨0x4012, 1, 0, beOct 2 5000⟩, ⟨0x4012, 5, 0, [1]⟩] }

def timeTxn : Txn := { id := 7, session := 1, staged := [⟨0x2002, 3, 0, beOct 8 5⟩] }

def withTxn (x : Txn) : State := { sv 2 with srv := { (sv 2).srv with txns := [x] } }

def subOf (k : Nat) (n : Nat := 0) : Sub :=
  { id := 3, session := 1, kind := k, periodMs := 1000, minGapMs := 100, evtLo := 0, evtHi := 255, idx := 0x1000, sub := 1, row := 0
    held := true, unacked := List.replicate n { n := { sub := 3, seq := 1, payload := [] }, at_ := 0 } }

def withSub (u : Sub) : State := { sv 1 with srv := { (sv 1).srv with subs := [u] } }


/-- A write of TEMP_WARN that waits for its slot. -/
def pendingWrite : PendWrite := { idx := 0x1100, sub := 1, row := 0, val := [1], eff := some 20 }

def withPending : State := { sv 1 with srv := { (sv 1).srv with pend := [pendingWrite] } }

/-! ### Well-formed commands

A term for each check that the check refuses: first the checks of the parts, then one command for each arm of `Instr.wf`. -/

def okReq : OdapReq := { session := 1, len := 16, rid := 1, bodyLen := 0 }
def okAddr : Addr := ⟨0x1000, 1, 0⟩
def okHello : ClientHello := { transport := 1, identity := [] }
def okEnv : Env := { src := 1, unit := zeros 8, seq := 1 }
def okHb : Heartbeat := { mode := 5, flags := 0 }
def okLsa : LsaBody := { origin := 1, serial := zeros 8, seq := 1 }
def okMove : MoveBody := { region := 1, newEpoch := 1, newHolder := zeros 8, eff := 1, mode := 5 }
def okDelta : DeltaBody := { sf := 1, mode := 5 }
def okPart : ListPart := { sf := 1, epoch := {}, retain := 1 }
def okGf : GlazeFrame := { asn := 1, entry := 1 }
def okEth : EthFrame := { dst := 1, src := 2 }
def okCorr : Corr := ⟨[], []⟩
def okWatch : WatchSeen := { a := okCorr, b := okCorr, detNs := 0, hold := [] }
def badWatch : WatchSeen := { okWatch with detNs := 2 ^ 32 }
def okSeen : PreambleSeen := ⟨okCorr, okCorr, 0⟩
def badSeen : PreambleSeen := ⟨okCorr, okCorr, 2 ^ 32⟩
def badReq : OdapReq := { okReq with rid := 2 ^ 32 }
def badAddr : Addr := ⟨2 ^ 16, 1, 0⟩
def badHello : ClientHello := { okHello with transport := 2 }
def badEpoch : Epoch := { asn0 := 2 ^ 40 }
def badEnv : Env := { okEnv with unit := zeros 7 }
def badHb : Heartbeat := { okHb with mode := 256 }
def badLsa : LsaBody := { okLsa with serial := zeros 9 }
def badMove : MoveBody := { okMove with eff := 2 ^ 40 }
def badDelta : DeltaBody := { okDelta with beaconFc := [0] }
def badPart : ListPart := { okPart with part := 1 }
def badRx : RxFrame := { psdu := List.replicate 2048 0 }
def badGf : GlazeFrame := { okGf with entry := 2 ^ 16 }
def badEth : EthFrame := { okEth with kind := 5 }

theorem test_wf_parts : okReq.wf ∧ okAddr.wf ∧ okHello.wf ∧ okEnv.wf ∧ okHb.wf ∧ okLsa.wf ∧ okMove.wf ∧ okDelta.wf ∧ okPart.wf ∧ okGf.wf ∧ okEth.wf := by decide

theorem test_illformed_requests :
    [{ okReq with version := 256 }, { okReq with flags := 2 ^ 16 }, badReq, { okReq with txn := 2 ^ 32 }, { okReq with bodyLen := 2 ^ 16 }].all (fun q => !OdapReq.wf q) ∧
    [badAddr, ⟨0, 256, 0⟩, ⟨0, 0, 2 ^ 32⟩].all (fun a => !Addr.wf a) ∧ badHello.wf = false ∧ ({ okHello with eth := 2 } : ClientHello).wf = false ∧
    [badEpoch, { secs := 2 ^ 64 }, { nanos := 2 ^ 32 }, { code := 256 }].all (fun e => !Epoch.wf e) := by decide

theorem test_illformed_envelopes :
    [{ okEnv with version := 256 }, { okEnv with hops := 16 }, { okEnv with keyId := 256 }, { okEnv with domain := 2 ^ 16 }, { okEnv with src := 2 ^ 16 },
      { okEnv with dst := 2 ^ 16 }, { okEnv with region := 2 ^ 16 }, { okEnv with epoch := 2 ^ 32 }, badEnv, { okEnv with seq := 2 ^ 64 },
      { okEnv with port := 2 }].all (fun e => !Env.wf e) ∧
    [badHb, { okHb with flags := 256 }, { okHb with lsaSeq := 2 ^ 32 }].all (fun b => !Heartbeat.wf b) ∧
    [{ okLsa with origin := 2 ^ 16 }, badLsa, { okLsa with seq := 2 ^ 32 }, { okLsa with mode := 256 }].all (fun b => !LsaBody.wf b) ∧
    [{ okMove with region := 2 ^ 16 }, { okMove with newEpoch := 2 ^ 32 }, { okMove with newHolder := [] }, badMove].all (fun b => !MoveBody.wf b) ∧
    [badDelta, { okDelta with recs := [{ node := 2 ^ 17, st := 0 }] }].all (fun b => !DeltaBody.wf b) := by decide

theorem test_illformed_frames :
    [badPart, { okPart with epoch := badEpoch }].all (fun p => !ListPart.wf p) ∧
    [badRx, { lq := 256 }].all (fun f => !RxFrame.wf f) ∧
    !badWatch.wf ∧
    [badGf, { okGf with asn := 2 ^ 40 }, { okGf with rx := badRx }].all (fun f => !GlazeFrame.wf f) ∧
    [badEth, { okEth with dst := 2 ^ 48 }, { okEth with src := 2 ^ 48 }].all (fun f => !EthFrame.wf f) ∧
    [({ port := 2 } : PtpMsg), { port := 0, transport := 2 }, { port := 0, seq := 2 ^ 16 }, { port := 0, domain := 256 }].all (fun m => !PtpMsg.wf m) ∧
    [({ caller := 5 } : GessoReq), { caller := 0, handle := 2 ^ 16 }].all (fun g => !GessoReq.wf g) := by decide +kernel

theorem test_illformed_peer_operations :
    [PeerOp.read badAddr, .write okAddr 256 [], .blockStart okAddr 256 0, .blockStart okAddr 0 (2 ^ 32), .blockSeg (2 ^ 16) 0 [], .blockSeg 0 (2 ^ 32) [],
      .blockEnd (2 ^ 16) true, .blockAbort (2 ^ 16), .subscribe 256 0 0 0 0 okAddr, .subscribe 0 (2 ^ 32) 0 0 0 okAddr, .subscribe 0 0 (2 ^ 16) 0 0 okAddr,
      .subscribe 0 0 0 256 0 okAddr, .subscribe 0 0 0 0 256 okAddr, .subscribe 0 0 0 0 0 badAddr, .unsubscribe (2 ^ 16), .notifyAck (2 ^ 16) 0,
      .notifyAck 0 (2 ^ 32)].all (fun o => !PeerOp.wf o) := by decide

theorem test_illformed_commands_1 : ([.read okReq badAddr, .write okReq okAddr (2 ^ 8) [], .blockStart okReq okAddr 0 (2 ^ 32), .blockSeg okReq 0 (2 ^ 32) [],
    .blockEnd okReq (2 ^ 16) false, .blockAbort okReq (2 ^ 16), .txnBegin badReq, .txnCommit badReq false, .txnAbort badReq,
    .subscribe okReq 0 0 0 0 0 badAddr, .unsubscribe okReq (2 ^ 16), .notifyAck okReq 0 (2 ^ 32), .odapRuntMessage 0 (2 ^ 16), .dtlsHandshake badHello,
    .subscriptionPeriodTimer (2 ^ 16), .subscriptionGapExpiry (2 ^ 16), .notifyRetransmitTimer (2 ^ 16), .sessionIdleExpiry (2 ^ 32),
    .txnIdleExpiry (2 ^ 32), .blockIdleExpiry 0 (2 ^ 16), .replayCacheExpiry 0 (2 ^ 32), .modeRequestWrite okReq (2 ^ 8), .modeChangeCancel badReq,
    .rebootWrite okReq (2 ^ 32), .stepApplyRequest badReq, .stepApplyAbort badReq, .timeSetWrite okReq (2 ^ 64), .timeSourceWrite okReq (2 ^ 8),
    .asnEpochWrite okReq badEpoch, .chMapWrite okReq (2 ^ 8) [], .mapChangeEffective (2 ^ 8), .nodeRegWrite okReq (2 ^ 32) [],
    .nodeDeregister okReq (2 ^ 32), .nodeRejoinWrite okReq (2 ^ 32), .keyDestroyWrite okReq (2 ^ 16), .fwActivateMark badReq, .fwActivateReset badReq,
    .fwActivateCancel badReq, .fwConfirm badReq, .fwReject badReq, .attestChallengeWrite badReq [], .calibRequestWrite okReq 0 (2 ^ 8),
    .calibRequestForce okReq 0 (2 ^ 8), .calibCancelWrite okReq (2 ^ 32), .recoverRequestWrite okReq 0 0 (2 ^ 8), .recoveryReleaseWrite badReq,
    .feedSwitchWrite okReq (2 ^ 8), .feedClearWrite okReq (2 ^ 8)] : List Instr).all (fun c => !c.wf) := by decide +kernel

theorem test_illformed_commands_2 : ([.tamperCfgWrite okReq (2 ^ 8) [], .tamperClearWrite badReq, .hrHandoverWrite okReq (2 ^ 16), .hrHandoverCancel badReq, .captureCfgWrite badReq [],
    .sgCentreWrite okReq false (2 ^ 32), .gateListSwitch 2, .dlProfileWrite okReq (2 ^ 32) [], .nodeDlProfileWrite okReq 0 (2 ^ 8),
    .meterWrite okReq (2 ^ 32) [], .shaperWrite okReq (2 ^ 32) [], .dwellRuleWrite okReq (2 ^ 32) [], .staticTableWrite okReq false (2 ^ 32) [],
    .preparationWindowOpen 0 false [2 ^ 32], .preparationWindowOpen (2 ^ 32) false [], .receiveWindowOpen (2 ^ 8), .preambleDetect 0 badSeen [],
    .aerialHoldEnd (2 ^ 8) ⟨[]⟩ [], .sfdFound 0 0 false (2 ^ 32) [], .huntSpanEnd { eng := 2 ^ 8, span := [] },
    .phrDecoded 0 (2 ^ 16) false false {}, .fadeAbandon (2 ^ 8) [] {}, .watchTakeover 0 okWatch 0 (2 ^ 32) [], .frameEnd 0 { frame := badRx },
    .receiveWindowClose (2 ^ 8), .engineSelfTestComplete (2 ^ 8) false, .engineInternalFault (2 ^ 8), .measurementBlockEnd (2 ^ 8) 0 false {},
    .carrierRampStart (2 ^ 8), .burstEnd (2 ^ 8), .synthLockLoss (2 ^ 8), .synthRelockAttemptEnd (2 ^ 8) false, .calItemComplete 0 (2 ^ 8) {},
    .dpdUpdate 0 0 [] [32769], .dpdUpdate 0 0 [-32769] [], .ccmLaneFrame (2 ^ 8), .uplinkRelease (2 ^ 32), .wakeFollowupMissed (2 ^ 32),
    .joinDirectiveExpiry (2 ^ 32), .nodeSupervisionExpiry (2 ^ 32), .quarantineEnd (2 ^ 32), .sync { port := 2 }, .followUp { port := 2 },
    .delayReq { port := 2 }, .delayResp { port := 2 }, .announce { port := 2 }, .pdelayReq { port := 2 }, .pdelayResp { port := 2 }] : List Instr).all (fun c => !c.wf) := by decide +kernel

theorem test_illformed_commands_3 : ([.pdelayRespFollowUp { port := 2 }, .ptpMessageTimer 0 (2 ^ 8), .announceReceiptTimeout 2, .registerWriteGeneric 0 0 (2 ^ 32),
    .cipherLockRead (2 ^ 8), .cipherLockRelease (2 ^ 8), .cipherKeyWrite 0 (2 ^ 16), .cipherCmdStart 0 (2 ^ 32), .cipherCmdAbort (2 ^ 8),
    .mailboxPush 0 0 false (2 ^ 64), .mailboxPushEnd 0 0 false (2 ^ 64), .dbRingWrite 0 0 (2 ^ 32), .mailboxPop 0 5, .rxLevelWrite 0 0 (2 ^ 32),
    .doorbellWrite 0 false (2 ^ 32), .owSetWrite (2 ^ 8), .owTrimWrite 0 (2 ^ 32), .owFeedWrite 0 (2 ^ 32), .makeSealWrite (2 ^ 8), .kekNonceWrite 0 [],
    .countdownArm 0 0 (2 ^ 32), .owClockShadowRead 0 (2 ^ 8), .owShadowTimeout (2 ^ 8), .gessoKeyOp { caller := 5 } false,
    .gessoLaneBind { caller := 2 } (2 ^ 8), .gessoKeyProvision { caller := 2 } false (2 ^ 32) false, .gessoSign { caller := 5 } "" false,
    .gessoAttest { caller := 5 }, .gessoLifeCycle { caller := 5 } false, .gessoFwControl { caller := 2 } (2 ^ 8), .glazeList okEnv badPart,
    .glazeListDeadline 0 (2 ^ 40), .glazeFrame okEnv badGf, .glazeReqSend (2 ^ 40), .glazeReq okEnv 0 (2 ^ 16) [], .glazeAns okEnv 0 0 0 0 0 0 [] badRx,
    .glazeReqTimeout 0 (2 ^ 16), .glazeRetentionExpiry (2 ^ 40), .glazeDecision 0 (2 ^ 32) none, .glazeRecordDiscard 0 (2 ^ 40), .heartbeat okEnv badHb,
    .suspectTimeout (2 ^ 32), .lsa okEnv badLsa, .lsaAgeExpiry (2 ^ 16), .claim okEnv 0 (2 ^ 32), .defend okEnv 0 0 0 [], .dead okEnv 0 (2 ^ 32),
    .takeover okEnv badMove] : List Instr).all (fun c => !c.wf) := by decide +kernel

theorem test_illformed_commands_4 : ([.fence okEnv 0 0 [], .handover okEnv badMove, .mirrorSnapshot okEnv 0 (2 ^ 16) [] false, .mirrorDelta okEnv badDelta, .mirrorAck okEnv 0 0 [],
    .shadowWaitExpiry (2 ^ 32), .odapReq okEnv okReq (.read badAddr), .odapRsp okEnv 0 (2 ^ 16) [], .ethFrameReceived 0 badEth, .egressSelect 2,
    .ethLinkChange 0 false (2 ^ 32), .tableInsert 0 0 0 (2 ^ 48) [], .tableDelete (2 ^ 8) [], .tableLookup 0 [] [2 ^ 32], .tableLookup (2 ^ 8) [] [],
    .gpioWake (2 ^ 8) false, .countdownFire (2 ^ 8), .feedDeviationDecision (2 ^ 8) [],
    .standbyOutOfWindow 0 (2 ^ 16), .vbatLowCheck (2 ^ 16), .tamperInputActive (2 ^ 8), .thermalTrip (2 ^ 8) 0, .domainExcursion 0 (2 ^ 16),
    .canvasCoreWatchdogExpiry (2 ^ 8), .operationOverdue (2 ^ 8), .l1RetryTimer 0 (2 ^ 8) false, .l2Complete 0 (2 ^ 8),
    .cdcStaleCapture 0 (2 ^ 32) false, .flashPageFetch 0 (2 ^ 32) false, .patchTrap (2 ^ 16), .tamperInputRelease (2 ^ 8), .pcieLinkUp 0 (2 ^ 8),
    .gateEntryBoundary 2, .shaperTokensRefilled 0 (2 ^ 8)] : List Instr).all (fun c => !c.wf) := by decide +kernel

theorem test_wellformed_commands_1 : ([.read okReq okAddr, .write okReq okAddr 0 [], .blockStart okReq okAddr 0 0, .blockSeg okReq 0 0 [], .blockEnd okReq 0 false, .blockAbort okReq 0,
    .txnBegin okReq, .txnCommit okReq false, .txnAbort okReq, .subscribe okReq 0 0 0 0 0 okAddr, .unsubscribe okReq 0, .notifyAck okReq 0 0,
    .odapRuntMessage 0 0, .dtlsHandshake okHello, .subscriptionPeriodTimer 0, .subscriptionGapExpiry 0, .notifyRetransmitTimer 0, .sessionIdleExpiry 0,
    .txnIdleExpiry 0, .blockIdleExpiry 0 0, .replayCacheExpiry 0 0, .modeRequestWrite okReq 0, .modeChangeCancel okReq, .modeChangeEffective,
    .modeChangeAbandon, .endOfServiceComplete, .m1PowerDown, .rebootWrite okReq 0, .rebootAssert, .stepApplyRequest okReq, .stepApplyAbort okReq,
    .clockStepApply, .timeSetWrite okReq 0, .timeSourceWrite okReq 0, .asnEpochWrite okReq {}, .chMapWrite okReq 0 [], .mapChangeEffective 0,
    .nodeRegWrite okReq 0 [], .nodeDeregister okReq 0, .nodeRejoinWrite okReq 0, .keyDestroyWrite okReq 0, .fwActivateMark okReq,
    .fwActivateReset okReq, .fwActivateCancel okReq, .fwConfirm okReq, .fwReject okReq, .fwTrialTimer, .attestChallengeWrite okReq [],
    .calibRequestWrite okReq 0 0, .calibRequestForce okReq 0 0, .calibCancelWrite okReq 0, .recoverRequestWrite okReq 0 0 0, .recoverRequestAssert,
    .recoveryReleaseWrite okReq, .feedSwitchWrite okReq 0, .feedClearWrite okReq 0, .tamperCfgWrite okReq 0 [], .tamperClearWrite okReq] : List Instr).all (·.wf) := by decide

theorem test_wellformed_commands_2 : ([.hrHandoverWrite okReq 0, .hrHandoverCancel okReq, .captureCfgWrite okReq [], .captureStart, .captureStop, .sgCentreWrite okReq false 0,
    .gateListSwitch 0, .dlProfileWrite okReq 0 [], .nodeDlProfileWrite okReq 0 0, .meterWrite okReq 0 [], .shaperWrite okReq 0 [],
    .dwellRuleWrite okReq 0 [], .staticTableWrite okReq false 0 [], .slotStart, .preparationWindowOpen 0 false [], .easelOverrunLimit,
    .receiveWindowOpen 0, .preambleDetect 0 okSeen [], .aerialHoldEnd 0 ⟨[]⟩ [], .sfdFound 0 0 false 0 [], .huntSpanEnd { eng := 0, span := [] },
    .phrDecoded 0 0 false false {}, .fadeAbandon 0 [] {}, .watchTakeover 0 okWatch 0 0 [], .frameEnd 0 {}, .receiveWindowClose 0,
    .engineSelfTestComplete 0 false, .engineInternalFault 0, .measurementBlockEnd 0 0 false {}, .carrierRampStart 0, .burstEnd 0, .synthLockLoss 0,
    .synthRelockAttemptEnd 0 false, .calItemComplete 0 0 {}, .dpdUpdate 0 0 [] [], .dwellBucketAdvance, .ccmLaneFrame 0, .uplinkRelease 0,
    .wakeFollowupMissed 0, .joinDirectiveExpiry 0, .nodeSupervisionExpiry 0, .quarantineEnd 0, .sync { port := 0 }, .followUp { port := 0 },
    .delayReq { port := 0 }, .delayResp { port := 0 }, .announce { port := 0 }, .pdelayReq { port := 0 }, .pdelayResp { port := 0 },
    .pdelayRespFollowUp { port := 0 }, .ptpMessageTimer 0 0, .announceReceiptTimeout 0, .ppsInEdge 0, .ppsOutSecond, .sourceTimeout,
    .registerWriteGeneric 0 0 0, .cipherLockRead 0, .cipherLockRelease 0] : List Instr).all (·.wf) := by decide

theorem test_wellformed_commands_3 : ([.cipherKeyWrite 0 0, .cipherCmdStart 0 0, .cipherCmdAbort 0, .cipherCommandComplete false, .cipherLockIdleExpiry, .mailboxPush 0 0 false 0,
    .mailboxPushEnd 0 0 false 0, .dbRingWrite 0 0 0, .mailboxPop 0 0, .rxLevelWrite 0 0 0, .doorbellWrite 0 false 0, .owSetWrite 0, .owTrimWrite 0 0,
    .owFeedWrite 0 0, .makeSealWrite 0, .kekNonceWrite 0 (zeros 32), .countdownArm 0 0 0, .owClockShadowRead 0 0, .owShadowTimeout 0,
    .gessoKeyOp { caller := 2 } false, .gessoLaneBind { caller := 2 } 0, .gessoKeyProvision { caller := 2 } false 0 false,
    .gessoSign { caller := 2 } "" false, .gessoAttest { caller := 2 }, .gessoLifeCycle { caller := 2 } false, .gessoFwControl { caller := 2 } 0,
    .glazeListSend, .glazeList okEnv okPart, .glazeListDeadline 0 0, .glazeFrame okEnv okGf, .glazeReqSend 0, .glazeReq okEnv 0 0 [],
    .glazeAns okEnv 0 0 0 0 0 0 [] {}, .glazeReqTimeout 0 0, .glazeRetentionExpiry 0, .glazeDecision 0 0 none, .glazeRecordDiscard 0 0,
    .heartbeat okEnv okHb, .helloTimer, .suspectTimeout 0, .isolationTimeout, .lsa okEnv okLsa, .lsaRefreshTimer, .lsaAgeExpiry 0, .claim okEnv 0 0,
    .defend okEnv 0 0 0 (zeros 8), .claimTimer, .addressListenEnd, .dead okEnv 0 0, .takeover okEnv okMove, .fence okEnv 0 0 (zeros 8),
    .handover okEnv okMove, .takeoverEffective, .mirrorSnapshot okEnv 0 0 [] false, .mirrorDelta okEnv okDelta, .mirrorAck okEnv 0 0 (zeros 32),
    .mirrorDeltaSend, .handoverQuiesce] : List Instr).all (·.wf) := by decide

theorem test_wellformed_commands_4 : ([.finalDeltaSend, .handoverEffective, .shadowWaitExpiry 0, .odapReq okEnv okReq .txnBegin, .odapRsp okEnv 0 0 [], .ethFrameReceived 0 okEth,
    .egressSelect 0, .ethLinkChange 0 false 0, .tableInsert 0 0 0 0 [], .tableDelete 0 [], .tableLookup 0 [] [], .scrubBucket false, .mainSupplyValid,
    .uartFrameReceived [] false false, .gpioWake 0 false, .countdownFire 0, .coldBoot {} {}, .warmResetAssert {} {}, .easelRejoin, .canvasServiceResume,
    .powerCycle, .pwrCycleFallback, .brownout, .feedDeviationDecision 0 [], .feedGapEnd, .standbyOutOfWindow 0 0, .owSupplyChange false, .sealBreak,
    .vbatLowCheck 0, .rtcTrimCheck, .tamperInputActive 0, .sensorSample [] [] [] [], .thermalTrip 0 0, .domainExcursion 0 0, .shedWatchdogExpiry false,
    .easelWatchdogExpiry, .canvasCoreWatchdogExpiry 0, .gessoWatchdogExpiry, .operationOverdue 0, .storePoisonBurst, .l1RetryTimer 0 0 false,
    .l2Complete 0 0, .logPersistTimer, .logEntryCopy, .cdcStaleCapture 0 0 false, .pcieReset, .flashPageFetch 0 0 false, .patchTrap 0, .alignedCleared,
    .tamperInputRelease 0, .pcieLinkUp 0 0, .digestRingAdvance, .gateEntryBoundary 0, .shaperTokensRefilled 0 0, .dlQueueFromCanvas none [] false] : List Instr).all (·.wf) := by decide

/-! ### What the statements assume can happen: one theorem for each statement with hypotheses -/

theorem test_wit_EmptyQueueIdles : State.reset.pending = [] := rfl

theorem test_wit_FusesOnlyBlown : FusesAtLeast State.reset.chip State.reset.chip ∧ QueueOk { State.reset with pending := [.helloTimer] } ∧
    ∃ t, step { State.reset with pending := [.helloTimer] } = .next t := by
  refine ⟨⟨rfl, rfl, rfl, rfl, rfl, rfl, rfl, rfl, rfl, fun _ => Nat.le_refl _, rfl, fun _ => ⟨id, id⟩⟩, ?_, _, rfl⟩
  intro c hc
  rcases List.mem_cons.1 hc with rfl | h
  · rfl
  · cases h

theorem test_wit_ReadReturnsValueInEffect : TakenUp (rq 8) 8 (ses 1) (sv 1) ∧
    (∀ a ∈ [(⟨0x1000, 0, 0⟩ : Addr), ⟨0x1000, 1, 0⟩, ⟨0x1010, 1, 0⟩, ⟨0x2001, 2, 0⟩], firstFailure (addrChecks 1 false a (touch 1 (sv 1)) ++
      txnChecks (rq 8) (touch 1 (sv 1)) ++ failIf (readDenied (ses 1) a (touch 1 (sv 1))) stAccessDenied (roleNumber 1)) = none) ∧
    (odFind 0x1000 1).map (fun d => decide (d.ty ≠ .domain)) = some true ∧ (odFind 0x1010 1).map (·.ty) = some .domain ∧
    pendingOf (touch 1 (sv 1)) ⟨0x1000, 1, 0⟩ = none ∧ ownTxn (rq 8) (touch 1 (sv 1)) = none ∧
    pendingOf (touch 1 withPending) ⟨0x1100, 1, 0⟩ = some pendingWrite ∧
    (ownTxn (rq 8 7) (touch 1 (withTxn (txnOf true)))).bind (fun x => stagedValue x ⟨0x2001, 2, 0⟩) = some (beOct 4 1000) := by and_intros <;> decide +kernel

theorem test_wit_WriteCommitsOrStages : TakenUp (rq 16) (12 + (beOct 4 1000).length) (ses 2) (sv 2) ∧ (odFind 0x2001 2).map (fun d => decide (d.ty ≠ .domain)) = some true ∧
    writeFailure (quarantineEff ⟨0x2001, 2, 0⟩ (beOct 4 1000) (slotE ⟨0x2001, 2, 0⟩ (touch 1 (sv 2))) (touch 1 (sv 2))) (ses 2) rq ⟨0x2001, 2, 0⟩ 4 (beOct 4 1000) true false [] (touch 1 (sv 2)) = none ∧
    ownTxn rq (touch 1 (sv 2)) = none ∧ TakenUp (rq 16 7) 16 (ses 2) (withTxn (txnOf true)) ∧
    ownTxn (rq 16 7) (touch 1 (withTxn (txnOf true))) = some (txnOf true) ∧
    writeFailure (quarantineEff ⟨0x2001, 2, 0⟩ (beOct 4 2000) (slotE ⟨0x2001, 2, 0⟩ (touch 1 (withTxn (txnOf true)))) (touch 1 (withTxn (txnOf true)))) (ses 2) (rq 16 7) ⟨0x2001, 2, 0⟩ 4 (beOct 4 2000) true true
      (unstage ⟨0x2001, 2, 0⟩ (txnOf true)).staged (touch 1 (withTxn (txnOf true))) = none ∧
    plainWrites (stageWrite ⟨0x2001, 2, 0, beOct 4 2000⟩ (txnOf true)) ≤ 1024 ∧
    (writeFailure (quarantineEff ⟨0x1000, 1, 0⟩ [1] (slotE ⟨0x1000, 1, 0⟩ (touch 1 (sv 1))) (touch 1 (sv 1))) (ses 1) rq ⟨0x1000, 1, 0⟩ 2 [1] true false [] (touch 1 (sv 1))).isSome = true := by and_intros <;> decide +kernel

theorem test_wit_ReplayIsNotExecutedAgain : ∃ s : State, ∃ u r, s.srv.up = true ∧ findSession s 1 = some u ∧ RequestOf (rq 0) (.txnBegin (rq 0)) ∧
    admitReq (rq 0) (bodyNeed (.txnBegin (rq 0))) u = .replay r :=
  ⟨{ sv 1 with srv := { (sv 1).srv with sessions := [{ ses 1 with cache := [⟨5, ⟨1, 5, 0, 0, [], false⟩, 0⟩] }] } },
    { ses 1 with cache := [⟨5, ⟨1, 5, 0, 0, [], false⟩, 0⟩] }, ⟨1, 5, 0, 0, [], false⟩, rfl, rfl, .txnBegin, by decide +kernel⟩

theorem test_wit_StaleAndMalformedRequestsAreRefused : (sv 1).srv.up = true ∧ findSession (sv 1) 1 = some (ses 1) ∧
    formFault { rq 0 with version := 2 } 0 = some 0 ∧ formFault { rq 0 with len := 15 } 0 = some 15 ∧ formFault { rq 0 with bodyLen := 1137 } 0 = some 14 ∧
    formFault (rq 0) 0 = none ∧ formFault (rq 1136) 1136 = none ∧ formFault (rq 1137) 1137 = some 14 ∧ formFault { rq 0 with bodyLen := 15 } 0 = some 14 ∧
    formFault (rq 3) 8 = some 19 ∧ formFault (rq 9) 8 = some 24 ∧ ridAbove 5 5 = false ∧ ridAbove 5 6 = false ∧ ridAbove 5 4 = true := by decide +kernel

theorem test_wit_FirstFailureFollowsOrder : firstFailure [] = none ∧ firstFailure [(stConflict, 3), (stAccessDenied, 1)] = some (stAccessDenied, 1) := by decide +kernel

theorem test_wit_BlockTransfersRun : firstFailure (txnChecks rq (touch 1 (sv 2))) = none ∧ TakenUp (rq 16) 16 (ses 2) (sv 2) ∧
    firstFailure (addrChecks 2 false ⟨0x1010, 1, 0⟩ (touch 1 (sv 2)) ++ failIf (!((odFind 0x1010 1).map (·.ty) == some .domain)) stTypeMismatch ++
      txnChecks rq (touch 1 (sv 2)) ++ failIf (readDenied (ses 2) ⟨0x1010, 1, 0⟩ (touch 1 (sv 2))) stAccessDenied (roleNumber 2)) = none ∧
    (ownerBlockStart gateAddr 32 (touch 1 (sv 2))).2 = none ∧ 32 ≤ domainMax gateAddr.idx gateAddr.sub ∧
    TakenUp (rq 8) 8 (ses 2) (withBlock (blockOf false false)) ∧
    findBlock (touch 1 (withBlock (blockOf false false))) 1 0 = some (blockOf false false) ∧ 0 < segCount (blockOf false false).size ∧
    TakenUp (rq 40) (8 + gateVal.length) (ses 2) (withBlock (blockOf true false)) ∧
    findBlock (touch 1 (withBlock (blockOf true false))) 1 0 = some (blockOf true false) ∧ 0 < lowestMissing (blockOf true false) + 8 ∧
    (blockOf true false).segs.find? (fun p => p.1 == 0) = none ∧ 0 < segCount (blockOf true false).size ∧
    gateVal.length = (if 0 + 1 < segCount (blockOf true false).size then 1024 else (blockOf true false).size - 1024 * 0) ∧
    TakenUp (rq 4) 4 (ses 2) (withBlock (blockOf true true)) ∧ segCount (blockOf true true).size ≤ lowestMissing (blockOf true true) ∧
    committedOk (writeCore (ses 2) { rq 4 with txn := (blockOf true true).txn } gateAddr 0x10 (blockValue (blockOf true true)) true
      (modBlock 1 0 id (touch 1 (withBlock (blockOf true true))))).2 = true := by and_intros <;> decide +kernel

/-- Time is VALID. -/
def validTime (s : State) : State := { s with clk := { s.clk with state := .locked, valid := true } }

theorem test_wit_TransactionsRun : TakenUp (rq 0 7) 0 (ses 2) (withTxn (txnOf true)) ∧ ownTxn (rq 0 7) (touch 1 (withTxn (txnOf true))) = some (txnOf true) ∧
    recheck ((commonEff (txnOf true).staged (touch 1 (withTxn (txnOf true)))).getD (nextSuperframeE (touch 1 (withTxn (txnOf true))))) (ses 2) (rq 0 7) true
      (touch 1 (withTxn (txnOf true))) [] (txnOf true).staged = none ∧
    setChecks ((commonEff (txnOf true).staged (touch 1 (withTxn (txnOf true)))).getD (nextSuperframeE (touch 1 (withTxn (txnOf true))))) (txnOf true).staged
      (touch 1 (withTxn (txnOf true))) = none ∧
    (commitAll (ses 2) true (commonEff (txnOf true).staged (touch 1 (withTxn (txnOf true)))) 0 (txnOf true).staged (touch 1 (withTxn (txnOf true)))).isOk = true ∧
    (recheck ((commonEff (txnOf false).staged (touch 1 (withTxn (txnOf false)))).getD (nextSuperframeE (touch 1 (withTxn (txnOf false))))) (ses 2) (rq 0 7) true
      (touch 1 (withTxn (txnOf false))) [] (txnOf false).staged).isSome = true ∧
    recheck ((commonEff farTxn.staged (touch 1 (withTxn farTxn))).getD (nextSuperframeE (touch 1 (withTxn farTxn)))) (ses 2) (rq 0 7) true
      (touch 1 (withTxn farTxn)) [] farTxn.staged = none ∧
    setChecks ((commonEff farTxn.staged (touch 1 (withTxn farTxn))).getD (nextSuperframeE (touch 1 (withTxn farTxn)))) farTxn.staged
      (touch 1 (withTxn farTxn)) = some (stScheduleMismatch, 5000) ∧
    recheck ((commonEff timeTxn.staged (touch 1 (validTime (withTxn timeTxn)))).getD (nextSuperframeE (touch 1 (validTime (withTxn timeTxn))))) (ses 2) (rq 0 7) true
      (touch 1 (validTime (withTxn timeTxn))) [] timeTxn.staged = none ∧
    setChecks ((commonEff timeTxn.staged (touch 1 (validTime (withTxn timeTxn)))).getD (nextSuperframeE (touch 1 (validTime (withTxn timeTxn))))) timeTxn.staged
      (touch 1 (validTime (withTxn timeTxn))) = none ∧
    (commitAll (ses 2) true (commonEff timeTxn.staged (touch 1 (validTime (withTxn timeTxn)))) 0 timeTxn.staged (touch 1 (validTime (withTxn timeTxn)))).isOk = false ∧
    TakenUp (rq 0 7) 0 (ses 2) (validTime (withTxn timeTxn)) ∧ TakenUp (rq 0 7) 0 (ses 2) (withTxn farTxn) ∧
    TakenUp (rq 0) 0 (ses 2) (sv 2) ∧ firstFailure (txnChecks (rq 0) (touch 1 (sv 2))) = none ∧ (touch 1 (sv 2)).srv.txns.length < 4 := by and_intros <;> decide +kernel

theorem test_wit_AbortOfEndedTransferOrTransaction : TakenUp (rq 0 7) 0 (ses 2) (sv 2) ∧ TakenUp (rq 4) 4 (ses 2) (sv 2) ∧ TakenUp (rq 8 7) 8 (ses 2) (sv 2) ∧
    findBlock (touch 1 (sv 2)) 1 0 = none ∧ stagedBlock (touch 1 (sv 2)) 1 0 = none ∧ ownTxn (rq 0 7) (touch 1 (sv 2)) = none ∧
    firstFailure (txnChecks (rq 4) (touch 1 (sv 2))) = none ∧
    firstFailure (addrChecks 2 false ⟨0x1000, 1, 0⟩ (touch 1 (sv 2)) ++ failIf (readDenied (ses 2) ⟨0x1000, 1, 0⟩ (touch 1 (sv 2))) stAccessDenied (roleNumber 2)) = none ∧
    ses 2 ∈ (sv 2).srv.sessions ∧ (ses 2).endedTxns.find? (fun p => p.1 == 7) = none ∧
    ({ ses 2 with endedBlocks := [(0, true)] } : Session).endedBlocks.find? (fun p => p.1 == 0) = some (0, true) := by and_intros <;> decide +kernel

theorem test_wit_SubscriptionsRun : TakenUp (rq 16) (if 0 = 2 then 8 else 16) (ses 1) (sv 1) ∧ TakenUp (rq 8) (if 2 = 2 then 8 else 16) (ses 1) (sv 1) ∧
    firstFailure (txnChecks rq (touch 1 (sv 1)) ++ subscribeChecks (ses 1) 0 1000 100 0 255 ⟨0x1200, 1, 0⟩ (touch 1 (sv 1))) = none ∧
    firstFailure (txnChecks rq (touch 1 (sv 1)) ++ subscribeChecks (ses 1) 2 0 0 5 5 ⟨0, 0, 0⟩ (touch 1 (sv 1))) = none ∧
    TakenUp (rq 2) 2 (ses 1) (withSub (subOf 0)) ∧ firstFailure (noSubs (touch 1 (withSub (subOf 0))) ++ txnChecks (rq 2) (touch 1 (withSub (subOf 0)))) = none ∧
    (touch 1 (withSub (subOf 0))).srv.subs.any (fun x => x.id == 3 && x.session == 1) = true ∧ formFault (rq 6) 6 = none ∧ (sv 1).ctl.mode ≠ .m2 := by
  and_intros <;> decide +kernel

theorem test_wit_NotificationLimits : (subOf 0 15).unacked.length < 16 ∧ (subOf 0 16).kind ≠ 2 ∧ 16 ≤ (subOf 2 16).unacked.length ∧ (subOf 2 16).kind = 2 ∧
    16 ≤ (subOf 0 16).unacked.length := by decide +kernel

theorem test_wit_OdapTimersAndRunts : findSession (sv 1) 1 = some (ses 1) ∧ findSub (withSub (subOf 1)) 3 = some (subOf 1) ∧
    findSub (withSub (subOf 0)) 3 = some (subOf 0) ∧ (subOf 0).held = true ∧ (subOf 0 1).unacked ≠ [] ∧ (subOf 0 1).paused = false ∧
    (∀ x ∈ (subOf 0 1).unacked, x.resends < 5) ∧ 5 ≤ ({ n := { sub := 3, seq := 1, payload := [] }, at_ := 0, resends := 5 } : Unacked).resends ∧
    (withTxn (txnOf true)).srv.txns.find? (fun t => t.id == 7) = some (txnOf true) ∧ findBlock (withBlock (blockOf true true)) 1 0 = some (blockOf true true) := by
  decide +kernel

/-- A unit in life cycle 2 whose PSK row 0 binds the key of handle 0 to the identity [1]. -/
def withPsk : State :=
  odPut 0xA011 1 0 ([1, 1, 0, 0, 1, 1] ++ zeros 64)
    { sv 1 with chip := { (sv 1).chip with lcFuses := lcAt 2 }
                sec := { (sv 1).sec with slots := [(0, { held := true, type := 1, usage := 16, masters := 31 })] } }

def hello (identity : Octets) : ClientHello := { transport := 1, identity := identity }

theorem test_wit_HandshakeOpensSession : helloOk (hello [1]) = true ∧ (ephemeralSlot withPsk).isSome = true ∧
    ({ hello [1] with transport := 0 } : ClientHello).port = odNat (sv 1) 0xA010 1 ∧ (sv 1).shd.bootRom = false ∧
    pskSession (hello (bootstrapIdentity 1)) (sv 1) = some (none, 2) ∧
    pskSession (hello [1]) withPsk = some (some 0, 2) ∧ pskSession (hello [2]) withPsk = none ∧
    (withPsk.srv.sessions.filter (fun u => u.transport < 2)).length < 8 ∧ 8 ≤ ((List.replicate 8 (ses 1)).filter (fun u => u.transport < 2)).length ∧ helloOk { hello [1] with dtls13 := false } = false := by
  refine ⟨rfl, by decide +kernel, by decide +kernel, rfl, ?_, ?_, ?_, by decide +kernel, by decide +kernel, by decide +kernel⟩ <;> unfold pskSession
  · rw [if_neg (fun c => by cases c.1), if_pos ⟨rfl, rfl⟩]
    exact if_pos ⟨rfl, by decide +kernel⟩
  · rw [if_neg (fun c => by cases c.1), if_neg (fun c => absurd c.2 (by decide)), if_neg (fun c => absurd c.2 (by decide))]
    decide +kernel
  · rw [if_neg (fun c => by cases c.1), if_neg (fun c => absurd c.2 (by decide)), if_neg (fun c => absurd c.2 (by decide))]
    decide +kernel

/-! Accepted writes: the states are of life cycle 2, in which every mode is allowed. -/

def dp (s : State) : State := { s with chip := { s.chip with lcFuses := lcAt 2 } }

abbrev accepted (a : Addr) (ty : Nat) (v : Octets) (s : State) (role : Nat := 2) : Prop := WriteAccepted (rq (12 + v.length)) a ty v (ses role) s

/-- PAN 0 with 64 channels, without anything else set. -/
def withChannels (s : State) : State := odPut 0x4030 1 0 (setField (odGet s 0x4030 1 0) 12 2 64) s

/-- A unit that holds region 5 beside a ready replacement at address 5. -/
def withSuccessor : State :=
  { sv 2 with hed := { (sv 2).hed with
      held := [(5, 1)], home := 5, adj := [{ addr := 5, mode := 9, flags := 4 }]
      lsdb := [{ origin := 5, serial := zeros 8, seq := 1, stepping := 65535, variant := (sv 2).chip.variantCode }] } }

def withHanding (h : Handing) (s : State) : State := { s with hed := { s.hed with handing := some h } }

def withClk (f : Clk → Clk) (s : State) : State := { s with clk := f s.clk }

/-- Time is VALID and an epoch is in force. -/
def readyForService (s : State) : State :=
  withClk (fun c => { c with state := .locked, valid := true }) (odPut 0x2100 1 0 (encodeEpoch { asn0 := 1024, secs := 128 }) s)

/-- Bank 1 carries a manifest that only a cold boot may start. -/
def withImage (s : State) : State := { s with fw := { s.fw with banks := [[], [0x46, 0x4C, 0x4D, 0x46, 0, 0, 0, 0]], running := some 0 } }

def withRecord (r : BootRec) (s : State) : State := { s with fw := { s.fw with copyA := some r, running := some 0 } }

def withKey : State := { sv 2 with sec := { (sv 2).sec with slots := [(0, { held := true })] } }

def withCalReq : State := { sv 2 with shd := { (sv 2).shd with cal := [{ item := 1, st := 1 }] } }

/-- Both supply trains at their nominal voltages. -/
def nominal : List Nat := [800, 800, 900, 1200, 1100, 1800, 800, 800, 900, 1200, 1100, 1800]

def withSense (s : State) : State := { s with pwr := { s.pwr with main := true, onVbat := false, sense := nominal } }

def withChange (c : ModeChange) (m : Mode := .m5) : State := { sv 1 m with ctl := { (sv 1 m).ctl with change := some c } }

def withEas (f : Eas → Eas) (s : State) : State := { s with eas := f s.eas }

def running (s : State) : State := withEas (fun e => { e with running := true, asn := 9, next := some 10 }) s

/-- A change to a working mode that waits for its beacon. -/
def toM6 (committed : Bool := false) : ModeChange := { target := .m6, kind := .announced, eff := 90, committed := committed }

/-- The same schedule as at reset with a cell of the active set in a slot that no superframe has. -/
def withFarCell (s : State) : State := odPut 0x4012 5 0 [1] (odPut 0x4012 1 0 (beOct 2 5000) s)

theorem test_wit_ModeWritesCommit : accepted ⟨0x1200, 2, 0⟩ 2 (beOct 1 6) (dp (sv 1)) 1 ∧ (sv 1).ctl.change = none ∧
    changeKind .m5 .m6 1 = some .announced ∧ scheduleFit (dp (sv 1)) (namedSet (dp (sv 1))) .m6 = none ∧
    (withChange (toM6)).ctl.change = some toM6 ∧ accepted ⟨0x1200, 2, 0⟩ 2 (beOct 1 6) (dp (withChange toM6)) 1 ∧
    accepted ⟨0x1200, 2, 0⟩ 2 (beOct 1 8) (dp (withChange toM6)) 1 ∧
    accepted ⟨0x1200, 2, 0⟩ 2 (beOct 1 6) (withFarCell (dp (sv 1))) 1 ∧ (scheduleFit (withFarCell (dp (sv 1))) (namedSet (withFarCell (dp (sv 1)))) .m6).isSome = true ∧
    accepted ⟨0x1200, 2, 0⟩ 2 (beOct 1 3) (dp (sv 2)) ∧ changeKind .m5 .m3 2 = some .endOfService ∧
    accepted ⟨0x1200, 2, 0⟩ 2 (beOct 1 4) (running (dp (sv 2 .m3))) ∧ accepted ⟨0x1200, 2, 0⟩ 2 (beOct 1 4) (dp (sv 2 .m3)) ∧ changeKind .m3 .m4 2 = some .atSlot ∧
    (running (sv 1)).eas.running = true ∧ (sv 1).eas.running = false ∧ changeKind .m3 .m5 2 = some .waiting ∧
    accepted ⟨0x1200, 2, 0⟩ 2 (beOct 1 5) (dp (sv 2 .m3)) ∧ (sv 2 .m3).clk.valid = false ∧ accepted ⟨0x1200, 2, 0⟩ 2 (beOct 1 5) (dp (readyForService (sv 2 .m3))) ∧
    ((readyForService (sv 2 .m3)).clk.valid && epochValid (readyForService (sv 2 .m3)) && hrReady (readyForService (sv 2 .m3))) = true ∧
    accepted ⟨0x1200, 2, 0⟩ 2 (beOct 1 (sv 1).ctl.mode.code) (dp (withChange toM6)) 1 ∧
    accepted ⟨0x1200, 2, 0⟩ 2 (beOct 1 (sv 1).ctl.mode.code) (dp (withChange (toM6 true))) 1 ∧
    accepted ⟨0x1200, 8, 0⟩ 2 (beOct 1 1) (sv 2 .m3) := by and_intros <;> decide +kernel

/-- Table 02-5 at its edges. -/
theorem test_wit_RolesAndTargets : targetAllowed 1 .m5 = true ∧ targetAllowed 1 .m4 = false ∧ targetAllowed 2 .m1 = true ∧ targetAllowed 2 .m9 = false ∧
    targetAllowed 4 .m10 = true ∧ targetAllowed 8 .m11 = true ∧ targetAllowed 16 .m2 = true ∧ targetAllowed 16 .m3 = false := by decide +kernel

/-- A step waits to be applied. -/
def stepHeld (s : State) : State := withClk (fun c => { c with state := .stepHeld, stepPending := true }) s

theorem test_wit_TimebaseWritesCommit :
    accepted ⟨0x2002, 2, 0⟩ 2 [1] (stepHeld (sv 2)) ∧ stepPendingNow (stepHeld (sv 2)) = true ∧ (stepHeld (sv 2)).clk.stepReq = none ∧
    accepted ⟨0x2002, 2, 0⟩ 2 [1] (running (stepHeld (sv 2))) ∧ stepPendingNow (running (stepHeld (sv 2))) = true ∧ (running (sv 2)).eas.running = true ∧
    accepted ⟨0x2002, 2, 0⟩ 2 [0] (withClk (fun c => { c with stepReq := some { slot := 9 } }) (stepHeld (sv 2))) ∧
    accepted ⟨0x2002, 2, 0⟩ 2 [0] (withClk (fun c => { c with stepReq := some { slot := 9, fixed := some 5 } }) (stepHeld (sv 2))) ∧
    accepted ⟨0x2002, 3, 0⟩ 5 (beOct 8 (2 ^ 32)) (sv 2) ∧ (sv 2).clk.valid = false ∧ accepted ⟨0x2002, 3, 0⟩ 5 (beOct 8 9) (readyForService (sv 2)) ∧
    (readyForService (sv 2)).clk.valid = true ∧ 9 ≠ nowSecs (readyForService (sv 2)) + 1 ∧ accepted ⟨0x2001, 1, 0⟩ 2 (beOct 1 1) (sv 2) ∧
    accepted ⟨0x2100, 1, 0⟩ 0xE (encodeEpoch { asn0 := 1024, secs := 128 }) (sv 2 .m3) := by and_intros <;> decide +kernel

/-- Synthesiser 0 holds a valid calibration of 868 MHz. -/
def withEntry (s : State) : State := { s with rf := { s.rf with calTab := [[{ centre := 868000000, state := 1 }]] } }

/-- Node 0 as NODE_REG registers it: EUI-64 1, PAN 0, short address 1. -/
def regOf (sup : Nat := 10) : Octets := beOct 8 1 ++ [0, 0, 0, 1] ++ beOct 2 sup ++ [0, 0]

def withNode (s : State) : State := modNode 0 (fun r => { r with st := .registered, pan := 0, short := 1, eui := 1 }) (odPut 0x5010 1 0 regOf s)

/-- The least variant with tables of `n` node and `m` MAC entries. -/
def tables (n m : Nat) (s : State) : State := { s with
  chip := { s.chip with package := 1, bondC := 1, channels := 2, fabric := 0 }
  tre := { s.tre with arrays := [{ slots := List.replicate n (0, { tag := 1 }) }, { slots := List.replicate m (0, { tag := 4 }) }, {}] } }

theorem tables_findIn (n m : Nat) (s : State) (tag b : Nat) (key : Octets) (h : key ≠ []) : findIn (tables n m s).tre tag key b = none := by
  have hs : ∀ (n k j : Nat) (v : TEntry), sfind (List.replicate n (k, v)) j = none ∨ sfind (List.replicate n (k, v)) j = some v := by
    intro n k j v
    induction n with
    | zero => exact .inl rfl
    | succ n ih => rw [List.replicate_succ, sfind]; split; exacts [.inr rfl, ih]
  have hk : ∀ a k, (slotGet (tables n m s).tre a b k).key = [] := by
    intro a k
    unfold slotGet sget tarray
    match a with
    | 0 => rcases hs n 0 (4 * b + k) { tag := 1 } with e | e <;> simp [tables, e]
    | 1 => rcases hs m 0 (4 * b + k) { tag := 4 } with e | e <;> simp [tables, e]
    | 2 => simp [tables, sfind]
    | a + 3 => simp [tables, sfind]
  unfold findIn
  rw [List.find?_eq_none]
  intro k _
  rw [isEntry, hk]
  cases key with
  | nil => exact absurd rfl h
  | cons x l => simp

theorem tables_insert (n m : Nat) (s : State) (e : TEntry) (h : e.key ≠ []) (hn : 16384 ≤ n) (hm : 4096 ≤ m) (ht : e.tag = 1 ∨ e.tag = 4)
    (hw : s.tre.waiting = []) : (tableInsert e (tables n m s)).2 = .tableFull := by
  have hp : place (tables n m s).tre e.tag e.key = none := by
    unfold place
    rw [tables_findIn n m s _ _ _ h, tables_findIn n m s _ _ _ h]
    rcases ht with ht | ht <;> rw [ht] <;> rfl
  have hf : tableLimit (tables n m s).chip e.tag ≤ tableCount (tables n m s).tre e.tag := by
    rcases ht with ht | ht <;> rw [ht] <;> simp [tableLimit, tableCount, arrayEntries, tarray, tables, arrayOf, Chip.nodeLimit] <;> omega
  have hi : insertNow e (tables n m s) = (bump 0x6400 3 0 (tables n m s), .tableFull) := by
    unfold insertNow
    rw [if_neg (by omega), if_pos ⟨by rw [hp]; rfl, hf⟩]
  unfold tableInsert
  rw [show (tables n m s).tre.waiting = [] from hw]
  simp [hi]

theorem test_wit_AirAndNodeWritesCommit : accepted ⟨0x4032, 1, 0⟩ 0xD (odGet (sv 2) 0x4032 1 0) (withChannels (sv 2)) ∧
    accepted ⟨0x4032, 1, 0⟩ 0xD (odGet (sv 2) 0x4032 1 0) (running (withChannels (sv 2))) ∧
    accepted ⟨0x5010, 1, 0⟩ 0xE regOf (sv 2) ∧ (odFind 0x5010 1).isSome = true ∧ (registerNode 0 regOf (touch 1 (sv 2))).2 = true ∧
    (tableInsert ((nodeEntries (odPut 0x5010 1 0 regOf (dropEntries 0 (touch 1 (sv 2)))) 0).headD {}) (odPut 0x5010 1 0 regOf (dropEntries 0 (touch 1 (sv 2))))).2 = .ok ∧
    accepted ⟨0x5010, 1, 0⟩ 0xE (regOf 20) (withNode (sv 2)) ∧ fieldNat (regOf 20) 0 8 = regEui (withNode (sv 2)) 0 ∧ fieldNat (regOf 20) 0 8 ≠ 0 ∧
    fieldNat (regOf 20) 8 1 = regPan (withNode (sv 2)) 0 ∧ fieldNat (regOf 20) 10 2 = regShort (withNode (sv 2)) 0 ∧
    (nodeRec (withNode (sv 2)) 0).poisoned = false ∧ (nodeRec (withNode (sv 2)) 0).st ≠ .free ∧ accepted ⟨0x5010, 1, 0⟩ 0xE regOf (tables 16384 4096 (sv 2)) ∧
    accepted ⟨0x5010, 1, 0⟩ 0xE (zeros 14 ++ [0xFF, 0]) (sv 2) ∧ accepted ⟨0x5011, 1, 0⟩ 4 (beOct 4 0) (modNode 0 (fun r => { r with st := .active }) (sv 2)) ∧
    accepted ⟨0x3300, 1, 0⟩ 0xE ([1] ++ zeros 25 ++ [1]) (sv 2 .m4) ∧ accepted ⟨0x3000, 1, 0⟩ 4 (beOct 4 868000000) (sv 2 .m3) ∧
    accepted ⟨0x3000, 2, 0⟩ 4 (beOct 4 868000000) (sv 2 .m3) ∧ accepted ⟨0x3000, 1, 0⟩ 4 (beOct 4 868000000) (withEntry (running (sv 2))) ∧
    accepted ⟨0x3420, 1, 1⟩ 0xE (odGet (sv 2) 0x3420 1 1) (sv 2) ∧ (odFind 0x3420 1).isSome = true ∧
    accepted ⟨0x3420, 1, 1⟩ 0xE (odGet (sv 2) 0x3420 1 1) (running (sv 2)) ∧
    accepted ⟨0x7030, 1, 0⟩ 3 (beOct 2 5) withSuccessor ∧ accepted ⟨0x7030, 1, 0⟩ 3 (beOct 2 0xFFFF) (withHanding { target := 5 } (sv 2)) := by
  and_intros <;> decide +kernel

theorem tables_register (n m : Nat) (hn : 16384 ≤ n) (hm : 4096 ≤ m) : (registerNode 0 regOf (touch 1 (tables n m (sv 2)))).2 = false := by
  have h : ∀ s : State, s.tre.waiting = [] → regEui s 0 = 0 → (registerNode 0 regOf (tables n m s)).2 = false := by
    intro s hw he
    have hr : regEui (tables n m s) 0 = 0 := he
    have h1 : fieldNat regOf 0 8 = 1 := by decide +kernel
    have hd : dropEntries 0 (tables n m s) = tables n m s := by unfold dropEntries; rw [if_pos hr]
    have ho : odPut 0x5010 1 0 regOf (tables n m s) = tables n m (odPut 0x5010 1 0 regOf s) := rfl
    unfold registerNode
    simp only [h1, hr, hd, ho]
    have hf := tables_insert n m (odPut 0x5010 1 0 regOf s) { tag := 1, flags := 1, value := 0, key := beOct 8 (regEui (tables n m (odPut 0x5010 1 0 regOf s)) 0) }
      (by simp [beOct]) hn hm (.inl rfl) hw
    simp only [nodeEntries]
    rw [if_neg (by decide), if_neg (by simp)]
    revert hf
    cases hx : tableInsert _ (tables n m (odPut 0x5010 1 0 regOf s)) with
    | mk a b => intro hf; simp only at hf; subst hf; rfl
  exact h (touch 1 (sv 2)) rfl (by decide +kernel)

/-- A registration that finds no room. -/
theorem test_wit_RegistrationFindsNoRoom : (registerNode 0 regOf (touch 1 (tables 16384 4096 (sv 2)))).2 = false :=
  tables_register 16384 4096 (Nat.le_refl _) (Nat.le_refl _)

/-- Bank 1 carries a manifest that a warm reset may start. -/
def withWarmImage (s : State) : State := { s with fw := { s.fw with banks := [[], [0x46, 0x4C, 0x4D, 0x46, 0, 0, 0, 1]], running := some 0 } }

def inStep2 (s : State) : State := { s with shd := { s.shd with l2 := [(1, 0, 0)] } }

theorem test_wit_SecurityAndFirmwareWritesCommit :
    accepted ⟨0x8010, 3, 0⟩ 3 (beOct 2 0) withKey ∧
    accepted ⟨0x8810, 1, 0⟩ 2 (beOct 1 0) (withRecord { pending := some 1 } (sv 2)) ∧ accepted ⟨0x8810, 1, 0⟩ 2 (beOct 1 1) (withImage (sv 2)) ∧
    accepted ⟨0x8810, 1, 0⟩ 2 (beOct 1 2) (withImage (sv 2 .m3)) ∧ warmOk (manifest (withImage (sv 2 .m3)) (idleBank (withImage (sv 2 .m3)))) = false ∧ Mode.m3.emits = false ∧
    accepted ⟨0x8810, 1, 0⟩ 2 (beOct 1 2) (withWarmImage (sv 2)) ∧ warmOk (manifest (withWarmImage (sv 2)) (idleBank (withWarmImage (sv 2)))) = true ∧
    (sv 2).shd.due = none ∧ (sv 2).shd.cycleUntil = none ∧ (sv 2).shd.warm = none ∧
    accepted ⟨0x8810, 2, 0⟩ 2 (beOct 1 0) (withRecord { pending := some 1, trial := true } (sv 2)) ∧
    (bootRec (withRecord { pending := some 1, trial := true } (sv 2))).pending = some 1 ∧
    accepted ⟨0x8810, 2, 0⟩ 2 (beOct 1 1) (withRecord { pending := some 1, trial := true } (sv 2)) ∧ accepted ⟨0x8830, 1, 0⟩ 0xD (zeros 32) (sv 2) ∧
    accepted ⟨0x9200, 1, 0⟩ 0xE [1, 0, 0, 0] (sv 2) ∧ accepted ⟨0x9200, 1, 0⟩ 0xE [1, 0, 1, 0] (sv 2) ∧ opportunity (sv 2) 1 0 false = none ∧
    accepted ⟨0x9200, 1, 0⟩ 0xE [1, 0, 1, 0] (running (sv 2)) ∧ calibFull (running (sv 2)) true = false ∧ (opportunity (running (sv 2)) 1 0 true).isSome = true ∧
    accepted ⟨0x9200, 3, 0⟩ 2 [0] withCalReq ∧ withCalReq.shd.cal[0]? = some { item := 1, st := 1 } ∧
    accepted ⟨0x9400, 4, 0⟩ 0xE [1, 0, 2] (sv 2) ∧ inL2 (sv 2) 1 0 = false ∧ accepted ⟨0x9400, 4, 0⟩ 0xE [1, 0, 2] (inStep2 (sv 2)) ∧ inL2 (inStep2 (sv 2)) 1 0 = true ∧
    accepted ⟨0x9400, 4, 0⟩ 0xE [1, 0, 3] (sv 2) ∧ accepted ⟨0x9400, 7, 0⟩ 2 [1] (sv 2) := by and_intros <;> decide +kernel

/-- A static row of the MAC table and of the address table. -/
def macRow : Octets := [1, 0, 2, 0, 0, 0, 0, 1]

theorem test_wit_NetworkWritesTakeEffect : accepted ⟨0x6800, 1, 1⟩ 0xE (odGet (sv 2) 0x6800 1 1) (sv 2) ∧ (odFind 0x6800 1).isSome = true ∧
    accepted ⟨0x6800, 2, 0⟩ 2 (beOct 1 15) (sv 2) ∧ accepted ⟨0x6800, 2, 32767⟩ 2 (beOct 1 0) (sv 2) ∧
    accepted ⟨0x6820, 1, 0⟩ 0xE (odGet (sv 2) 0x6820 1 0) (sv 2) ∧ accepted ⟨0x6810, 2, 15⟩ 0xE (odGet (sv 2) 0x6810 2 15) (sv 2) ∧
    accepted ⟨0x6420, 1, 0⟩ 0xE (odGet (sv 2) 0x6420 1 0) (sv 2) ∧ (odFind 0x6420 1).isSome = true ∧ octet0 (odGet (sv 2) 0x6420 1 0) ≠ 1 ∧
    accepted ⟨0x6410, 4, 0⟩ 0xE (odGet (sv 2) 0x6410 4 0) (sv 2) ∧ accepted ⟨0x6410, 4, 0⟩ 0xE macRow (sv 2) ∧ octet0 macRow = 1 ∧
    (tableInsert (macStaticEntry macRow) (touch 1 (sv 2))).2 = .ok ∧ accepted ⟨0x6410, 4, 0⟩ 0xE macRow (tables 16384 4096 (sv 2)) := by and_intros <;> decide +kernel

/-- A static row that finds no room. -/
theorem test_wit_StaticRowFindsNoRoom : (tableInsert (macStaticEntry macRow) (touch 1 (tables 16384 4096 (sv 2)))).2 = .tableFull :=
  tables_insert 16384 4096 (touch 1 (sv 2)) (macStaticEntry macRow) (by decide) (Nat.le_refl _) (Nat.le_refl _) (.inr rfl) rfl

theorem test_wit_FeedAndTamperWritesCommit : accepted ⟨0xB010, 3, 0⟩ 2 (beOct 1 1) (withSense (sv 2)) ∧ accepted ⟨0xB010, 4, 0⟩ 2 (beOct 1 1) (sv 2) ∧
    accepted ⟨0xB010, 4, 0⟩ 2 (beOct 1 0) (sv 2) ∧ accepted ⟨0xB200, 1, 1⟩ 0xE (odGet (sv 2) 0xB200 1 1) (sv 2 .m3) ∧ accepted ⟨0xB200, 3, 0⟩ 2 [1] (sv 2) := by
  decide +kernel

/-- A SOURCE_TIMEOUT write: an IMMEDIATE object with no commit or effect of its own. -/
theorem test_wit_ImmediateWriteTakesEffect : accepted ⟨0x2001, 7, 0⟩ 3 (beOct 2 1000) (sv 2) ∧
    (odFind 0x2001 7).map (fun d => (decide (d.ty ≠ .domain), d.app)) = some (true, .immediate) ∧
    (ownerCommit (ses 2) ⟨0x2001, 7, 0⟩ (beOct 2 1000) true (touch 1 (sv 2))).isNone = true ∧
    ∀ x, takeEffect 0x2001 7 0 (beOct 2 1000) x = odPut 0x2001 7 0 (beOct 2 1000) x :=
  ⟨by decide +kernel, by decide +kernel, by decide +kernel, fun _ => rfl⟩

theorem test_wit_ModeChangesComplete : atSlot (withChange { target := .m6, kind := .announced, eff := 10, announced := true }) 10 = true ∧
    toM6.announced = false ∧ toM6.kind = .announced ∧ (withChange { target := .m3, kind := .endOfService, eff := 10 }).ctl.change = some { target := .m3, kind := .endOfService, eff := 10 } ∧
    ({ target := .m9, kind := .atSlot, eff := 10 } : ModeChange).kind = .atSlot ∧
    atSlot (running (sv 1)) 10 = true ∧ atSlot (running (sv 1)) 11 = false ∧ (sv 1 .m1).ctl.mode = .m1 ∧
    ({ (sv 1 .m1).ctl with powerDownAt := some 40000000 } : Ctl).powerDownAt = some 40000000 ∧ ({ (sv 1).ctl with rebootAt := some 1 } : Ctl).rebootAt = some 1 := by
  decide +kernel

theorem test_wit_EnteringAModeSetsItsDomains : Mode.m5.working = true ∧ Mode.m8.working = true ∧ Mode.m9.working = false ∧ Mode.m5 ≠ .m1 ∧
    (sv 1).srv.up = true ∧ 2 ≤ (sv 1).ctl.mode.code ∧ (sv 1).ctl.mode ≠ .m2 ∧ (sv 1 .m2).ctl.mode = .m2 := by decide +kernel

theorem test_wit_SlotsStartAndArePrepared : stepDue (running (sv 1)) = none ∧ (running (sv 1)).eas.next = some 10 ∧
    stepDue (withClk (fun c => { c with stepReq := some { slot := 10, fixed := some (-5) } }) (running (sv 1))) = some (-5, 10) ∧
    (running (sv 1)).eas.restarting = false ∧ (running (sv 1)).eas.nextPlan.asn ≠ 10 ∧ (openWindow 10 (running (sv 1))).isSome = true ∧ (running (sv 1)).eas.running = true ∧
    (egPort { sv 1 with rid := { (sv 1).rid with ports := [{ pend := some ({}, 5) }, {}] } } 0).pend = some ({}, 5) := by decide +kernel

/-- Steps on each side of T - 200 us, T the slot of 12.5 ms. -/
theorem test_wit_StepIsAppliedByItsSize : slotNs (epochFor (running (sv 1)) 9).code = 12500000 ∧ (12300000 : Int) ≤ (slotNs (epochFor (running (sv 1)) 9).code : Int) - 200000 ∧
    ((slotNs (epochFor (running (sv 1)) 9).code : Int) - 200000 < 12300001) := by decide +kernel

theorem test_wit_MeasurementsNeverStepAValidClock : servoRuns (sv 1) = true ∧ servoRuns (sv 1 .m2) = false ∧ (withClk (fun c => { c with state := .stepHeld }) (sv 1)).clk.state ≠ .acquiring ∧
    (withClk (fun c => { c with state := .stepHeld }) (sv 1)).clk.state ≠ .invalid ∧
    stepThreshold (sv 1) < (100001 : Int).natAbs ∧ (100000 : Int).natAbs ≤ stepThreshold (sv 1) := by decide +kernel

def withPort (p : PtpPort) : State := withClk (fun c => { c with ports := [p, {}] }) (sv 1)

/-- Port 0 follows the master 0x70001, of which two Announces came, with every exchange under way. -/
def slave : State := withClk (fun c => { c with elapsed := 9, ports := [{
  portState := 9, foreigns := [{ source := 0x70001, ds := ⟨0, 0, 0, 0, 0, 7, 0⟩, last := 5, prev := some 1 }], reqSent := some (7, 5)
  lastSync := some (1, 2), pdelayWait := some (7, 1, 2), syncWait := some (7, 3) }, {}] }) (sv 1)

theorem test_wit_PtpMessagesRun : (sv 1).ctl.mode ≠ .m0 ∧ (sv 1).ctl.mode ≠ .m1 ∧ ptpRefused { port := 0 } 2 (sv 1) = false ∧ ptpRefused { port := 2 } 2 (sv 1) = true ∧
    (ptpRefused { port := 0 } 0 (sv 1) = false ∨ ptpRefused { port := 0 } 1 (sv 1) = false) ∧
    ptpRefused { port := 0 } 0 slave = false ∧ ptpRefused { port := 0 } 2 slave = false ∧ ptpListens { port := 0, source := 0x70001 } slave = true ∧
    (portOf slave 0).syncWait = some (7, 3) ∧ (portOf slave 0).reqSent = some (7, 5) ∧ (portOf slave 0).lastSync = some (1, 2) ∧
    ptpRefused { port := 0 } 1 (odPut 0x2010 5 0 [1] slave) = false ∧ ptpRefused { port := 0 } 0 (odPut 0x2010 5 0 [1] slave) = true ∧
    (portOf (odPut 0x2010 5 0 [1] slave) 0).pdelayWait = some (7, 1, 2) ∧ (portOf (withPort { portState := 6 }) 0).portState = 6 ∧
    ptpRefused { port := 0 } 0 (withPort { portState := 6 }) = false ∧ (sv 1).shd.warm = none ∧ 0x70001 / 65536 ≠ clockIdentity slave ∧ 0 < slave.clk.ports.length := by
  and_intros <;> decide +kernel

theorem test_wit_ClockTimersRun : odNat (odPut 0x2001 1 0 [1] (sv 1)) 0x2001 1 = 1 ∧ odNat (odPut 0x2001 1 0 [2] (sv 1)) 0x2001 1 = 2 ∧
    (withClk (fun c => { c with lastMeas := some 4, state := .locked }) (sv 1)).clk.lastMeas = some 4 ∧ odField (sv 1) 0x2011 1 0 0 1 ≠ 0 ∧
    (odNat (sv 1) 0x2010 6 = 1 ∨ odNat (sv 1) 0x2010 6 ≠ 1) ∧ odNat (odPut 0x2010 5 0 [1] (sv 1)) 0x2010 5 = 1 ∧
    (portOf (withPort { portState := 9 }) 0).portState = 9 ∧ portActive (withPort { portState := 9 }) 0 = true ∧ portActive (withPort { portState := 6 }) 0 = true ∧
    (portBest slave 0).isSome = true := by decide +kernel

def cell0 : RxCell := { engine := 0, maxCoded := 127, maxPlain := 127, closeUs := 5000 }

/-- Engine 0 with a cell in the running slot, both aerials and the synthesisers on. -/
def en (e : Engine) (m : Mode := .m5) : State :=
  { sv 1 m with
    pal := { (sv 1).pal with engines := [{ e with cell := some 0 }] }
    eas := { asn := 9, running := true, next := some 10, active := { asn := 9, rx := [cell0] } }
    rf := { (sv 1).rf with synths := List.replicate 4 { locked := true } } }

/-- Samples that are the template itself, which is 2^14 at full amplitude. -/
def strong : Corr := ⟨List.replicate 512 (16384, 0), List.replicate 512 (16384, 0)⟩

theorem test_wit_ReceptionBegins : (engine (en { st := .decide }) 0).st = .decide ∧ (engine (en { st := .hunt, window := true }) 0).window = true ∧
    leastNs (cellProfile (en { st := .hunt }) cell0) ≤ 2000000 ∧ huntSpan (en { st := .hunt }) cell0 0 (List.replicate 64 ⟨[], []⟩) ≤ 64 ∧
    (engine (en { st := .search, window := true }) 0).receiving = false ∧ ({ cell0 with node := some 3 } : RxCell).node = some 3 ∧ engineCell (en { st := .armed }) 0 = some cell0 ∧ (engine (en { st := .armed }) 0).st = .armed ∧
    engineCell (en { st := .hunt, window := true }) 0 = some cell0 ∧
    (cellProfile (en { st := .search }) cell0).pdThresh ≤ aerialMetric (en { st := .search }) cell0 0 strong ∧
    aerialMetric (en { st := .search }) cell0 0 ⟨[(0, 0)], [(1, 0)]⟩ < (cellProfile (en { st := .search }) cell0).pdThresh ∧
    sfdMatch (cellProfile (en { st := .hunt }) cell0) 0x3A5E71 true = some false ∧ sfdMatch (cellProfile (en { st := .hunt }) cell0) 0x3A5E72 true = some false ∧
    sfdMatch (cellProfile (en { st := .hunt }) cell0) 0x3A5E76 true = none ∧ cell0.kind = 0 ∧ cell0.node = none := by and_intros <;> decide +kernel

theorem test_wit_ReceptionEnds : engineCell (en { st := .payload }) 0 = some cell0 ∧ (engine (en { st := .payload }) 0).receiving = true ∧
    (127 ≤ cell0.maxPlain ∧ 4 ≤ 127) ∧ cell0.maxPlain < 128 ∧ (engine (en { st := .header }) 0).st = .header ∧
    (∀ p ∈ (List.replicate 32 (-30000 : Int)).drop 0, p < channelFloor (en { st := .payload }) cell0 0 + 256 * (cellProfile (en { st := .payload }) cell0).fadeMargin) ∧
    (cellProfile (en { st := .payload }) cell0).pdThresh ≤ aerialMetric (en { st := .payload }) cell0 0 strong ∧
    (engine (en { st := .payload, window := true }) 0).window = true ∧ (engine (en { st := .payload }) 0).watch = false ∧
    0 + leastNs (cellProfile (en { st := .payload }) cell0) ≤ 0 + airNs (cellProfile (en { st := .payload }) cell0).phy 64 ∧
    marginMet (keptAerial (en { st := .payload }) cell0 (List.replicate (holdSamples (cellProfile (en { st := .payload }) cell0).phy) (strong, strong))).2.1 0
      (cellProfile (en { st := .payload }) cell0).watchMargin = true ∧
    marginMet 100 100 1 = false ∧ (1 : Nat) < (if (engine (en { st := .header }) 0).fcs2 then 2 else 4) ∧ cell0.partner = false ∧ (en {}).ctl.mode ≠ .m4 := by
  and_intros <;> decide +kernel

/-- The band of path 0 transmits from aerial A in the running slot. -/
def emitting : State := { en {} with eas := { (en {}).eas with active := { asn := 9, rx := [cell0], txAerial := [some 0, none] } } }

def allFaulty : State := { sv 1 with pal := { (sv 1).pal with engines := List.replicate 96 { st := .faulty } } }

theorem test_wit_EnginesAreTestedAndMeasured : (engine (en { st := .test }) 0).st = .test ∧ (engine (en { st := .test }) 0).fails = 0 ∧
    (engine (en { st := .test, retest := true }) 0).retest = true ∧ (engine (en { st := .idle }) 0).st ≠ .off ∧ blockMeasured (sv 1) 0 = true ∧
    (engine (en { st := .test, fails := 1 }) 0).fails ≠ 0 ∧ blockMeasured (sv 1) 3 = false ∧ blockMeasured emitting 1 = false ∧ (knifeSet emitting 0).isSome = true ∧
    aerialOn emitting 0 1 = true ∧ needed (sv 1) ≤ healthyCount (sv 1) ∧ healthyCount allFaulty < needed allFaulty := by and_intros <;> decide +kernel

def carrier (stage : Nat) : Carrier := { kind := .beacon, stage := stage }

def withTx (stage : Nat) (locked : Bool) : State :=
  { sv 1 with eas := { asn := 9, running := true, active := { tx := [carrier stage] } }
              rf := { (sv 1).rf with synths := List.replicate 4 { locked := locked, attempts := 3 } } }

theorem test_wit_CarriersAndSynthesisersRun : (withTx 0 true).eas.active.tx[0]? = some (carrier 0) ∧ (carrier 0).stage = 0 ∧ (carrier 1).stage = 1 ∧
    (synth (withTx 0 true) (txSynth 0)).locked = true ∧ (synth (withTx 0 false) (txSynth 0)).locked = false ∧ (synth (withTx 0 false) 3).attempts = 3 := by
  decide +kernel

def withDpd (captured : Nat) : State := { sv 1 with pri := { (sv 1).pri with fbCal := [true, true], dpd := [{ captured := captured }] } }

def withItem : State := { sv 1 with rf := { (sv 1).rf with items := [{ item := 1, path := 0, running := true }] } }

theorem test_wit_CalibrationAndDwellRun : (calItem withItem 1 0).running = true ∧ (calItem withItem 1 0).fails < 2 ∧ plausible 1 0 {} = true ∧ plausible 4 0 {} = true ∧ plausible 4 0 { level := -9000 } = false ∧ (sv 1).pal.capState ≠ 2 ∧ dpdOn (withDpd 16) 0 = true ∧
    ((withDpd 16).pri.fbCal[0]?).getD false = true ∧ dpdInUse (withDpd 16) 0 = 0 ∧ odNat (withDpd 16) 0x3410 4 ≤ (dpdSet (withDpd 16) 0).captured ∧
    clipsOf [] [] (List.replicate 3 (0, 0)) = 0 ∧ coefOk (halfStep (List.replicate 1 (16384, 0)) (List.replicate 1 (16384, 0))) = true ∧
    coefOk (halfStep [] (freeCoefs 0)) = false ∧ (sv 1 .m4).ctl.mode = .m4 ∧
    ([({ rule := 0, band := 0, centre := 0 } : DwellAcc)].map (fun a => (bucketAt (sv 1) a.rule 0 + 1) * bucketCycles (sv 1) a.rule)).min?.isSome = true ∧
    odField (sv 1 .m4) 0x3300 1 0 18 5 ≤ (sv 1 .m4).eas.asn := by and_intros <;> decide +kernel

def withRec (r : NodeRec) (s : State) : State := setNode 0 r s

theorem test_wit_NodeTimersRun : (withEas (fun e => { e with next := some 4096 }) (withRec { st := .active, supSf := 1 } (sv 1))).eas.next = some 4096 ∧
    beaconSlot (sv 1) 4096 = true ∧ sfIndex (sv 1) 0 + 1 < sfIndex (sv 1) 4096 ∧ ¬ sfIndex (sv 1) 0 + 1 < sfIndex (sv 1) 2048 ∧ supervised { st := .active } = true ∧
    supervised { st := .lost } = false ∧ (nodeRec (withRec { st := .desync, followup := some (4, 3), wakeTries := 2 } (sv 1)) 0).followup = some (4, 3) ∧ 4 + 3 + 2 ≤ (running (sv 1)).eas.asn ∧
    odNat (sv 1) 0x5001 4 < 250 + 1 ∧ 0 + 1 ≤ odNat (sv 1) 0x5001 4 ∧ (nodeRec (withRec { st := .lost, quarantine := true, qend := 10 } (running (sv 1))) 0).quarantine = true ∧ (nodeRec (withRec { st := .lost, quarantine := true, qend := 10 } (running (sv 1))) 0).qend = 10 ∧
    atSlot (running (sv 1)) 10 = true ∧ [({ node := 0, row := 0, sf := 0, slot := 0 } : JoinDir)].find? (fun j => j.node == 0) = some { node := 0, row := 0, sf := 0, slot := 0 } ∧
    0 + 4 < sfIndex (sv 1) 20480 ∧ [({ pan := 1, map := [], first := 4, eff := 10 } : MapChange)].find? (fun m => m.pan == 1) = some { pan := 1, map := [], first := 4, eff := 10 } := by and_intros <;> decide +kernel

/-- Array 0 holds a node entry of tag 2 in the first bucket of its key. -/
def entry0 : TEntry := { tag := 2, key := [0, 0, 0, 1] }

theorem test_wit_TablesRun : trellisRuns (sv 1) = true ∧ ([0, 0, 0, 1] : Octets).length = keyLen 2 ∧ (place (insertEntry entry0 {}).1 2 [0, 0, 0, 1]).isSome = true ∧
    place (sv 1).tre 5 [0, 1] = none ∧ tableLimit { (sv 1).chip with fabric := 0 } 5 ≤ tableCount (sv 1).tre 5 ∧ (sv 1).ctl.domains[4]? = some .on ∧
    (sv 1).tre.waiting = [] ∧ (sv 1).tre.scrubAt = (0, 0) ∧ 0 + 1 < 2 * arrayNb 0 ∧ (sv 1).tre.ring.any (fun n => n.1 == 0 && n.2.1 == 0) = false ∧
    [TableOp.remove 2 [0, 0, 0, 1]] ≠ [] ∧ deletable 2 [0, 0, 0, 1] (insertEntry entry0 {}).1 = true ∧ 3 ≤ ((3, 0) : Nat × Nat).1 ∧ 3 ≤ (scrubNext 2 (2 * arrayNb 2 - 1)).1 ∧
    [((0, 0, 7, 1) : Nat × Nat × Nat × Nat)].any (fun n => n.1 == 0 && n.2.1 == 0) = true := by and_intros <;> decide +kernel

/-- Both buckets of the entry's key are poisoned while it stands in the stash: the lookup still finds it. -/
theorem test_wit_poisonedLookup :
    let bad := [0x80000000 + 128 * bucketOf 0 2 [0, 0, 0, 1], 0x80000000 + 128 * bucketOf 1 2 [0, 0, 0, 1]]
    badIn (arrayOf 2) (bucketOf 0 2 [0, 0, 0, 1]) bad ≠ [] ∧ badIn (arrayOf 2) (bucketOf 1 2 [0, 0, 0, 1]) bad ≠ [] ∧
    (lookupPast (stashSet 0 0 entry0 {}) 2 [0, 0, 0, 1] bad).1 = some entry0 ∧ lookupPast (insertEntry entry0 {}).1 2 [0, 0, 0, 1] bad = (none, bad) := by
  and_intros <;> decide +kernel

def withEth (s : State) : State := { s with host := { s.host with eth := [(true, 2), (true, 2)] } }

def withQueue : State := { sv 1 with rid := { (sv 1).rid with ports := [{ cls := [[{ len := 64 }]], ctrl := [{ len := 100 }] }, {}] } }

theorem test_wit_SwitchAndShapersRun : ethUp (withEth (sv 1)) 0 = true ∧ ethUp (withEth (sv 1)) 1 = true ∧ trellisRuns (sv 1) = true ∧
    ({ dst := 1, src := 2, fcsOk := false } : EthFrame).fcsOk = false ∧ (egPort withQueue 0).ctrl = [{ len := 100 }] ∧
    gatesRun (withClk (fun c => { c with valid := true }) (odPut 0x6830 4 0 [1] (sv 1))) 0 = true ∧
    classQueue (odPut 0x6810 2 0 [0, 0, 3, 232, 0, 0, 5, 220] withQueue) 0 0 = [{ len := 64 }] ∧
    0 < odField (odPut 0x6810 2 0 [0, 0, 3, 232, 0, 0, 5, 220] withQueue) 0x6810 2 0 0 4 ∧
    shaperTokens (odPut 0x6810 2 0 [0, 0, 3, 232, 0, 0, 5, 220] withQueue) 0 0 < (64 + 20) * octetUnits ∧
    64 + 20 ≤ odField (odPut 0x6810 2 0 [0, 0, 3, 232, 0, 0, 5, 220] withQueue) 0x6810 2 0 4 4 ∧ (sv 1).ctl.domains[4]? = some .on := by
  and_intros <;> decide +kernel

theorem test_wit_MemoryWritesStoreTheirWord : inRange 0x20000000 0x4A000000 0x5000 = false ∧ inRange 0x20000000 0x4C000000 0x2C = false ∧
    inRange 0x20000000 0x4E000000 0xC0 = false ∧ mayWrite (sv 1) 2 0x20000000 4 = true ∧ mayWrite (sv 1) 2 0x60100000 4 = false ∧
    mayWrite (sv 1) 2 0x1FFFFFFE 4 = false ∧ (inRange 0x20000000 0x81000000 0x2000000 || inRange 0x20000000 0x20340000 0x40000 || inRange 0x20000000 0x2033C000 0x2000 ||
      trellisRange 0x20000000) = false ∧ Memory.wf (sv 1) = true := by decide +kernel

theorem test_wit_RegisterPagesKeepTheirMasters : inRange 0x4A000000 0x4A000000 0x5000 = true ∧ inRange 0x4A004FFC 0x4A000000 0x5000 = true ∧
    (0x4A004FFC - 0x4A000000) / 0x1000 = 4 ∧ inRange 0x4A005000 0x4A000000 0x5000 = false ∧ inRange 0x4E0000BC 0x4E000000 0xC0 = true ∧
    inRange 0x4E000060 0x4E000060 0x20 = true ∧ bit 8 3 = true ∧ inRange 0x4C000028 0x4C000004 0x28 = true ∧ cipherRuns (sv 1) = true ∧
    (sv 1).sec.cipher.owner = 0 := by decide +kernel

/-- Both pages out of reset, and the channel from Canvas to Shed with some credits and words. -/
def withChan (c : Chan) : State :=
  { sv 1 with host := { (sv 1).host with pages := List.replicate 5 { inReset := false }, chans := List.replicate 25 c } }

theorem test_wit_MailboxesRun : chanExists (sv 1) 2 4 = true ∧ chanExists (sv 1) 2 2 = false ∧ (page (withChan {}) 2).inReset = false ∧ (page (withChan {}) 4).inReset = false ∧
    (chan (withChan {}) 2 4).txAborted = false ∧ (chan (withChan {}) 2 4).peerReset = false ∧ 0 < (chan (withChan {}) 2 4).credits ∧
    (chan (withChan { credits := 0 }) 2 4).credits = 0 ∧ (chan (withChan { fifo := [(7, true)] }) 2 4).fifo = [(7, true)] ∧ (chan (withChan {}) 2 4).fifo = [] ∧
    pcieServer (withChan {}) < 5 ∧ chanExists (withChan {}) 0 (pcieServer (withChan {})) = true ∧ chanExists (withChan {}) 2 1 = true ∧
    (chan (withChan { fifo := [(7, true)], last := 3 }) 0 (pcieServer (withChan {}))).lastEnd = false := by
  and_intros <;> decide +kernel

def withCipher (c : Cipher) : State := { sv 1 with sec := { (sv 1).sec with cipher := c } }

/-- Shed runs a command over buffers of the system SRAM. -/
def busyCipher : Cipher :=
  { owner := 3, cmd := some (3, true, 2, false), key := some 0, regs := [0x20000000, 0x20000100, 16, 0x20000200, 0, 0x20000300, 0x20000400] }

/-- A network key that Canvas and Shed may use, loaded by Shed. -/
def withNetKey (c : Cipher) : State :=
  { withCipher c with
    chip := { (sv 1).chip with lcFuses := lcAt 2 }
    sec := { (sv 1).sec with cipher := c, slots := [(0, { held := true, type := 1, usage := 4, masters := 31 })] } }

theorem test_wit_CipherEngineRuns : (keyOf (withNetKey { owner := 3 }) 0).map (fun k => (usable k 2, bit k.masters (masterBit 3), decide (k.uses < 2 ^ k.hard))) = some (true, true, true) ∧
    keysAllowed (withNetKey { owner := 3 }) = true ∧ tamperHolds (withNetKey { owner := 3 }) = false ∧ cipherFormat 1 (withNetKey { owner := 3 }).sec.cipher.regs = false ∧
    (cipherInput (cipherReads 3 true 2 (withNetKey busyCipher)) (withNetKey busyCipher)).2 = none ∧ mayWrite (withNetKey busyCipher) (ownerMaster 3) 0x20000100 16 = true ∧ cipherRuns (sv 1) = true ∧ cipherOwner 4 ≠ 0 ∧ cipherOwner 0 = 0 ∧ (sv 1).sec.cipher.owner = 0 ∧
    (withCipher { owner := 3, cmd := some (3, true, 16, false), key := some 0 }).sec.cipher.owner = cipherOwner 4 ∧ (sv 1).sec.cipher.cmd = none ∧
    (withCipher { owner := 3, cmd := some (3, true, 16, false), key := some 0 }).sec.cipher.cmd = some (3, true, 16, false) ∧
    cipherRuns (withCipher { owner := 3, cmd := some (3, true, 16, false), key := some 0 }) = true := by and_intros <;> decide +kernel

def withPwr (f : Pwr → Pwr) (s : State) : State := { s with pwr := f s.pwr }

/-- Channel 0 armed for second 100 of the calendar. -/
def withAlarm (mode secs : Nat) : State := withPwr (fun p => { p with secs := secs, cd := [{ mode := mode, count := 50, target := 100 }, {}] }) (sv 1)

theorem test_wit_CalendarStepIsAppliedAtThePulse : (withPwr (fun p => { p with setDue := true, setSecs := 9 }) (sv 1)).pwr.setDue = true := rfl

theorem test_wit_CalendarStepNeverSkipsAnAlarm : (channelOf (withAlarm 2 50) 0).mode = 2 ∧ (withAlarm 2 50).pwr.secs < 100 ∧
    secsTo (withAlarm 2 50).pwr.secs (channelOf (withAlarm 2 50) 0).target ≤ 100 - 50 ∧ 99 - 50 < secsTo (withAlarm 2 50).pwr.secs (channelOf (withAlarm 2 50) 0).target ∧
    (channelOf (withAlarm 2 50) 0).target < 2 ^ 32 ∧ (channelOf (withAlarm 1 50) 0).mode ≠ 2 ∧ (channelOf (withAlarm 0 50) 1).mode ≠ 2 := by decide +kernel

theorem test_wit_TrimAddsItsPulses : (511 : Int).natAbs ≤ 511 ∧ (-511 : Int).natAbs ≤ 511 ∧ 0x200 % 1024 = 0x200 ∧ 0x1FF % 1024 ≠ 0x200 ∧
    (withPwr (fun p => { p with window := 2 ^ 20 - 1 }) (sv 1)).pwr.window + 1 = 2 ^ 20 ∧ (sv 1).pwr.setDue = false ∧ (sv 1).pwr.window + 1 ≠ 2 ^ 20 := by decide +kernel

theorem test_wit_OverwinterRegistersRun : owPowered (sv 1) = true ∧ owPowered (withPwr (fun p => { p with vbat := 1599 }) (sv 1)) = false ∧ owShadow (sv 1) 1 = none ∧
    owShadow (withPwr (fun p => { p with shadows := [none, some ⟨[1, 2, 3, 4], [true, false, false, false], 0⟩] }) (sv 1)) 1 = some ⟨[1, 2, 3, 4], [true, false, false, false], 0⟩ ∧
    (sv 1).clk.elapsed < 0 + msCycles ∧ (channelOf (withAlarm 2 50) 0).mode ≠ 0 ∧ 1 < (sv 1).pwr.cd.length := by decide +kernel

def withShd (f : Shd → Shd) (s : State) : State := { s with shd := f s.shd }

theorem test_wit_SupplyAndTamperEventsRun : State.reset.ctl.mode = .m0 ∧ (sv 1).ctl.mode ≠ .m0 ∧ inGap (takeSense nominal (sv 1)) = false ∧
    feedCfg (takeSense (700 :: nominal.drop 1) (sv 1)) 0 * railNominal 0 < ((senseOf (takeSense (700 :: nominal.drop 1) (sv 1)) 0 0 : Int) - senseOf (takeSense (700 :: nominal.drop 1) (sv 1)) 1 0).natAbs * 1000 ∧
    standbyUsable (takeSense (700 :: nominal.drop 1) (sv 1)) (standby (takeSense (700 :: nominal.drop 1) (sv 1))) = true ∧
    (withPwr (fun p => { p with gapEnd := some 5, gapAuto := some (0, 5, -100) }) (sv 1)).pwr.gapEnd.isSome = true ∧ stbyOk (sv 1) 5 1700 = false ∧ (sv 1).pwr.stbyOut = false ∧
    (withPwr (fun p => { p with onVbat := false }) (sv 1)).pwr.onVbat = false ∧ 2199 < 2200 ∧ (sv 1).pwr.vbatLogged = none ∧ (sv 1).pwr.trimRef = none ∧
    (withPwr (fun p => { p with trimRef := some (0, 0) }) (readyForService (sv 1))).pwr.trimRef = some (0, 0) ∧ (readyForService (sv 1)).clk.state = .locked ∧ (readyForService (sv 1)).clk.valid = true ∧
    (owError (advanceElapsed (600 * secCycles) (withClk (fun c => { c with elapsed := 600 * secCycles }) (sv 1)))).natAbs * 10 ≤ 32768 ∧
    armed (tamperOf (withPwr (fun p => { p with tamper := [{}, { cfg := 32 }] }) (sv 1)) 1) = true ∧ owPowered (sv 1) = true := by
  and_intros <;> decide +kernel

def due (step cause : Nat) : DueStep := { step := step, fn := 3, inst := 0, cause := cause, at_ := 5 }

theorem test_wit_BootsAndResetsRun : (withShd (fun d => { d with booting := some 6 }) (sv 1 .m1)).shd.booting = some 6 ∧ (sv 1 .m1).ctl.mode = .m1 ∧ (due 3 1).step = 3 ∧
    2 ≤ (sv 1 .m2).ctl.mode.code ∧ ¬ 2 ≤ (sv 1 .m1).ctl.mode.code ∧ ({ fn := 3, inst := 0, slot := none, at_ := 0 } : Warm).easel = false ∧
    ({ fn := 3, inst := 0, slot := none, at_ := 0, easel := true } : Warm).easel = true ∧ (sv 1 .m2).ctl.mode = .m2 ∧ (sv 1 .m5).ctl.mode ≠ .m2 ∧ (due 4 1).step = 4 ∧ (due 3 6).cause = 6 ∧
    (withShd (fun d => { d with cycleUntil := some 7, cycleFor := some (0, 0, 3) }) (sv 1)).shd.cycleFor = some (0, 0, 3) ∧ (sv 1).shd.cycleUntil = none ∧
    tjMaxQ (sv 1) + 2560 ≤ 40000 ∧ ¬ tjMaxQ (sv 1) + 2560 ≤ tjMaxQ (sv 1) + 2559 ∧
    aligned (withClk (fun c => { c with state := .holdover, valid := true }) (sv 1)) = true := by and_intros <;> decide +kernel

theorem test_wit_FaultsClimbTheLadder : domainOn (sv 1) 4 = true ∧ domainOn (sv 1) 2 = true ∧ domainOn (sv 1) 3 = true ∧ domainOn (sv 1) 5 = true ∧ domainOn (sv 1) 12 = false ∧
    (running (sv 1)).eas.next.isSome = true ∧ faultTaken (running (sv 1)) fnEasel 0 = true ∧ hasL1 fnEasel = false ∧ faultTaken (sv 1) fnTrellis 0 = true ∧
    hasL1 fnTrellis = true ∧ 0 < recCfg (sv 1) fnTrellis 0 1 ∧ (withCipher { cmd := some (0, false, 0, false) }).sec.cipher.cmd.isSome = true ∧ (withEas (fun e => { e with overruns := 4 }) (sv 1)).eas.overruns = 4 ∧
    (withShd (fun d => { d with l1 := [(2, 1, 3, 9)] }) (sv 1)).shd.l1.find? (fun x => x.1 == 2 && x.2.1 == 1) = some (2, 1, 3, 9) ∧ 1 < 3 ∧
    (withShd (fun d => { d with l2 := [(4, 0, 9)] }) (sv 1)).shd.l2.find? (fun x => x.1 == 4 && x.2.1 == 0) = some (4, 0, 9) ∧ (List.replicate 8 (0 : Int)).length = 8 ∧
    dogExpiries (sv 1) < 2 ∧ (withShd (fun d => { d with bootRom := false }) (sv 1)).shd.bootRom = false ∧ (sv 1).shd.cycleUntil = none ∧
    (withImage (sv 1)).fw.running = some 0 ∧ trapsOf (sv 1) 63 < 2 ∧ (running (sv 1)).eas.running = true := by and_intros <;> decide +kernel

theorem test_wit_HostLinksRun : 1 < (sv 1).host.eth.length ∧ ((sv 1).host.eth[1]?).map (·.1) = some false ∧ odNat (sv 1) 0xA100 1 1 ≠ 3 ∧ (sv 1).ctl.domains[6]? = some .on ∧
    (sv 1).chip.fPackage = true ∧ (sv 1 .m1).shd.booting = none ∧ (sv 1 .m1).shd.thermalHold = false ∧ (sv 1 .m1).shd.feedHold = false ∧ (sv 1 .m1).shd.cycleUntil = none ∧
    odField (odPut 0xA400 1 7 [0, 0, 1, 0] (sv 1)) 0xA400 1 7 2 1 = (if true then 1 else 2) ∧ odField (odPut 0xA400 1 7 [0, 0, 2, 0] (sv 1)) 0xA400 1 7 2 1 = (if false then 1 else 2) ∧
    4 < (sv 1).host.pages.length := by and_intros <;> decide +kernel

def gReq (caller : Nat) : GessoReq := { caller := caller, outCap := 64 }

theorem test_wit_GessoServesItsCallers : gessoUp (withChan {}) = true ∧ (gReq 3).caller ≠ 2 ∧ (gReq 3).caller ≠ 4 ∧ (gReq 2).caller ≠ 3 ∧ bufferOk 0 0 = true ∧
    bufferOk 0x3FFFC0 64 = true ∧ bufferOk 0x3FFFC1 64 = false ∧ (keyOp (gReq 2) true (memRead (withChan {}) 0x20000000 0) (withChan {})).2.2.length ≤ 64 ∧
    (laneBind 0 0 (withChan {})).2.2.length ≤ 64 ∧ (bootRec (withRecord { pending := some 1, trial := true } (sv 1))).pending = some 1 ∧
    trialRuns (withRecord { pending := some 1, trial := true } (sv 1)) = true ∧ odNat (odPut 0x8810 3 0 [1] (sv 1)) 0x8810 3 = 1 ∧ 3 ≤ (sv 1).ctl.mode.code := by
  and_intros <;> decide +kernel

def withLc (n : Nat) (m : Mode) : State := { sv 1 m with chip := { (sv 1).chip with lcFuses := lcAt n } }

/-- A key that every master may use for every purpose, in slot 0. -/
def withAnyKey (s : State) : State :=
  { s with chip := { s.chip with lcFuses := lcAt 2 }, sec := { s.sec with slots := [(0, { held := true, type := 1, usage := 255, masters := 31 })] } }

/-- An import wrapped under the bootstrap key of life cycle 1. -/
def bootBlob : Octets :=
  [1, 1, 0xFF, 0xFF] ++ padTo 8 (sv 1).chip.serial ++ [1, 16, 0, 0] ++ zeros 4 ++ [0, 0, 0, 1] ++ zeros 4 ++ [0xFF, 0xFF, 0xFF, 0xFF] ++ [30, 31] ++ zeros (30 + keyValueLen 1)

theorem test_wit_GessoServicesAccept : keyOpFault 2 0 (withAnyKey (sv 1)) = 0 ∧ fieldNat ([1, 7] : Octets) 0 1 = 1 ∧ useFault (withAnyKey (sv 1)) 0 0 = 0 ∧
    (keyOf (withAnyKey (sv 1)) 0).isSome = true ∧ importFault false 0 (2 ^ 3) bootBlob true (withLc 1 .m3) = none ∧ 65536 ≤ wrapId bootBlob ∧
    keysAllowed (withLc 2 .m5) = true ∧ firstFailure (lcChecks 8 [2, 0, 0, 0] true (withLc 1 .m3)) = none ∧ fwActivateFault 1 (withImage (sv 1)) = 0 ∧
    fwConfirmFault 1 (withRecord { pending := some 1, trial := true } (sv 1)) = 0 ∧ fwConfirmFault 0 (withRecord { pending := some 1, trial := true } (sv 1)) = 0 := by
  and_intros <;> decide +kernel

def withGla (f : Gla → Gla) (s : State) : State := { s with gla := f s.gla }

def glazeRec : GlazeRec := { owner := 7, asn := 9, entry := 0, nbits := 2, blocks := [(0, [5, -5])] }

/-- A unit whose slots run, with an active partner at 7, a request, a decision and two records to combine. -/
def withGlaze : State := withGla (fun g => { g with
  active := [(7, 0)], reqs := [{ partner := 7, asn := 9, seq := 1, entries := [0], awaited := [0] }]
  decs := [{ asn := 9, node := 0, row := 0, entries := [(0, 0)], records := [glazeRec, glazeRec], ready := true }]
  coming := [{ peer := 7, sf := 3, got := [0] }], recs := [glazeRec] }) (running (sv 1))

theorem test_wit_GlazeRuns : withGlaze.eas.running = true ∧ offersRx withGlaze (firstBoundaryAt withGlaze (nowNs withGlaze + 2000000000)) = true ∧
    withGlaze.gla.active.any (fun x => x.1 == 7) = true ∧ 0 < 1 ∧ nowNs withGlaze + 500000000 ≤ sfStart 3 ∧ withGlaze.gla.adopted.find? (fun l => l.peer == 7) = none ∧
    (advanceNs ((sfStart 3 : Int) - 500000000).toNat withGlaze).gla.coming.find? (fun l => l.peer == 7 && l.sf == 3) = some { peer := 7, sf := 3, got := [0] } ∧
    nowNs withGlaze ≤ startNs withGlaze 9 + 1000000 ∧ withGlaze.eas.asn = 8 + 1 ∧ withGlaze.gla.decs.any (fun d => d.asn == 8) = false ∧
    (withGlaze.gla.reqs.find? (fun r => r.partner == 7 && r.seq == 1)).isSome = true ∧ withGlaze.gla.decs.any (fun d => d.asn == 9) = true ∧
    (decOf withGlaze 9 0).map (·.ready) = some true ∧ 2 ≤ (usableRecords withGlaze [glazeRec, glazeRec]).length ∧
    combine (usableRecords withGlaze [glazeRec, glazeRec]) ≠ [] ∧ withGlaze.gla.recs.any (fun r => r.owner == 7 && r.asn == 9) = true := by
  rw [advanceNs_gla]
  and_intros <;> decide +kernel

def env : Env := { src := 7, unit := beOct 8 7, seq := 1 }

/-- A unit at home address 5 whose Hedgerow runs under the key of handle 0, holding region 5 at epoch 2. -/
def withHr (m : Mode := .m5) (f : Hed → Hed := id) : State :=
  odPut 0x7000 6 0 (beOct 2 0) { sv 1 m with
    chip := { (sv 1).chip with lcFuses := lcAt 2 }
    sec := { (sv 1).sec with slots := [(0, { held := true, usage := 8, masters := 31 })] }
    hed := f { (sv 1).hed with st := 2, home := 5, held := [(5, 2)], known := [(5, 2)] } }

theorem test_wit_HedgerowMessagesAreChecked : (envCheck 0x01 env withHr).2 = .accepted ∧ (envCheck 0x01 { env with tagOk := false } withHr).2 = .refused ∧
    (envCheck 0x12 { env with region := 5, epoch := 1 } withHr).2 = .stale ∧ (envCheck 0x12 { env with region := 5, epoch := 2 } withHr).2 = .accepted ∧
    env.unit ≠ withHr.chip.serial ∧ lsaNewer { origin := 7, serial := beOct 8 7, seq := 1 } (envCheck 0x02 env withHr).1 = true ∧
    (envCheck 0x03 env withHr).1.hed.held.find? (fun h => h.1 == 5) = some (5, 2) ∧ (envCheck 0x03 env withHr).1.hed.listenUntil = none ∧
    holderWins 3 false env.unit 2 true withHr.chip.serial = true ∧ holderWins 2 false env.unit 2 true withHr.chip.serial = false ∧
    holdsRegion (envCheck 0x10 env withHr).1 5 = true ∧ hrEpoch (envCheck 0x10 env withHr).1 5 ≤ 2 ∧ (envCheck 0x11 env withHr).1.hed.incoming = none := by
  and_intros <;> decide +kernel

/-- The same for the messages of a move: a claimant, a mirroring spare, a holder with a spare, and a replacement handed to. -/
theorem test_wit_HedgerowMessagesOfAMove :
    (envCheck 0x04 env (withHr .m5 (fun h => { h with claim := some (5, 1) }))).1.hed.claim.map (·.1) = some 5 ∧
    mirrorsRegion (envCheck 0x20 { env with region := 8 } (withHr .m9 (fun h => { h with mirroring := [8] }))).1 8 = true ∧
    (mirrorOf (envCheck 0x21 { env with region := 8 } (withHr .m9 (fun h => { h with mirroring := [8], mirrors := [{ region := 8, holder := 7, snapshot := some [1] }] }))).1 8).isSome = true ∧
    (envCheck 0x22 env (withHr .m5 (fun h => { h with spare := some 7 }))).1.hed.spare = some env.src ∧
    5 = (servedRegion (envCheck 0x22 env (withHr .m5 (fun h => { h with spare := some 7 }))).1).1 ∧
    (envCheck 0x13 env (withHr .m9 (fun h => { h with st := 3, mirrors := [{ region := 5, holder := 7, snapshot := some [1] }] }))).2 = .accepted ∧
    (mirrorOf (envCheck 0x13 env (withHr .m9 (fun h => { h with st := 3, mirrors := [{ region := 5, holder := 7, snapshot := some [1] }] }))).1 5).map (·.snapshot) = some (some [1]) ∧
    (envCheck 0x50 env withHr).2 = .accepted ∧ (envCheck 0x51 env withHr).2 = .accepted := by and_intros <;> decide +kernel

theorem test_wit_HedgerowTimersRun : hrRuns withHr = true ∧ withHr.hed.home ≠ 0xFFFF ∧ (hrAdjOf (withHr .m5 (fun h => { h with adj := [{ addr := 7 }] })) 7).map (·.suspect) = some false ∧
    odNat withHr 0x7001 4 ≠ 0 ∧ withHr.hed.isolated = false ∧ (withHr .m5 (fun h => { h with claim := some (5, 3) })).hed.claim = some (5, 3) ∧
    (List.range 4096).find? (fun a => !([0, 1] : List Nat).contains a) = some 2 ∧ ({ kind := 2, region := 8, epoch := 1, eff := 9, mode := 5, adopted := true } : Incoming).adopted = true ∧
    atSlot withHr 4 = true ∧ (withHr .m5 (fun h => { h with handing := some { target := 7, eff := some 20 } })).hed.handing = some { target := 7, eff := some 20 } ∧
    (running withHr).eas.running = true ∧ withHr.ctl.mode.emits = true ∧ [((3, 4) : Nat × Nat)].find? (fun w => w.1 == 3) = some (3, 4) := by
  and_intros <;> decide +kernel

/-! ### One step each, with the value a rule of the spec gives -/

/-- The state after one step that takes the command from the front of the queue. -/
def after (c : Instr) (s : State) : State :=
  match step { s with pending := [c] } with
  | .next t => t
  | _ => s

/-- R309: the check value over "123456789". -/
theorem test_crc16_check_value : crc16 [0x31, 0x32, 0x33, 0x34, 0x35, 0x36, 0x37, 0x38, 0x39] = 0x29B1 := by decide +kernel

/-- R309: a bucket's digest is over 128 octets. -/
theorem test_wit_BucketDigestIsCrc16 : (slotGet (sv 1).tre 0 0 3).key.length ≤ 16 ∧ (entryOctets entry0).length = 32 := by decide +kernel

theorem test_step_takes_the_front_command : step { sv 1 with pending := [.pcieReset, .helloTimer] } = exec .pcieReset { sv 1 with pending := [.helloTimer] } := rfl

/-- R442, R443: a channel holds 8 words, and a push spends one of its 8 credits. -/
theorem test_push_spends_a_credit : (chan (after (.mailboxPush 2 4 false 7) (withChan {})) 2 4).credits = 7 ∧
    (chan (after (.mailboxPush 2 4 false 7) (withChan {})) 2 4).fifo.length = 1 ∧ (chan (after (.mailboxPush 2 4 false 7) (withChan { credits := 0 })) 2 4).overrun = true := by
  decide +kernel

theorem test_pop_returns_a_credit : (chan (after (.mailboxPop 4 2) (withChan { fifo := [(7, true)], credits := 7 })) 2 4).credits = 8 ∧
    (chan (after (.mailboxPop 4 2) (withChan {})) 2 4).underrun = true := by decide +kernel

/-- The order of octets that log entry 26 chooses. -/
theorem test_memory_is_little_endian : memRead (after (.registerWriteGeneric 2 0x20000010 0x11223344) (sv 1)) 0x20000010 4 = [0x44, 0x33, 0x22, 0x11] := by decide +kernel

/-- R26: an access outside every region is a bus error and stores nothing. -/
theorem test_bus_error_stores_nothing : (after (.registerWriteGeneric 2 0x60100000 5) (sv 1)).mem = [] ∧
    .busError 2 0x60100000 ∈ (after (.registerWriteGeneric 2 0x60100000 5) (sv 1)).out := by decide +kernel

/-- R40: the return of the main supply leads from M0 to M1. -/
theorem test_main_supply_enters_M1 : (after .mainSupplyValid State.reset).ctl.mode = .m1 := by decide +kernel

/-- Table 19-4: 0x200 is refused and leaves TRIM's value; the field is two's complement. -/
theorem test_trim_refuses_0x200 : (after (.owTrimWrite 4 0x200) (sv 1)).pwr.trimNext = 0 ∧ (after (.owTrimWrite 4 0x3FF) (sv 1)).pwr.trimNext = -1 := by decide +kernel

/-- R477: a step that passes the target fires the channel with STEP set. -/
theorem test_calendar_step_fires_the_alarm : (channelOf (owStep 101 0 (withAlarm 2 50)) 0).fired = true ∧ (channelOf (owStep 101 0 (withAlarm 2 50)) 0).step = true ∧
    (channelOf (owStep 99 0 (withAlarm 2 50)) 0).fired = false := by decide +kernel

/-- R293, R294: an inserted entry is found. -/
theorem test_inserted_entry_is_found : lookup (after (.tableInsert 2 0 77 0 [0, 0, 0, 1]) (sv 1)).tre 2 [0, 0, 0, 1] ≠ none := by decide +kernel

/-- R102: a message of another domain is discarded and counted. -/
theorem test_ptp_domain_is_checked : (after (.sync { port := 0, domain := 99 }) (sv 1)).clk.ptpDiscarded = 1 := by decide +kernel

/-- R378: the lock word is 0x8000_0000 with the owner's code. -/
theorem test_cipher_lock_names_its_owner : (after (.cipherLockRead 1) (sv 1)).out = [.word 1 0x80000001] ∧ (after (.cipherLockRead 1) (sv 1)).sec.cipher.owner = 1 := by decide +kernel

/-- Tables 18-5 to 18-7 and 19-5: reset values of the status registers. -/
theorem test_status_registers_at_reset : regRead (sv 1) 2 (0x4A002000 + 0x100 + 0x10) = some 8 ∧ regRead (sv 1) 2 (0x4A002000 + 0x200 + 0x100 + 0x08) = some 0x800 ∧
    regRead (sv 1) 2 (0x4A002000 + 0x200 + 0x100 + 0x10) = some 1 ∧ regRead (sv 1) 4 0x4A002400 = none ∧ regRead (sv 1) 2 0x4A002410 = some 2 := by decide +kernel

/-- Tables 18-3 and 19-4. -/
theorem test_status_registers_show_the_state : hostStatus (sv 1 .m2) = 0x202 ∧ hostStatus (sv 1) = 0x501 ∧ owStatus (sv 1) = 0x10 ∧
    owRead (after (.countdownArm 4 0 (2 ^ 31 + 50)) (sv 1)) 0x24 = 2 ^ 31 + 50 ∧ owRead (after (.owTrimWrite 4 0x3FF) (sv 1)) 0x1C = 0x3FF := by decide +kernel

/-- The unit and the node of Table 12-8: context 0 of PAN 0 is 2001:db8:7a00::/64, the node's short address 0x3A17. -/
def contextUnit : State := odPut 0x6430 1 0 ([1, 64] ++ beOct 16 0x20010DB87A0000000000000000000000) (sv 1)

def exampleNode : NodeRec := { st := .active, pan := 0, short := 0x3A17 }

def headEnd : Nat := 0x20010DB8004C00000000000000000010

def nodeAddr : Nat := 0x20010DB87A000000000000FFFE003A17

/-- Table 12-8: the packet compresses to 65 octets, the IPHC octets 0x7E and 0x07 first. -/
theorem test_compress_worked_example :
    let o := compress contextUnit exampleNode { src := headEnd, dst := nodeAddr, nextHeader := 17, srcPort := 5683, dstPort := 5683, payload := zeros 40 }
    o.length = 65 ∧ o.take 2 = [0x7E, 0x07] ∧ o.drop 18 = [0xF0, 0x16, 0x33, 0x16, 0x33, 0, 0] ++ zeros 40 := by decide +kernel

/-- R304, Table 12-6: the same exchange upward, the source elided under context 0. -/
theorem test_decompress_elided_source : decompress contextUnit exampleNode ([0x7E, 0x70] ++ beOct 16 headEnd ++ [0xF0, 0x16, 0x33, 0x16, 0x33, 0, 7, 9]) =
    .packet { src := nodeAddr, dst := headEnd, nextHeader := 17, hopLimit := 64, srcPort := 5683, dstPort := 5683, checksum := 7, payload := [9] } := by decide +kernel

/-! ### Further forms of the statements: a witness for each clause -/

/-- R440: speeds, an empty record whose FCS is zero and one that fails it, and a capture of a register read before. -/
theorem test_wit_UartAndLinks : linkSpeed 0 100 = some 100 ∧ linkSpeed 0 2500 = none ∧ linkSpeed 3 100 = none ∧ uartUnstuff [0x7E, 0x7D, 0x5E, 0x7E] = [0x7E] ∧
    fcs16 [] = 0 ∧ uartUnstuff [0x7E, 0, 0, 0x7E] = [0, 0] ∧ uartUnstuff [0x7E, 1, 0, 0x7E] = [1, 0] ∧
    [(captureKey 3 8, 5)].find? (fun p => p.1 == captureKey 3 8) = some (captureKey 3 8, 5) := by
  and_intros <;> decide +kernel

theorem padTo_length (n : Nat) (o : Octets) : (padTo n o).length = n := by
  unfold padTo zeros
  rw [List.length_take, List.length_append, List.length_replicate]
  omega

theorem pageEntry_length (n : Nat) (o : Octets) : (pageEntry n o).length = 16 := by
  unfold pageEntry shake
  rw [List.length_take, padTo_length]
  rfl

/-- Bank 0 runs, and the table of part 2 holds the entry of its page 0. -/
def withPage : State :=
  let s := withImage (sv 1)
  { s with fw := { s.fw with tables := [(2, pageEntry 0 (bankOctets s 0 0 0))] } }

theorem test_wit_DomainsAndPages : (900 < (domainWindow 2).1 ∨ (domainWindow 2).2 < 900) ∧ domainOn (sv 1) 2 = true ∧
    pageGood (withImage (sv 1)) 0 2 0 = false ∧ pageGood withPage 0 2 0 = true ∧ withPage.fw.running = some 0 := by
  refine ⟨.inr (by decide), by decide +kernel, ?_, ?_, rfl⟩
  · rw [Bool.eq_false_iff]
    intro h
    have := congrArg List.length (eq_of_beq h)
    rw [pageEntry_length] at this
    revert this
    decide +kernel
  · show (pageEntry 0 (bankOctets withPage 0 _ _) == ((pageEntry 0 (bankOctets (withImage (sv 1)) 0 0 0)).drop 0).take 16) = true
    have h1 : partField (manifest withPage 0) 2 8 4 = 0 := by decide +kernel
    have h2 : partField (manifest withPage 0) 2 12 4 = 0 := by decide +kernel
    rw [h1, h2, List.drop_zero, List.take_of_length_le (Nat.le_of_eq (pageEntry_length _ _))]
    exact beq_self_eq_true _

/-- The octets that a caller left in the system SRAM. -/
def withInput (i : Octets) (s : State) : State := memWrite 0x20000000 i s

def served (i : Octets) : State := withInput i (withAnyKey (withChan {}))

def gIn (caller n cap : Nat) : GessoReq := { caller := caller, inLen := n, outOff := 0x1000, outCap := cap }

theorem identitySign_length (pre : String) (o : Octets) (s : State) : (identitySign pre o s).length = 1280 := by
  unfold identitySign
  split
  · exact padTo_length _ _
  · exact List.length_replicate

/-- The blob of `bootBlob` as a caller of KEY_PROVISION gives it, and the state of life cycle 1 that takes it. -/
def provisioned : State := withInput (3 :: bootBlob) { withLc 1 .m3 with host := (withChan {}).host }

/-- A step of the life cycle from FACTORY to FIELD. -/
def lcAsked : State := withInput [2, 0, 0, 0] { withLc 1 .m3 with host := (withChan {}).host }

theorem test_wit_CompletionOfServices : gessoUp (served [1, 7]) = true ∧ bufferOk 0 2 = true ∧ bufferOk 0x1000 0x1000 = true ∧
    memRead (served [1, 7]) 0x20000000 2 = [1, 7] ∧ keyOpFault 2 0 (served [1, 7]) = 0 ∧
    (padTo (([1, 7] : Octets).drop 1 |>.length.add 16) (Config.crypto "AES-GCM seal" 0 [keyValue (served [1, 7]) 0, [7]])).length ≤ 64 ∧
    gessoUp provisioned = true ∧ memRead provisioned 0x20000000 (3 :: bootBlob).length = 3 :: bootBlob ∧
    importFault false 0 (2 ^ 3) bootBlob true provisioned = none ∧ keysAllowed (served []) = true ∧ (identitySign "FL96-APP" [] (served [])).length ≤ 1280 ∧
    hasRoot (served []) = true ∧ gessoUp lcAsked = true ∧ firstFailure (lcChecks 8 (memRead lcAsked 0x20000000 4) true lcAsked) = none ∧
    fwActivateFault 1 (withImage (served [])) = 0 ∧ (3 : Nat) ≠ 0xFFFF ∧ useFault (served []) 0 0 = 0 ∧ (keyOf (served []) 0).isSome = true := by
  refine ⟨?_, ?_, ?_, ?_, ?_, Nat.le_trans (Nat.le_of_eq (padTo_length _ _)) (by decide), ?_, ?_, ?_, ?_, Nat.le_of_eq (identitySign_length _ _ _), ?_⟩
  all_goals and_intros <;> decide +kernel

theorem attestBody_length (c : Octets) (s : State) (h1 : s.chip.variantCode.length ≤ 64) : (attestBody c s).length ≤ 0x1000 := by
  have hs : ∀ o : Octets, (shake o).length = 32 := fun o => padTo_length _ _
  unfold attestBody
  simp only [List.length_append, beOct_length, padTo_length, zeros, List.length_replicate, partTypes, List.flatMap_cons, List.flatMap_nil, List.length_nil]
  split <;> simp only [hs, List.length_replicate] <;> omega

/-- The report that ATTEST forms fits a buffer of 8 KiB. -/
theorem test_wit_AttestFits : (formReport [] (served [])).fw.report.length ≤ 0x2000 := by
  show (attestBody [] (served []) ++ identitySign "FL96-ATTEST" (attestBody [] (served [])) (served [])).length ≤ 0x2000
  have h := identitySign_length "FL96-ATTEST" (attestBody [] (served [])) (served [])
  have := attestBody_length [] (served []) (by decide +kernel)
  rw [List.length_append, h]
  exact Nat.le_trans (Nat.add_le_add_right this _) (by decide)

/-- A record of 200 bits from each of two partners, and a frame of a correct CRC-32 over no octets. -/
def longRec : GlazeRec := { glazeRec with nbits := 200 }

theorem test_wit_GlazeDecides : recoverable withGlaze { asn := 9, node := 0, row := 0, entries := [], records := [longRec, longRec] } (combine [longRec, longRec]).length
      { psdu := [0, 0, 0, 0] } = true ∧ 2 ≤ (usableRecords withGlaze [longRec, longRec]).length ∧
    recoverable withGlaze { asn := 9, node := 0, row := 0, entries := [], records := [glazeRec, glazeRec] } (combine [glazeRec, glazeRec]).length { psdu := [0, 0, 0, 0] } = false ∧
    (ownerStart withGlaze 7 10).isNone = true ∧ (ownerStart (withGla (fun g => { g with epochs := [(7, {})] }) (sv 1)) 7 10).isSome = true ∧
    ({ peer := 7, sf := 3, parts := 2, got := [0] } : ListenList).got.length ≠ 2 := by and_intros <;> decide +kernel

/-- Holder 5 hands its region to 7, which is no spare of it. -/
def handingHr (h : Handing) : State := withHr .m5 (fun x => { x with handing := some h })

theorem test_wit_HandoverIsAcknowledged : (envCheck 0x22 env (handingHr { target := 7 })).2 = .accepted ∧
    5 = (servedRegion (envCheck 0x22 env (handingHr { target := 7 })).1).1 ∧ (envCheck 0x22 env (handingHr { target := 7 })).1.hed.spare ≠ some env.src ∧
    (envCheck 0x22 env (handingHr { target := 7 })).1.hed.handing = some { target := 7 } ∧ env.src = 7 ∧
    (envCheck 0x22 env (handingHr { target := 7 })).1.ctl.mode.working = true ∧ (envCheck 0x22 env (handingHr { target := 7 })).1.ctl.change = none ∧ stOk ≠ stInvalidState ∧
    atSlot (handingHr { target := 7, eff := some 20 }) (20 - handSlots (handingHr { target := 7, eff := some 20 })) = true ∧
    atSlot (handingHr { target := 7, eff := some 20, quiesced := true }) 16 = true ∧ (handingHr { target := 7, eff := some 20 }).hed.incoming = none ∧
    (advanceToSlot 16 (handingHr { target := 7, eff := some 20 })).hed.adj = [] := by
  rw [show ∀ s : State, (advanceToSlot 16 s).hed = s.hed from fun s => advanceNs_hed _ _]
  and_intros <;> decide +kernel

theorem test_wit_CommandsRunToCompletion : (withEas (fun e => { e with trapped := true }) (sv 1 .m4)).ctl.mode = .m4 ∧ (sv 1 .m4).eas.asn = 0 ∧
    ({ (sv 1).pal with capState := 1 } : Pal).capState = 1 ∧ (calItem withItem 1 0).running = true ∧ plausible 1 0 {} = true ∧ dpdInUse (withDpd 16) 0 < 8 ∧
    ((withHr .m5 (fun h => { h with lsdb := [{ origin := 7, serial := beOct 8 7, seq := 1 }] })).hed.lsdb.find? (fun l => l.origin == 7)).isSome = true ∧
    (withHr .m9 (fun h => { h with incoming := some { kind := 1, region := 8, epoch := 1, eff := 9, mode := 5 } })).eas.running = false ∧
    (running (withHr .m5 (fun h => { h with spare := some 7 }))).hed.spare.isSome = true ∧ (running (withHr .m5 (fun h => { h with spare := some 7 }))).hed.incoming = none ∧
    (sv 1).tre.waiting = [] ∧ (sv 1).tre.bad = [] ∧ (sv 1).tre.scrubAt = (0, 0) ∧ (sv 1).tre.ring = [] ∧ (scrubNext 0 0).1 ≠ 3 ∧ (sv 1).ctl.mode.working = true ∧
    ethUp (withEth (sv 1)) 0 = true ∧ (withEth (sv 1)).ctl.mode.working = true ∧ (withPort { portState := 6 }).ctl.mode.working = true := by and_intros <;> decide +kernel

theorem test_wit_ClocksErrorOver100ms : 32768 < (owError (withClk (fun c => { c with now := 5 * 1000000000 * nsUnit }) (sv 1))).natAbs * 10 := by decide +kernel

end Sys2Proof.Tests
end

section
/-!
PROOFS. What a write at an address of memory stores, octet by octet, and what a refused one leaves (R25 to R27).
-/

namespace Sys2Proof.Machine

/-! ### A word written at an address of memory -/

theorem exec_registerWriteGeneric (master addr value : Nat) (s : State) :
    exec (.registerWriteGeneric master addr value) s = .next (conclude s (busWrite master addr value s)) := rfl

/-- A write outside the register pages is a store of the word's octets. -/
theorem busWrite_of_memory {addr : Nat} (h1 : inRange addr 0x4A000000 0x5000 = false) (h2 : inRange addr 0x4C000000 0x2C = false)
    (h3 : inRange addr 0x4E000000 0xC0 = false) (master value : Nat) (s : State) :
    busWrite master addr value s = busStore master addr (wordOctets value) s := by
  simp [busWrite, h1, h2, h3]

/-- The octets of a word, least significant first; each takes the low eight bits of its quotient. -/
theorem wordOctets_eq (v : Nat) :
    wordOctets v = [BitVec.ofNat 8 v, BitVec.ofNat 8 (v / 2 ^ 8), BitVec.ofNat 8 (v / 2 ^ 16), BitVec.ofNat 8 (v / 2 ^ 24)] := by
  simp only [wordOctets, beOct, List.reverse_cons, List.reverse_nil, List.nil_append, List.cons_append,
    List.cons.injEq, and_true]
  and_intros <;> apply BitVec.eq_of_toNat_eq <;> simp only [BitVec.toNat_ofNat] <;> omega

theorem wordOctets_length (v : Nat) : (wordOctets v).length = 4 := by rw [wordOctets_eq]; rfl

/-- Each octet of a word as a number. -/
theorem wordOctets_getElem_toNat (v i : Nat) (hi : i < (wordOctets v).length) :
    ((wordOctets v)[i]).toNat = v / 2 ^ (8 * i) % 256 := by
  have h4 : i < 4 := wordOctets_length v ▸ hi
  simp only [wordOctets_eq]
  match i, h4 with
  | 0, _ => simp
  | 1, _ | 2, _ | 3, _ => rfl

/-- A word stored by a master that may write it goes octet by octet, from its address up. -/
theorem busStore_word_of_mayWrite {s : State} {master addr : Nat} (h : mayWrite s master addr 4 = true) (v : Nat) :
    busStore master addr (wordOctets v) s =
      storeSet (addr + 3) (BitVec.ofNat 8 (v / 2 ^ 24)) (storeSet (addr + 2) (BitVec.ofNat 8 (v / 2 ^ 16))
        (storeSet (addr + 1) (BitVec.ofNat 8 (v / 2 ^ 8)) (storeSet addr (BitVec.ofNat 8 v) s))) := by
  simp [busStore, h, wordOctets_eq, List.zipIdx]

/-- A store that R26 refuses is a bus error. -/
theorem busStore_word_of_not_mayWrite {s : State} {master addr : Nat} (h : mayWrite s master addr 4 = false) (v : Nat) :
    busStore master addr (wordOctets v) s = accessViolation master addr s := by
  simp [busStore, wordOctets_length, h]

/-- Whether an address shows a node record or one of Trellis's ranges, and not memory of its own. -/
def viewed (a : Nat) : Bool :=
  inRange a 0x81000000 0x2000000 || inRange a 0x20340000 0x40000 || inRange a 0x2033C000 0x2000 || trellisRange a

theorem storeSet_of_not_viewed {a : Nat} (h : viewed a = false) (b : Byte) (s : State) : storeSet a b s = memSet a b s := by
  simp only [viewed, Bool.or_eq_false_iff] at h
  obtain ⟨⟨⟨hnode, hshadow⟩, hshadow'⟩, htrellis⟩ := h
  simp [storeSet, hnode, hshadow, hshadow', htrellis]

/-- In memory that is no view the word's octets are written one after another. -/
theorem busStore_word_of_not_viewed {s : State} {master addr : Nat} (h : mayWrite s master addr 4 = true)
    (hv : ∀ i, i < 4 → viewed (addr + i) = false) (v : Nat) :
    busStore master addr (wordOctets v) s = memWrite addr (wordOctets v) s := by
  rw [busStore_word_of_mayWrite h, wordOctets_eq]
  simp only [storeSet_of_not_viewed (hv 1 (by decide)), storeSet_of_not_viewed (hv 2 (by decide)),
    storeSet_of_not_viewed (hv 3 (by decide)), storeSet_of_not_viewed (a := addr) (hv 0 (by decide))]
  rfl

/-- Writing octets of memory leaves every other part of the state alone. -/
theorem memWrite_same {p : Part} (hp : p ≠ .mem) (a : Nat) (o : Octets) (s : State) : p.same s (memWrite a o s) := by
  induction o generalizing a s with
  | nil => cases p <;> rfl
  | cons b l ih =>
    have h := ih (a + 1) (memSet a b s)
    cases p with
    | mem => exact absurd rfl hp
    | _ => exact h

/-- A bus error leaves all but Shed's log alone. -/
theorem accessViolation_same {p : Part} (hp : p ≠ .shd) (master a : Nat) (s : State) : p.same s (accessViolation master a s) := by
  unfold accessViolation
  split <;> cases p with
    | shd => exact absurd rfl hp
    | _ => rfl

@[simp] theorem accessViolation_shd_seq (master a : Nat) (s : State) : (accessViolation master a s).shd.seq = s.shd.seq + 1 := by
  unfold accessViolation; split <;> rfl

theorem busError_mem_accessViolation_out (master a : Nat) (s : State) : .busError master a ∈ (accessViolation master a s).out := by
  unfold accessViolation; split <;> simp [emit]

/-- A write that memory of its own takes: the word's octets are written, and nothing else differs. -/
theorem memWrite_word_effect (addr value : Nat) (s : State) :
    let t := conclude s (memWrite addr (wordOctets value) s)
    (Memory.wf s = true → Memory.wf t = true) ∧ (∀ i, i < 4 → (memGet t (addr + i)).toNat = value / 2 ^ (8 * i) % 256) ∧
      (∀ a, a < addr ∨ addr + 4 ≤ a → memGet t a = memGet s a) ∧ OnlyChanges [.mem] s t := by
  have hget (a : Nat) : memGet (conclude s (memWrite addr (wordOctets value) s)) a = memGet (memWrite addr (wordOctets value) s) a := by
    simp only [memGet, conclude_mem]
  refine ⟨fun hwf => ?_, fun i hi => ?_, fun a ha => ?_, onlyChanges_conclude fun p hp => memWrite_same (by simpa using hp) ..⟩
  · simpa only [Memory.wf, conclude_mem] using wf_memWrite addr (wordOctets value) hwf
  · rw [hget, memGet_memWrite_inside s addr _ i (wordOctets_length value ▸ hi), wordOctets_getElem_toNat]
  · rw [hget, memGet_memWrite_outside s addr a _ (wordOctets_length value ▸ ha)]

/-- Settles O44: outside the register pages a write is `busStore` of the word's four octets. -/
theorem memoryWritesStoreTheirWord : Obligations.MemoryWritesStoreTheirWord := by
  unfold Obligations.MemoryWritesStoreTheirWord
  intro master addr value s h1 h2 h3 c viewed
  have hexec : exec c s = .next (conclude s (busStore master addr (wordOctets value) s)) := by
    rw [exec_registerWriteGeneric, busWrite_of_memory h1 h2 h3]
  refine ⟨fun hmay => ?_, fun hmay hview => ?_, fun hmay => ?_⟩
  · rw [hexec, busStore_word_of_mayWrite hmay]
  · rw [busStore_word_of_not_viewed hmay hview] at hexec
    exact ⟨_, hexec, memWrite_word_effect addr value s⟩
  · rw [busStore_word_of_not_mayWrite hmay] at hexec
    refine ⟨_, hexec, by simp, mem_conclude_out (busError_mem_accessViolation_out ..), ?_⟩
    exact onlyChanges_conclude fun p hp => accessViolation_same (by simpa using hp) ..

end Sys2Proof.Machine
end

section
/-!
PROOFS. What starts, steps and prepares a slot, and what switches a port's gate list (R16, R108, R109, R230, R329).
-/

namespace Sys2Proof.Machine

/-! ### The slot's start, its step and its preparation -/

/-- With no step due the clock runs to the next slot's start, where the slot in progress ends and the next begins. -/
theorem execSlotStart_of_no_step {s : State} {a : Nat} (hstep : stepDue s = none) (hnext : s.eas.next = some a) :
    let s1 := endSlot (advanceNs (startNs s a).toNat s)
    let s2 := beginSlot a { s1 with eas := { s1.eas with asn := a, next := some (a + 1), running := true },
                                    clk := { s1.clk with ran := some (max a (s1.clk.ran.getD 0)) } }
    execSlotStart s = done s { s2 with eas := { s2.eas with stepSlot := if s2.eas.stepSlot = some a then none else s2.eas.stepSlot } } := by
  simp only [execSlotStart, hstep, hnext]

theorem execClockStepApply_of_due {s : State} {d : Int} {e : Nat} (hstep : stepDue s = some (d, e)) (hrun : s.eas.running = true) :
    execClockStepApply s = done s (stepAtInstant d e s) := by
  simp only [execClockStepApply, hstep, hrun, if_true]

/-- The preparation window of a slot not yet planned: it opens, what is due is taken up, poisoned reads are met, and the slot is planned. -/
theorem execPreparationWindowOpen_of_open {s s0 : State} {a : Nat} (prepUs : Nat) (overrun : Bool) (bad : List Nat)
    (hnext : s.eas.next = some a) (hrestart : s.eas.restarting = false) (hplan : s.eas.nextPlan.asn ≠ a) (hopen : openWindow a s = some s0) :
    let s1 := takeUpDue a s0
    let s2 := bad.foldl (fun s a => poisonRead a s) { s1 with eas := { s1.eas with trapped := false } }
    let s3 := prepareSlot (s1.eas.next.getD a) prepUs (overrun || s.eas.trapped) s2
    execPreparationWindowOpen prepUs overrun bad s = done s { s3 with eas := { s3.eas with absent := [] } } := by
  simp only [execPreparationWindowOpen, hnext, hrestart, hplan, hopen, Bool.false_eq_true, or_self, if_false]

/-- A step that is of another slot, or of no size, leaves the window 2 ms before the slot's start. -/
theorem openWindow_of_no_step_at {s : State} {a : Nat} (h : ∀ d e, stepDue s = some (d, e) → e ≠ a ∨ d = 0) :
    openWindow a s = some (advanceNs (startNs s a - 2000000).toNat s) := by
  unfold openWindow
  cases hstep : stepDue s with
  | none => rfl
  | some p => exact if_pos (h p.1 p.2 hstep)

theorem execGateListSwitch_of_pend {s : State} {port : Nat} {g : GateList} {at_ : Nat} (h : (egPort s port).pend = some (g, at_)) :
    let s1 := advanceNs at_ s
    execGateListSwitch port s =
      done s (modEgPort port (fun p => { p with oper := g, pend := none, entry := gateEntry g (nowNs s1) }) s1) := by
  simp only [execGateListSwitch, h]

/-- Settles O30, clause by clause from what each of the four commands does where its premise stands. -/
theorem slotsStartAndArePrepared : Obligations.SlotsStartAndArePrepared := by
  unfold Obligations.SlotsStartAndArePrepared
  refine ⟨?slotStart, ?clockStep, ?preparation, ?window, ?gateList⟩
  case slotStart =>
    intro a s hstep hnext s1 h1 s2 h2
    rw [h2, h1]
    exact execSlotStart_of_no_step hstep hnext
  case clockStep =>
    intro d e s hstep hrun
    exact execClockStepApply_of_due hstep hrun
  case preparation =>
    intro a prepUs overrun bad s s0 hnext hrestart hplan hopen s1 h1 s2 h2 s3 h3
    rw [h3, h2, h1]
    exact execPreparationWindowOpen_of_open prepUs overrun bad hnext hrestart hplan hopen
  case window => exact fun a s h => openWindow_of_no_step_at h
  case gateList =>
    intro port g at_ s h s1 h1
    rw [h1]
    exact execGateListSwitch_of_pend h

end Sys2Proof.Machine
end

section
/-!
PROOFS. What an engine does from the opening of its window to its close (R157 to R163, R181).
-/

namespace Sys2Proof.Machine

/-! ### An engine from its window to the header (R157 to R163) -/

section ReceptionEvents

variable {s : State} {i : Nat} {c : RxCell}

theorem execReceiveWindowOpen_of_armed (hcell : engineCell s i = some c) (hst : (engine s i).st = .armed) :
    execReceiveWindowOpen i s = done s (modEngine i (fun e => { e with st := .search, window := true, sfdSeen := false })
      (advanceNs ((startNs s s.eas.asn).toNat + c.openUs * 1000) s)) := by
  simp only [execReceiveWindowOpen, hcell, hst, if_true]

theorem execPreambleDetect_of_search (seen : PreambleSeen) (powers : List (Int × Int)) (hcell : engineCell s i = some c)
    (hst : (engine s i).st = .search)
    (hmetric : (cellProfile s c).pdThresh ≤ aerialMetric s c 0 seen.a ∨ (cellProfile s c).pdThresh ≤ aerialMetric s c 1 seen.b) :
    execPreambleDetect i seen powers s =
      done s (modEngine i (fun e => { trackGain powers e with st := .decide, frozen := false, detNs := seen.offsetNs })
        (advanceNs ((startNs s s.eas.asn).toNat + seen.offsetNs) s)) := by
  simp only [execPreambleDetect, hcell]
  exact if_pos ⟨hst, hmetric⟩

theorem execAerialHoldEnd_of_decide (hold : HoldSeen) (powers : List (Int × Int)) (hcell : engineCell s i = some c)
    (hst : (engine s i).st = .decide) (hlen : holdSamples (cellProfile s c).phy ≤ hold.hold.length) :
    execAerialHoldEnd i hold powers s =
      done s (modEngine i (fun e => { trackGain powers e with
          st := .hunt, aerial := (keptAerial s c hold.hold).1, cbar := (keptAerial s c hold.hold).2.1, single := (keptAerial s c hold.hold).2.2 })
        (advanceNs ((startNs s s.eas.asn).toNat + (engine s i).detNs + holdNs (cellProfile s c).phy) s)) := by
  simp only [execAerialHoldEnd, hcell]
  exact if_pos ⟨hst, decide_eq_true hlen⟩

theorem execSfdFound_of_match (bits : Nat) (oqpskOk : Bool) (ns : Nat) (powers : List (Int × Int)) {coded : Bool}
    (hcell : engineCell s i = some c) (hst : (engine s i).st = .hunt) (hwindow : (engine s i).window = true)
    (hbits : (engine s i).detNs + leastNs (cellProfile s c) ≤ ns) (hmatch : sfdMatch (cellProfile s c) bits oqpskOk = some coded) :
    execSfdFound i bits oqpskOk ns powers s =
      done s (modEngine i (fun e => { trackGain powers e with
          st := .header, coded := coded, sfdNs := ns, sfdSeen := true, frozen := true, watch := false, training := trainingAt s c.band ns })
        (advanceNs ((startNs s s.eas.asn).toNat + ns) s)) := by
  simp only [execSfdFound, hcell, hmatch]
  exact if_pos ⟨hst, hwindow, hbits⟩

theorem execHuntSpanEnd_of_hunt (hunt : HuntSeen) (hcell : engineCell s hunt.eng = some c) (hst : (engine s hunt.eng).st = .hunt)
    (hlen : huntSpan s c (engine s hunt.eng).aerial hunt.span ≤ hunt.span.length) :
    execHuntSpanEnd hunt s =
      done s (modEngine hunt.eng (fun e => { trackGain hunt.powers e with st := if e.window then .search else .idle, frozen := false })
        (advanceNs ((startNs s s.eas.asn).toNat + (engine s hunt.eng).detNs + holdNs (cellProfile s c).phy +
          airNs (cellProfile s c).phy (huntSpan s c (engine s hunt.eng).aerial hunt.span)) s)) := by
  simp only [execHuntSpanEnd, hcell]
  exact if_pos ⟨hst, hlen⟩

/-- What a window's close leaves of its engine and of the counters, before the node that was not heard is looked at. -/
def windowClosed (i : Nat) (c : RxCell) (s : State) : State :=
  let s1 := modEngine i (fun e => { e with window := false }) (advanceNs ((startNs s s.eas.asn).toNat + c.closeUs * 1000) s)
  let s2 := if (engine s i).sfdSeen then s1 else bump 0x3110 3 2 s1
  if (engine s i).st = .search then modEngine i (fun e => { e with st := .idle }) s2 else s2

/-- A window closes over a reception, a partner's cell, or a cell of no node's own data: nothing is looked at but the window. -/
theorem execReceiveWindowClose_of_no_node (hcell : engineCell s i = some c) (hwindow : (engine s i).window = true)
    (h : (engine s i).receiving = true ∨ c.partner = true ∨ c.kind ≠ 0 ∨ c.node = none) :
    execReceiveWindowClose i s = done s (windowClosed i c s) := by
  simp only [execReceiveWindowClose, hcell, hwindow, not_true_eq_false, if_false]
  split
  · rfl
  · next hrec =>
    split
    · next n hpartner hkind hnode => exact absurd h (by simp [hrec, hpartner, hkind, hnode])
    · rfl

/-- A window closes with no reception in its node's cell: where the node was not heard, and no Glaze list asks for it, its presumed
contact is withdrawn. -/
theorem execReceiveWindowClose_of_node {n : Nat} (hcell : engineCell s i = some c) (hwindow : (engine s i).window = true)
    (hrec : (engine s i).receiving = false) (hpartner : c.partner = false) (hkind : c.kind = 0) (hnode : c.node = some n) :
    execReceiveWindowClose i s = done s (
      let s3 := windowClosed i c s
      if heardIn s3 s3.eas.asn n || glazeListed s3 s3.eas.asn n then s3 else withdrawPresumed n s3) := by
  simp only [execReceiveWindowClose, hcell, hwindow, hrec, hpartner, hkind, hnode, not_true_eq_false, Bool.false_eq_true, if_false]
  rfl

end ReceptionEvents

/-- Settles O35, event by event: each is what its command does where the engine's state and what was seen meet its premise. -/
theorem receptionBegins : Obligations.ReceptionBegins := by
  unfold Obligations.ReceptionBegins
  intro i c s hcell
  refine ⟨?windowOpen, ?preamble, ?holdEnd, ?sfd, ?huntEnd, ?windowClose⟩
  case windowOpen => exact execReceiveWindowOpen_of_armed hcell
  case preamble => exact fun a b ns powers => execPreambleDetect_of_search ⟨a, b, ns⟩ powers hcell
  case holdEnd => exact fun hold powers => execAerialHoldEnd_of_decide ⟨hold⟩ powers hcell
  case sfd => exact fun bits oqpskOk ns powers coded => execSfdFound_of_match bits oqpskOk ns powers hcell
  case huntEnd => exact fun span powers => execHuntSpanEnd_of_hunt ⟨i, span, powers⟩ hcell
  case windowClose =>
    intro hwindow s1 h1 s2 h2 s3 h3
    have hclosed : s3 = windowClosed i c s := by rw [h3, h2, h1]; rfl
    rw [hclosed]
    exact ⟨execReceiveWindowClose_of_no_node hcell hwindow, fun n => execReceiveWindowClose_of_node hcell hwindow⟩

end Sys2Proof.Machine
end

section
/-!
PROOFS. Trellis's tables: insertion, deletion and lookup, an entry replaced in place, the digest ring and the scrubber (R290 to R295, R310, R311).
-/

namespace Sys2Proof.Machine

/-! ### Changes of the tables as the bus asks for them (R294, R295, R310) -/

theorem execTableInsert_of_runs {s : State} {tag : Nat} {key : Octets} (flags value nxt : Nat) (hrun : trellisRuns s = true)
    (hkey : key.length = keyLen tag) :
    execTableInsert tag flags value nxt key s =
      done s (ownInsert { tag := tag, flags := flags % 8, aux := if tag = 4 then macTime s else 0, value := value, next := nxt, key := key } s) :=
  if_pos ⟨hrun, hkey⟩

/-- An insertion that is not refused is answered OK, and its caller holds the entry from then on. -/
theorem ownInsert_of_not_full {e : TEntry} {s : State} (h : (tableInsert e s).2 ≠ .tableFull) :
    ownInsert e s = { (tableInsert e s).1 with
      tre := { (tableInsert e s).1.tre with owned := s.tre.owned.filter (fun x => !(x.tag == e.tag && x.key == e.key)) ++ [e] }
      out := (tableInsert e s).1.out ++ [.inserted stOk] } := by
  simp only [ownInsert, h, if_false, emit]

/-- A refused insertion is answered TABLE_FULL, and its caller holds what it held. -/
theorem ownInsert_of_full {e : TEntry} {s : State} (h : (tableInsert e s).2 = .tableFull) :
    ownInsert e s = { (tableInsert e s).1 with
      tre := { (tableInsert e s).1.tre with owned := s.tre.owned }, out := (tableInsert e s).1.out ++ [.inserted stTableFull] } := by
  simp only [ownInsert, h, if_true, emit]

/-- Behind changes that wait an insertion waits too, but for one that they will leave refused. -/
theorem tableInsert_of_waiting {e : TEntry} {s : State} (h : s.tre.waiting ≠ []) :
    tableInsert e s = if refuses s.chip e (settledTre s.tre.waiting s.tre) then (bump 0x6400 3 0 s, .tableFull)
      else (defer (.insert e) s, .waits) := by
  simp only [tableInsert, h, if_false, if_true]

/-- A new key is refused at its table's limit, and counted. -/
theorem insertNow_of_limit {e : TEntry} {s : State} (htag : 1 ≤ e.tag) (htag' : e.tag ≤ 5) (hnew : place s.tre e.tag e.key = none)
    (hlimit : tableLimit s.chip e.tag ≤ tableCount s.tre e.tag) : insertNow e s = (bump 0x6400 3 0 s, .tableFull) := by
  have hkind : ¬ (e.tag = 0 ∨ 5 < e.tag) := by omega
  simp only [insertNow, hkind, hnew, hlimit, Option.isNone_none, and_self, if_false, if_true]

theorem tableInsert_of_limit {e : TEntry} {s : State} (hwait : s.tre.waiting = []) (htag : 1 ≤ e.tag) (htag' : e.tag ≤ 5)
    (hnew : place s.tre e.tag e.key = none) (hlimit : tableLimit s.chip e.tag ≤ tableCount s.tre e.tag) :
    tableInsert e s = (bump 0x6400 3 0 s, .tableFull) := by
  simp only [tableInsert, hwait, insertNow_of_limit htag htag' hnew hlimit, if_true, reduceCtorEq, if_false]

theorem execTableDelete_of_runs {s : State} {tag : Nat} (key : Octets) (hrun : trellisRuns s = true) (htag : 1 ≤ tag) (htag' : tag ≤ 5) :
    execTableDelete tag key s = done s (ownDelete tag key s) :=
  if_pos ⟨hrun, htag, htag'⟩

/-! ### What a lookup finds (R293) -/

/-- With both its buckets poisoned a lookup answers from the stash or from the relocation register. -/
theorem lookupPast_of_bad {t : Tre} {tag : Nat} {key : Octets} {bad : List Nat} (h0 : badIn (arrayOf tag) (bucketOf 0 tag key) bad ≠ [])
    (h1 : badIn (arrayOf tag) (bucketOf 1 tag key) bad ≠ []) (hfound : (lookupPast t tag key bad).1 ≠ none) :
    (∃ k < 8, (lookupPast t tag key bad).1 = some (entryAt t (arrayOf tag) (.stash k))) ∨ (lookupPast t tag key bad).1 = some t.reloc := by
  simp only [lookupPast, h0, h1, if_false] at hfound ⊢
  split
  · next k hk => exact .inl ⟨k, List.mem_range.1 (List.mem_of_find?_eq_some hk), rfl⟩
  · next hstash =>
    simp only [hstash] at hfound
    split
    · exact .inr rfl
    · next hreloc => exact absurd (if_neg hreloc) hfound

@[simp] theorem badIn_nil (arr b : Nat) : badIn arr b [] = [] := by
  unfold badIn; split <;> rfl

/-- Where no read is known to be poisoned a lookup goes through bucket 0, bucket 1, the stash and the relocation register. -/
theorem lookup_of_no_bad {t : Tre} (tag : Nat) (key : Octets) (h : t.bad = []) :
    lookup t tag key =
      match place t tag key with
      | some p => some (entryAt t (arrayOf tag) p)
      | none => if isEntry tag key t.reloc then some t.reloc else none := by
  simp only [lookup, lookupPast, place, h, badIn_nil, if_true]
  cases findIn t tag key (bucketOf 0 tag key) with
  | some k => rfl
  | none =>
    cases findIn t tag key (bucketOf 1 tag key) with
    | some k => rfl
    | none =>
      simp only [Option.map_none, entryAt]
      cases List.find? (fun k => isEntry tag key (((tarray t (arrayOf tag)).stash[k]?).getD {})) (List.range 8) <;> rfl

/-! ### The arrays under a write -/

theorem tarray_slotSet_ne {arr x : Nat} (h : x ≠ arr) (b k : Nat) (e : TEntry) (t : Tre) : tarray (slotSet arr b k e t) x = tarray t x := by
  simp only [tarray, slotSet, notice, getElem?_modAt, h, if_false]

theorem tarray_stashSet_ne {arr x : Nat} (h : x ≠ arr) (k : Nat) (e : TEntry) (t : Tre) : tarray (stashSet arr k e t) x = tarray t x := by
  simp only [tarray, stashSet, getElem?_modAt, h, if_false]

theorem tarray_slotSet_self {t : Tre} {arr : Nat} (h : arr < t.arrays.length) (b k : Nat) (e : TEntry) :
    tarray (slotSet arr b k e t) arr = { tarray t arr with slots := sset (fun _ => {}) (tarray t arr).slots (4 * b + k) e } := by
  simp only [tarray, slotSet, notice, getElem?_modAt, if_true, List.getElem?_eq_getElem h, Option.map_some, Option.getD_some]

theorem tarray_stashSet_self {t : Tre} {arr : Nat} (h : arr < t.arrays.length) (k : Nat) (e : TEntry) :
    tarray (stashSet arr k e t) arr = { tarray t arr with stash := setAt (tarray t arr).stash k e } := by
  simp only [tarray, stashSet, getElem?_modAt, if_true, List.getElem?_eq_getElem h, Option.map_some, Option.getD_some]

/-- A slot written reads as its entry, wherever the bucket and slot name the same 32 octets; every other slot reads as before. -/
theorem slotGet_slotSet {t : Tre} {arr : Nat} (h : arr < t.arrays.length) (b k b' k' : Nat) (e : TEntry) :
    slotGet (slotSet arr b k e t) arr b' k' = if 4 * b' + k' = 4 * b + k then e else slotGet t arr b' k' := by
  simp only [slotGet, tarray_slotSet_self h]
  split
  · next hsame => rw [hsame, sget_sset_self]
  · next hother => rw [sget_sset_ne _ _ _ _ _ (Ne.symm hother)]

theorem bad_slotSet_of_nil {t : Tre} (h : t.bad = []) (arr b k : Nat) (e : TEntry) : (slotSet arr b k e t).bad = [] := by
  simp only [slotSet, notice, h, List.filter_nil]

/-! ### An entry replaced in place (R294) -/

theorem isEntry_iff {tag : Nat} {key : Octets} {e : TEntry} : isEntry tag key e = true ↔ e.tag = tag ∧ e.key = key ∧ tag ≠ 0 := by
  simp [isEntry, and_assoc]

/-- No key has the empty entry. -/
@[simp] theorem isEntry_empty (tag : Nat) (key : Octets) : isEntry tag key {} = false := by
  rw [Bool.eq_false_iff]
  intro h
  obtain ⟨htag, -, hne⟩ := isEntry_iff.1 h
  exact hne htag.symm

theorem isEntry_of_findIn {t : Tre} {tag b k : Nat} {key : Octets} (h : findIn t tag key b = some k) :
    isEntry tag key (slotGet t (arrayOf tag) b k) = true :=
  List.find?_some (p := fun k => isEntry tag key (slotGet t (arrayOf tag) b k)) h

/-- What stands at a key's place is its entry. -/
theorem isEntry_of_place {t : Tre} {tag : Nat} {key : Octets} {p : Place} (h : place t tag key = some p) :
    isEntry tag key (entryAt t (arrayOf tag) p) = true := by
  unfold place at h
  split at h
  · next k hk => cases h; exact isEntry_of_findIn hk
  · split at h
    · next k hk => cases h; exact isEntry_of_findIn hk
    · obtain ⟨k, hk, rfl⟩ := Option.map_eq_some_iff.1 h
      exact List.find?_some (p := fun k => isEntry tag key (entryAt t (arrayOf tag) (.stash k))) hk

/-- The place of a key turns only on which places hold an entry of it. -/
theorem place_congr {t t' : Tre} {tag : Nat} {key : Octets}
    (h : ∀ p, isEntry tag key (entryAt t' (arrayOf tag) p) = isEntry tag key (entryAt t (arrayOf tag) p)) :
    place t' tag key = place t tag key := by
  have hbucket (b : Nat) : findIn t' tag key b = findIn t tag key b := by
    simp only [findIn, show ∀ k, isEntry tag key (slotGet t' (arrayOf tag) b k) = _ from fun k => h (.slot b k), entryAt]
  have hstash (k : Nat) : isEntry tag key (((tarray t' (arrayOf tag)).stash[k]?).getD {}) =
      isEntry tag key (((tarray t (arrayOf tag)).stash[k]?).getD {}) := h (.stash k)
  simp only [place, hbucket, hstash]

/-- An array beyond the tables holds the empty entry at every place. -/
theorem entryAt_of_no_array {t : Tre} {arr : Nat} (h : t.arrays.length ≤ arr) (p : Place) : entryAt t arr p = {} := by
  have harray : tarray t arr = {} := by simp only [tarray, List.getElem?_eq_none h, Option.getD_none]
  cases p with
  | slot b k => simp only [entryAt, slotGet, harray]; rfl
  | stash k =>
    simp only [entryAt, harray, List.getElem?_replicate]
    split <;> rfl

/-- Writes an entry at a place. -/
def putAt (arr : Nat) (e : TEntry) (t : Tre) : Place → Tre
  | .slot b k => slotSet arr b k e t
  | .stash k => stashSet arr k e t

/-- A present key's entry is written where it stands. -/
theorem insertEntry_of_place {e : TEntry} {t : Tre} {p : Place} (h : place t e.tag e.key = some p) :
    insertEntry e t = (putAt (arrayOf e.tag) e t p, true) := by
  unfold insertEntry
  rw [h]
  cases p <;> rfl

theorem tarray_putAt_ne {arr x : Nat} (h : x ≠ arr) (e : TEntry) (t : Tre) (p : Place) : tarray (putAt arr e t p) x = tarray t x := by
  cases p with
  | slot b k => exact tarray_slotSet_ne h b k e t
  | stash k => exact tarray_stashSet_ne h k e t

theorem bad_putAt_of_nil {t : Tre} (h : t.bad = []) (arr : Nat) (e : TEntry) (p : Place) : (putAt arr e t p).bad = [] := by
  cases p with
  | slot b k => exact bad_slotSet_of_nil h arr b k e
  | stash k => exact h

/-- Where a place holds an entry of some key, writing there leaves every place with what is written or with what it held, and the
place itself with what is written. -/
theorem entryAt_putAt {t : Tre} {arr tag : Nat} {key : Octets} {p : Place} (h : isEntry tag key (entryAt t arr p) = true) (e : TEntry) :
    entryAt (putAt arr e t p) arr p = e ∧
      ∀ q, entryAt (putAt arr e t p) arr q = entryAt t arr q ∨ entryAt (putAt arr e t p) arr q = e ∧ entryAt t arr q = entryAt t arr p := by
  have harr : arr < t.arrays.length := by
    by_contra hlen
    rw [entryAt_of_no_array (Nat.le_of_not_lt hlen), isEntry_empty] at h
    cases h
  cases p with
  | slot b k =>
    refine ⟨by simp only [entryAt, putAt, slotGet_slotSet harr, if_true], fun q => ?_⟩
    cases q with
    | stash k' => exact .inl (by simp only [entryAt, putAt, tarray_slotSet_self harr])
    | slot b' k' =>
      simp only [entryAt, putAt, slotGet_slotSet harr]
      split
      · next hsame => exact .inr ⟨rfl, by simp only [slotGet, hsame]⟩
      · exact .inl rfl
  | stash k =>
    have hk : k < (tarray t arr).stash.length := by
      by_contra hlen
      simp only [entryAt, List.getElem?_eq_none (Nat.le_of_not_lt hlen), Option.getD_none, isEntry_empty, Bool.false_eq_true] at h
    have hself : entryAt (putAt arr e t (.stash k)) arr (.stash k) = e := by
      simp only [entryAt, putAt, tarray_stashSet_self harr, getElem?_setAt, if_true, List.getElem?_eq_getElem hk, Option.map_some,
        Option.getD_some]
    refine ⟨hself, fun q => ?_⟩
    cases q with
    | slot b' k' => exact .inl (by simp only [entryAt, slotGet, putAt, tarray_stashSet_self harr])
    | stash k' =>
      by_cases hsame : k' = k
      · subst hsame
        exact .inr ⟨hself, rfl⟩
      · exact .inl (by simp only [entryAt, putAt, tarray_stashSet_self harr, getElem?_setAt, hsame, if_false])

/-- An entry replaced in place is found by its key. -/
theorem lookup_insertEntry_of_place {e : TEntry} {t : Tre} {p : Place} (h : place t e.tag e.key = some p) (hbad : t.bad = []) :
    lookup (insertEntry e t).1 e.tag e.key = some e := by
  have hentry := isEntry_of_place h
  obtain ⟨-, -, htag⟩ := isEntry_iff.1 hentry
  obtain ⟨hself, hothers⟩ := entryAt_putAt hentry e
  have hplace : place (putAt (arrayOf e.tag) e t p) e.tag e.key = some p := by
    rw [← h]
    refine place_congr fun q => ?_
    rcases hothers q with hsame | ⟨hnew, hold⟩
    · rw [hsame]
    · rw [hnew, hold, hentry]
      exact isEntry_iff.2 ⟨rfl, rfl, htag⟩
  rw [insertEntry_of_place h, lookup_of_no_bad _ _ (bad_putAt_of_nil hbad _ e p), hplace]
  exact congrArg some hself

/-! ### The digest ring and the scrubber (R310, R311) -/

theorem execDigestRingAdvance_of_canvas {s : State} (h : s.ctl.domains[4]? = some .on) :
    execDigestRingAdvance s = done s (ringAdvance s) := if_pos h

theorem ringAdvance_of_cons {s : State} {arr b d seq : Nat} {l : List (Nat × Nat × Nat × Nat)} (h : s.tre.ring = (arr, b, d, seq) :: l) :
    ringAdvance s = resumeWaiting s.tre.waiting.length { s with tre := { s.tre with
      ring := l, ap := (s.tre.ap + 1) % 510, shadow := sset emptyDigest s.tre.shadow (arr * 2 ^ 17 + b) d } } := by
  simp only [ringAdvance, h]

/-- The next bucket of a walk: one that a notice names is left for the end, another is compared; MAC entries of its bucket age. -/
theorem execScrubBucket_of_walk {s : State} {arr b : Nat} (poisoned : Bool) (hrun : trellisRuns s = true)
    (hat : s.tre.scrubAt = (arr, b)) (harr : arr < 3) :
    let s1 := if s.tre.ring.any (fun n => n.1 == arr && n.2.1 == b) then
      { s with tre := { s.tre with scrubLate := s.tre.scrubLate ++ [(arr, b)] } } else scrubCompare arr b poisoned s
    let s2 := if arr = 1 then ageBucket b s1 else s1
    let s3 := { s2 with tre := { s2.tre with scrubAt := scrubNext arr b } }
    execScrubBucket poisoned s = done s (if (scrubNext arr b).1 = 3 ∧ s3.tre.scrubLate = [] then walkEnds s3 else s3) := by
  simp only [execScrubBucket, hrun, hat, harr, not_true_eq_false, if_false, if_true]

/-- Of the buckets left to the end, one that a notice still names goes behind the others. -/
theorem execScrubBucket_of_late_noticed {s : State} {a b : Nat} {l : List (Nat × Nat)} (poisoned : Bool) (hrun : trellisRuns s = true)
    (hend : 3 ≤ s.tre.scrubAt.1) (hlate : s.tre.scrubLate = (a, b) :: l) (hnotice : s.tre.ring.any (fun n => n.1 == a && n.2.1 == b) = true) :
    execScrubBucket poisoned s = done s { s with tre := { s.tre with scrubLate := l ++ [(a, b)] } } := by
  simp only [execScrubBucket, hrun, hlate, hnotice, Nat.not_lt.2 hend, not_true_eq_false, if_false, if_true]

/-- Of the buckets left to the end, one that no notice names is compared, and the last ends the walk. -/
theorem execScrubBucket_of_late {s : State} {a b : Nat} {l : List (Nat × Nat)} (poisoned : Bool) (hrun : trellisRuns s = true)
    (hend : 3 ≤ s.tre.scrubAt.1) (hlate : s.tre.scrubLate = (a, b) :: l)
    (hnotice : s.tre.ring.any (fun n => n.1 == a && n.2.1 == b) = false) :
    let s2 := scrubCompare a b poisoned { s with tre := { s.tre with scrubLate := l } }
    execScrubBucket poisoned s = done s (if l = [] then walkEnds s2 else s2) := by
  simp only [execScrubBucket, hrun, hlate, hnotice, Nat.not_lt.2 hend, not_true_eq_false, Bool.false_eq_true, if_false]

/-- Settles O41, operation by operation; that an entry replaced in place is found turns on its place staying the key's place. -/
theorem tablesRun : Obligations.TablesRun := by
  unfold Obligations.TablesRun
  refine ⟨?insert, fun e s => tableInsert_of_waiting, ?delete, ?look, fun tag key bad t => lookupPast_of_bad, ?replace,
    fun e s => tableInsert_of_limit, fun s => execDigestRingAdvance_of_canvas, ?ring, ?walk, ?late⟩
  case insert =>
    intro tag flags value nxt key s hrun hkey e he r hr
    subst he hr
    have hexec := execTableInsert_of_runs flags value nxt hrun hkey
    exact ⟨fun h => hexec.trans (congrArg (done s) (ownInsert_of_not_full h)),
      fun h => hexec.trans (congrArg (done s) (ownInsert_of_full h))⟩
  case delete =>
    intro tag key s hrun htag htag' s0 h0
    rw [h0]
    exact execTableDelete_of_runs key hrun htag htag'
  case look =>
    intro tag key bad s r hr
    rw [hr]
    rfl
  case replace =>
    intro e t hplace hbad
    obtain ⟨p, hp⟩ := Option.isSome_iff_exists.1 hplace
    refine ⟨lookup_insertEntry_of_place hp hbad, fun arr harr => ?_⟩
    rw [insertEntry_of_place hp]
    exact tarray_putAt_ne harr e t p
  case ring =>
    intro arr b d seq l s hring s1 h1
    have hadvance : ringAdvance s = resumeWaiting s.tre.waiting.length s1 := by rw [h1]; exact ringAdvance_of_cons hring
    refine ⟨hadvance, fun hwait => ?_⟩
    rw [hadvance, hwait]
    rfl
  case walk =>
    intro arr b poisoned s hrun hat harr s1 h1 s2 h2 s3 h3
    rw [h3, h2, h1]
    exact execScrubBucket_of_walk poisoned hrun hat harr
  case late =>
    intro a b l poisoned s hrun hend hlate
    refine ⟨execScrubBucket_of_late_noticed poisoned hrun hend hlate, fun hnotice s2 h2 => ?_⟩
    rw [h2]
    exact execScrubBucket_of_late poisoned hrun hend hlate hnotice

end Sys2Proof.Machine
end

section
/-!
PROOFS. What an accepted write of MODE_REQUEST or REBOOT leaves (R36 to R47, R68).
-/

namespace Sys2Proof.Machine

/-! ### A write that the server accepts, from its commit to its outcome (R68, R79) -/

/-- Answering a request leaves every part alone but the server. -/
theorem respond_same {p : Part} (hp : p ≠ .srv) (q : OdapReq) (op : Nat) (a : Answer) (c : Bool) {s t : State} (h : p.same s t) :
    p.same s (respond q op a c t) := by
  cases p with
  | srv => exact absurd rfl hp
  | _ => simpa only [Part.same, respond_chip, respond_ctl, respond_clk, respond_rf, respond_pal, respond_pri, respond_nod, respond_eas,
      respond_gla, respond_tre, respond_rid, respond_hed, respond_sec, respond_fw, respond_shd, respond_host, respond_pwr, respond_od,
      respond_mem, respond_free] using h

/-- A write changes at most the server and what its commit changes. -/
theorem onlyChanges_afterWrite {q : OdapReq} {s : State} {r : State × Answer} {ps : List Part}
    (h : ∀ p, p ∉ .srv :: ps → p.same s r.1) : OnlyChanges (.srv :: ps) s (afterWrite q s r) :=
  onlyChanges_conclude fun p hp => respond_same (fun hs => hp (hs ▸ List.mem_cons_self)) q 2 r.2 true (h p hp)

theorem answers_afterWrite {q : OdapReq} {s : State} {r : State × Answer} (h : r.2 ≠ owedA) : Answers q 2 r.2 (afterWrite q s r) :=
  mem_conclude_out (respond_answers q 2 r.2 true r.1 h)

/-- A write whose commit answers OK with an effective ASN commits. -/
theorem commits_of_afterWrite {q : OdapReq} {c : Instr} {s s' : State} {eff : Nat} {ps : List Part} {P : State → Prop}
    (hexec : exec c s = .next (afterWrite q s (s', effA eff))) (hsame : ∀ p, p ∉ .srv :: ps → p.same s s')
    (hP : P (afterWrite q s (s', effA eff))) : Commits q c eff ps s P :=
  ⟨_, hexec, answers_afterWrite (effA_ne_owedA eff), onlyChanges_afterWrite hsame, hP⟩

/-- A write whose commit answers a failure, and leaves the state its message touched, is refused. -/
theorem refuses_of_afterWrite {q : OdapReq} {c : Instr} {s : State} {x d : Nat}
    (hexec : exec c s = .next (afterWrite q s (touch q.session s, errA x d))) : Refuses q c (errA x d) s :=
  ⟨_, hexec, answers_afterWrite (errA_ne_owedA x d), onlyChanges_afterWrite (ps := []) fun p hp => by
    cases p with
    | srv => exact absurd List.mem_cons_self hp
    | _ => rfl⟩

@[simp] theorem afterWrite_ctl (q : OdapReq) (s : State) (r : State × Answer) : (afterWrite q s r).ctl = r.1.ctl := by
  simp only [afterWrite, conclude_ctl, respond_ctl]

@[simp] theorem afterWrite_od (q : OdapReq) (s : State) (r : State × Answer) : (afterWrite q s r).od = r.1.od := by
  simp only [afterWrite, conclude_od, respond_od]

@[simp] theorem afterWrite_shd (q : OdapReq) (s : State) (r : State × Answer) : (afterWrite q s r).shd = r.1.shd := by
  simp only [afterWrite, conclude_shd, respond_shd]

/-! ### MODE_REQUEST (R36, R39 to R47) -/

variable {q : OdapReq} {u : Session} {m : Mode} {s : State}

@[simp] theorem modeOf_beOct_code (m : Mode) : modeOf (beNat (beOct 1 m.code)) = some m := by cases m <;> rfl

/-- An accepted MODE_REQUEST is committed by its owner. -/
theorem exec_modeRequestWrite (h : WriteAccepted q ⟨0x1200, 2, 0⟩ 2 (beOct 1 m.code) u s) :
    exec (.modeRequestWrite q m.code) s = .next (afterWrite q s (modeCommit u.role (beOct 1 m.code) (touch q.session s))) := by
  have hw := write_accepted_owned (odPage 0x12)[1] h rfl (by decide) rfl (by decide) _ rfl
  exact congrArg (fun t => Host.Outcome.next (conclude s t)) hw

/-- A cancel is the write of the current mode. -/
theorem exec_modeChangeCancel : exec (.modeChangeCancel q) s = exec (.modeRequestWrite q s.ctl.mode.code) s := rfl

/-- A request that is granted is what MODE_REQUEST reads from then on (R37). -/
theorem modeCommit_of_ok {role eff : Nat} {v : Octets} {s' : State} (h : modeAsk role v s = (s', effA eff)) :
    modeCommit role v s = (odPut 0x1200 2 0 v s', effA eff) := by
  simp only [modeCommit, h, effA, if_true]

theorem modeCommit_of_refused {role x d : Nat} {v : Octets} (hx : x ≠ stOk) (h : modeAsk role v s = (s, errA x d)) :
    modeCommit role v s = (s, errA x d) := by
  simp only [modeCommit, h, errA, hx, if_false]

/-- The current mode asks for a cancel. -/
theorem modeAsk_current (role : Nat) : modeAsk role (beOct 1 s.ctl.mode.code) s = cancelChange s := by
  simp only [modeAsk, modeOf_beOct_code, if_true]

/-- While a change is pending, its target is answered with its ASN and any other with BUSY (R46). -/
theorem modeAsk_pending {p : ModeChange} (role : Nat) (hm : m ≠ s.ctl.mode) (hp : s.ctl.change = some p) :
    modeAsk role (beOct 1 m.code) s = if p.target = m then (s, effA p.eff) else (s, errA stBusy) := by
  simp only [modeAsk, modeOf_beOct_code, hm, if_false, hp]

/-- With no change pending, a schedule that does not fit the working mode asked for is refused (R45). -/
theorem modeAsk_mismatch {role o : Nat} (hm : m ≠ s.ctl.mode) (hnone : s.ctl.change = none) (hwork : m.working = true)
    (hkind : (changeKind s.ctl.mode m role).isSome = true) (hfit : scheduleFit s (namedSet s) m = some o) :
    modeAsk role (beOct 1 m.code) s = (s, errA stScheduleMismatch o) := by
  obtain ⟨k, hk⟩ := Option.isSome_iff_exists.1 hkind
  simp only [modeAsk, modeOf_beOct_code, hm, if_false, hnone, hk, hwork, if_true, hfit]

/-- What a request asks for by the kind of its transition, where the schedule fits (Table 02-7). -/
def askedBy (k : ChangeKind) (t : Mode) (s : State) : State × Answer :=
  match k with
  | .announced => announceChange t s
  | .endOfService => endService t s
  | .waiting => enterWorking t s
  | .atSlot => slotChange t s

theorem modeAsk_of_kind {role : Nat} {k : ChangeKind} (hm : m ≠ s.ctl.mode) (hnone : s.ctl.change = none)
    (hk : changeKind s.ctl.mode m role = some k) (hfit : m.working = true → scheduleFit s (namedSet s) m = none) :
    modeAsk role (beOct 1 m.code) s = askedBy k m s := by
  have hconflict : (if m.working then scheduleFit s (namedSet s) m else none) = none := by
    split
    · next h => exact hfit h
    · rfl
  simp only [modeAsk, modeOf_beOct_code, hm, if_false, hnone, hk, hconflict]
  cases k <;> rfl

/-- A change that ends service, or takes effect at a slot, has no working mode as its target (Table 02-7). -/
theorem not_working_of_changeKind {m t : Mode} {role : Nat} {k : ChangeKind} (h : changeKind m t role = some k)
    (hk : k = .endOfService ∨ k = .atSlot) : t.working = false := by
  cases t with
  | m5 | m6 | m7 | m8 =>
    unfold changeKind at h
    rcases hk with rfl | rfl <;> grind
  | _ => rfl

/-! A message that touches its session moves no slot. -/

theorem nextSuperframeE_touch (id : Nat) : nextSuperframeE (touch id s) = nextSuperframeE s := rfl
theorem nextSlotE_touch (id : Nat) : nextSlotE (touch id s) = nextSlotE s := rfl

/-! What each kind of request leaves, and the ASN it answers. -/

theorem announceChange_eq {t : Mode} {e ns : Nat} (he : e = firstBoundaryAt s (nowNs s + 1) + modeLead s * sfSlots (curEpoch s).code)
    (hns : ns = (startNs s e).toNat) :
    announceChange t s = (clearModeInformed { s with ctl := { s.ctl with change := some {
        target := t, kind := .announced, eff := e, first := firstBoundaryAt s (nowNs s + 1), set := namedSet s,
        epoch := { asn0 := e, secs := ns / 1000000000, nanos := ns % 1000000000, code := t.slotCode } } } }, effA e) := by
  subst he hns
  rfl

theorem endService_eq (t : Mode) (s : State) :
    endService t s = ({ s with ctl := { s.ctl with change := some {
        target := t, kind := .endOfService, eff := nextSuperframeE s + sfSlots (curEpoch s).code, first := nextSuperframeE s } } },
      effA (nextSuperframeE s + sfSlots (curEpoch s).code)) := rfl

theorem slotChange_of_running {t : Mode} (hrun : s.eas.running = true) {e : Nat} (he : e = if t = .m9 then nextSuperframeE s else nextSlotE s) :
    slotChange t s = ({ s with ctl := { s.ctl with change := some { target := t, kind := .atSlot, eff := e } } }, effA e) := by
  simp only [slotChange, hrun, if_true, he]

/-- With no slots running, a change that needs no notice is taken at once. -/
theorem slotChange_of_not_running {t : Mode} (hrun : s.eas.running = false) (hnone : s.ctl.change = none) (hwork : t.working = false) :
    slotChange t s = (enterMode t s, effA effNoSlots) := by
  have hs : { s with ctl := { s.ctl with change := none } } = s := by rw [← hnone]
  simp only [slotChange, hrun, Bool.false_eq_true, if_false, takeChange, hwork, if_true, hs, reduceCtorEq]

/-! An entry from M3 or M4 waits for service, whose slots are those of the epoch in force (R39, R111). -/

theorem firstBoundaryAt_congr {s' : State} (hnext : nextEpoch s' = nextEpoch s) (hod : s'.od = s.od) (t : Nat) :
    firstBoundaryAt s' t = firstBoundaryAt s t := by
  have hcur : curEpoch s' = curEpoch s := by simp only [curEpoch, odGet, hod]
  unfold firstBoundaryAt firstSlotAt
  rw [hcur, hnext]

theorem startNs_congr {s' : State} (hnext : nextEpoch s' = nextEpoch s) (hod : s'.od = s.od) (hclk : s'.clk = s.clk) (a : Nat) :
    startNs s' a = startNs s a := by
  have hcur : curEpoch s' = curEpoch s := by simp only [curEpoch, odGet, hod]
  unfold startNs epochFor
  rw [hcur, hnext, hclk]

/-- The wait that an entry to a working mode begins with. -/
def waitFor (t : Mode) (s : State) : State :=
  { s with ctl := { s.ctl with change := some { target := t, kind := .waiting, eff := 0, set := namedSet s } } }

theorem nextEpoch_waitFor (t : Mode) (hnone : s.ctl.change = none) : nextEpoch (waitFor t s) = nextEpoch s := by
  simp only [nextEpoch, waitFor, hnone, if_true]

/-- An entry to a working mode answers the slot of its wait once that has ended, and no slot while it goes on. -/
theorem enterWorking_of_settled {t : Mode} {s' : State} {c : ModeChange} (hsettle : settleWaiting (waitFor t s) = s')
    (hc : s'.ctl.change = some c) : enterWorking t s = (s', if c.kind = .atSlot then effA c.eff else effA effNoSlots) := by
  subst hsettle
  unfold enterWorking
  dsimp only
  split
  · next c' hc' =>
    cases hc.symm.trans hc'
    rfl
  · next hnone => cases hc.symm.trans hnone

/-- A wait ends at once where time, epoch and address are ready (R39). -/
theorem enterWorking_of_ready {t : Mode} {e ns : Nat} (hnone : s.ctl.change = none)
    (hready : (s.clk.valid && epochValid s && hrReady s) = true) (he : e = firstBoundaryAt s (nowNs s + 2000000000))
    (hns : ns = (startNs s e).toNat) :
    enterWorking t s = ({ s with ctl := { s.ctl with change := some {
        target := t, kind := .atSlot, eff := e, set := namedSet s,
        epoch := if (curEpoch s).code = t.slotCode then {} else
          { asn0 := e, secs := ns / 1000000000, nanos := ns % 1000000000, code := t.slotCode } } } }, effA e) := by
  simp only [Bool.and_eq_true] at hready
  obtain ⟨⟨hvalid, hepoch⟩, hhr⟩ := hready
  have hnext := nextEpoch_waitFor t hnone
  have hfirst : firstBoundaryAt (waitFor t s) (nowNs (waitFor t s) + 2000000000) = e :=
    (firstBoundaryAt_congr hnext rfl _).trans he.symm
  have hstart : (startNs (waitFor t s) e).toNat = ns := by rw [startNs_congr hnext rfl rfl, hns]
  have hsettle : settleWaiting (waitFor t s) = _ := if_pos ⟨rfl, hvalid, hepoch, hhr⟩
  simp only [hfirst, hstart] at hsettle
  exact enterWorking_of_settled hsettle rfl

/-- A wait goes on where time, epoch or address is not ready. -/
theorem enterWorking_of_not_ready {t : Mode} (hready : (s.clk.valid && epochValid s && hrReady s) = false) :
    enterWorking t s = (waitFor t s, effA effNoSlots) := by
  have hsettle : settleWaiting (waitFor t s) = waitFor t s := if_neg fun ⟨_, hvalid, hepoch, hhr⟩ => by
    rw [show s.clk.valid = true from hvalid, show epochValid s = true from hepoch, show hrReady s = true from hhr] at hready
    exact absurd hready (by decide)
  exact enterWorking_of_settled hsettle rfl

/-- A request that is granted commits, and leaves the change it asked for pending. -/
theorem commits_modeRequest {eff : Nat} {ps : List Part} {s' : State} {change : Option ModeChange}
    (h : WriteAccepted q ⟨0x1200, 2, 0⟩ 2 (beOct 1 m.code) u s)
    (hask : modeAsk u.role (beOct 1 m.code) (touch q.session s) = (s', effA eff)) (hps : .od ∈ ps)
    (hsame : ∀ p, p ∉ .srv :: ps → p.same s s') (hctl : s'.ctl = { s.ctl with change := change }) (hod : s'.od = s.od) :
    Commits q (.modeRequestWrite q m.code) eff ps s
      (fun r => r.ctl = { s.ctl with change := change } ∧ r.od = (odPut 0x1200 2 0 (beOct 1 m.code) s).od) := by
  have hexec := exec_modeRequestWrite h
  rw [modeCommit_of_ok hask] at hexec
  refine commits_of_afterWrite hexec (fun p hp => ?_) ⟨?_, ?_⟩
  · have hs := hsame p hp
    cases p with
    | od => exact absurd (List.mem_cons_of_mem _ hps) hp
    | _ => exact hs
  · rw [afterWrite_ctl]; exact hctl
  · rw [afterWrite_od]; simp only [odPut, hod]

/-- A request that changes nothing but the pending change. -/
theorem commits_modeRequest_change {eff : Nat} {change : Option ModeChange}
    (h : WriteAccepted q ⟨0x1200, 2, 0⟩ 2 (beOct 1 m.code) u s)
    (hask : modeAsk u.role (beOct 1 m.code) (touch q.session s) =
      ({ touch q.session s with ctl := { s.ctl with change := change } }, effA eff)) :
    Commits q (.modeRequestWrite q m.code) eff [.ctl, .od] s
      (fun r => r.ctl = { s.ctl with change := change } ∧ r.od = (odPut 0x1200 2 0 (beOct 1 m.code) s).od) :=
  commits_modeRequest h hask (by decide) (fun p hp => by
    cases p with
    | srv | ctl | od => exact absurd (by decide) hp
    | _ => rfl) rfl rfl

theorem refuses_modeRequest {x d : Nat} (h : WriteAccepted q ⟨0x1200, 2, 0⟩ 2 (beOct 1 m.code) u s) (hx : x ≠ stOk)
    (hask : modeAsk u.role (beOct 1 m.code) (touch q.session s) = (touch q.session s, errA x d)) :
    Refuses q (.modeRequestWrite q m.code) (errA x d) s := by
  have hexec := exec_modeRequestWrite h
  rw [modeCommit_of_refused hx hask] at hexec
  exact refuses_of_afterWrite hexec

/-! ### REBOOT (R38) -/

/-- Persisting the whole log marks every entry of the ring. -/
theorem persistAll_ring (s : State) : (persistAll s).shd.ring = s.shd.ring.map (fun e => { e with persisted := true }) := by
  simp only [persistAll, persistWhere, Bool.and_true]
  refine List.map_congr_left fun e _ => ?_
  cases h : e.persisted
  · rfl
  · exact congrArg (fun p => { e with persisted := p }) h

theorem exec_rebootWrite {value : Nat} (h : WriteAccepted q ⟨0x1200, 8, 0⟩ 2 (beOct 1 value) u s) :
    exec (.rebootWrite q value) s = .next (afterWrite q s (rebootCommit (touch q.session s))) := by
  have hw := write_accepted_owned (odPage 0x12)[7] h rfl (by decide) rfl (by decide) _ rfl
  exact congrArg (fun t => Host.Outcome.next (conclude s t)) hw

/-- A transition that ends service or takes effect at a slot meets no schedule. -/
theorem modeAsk_of_unscheduled {k : ChangeKind} (h : k = .endOfService ∨ k = .atSlot) (hm : m ≠ s.ctl.mode)
    (hnone : s.ctl.change = none) {role : Nat} (hk : changeKind s.ctl.mode m role = some k) :
    modeAsk role (beOct 1 m.code) s = askedBy k m s :=
  modeAsk_of_kind hm hnone hk fun hwork => by
    rw [not_working_of_changeKind hk h] at hwork; exact absurd hwork (by decide)

/-- Settles O21: what each request asks for by its kind, committed by `commits_modeRequest` or refused. -/
theorem modeWritesCommit : Obligations.ModeWritesCommit := by
  unfold Obligations.ModeWritesCommit
  refine ⟨?request, ?cancel, ?reboot⟩
  case request =>
    intro q u m s h hm c asked
    refine ⟨fun p hp => ?pending, fun hnone => ⟨?announced, ?mismatch, ?endOfService, ?atSlot, ?atOnce, ?ready, ?waits⟩⟩
    case pending =>
      have hask := modeAsk_pending (s := touch q.session s) u.role hm hp
      split
      · next ht =>
        rw [if_pos ht] at hask
        exact commits_modeRequest h hask (by decide) (fun p hp => by
          cases p with
          | srv | od => exact absurd (by decide) hp
          | _ => rfl) (by rw [← hp]; rfl) rfl
      · next ht =>
        rw [if_neg ht] at hask
        exact refuses_modeRequest h (by decide) hask
    case announced =>
      intro e t hk hfit he ht
      have hask := modeAsk_of_kind (s := touch q.session s) hm hnone hk fun _ => hfit
      exact commits_modeRequest h (hask.trans (announceChange_eq he ht)) (by decide) (fun p hp => by
        cases p with
        | srv | ctl | nod | od => exact absurd (by decide) hp
        | _ => rfl) rfl rfl
    case mismatch =>
      exact fun o hwork hkind hfit => refuses_modeRequest h (by decide) (modeAsk_mismatch hm hnone hwork hkind hfit)
    case endOfService =>
      intro e hk he
      have hask := modeAsk_of_unscheduled (s := touch q.session s) (.inl rfl) hm hnone hk
      subst he
      exact commits_modeRequest_change h (hask.trans (endService_eq m _))
    case atSlot =>
      intro e hk hrun he
      rw [← nextSuperframeE_touch q.session, ← nextSlotE_touch q.session] at he
      have hask := modeAsk_of_unscheduled (s := touch q.session s) (.inr rfl) hm hnone hk
      exact commits_modeRequest_change h (hask.trans (slotChange_of_running (s := touch q.session s) hrun he))
    case atOnce =>
      intro hk hrun
      have hask := modeAsk_of_unscheduled (s := touch q.session s) (.inr rfl) hm hnone hk
      have hat := slotChange_of_not_running (s := touch q.session s) hrun hnone (not_working_of_changeKind hk (.inr rfl))
      rw [exec_modeRequestWrite h, modeCommit_of_ok (hask.trans hat)]
    case ready =>
      intro e t hk hfit hready he ht
      have hask := modeAsk_of_kind (s := touch q.session s) hm hnone hk fun _ => hfit
      exact commits_modeRequest_change h (hask.trans (enterWorking_of_ready hnone hready he ht))
    case waits =>
      intro hk hfit hready
      have hask := modeAsk_of_kind (s := touch q.session s) hm hnone hk fun _ => hfit
      exact commits_modeRequest_change h (hask.trans (enterWorking_of_not_ready hready))
  case cancel =>
    intro q u p s h hp
    have hask := modeAsk_current (s := touch q.session s) u.role
    refine ⟨fun hc => ?_, fun hc => ?_⟩
    · exact commits_modeRequest_change h (hask.trans (by simp only [cancelChange, touch_ctl, hp, hc]; rfl))
    · exact refuses_modeRequest h (by decide) (hask.trans (by simp only [cancelChange, touch_ctl, hp, hc, if_true]))
  case reboot =>
    intro q value u s h
    refine commits_of_afterWrite (exec_rebootWrite h) (fun p hp => ?_) ⟨?_, ?_⟩
    · cases p with
      | srv | ctl | shd => exact absurd (by decide) hp
      | _ => rfl
    · rw [afterWrite_ctl]; rfl
    · rw [afterWrite_shd]; exact persistAll_ring s

end Sys2Proof.Machine
end

section
/-!
PROOFS. What entering a mode sets, and what dropping the domains leaves (R31, R36, R39, R93, R449).
-/

namespace Sys2Proof.Machine

/-! ### What a part of the state needs for a fault, or a reset of receivers, to leave it alone -/

section Keeps

variable {β : Type} (p : State → β) (hshd : ∀ t x, p { t with shd := x } = p t) (hod : ∀ t x, p { t with od := x } = p t)
  (hpwr : ∀ t x, p { t with pwr := x } = p t)

include hshd in
theorem dropL2s_keeps (s : State) : p (dropL2s s) = p s := by
  unfold dropL2s
  exact (foldl_keeps p _ (fun t _ => hshd t _) _ _).trans (hshd s _)

include hshd in
theorem demand_keeps (d : DueStep) (s : State) : p (demand d s) = p s := by
  unfold demand
  split
  · exact hshd s _
  · rfl

include hshd hpwr in
theorem escalateL4_keeps (fn inst : Nat) (s : State) : p (escalateL4 fn inst s) = p s := by
  unfold escalateL4
  split
  · exact (hshd _ _).trans ((hshd _ _).trans (hshd s _))
  · split
    · rw [dropL2s_keeps p hshd, demand_keeps p hshd]
      split
      · exact hpwr s _
      · rfl
    · exact (hshd _ _).trans (hshd s _)

include hshd hpwr in
theorem escalate_keeps (fn inst : Nat) (s : State) : p (escalate fn inst s) = p s := by
  unfold escalate
  dsimp only
  split
  · exact escalateL4_keeps p hshd hpwr fn inst s
  · split
    · rw [dropL2s_keeps p hshd, demand_keeps p hshd]
      split
      · exact hshd s _
      · rfl
    · exact (hshd _ _).trans (hshd s _)

include hshd hod in
theorem doL2_keeps {fn inst : Nat} (hl2 : ∀ t, p (l2Start fn inst t) = p t) (s : State) : p (doL2 fn inst s) = p s := by
  unfold doL2
  rw [hl2]
  refine (hod _ _).trans ?_
  split
  · rfl
  · exact hshd s _

include hshd hod hpwr in
theorem ladder_keeps {fn inst : Nat} (hl2 : ∀ t, p (l2Start fn inst t) = p t) (s : State) : p (ladder fn inst s) = p s := by
  unfold ladder
  dsimp only
  split
  · split
    · split
      · rw [escalate_keeps p hshd hpwr, doL2_keeps p hshd hod hl2]; exact hshd s _
      · rw [doL2_keeps p hshd hod hl2]; exact hshd s _
    · exact escalate_keeps p hshd hpwr fn inst s
  · exact escalate_keeps p hshd hpwr fn inst s

include hshd hod hpwr in
/-- A fault touches Shed, the counters and the L4 history in backup memory, and whatever the start of its function's L2 does (R421). -/
theorem fault_keeps {fn inst : Nat} (hl2 : ∀ t, p (l2Start fn inst t) = p t) (s : State) : p (fault fn inst s) = p s := by
  unfold fault
  dsimp only
  split
  · split
    · exact (hod _ _).trans (hshd s _)
    · exact ladder_keeps p hshd hod hpwr hl2 s
  · rfl

include hshd hod hpwr in
/-- The initial training touches the RF paths, Primer, RF_CAL_LAST and the free values, and what a fault of an RF path does (R189, R193). -/
theorem trainFb_keeps (hrf : ∀ t x, p { t with rf := x } = p t) (hpri : ∀ t x, p { t with pri := x } = p t)
    (hfree : ∀ t x, p { t with free := x } = p t) (s : State) : p (trainFb s) = p s := by
  have hresult (path : Nat) (ok : Bool) (t : State) : p (itemResult 4 path ok t) = p t := by
    unfold itemResult
    dsimp only
    split
    · exact (hpri _ _).trans ((hod _ _).trans (hrf t _))
    · have hlogged {i : CalItem} : p (logEvent 0x21 2 [BitVec.ofNat 8 4, BitVec.ofNat 8 path] (setItem i t)) = p t :=
        (hshd _ _).trans (hrf t _)
      split
      · rw [fault_keeps p hshd hod hpwr fun _ => rfl]
        exact (hrf _ _).trans hlogged
      · exact hlogged
  unfold trainFb
  refine foldl_keeps p _ (fun t b => ?_) _ s
  dsimp only
  split
  · exact (hresult _ _ _).trans (hfree t _)
  · rfl

end Keeps

section Flush

variable {β : Type} (p : State → β) (hhost : ∀ t c g, p { t with host := { t.host with chans := c, pages := g } } = p t)
  (hout : ∀ t x, p { t with out := x } = p t)
  (hcount : ∀ t no v, no < 25 → p (odPut 0xA500 1 no v t) = p t)

include hhost hout hcount in
/-- A flush as the other end sees it touches the channels, the doorbell's message and its MB_COUNT row. -/
theorem noticeAbort_keeps (other : Nat) {no : Nat} (hno : no < 25) (s : State) : p (noticeAbort other no s) = p s := by
  refine (hcount _ _ _ hno).trans ?_
  unfold setDoorbell
  dsimp only
  split
  · exact (hout _ _).trans (hhost s _ _)
  · exact hhost s _ _

include hhost hout hcount in
theorem flushPair_keeps (r o : Nat) (s : State) : p (flushPair r o s) = p s := by
  unfold flushPair
  split
  · rfl
  · next h =>
    simp only [not_not, chanExists, Bool.and_eq_true, decide_eq_true_eq] at h
    obtain ⟨⟨⟨ho, hr⟩, -⟩, -⟩ := h
    have hro : chanNo r o < 25 := by unfold chanNo; omega
    have hor : chanNo o r < 25 := by unfold chanNo; omega
    dsimp only
    split
    · rw [noticeAbort_keeps p hhost hout hcount o hro, noticeAbort_keeps p hhost hout hcount o hor]
      exact (hhost _ _ _).trans (hhost s _ _)
    · exact (hhost _ _ _).trans (hhost s _ _)

include hhost hout hcount in
/-- A reset of receivers touches the channels, the doorbells' messages and the mailbox counters (R449, R450). -/
theorem resetReceivers_keeps (rs : List Nat) (s : State) : p (resetReceivers rs s) = p s := by
  have hflush (t : State) (r : Nat) : p ([0, 1, 2, 3, 4].foldl (fun s o => flushPair r o s) t) = p t :=
    foldl_keeps p _ (fun t o => flushPair_keeps p hhost hout hcount r o t) _ t
  unfold resetReceivers
  exact (foldl_keeps p _ hflush rs _).trans (foldl_keeps p _ (fun t _ => hhost t _ _) rs s)

end Flush

@[simp] theorem trainFb_ctl (s : State) : (trainFb s).ctl = s.ctl :=
  trainFb_keeps State.ctl (fun _ _ => rfl) (fun _ _ => rfl) (fun _ _ => rfl) (fun _ _ => rfl) (fun _ _ => rfl) (fun _ _ => rfl) s

@[simp] theorem trainFb_srv (s : State) : (trainFb s).srv = s.srv :=
  trainFb_keeps State.srv (fun _ _ => rfl) (fun _ _ => rfl) (fun _ _ => rfl) (fun _ _ => rfl) (fun _ _ => rfl) (fun _ _ => rfl) s

@[simp] theorem resetReceivers_clk (rs : List Nat) (s : State) : (resetReceivers rs s).clk = s.clk :=
  resetReceivers_keeps State.clk (fun _ _ _ => rfl) (fun _ _ => rfl) (fun _ _ _ _ => rfl) rs s

@[simp] theorem resetReceivers_chip (rs : List Nat) (s : State) : (resetReceivers rs s).chip = s.chip :=
  resetReceivers_keeps State.chip (fun _ _ _ => rfl) (fun _ _ => rfl) (fun _ _ _ _ => rfl) rs s

/-- A key of the object store names one object: the index is what lies above the subindex and the row. -/
theorem odKey_ne_of_idx {i b r i' b' r' : Nat} (hi : i ≠ i') (hb : b < 256) (hr : r < 2 ^ 32) (hb' : b' < 256) (hr' : r' < 2 ^ 32) :
    odKey i b r ≠ odKey i' b' r' := by
  unfold odKey
  omega

/-- A reset of receivers counts in MB_COUNT alone. -/
theorem odGet_resetReceivers {i b r : Nat} (hi : i ≠ 0xA500) (hb : b < 256) (hr : r < 2 ^ 32) (rs : List Nat) (s : State) :
    odGet (resetReceivers rs s) i b r = odGet s i b r :=
  resetReceivers_keeps (fun t => odGet t i b r) (fun _ _ _ => rfl) (fun _ _ => rfl)
    (fun t no v hno => odGet_odPut_ne t _ _ _ _ _ _ v (odKey_ne_of_idx hi.symm (by decide) (by omega) hb hr)) rs s

/-! ### Entering a mode (R31, R36, R39, R93) -/

variable {m : Mode} {s : State}

/-- Settling the slots may change what waits, and nothing else of the modes. -/
theorem settled_ctl (t : State) : ∃ c, (settleTrial (settleWaiting (settleSlots t))).ctl = { t.ctl with change := c } := by
  have hunsettle (t : State) : ∃ c, (unsettle t).ctl = { t.ctl with change := c } := by
    unfold unsettle
    split
    · split <;> exact ⟨_, rfl⟩
    · exact ⟨_, rfl⟩
  have hslots : ∃ c, (settleSlots t).ctl = { t.ctl with change := c } := by
    unfold settleSlots
    split
    · split <;> exact ⟨_, rfl⟩
    · split
      · exact ⟨_, rfl⟩
      · exact hunsettle (stopSlots t)
  have hwaiting (t : State) : ∃ c, (settleWaiting t).ctl = { t.ctl with change := c } := by
    unfold settleWaiting
    split
    · split <;> exact ⟨_, rfl⟩
    · exact ⟨_, rfl⟩
  obtain ⟨c, hc⟩ := hwaiting (settleSlots t)
  obtain ⟨c', hc'⟩ := hslots
  exact ⟨c, by rw [settleTrial_ctl, hc, hc']⟩

@[simp] theorem loseDomains_ctl (s : State) : (loseDomains s).ctl = s.ctl := by
  unfold loseDomains; dsimp only; split <;> split <;> rfl

@[simp] theorem loseDomains_srv (s : State) : (loseDomains s).srv = s.srv := by
  unfold loseDomains; dsimp only; split <;> split <;> rfl

@[simp] theorem moveServer_ctl (m : Mode) (old s : State) : (moveServer m old s).ctl = s.ctl := by
  unfold moveServer
  split
  · exact stopServer_ctl s
  · rfl

/-- Where the server moves into or out of M2 it starts over. -/
theorem moveServer_srv_of_moves {old : State} (hup : s.srv.up = true) (hcode : 2 ≤ old.ctl.mode.code)
    (hmove : (m = .m2 ∧ old.ctl.mode ≠ .m2) ∨ (m ≠ .m2 ∧ old.ctl.mode = .m2)) :
    (moveServer m old s).srv = (startServer (stopServer s)).srv := by
  have hne : ((m == .m2) != (old.ctl.mode == .m2)) = true := by
    rcases hmove with ⟨h, h'⟩ | ⟨h, h'⟩ <;> simp [h, h']
  simp only [moveServer, hup, hcode, hne, decide_true, Bool.and_self, if_true]

/-- What a mode takes as its own, before the emission and the slots are settled: M1 sets its power-down ahead and stops the server, any
other mode powers its domains. -/
def takeMode (m : Mode) (s : State) : State :=
  let s0 := if s.ctl.mode = .m4 ∧ m ≠ .m4 then leaveSurvey s else s
  let s1 := { s0 with ctl := { s0.ctl with mode := m, work := if m.working then m else s0.ctl.work } }
  if m = .m1 then stopServer { s1 with ctl := { s1.ctl with powerDownAt := some (s1.clk.elapsed + 100 * msCycles) } }
  else moveServer m s (loseDomains (powerSynths { s1 with ctl := { s1.ctl with domains := m.domains s.chip.fPackage } }))

theorem enterMode_eq (m : Mode) (s : State) : enterMode m s =
    settleTrial (settleWaiting (settleSlots (if m.emits then trainFb (takeMode m s) else silence (takeMode m s)))) := rfl

/-- Entering a mode leaves the modes as the mode takes them, but for what waits. -/
theorem enterMode_ctl (m : Mode) (s : State) : ∃ c, (enterMode m s).ctl = { (takeMode m s).ctl with change := c } := by
  obtain ⟨c, hc⟩ := settled_ctl (if m.emits then trainFb (takeMode m s) else silence (takeMode m s))
  refine ⟨c, ?_⟩
  rw [enterMode_eq, hc]
  split
  · rw [trainFb_ctl]
  · rfl

@[simp] theorem enterMode_srv (m : Mode) (s : State) : (enterMode m s).srv = (takeMode m s).srv := by
  rw [enterMode_eq, settleTrial_srv, settleWaiting_srv, settleSlots_srv]
  split
  · exact trainFb_srv _
  · rfl

/-- The survey that M4's end closes is Palette's alone. -/
theorem surveyed_eq (m : Mode) (s : State) :
    ∃ x, (if s.ctl.mode = .m4 ∧ m ≠ .m4 then leaveSurvey s else s) = { s with pal := x } := by
  split
  · unfold leaveSurvey; dsimp only; split <;> exact ⟨_, rfl⟩
  · exact ⟨_, rfl⟩

theorem takeMode_m1 (s : State) : (takeMode .m1 s).ctl = { s.ctl with mode := .m1, powerDownAt := some (s.clk.elapsed + 100 * msCycles) } ∧
    (takeMode .m1 s).srv.up = false := by
  obtain ⟨x, hx⟩ := surveyed_eq .m1 s
  unfold takeMode
  rw [hx]
  exact ⟨stopServer_ctl _, rfl⟩

theorem takeMode_ctl_of_ne (hm : m ≠ .m1) :
    (takeMode m s).ctl = { s.ctl with mode := m, work := if m.working then m else s.ctl.work, domains := m.domains s.chip.fPackage } := by
  obtain ⟨x, hx⟩ := surveyed_eq m s
  unfold takeMode
  rw [hx]
  simp only [hm, if_false, moveServer_ctl, loseDomains_ctl, powerSynths_ctl]

theorem takeMode_srv_of_moves (hm : m ≠ .m1) (hup : s.srv.up = true) (hcode : 2 ≤ s.ctl.mode.code)
    (hmove : (m = .m2 ∧ s.ctl.mode ≠ .m2) ∨ (m ≠ .m2 ∧ s.ctl.mode = .m2)) :
    (takeMode m s).srv.up = true ∧ (takeMode m s).srv.txns = [] ∧ (takeMode m s).srv.blocks = [] ∧ (takeMode m s).srv.subs = [] := by
  obtain ⟨x, hx⟩ := surveyed_eq m s
  unfold takeMode
  rw [hx]
  simp only [hm, if_false]
  rw [moveServer_srv_of_moves (by simpa using hup) hcode hmove]
  exact ⟨rfl, rfl, rfl, rfl⟩

/-! ### Dropping the domains (R31, R441, R449) -/

/-- A channel between receivers other than Shed is as new once the interfaces went off. -/
theorem hostOff_chans {h : HostIf} {i : Nat} {c : Chan} (hc : (hostOff h).chans[i]? = some c) (hi : i / 5 ≠ 4) (hi' : i % 5 ≠ 4) :
    c = {} := by
  simp only [hostOff, List.getElem?_mapIdx, hi, hi', or_self, if_false, Option.map_eq_some_iff] at hc
  obtain ⟨_, -, rfl⟩ := hc
  rfl

/-- So is the page of a receiver other than Shed. -/
theorem hostOff_pages {h : HostIf} {i : Nat} {p : MbPage} (hp : (hostOff h).pages[i]? = some p) (hi : i ≠ 4) : p = {} := by
  simp only [hostOff, List.getElem?_mapIdx, hi, if_false, Option.map_eq_some_iff] at hp
  obtain ⟨_, -, rfl⟩ := hp
  rfl

/-- The receivers that go off, as `dropDomains` resets them. -/
def receiversOff (s : State) : State := resetReceivers [0, 1, 2, 3] (feIdle (stopServer s))

theorem dropDomains_keeps (s : State) : (dropDomains s).clk = (receiversOff s).clk ∧ (dropDomains s).chip = (receiversOff s).chip ∧
    (dropDomains s).od = (receiversOff s).od := by
  unfold dropDomains receiversOff
  generalize resetReceivers [0, 1, 2, 3] (feIdle (stopServer s)) = t
  exact ⟨rfl, rfl, rfl⟩

/-- Dropping the domains changes no object but the mailbox counters. -/
theorem odGet_dropDomains {i b r : Nat} (hi : i ≠ 0xA500) (hb : b < 256) (hr : r < 2 ^ 32) (s : State) :
    odGet (dropDomains s) i b r = odGet s i b r := by
  obtain ⟨-, -, hod⟩ := dropDomains_keeps s
  have hoff : odGet (dropDomains s) i b r = odGet (receiversOff s) i b r := by
    simp only [odGet, hod]
  have hkeep : odGet (feIdle (stopServer s)) i b r = odGet s i b r := by
    simp only [odGet, feIdle_od, stopServer_od]
  exact hoff.trans ((odGet_resetReceivers hi hb hr _ _).trans hkeep)

@[simp] theorem dropDomains_clk (s : State) : (dropDomains s).clk = s.clk := by
  obtain ⟨hclk, -, -⟩ := dropDomains_keeps s
  rw [hclk, receiversOff, resetReceivers_clk, feIdle_clk, stopServer_clk]

@[simp] theorem dropDomains_chip (s : State) : (dropDomains s).chip = s.chip := by
  obtain ⟨-, hchip, -⟩ := dropDomains_keeps s
  rw [hchip, receiversOff, resetReceivers_chip, feIdle_chip, stopServer_chip]

/-- Settles O29: what a mode takes on its entry, and what the reset of the receivers and the loss of the domains leave. -/
theorem enteringAModeSetsItsDomains : Obligations.EnteringAModeSetsItsDomains := by
  unfold Obligations.EnteringAModeSetsItsDomains
  refine ⟨fun m s => ?entry, fun s => ?drop⟩
  case entry =>
    obtain ⟨c, hc⟩ := enterMode_ctl m s
    rw [hc, enterMode_srv]
    by_cases hm : m = .m1
    · subst hm
      obtain ⟨hctl, hup⟩ := takeMode_m1 s
      rw [hctl]
      exact ⟨rfl, fun h => absurd h (by decide), fun h => absurd rfl h, fun _ => ⟨rfl, hup⟩, fun _ _ h => absurd rfl h⟩
    · rw [takeMode_ctl_of_ne hm]
      exact ⟨rfl, fun hwork => if_pos hwork, fun _ => rfl, fun h => absurd h hm, fun hup hcode _ hmove => takeMode_srv_of_moves hm hup hcode hmove⟩
  case drop =>
    refine ⟨rfl, rfl, rfl, ?_, ?_, rfl, rfl, rfl, fun i b r hi hb hr => odGet_dropDomains hi hb hr s, dropDomains_clk s, dropDomains_chip s⟩
    · intro i c hc hi hi'
      rw [hostOff_chans hc hi hi']
      exact ⟨rfl, rfl, rfl⟩
    · intro i p hp hi
      rw [hostOff_pages hp hi]
      exact ⟨rfl, rfl⟩

end Sys2Proof.Machine
end

section
/-!
PROOFS. Frames in and out of the switch, its shapers and gates, and the packets that Canvas queues (R299, R318 to R330).
-/

namespace Sys2Proof.Machine

variable {s : State} {port : Nat}

/-! ### Frames received and selected (R299, R322) -/

theorem execEthFrameReceived_of_live (f : EthFrame) (hport : port < 2) (hup : ethUp s port = true) (hrun : trellisRuns s = true) :
    execEthFrameReceived port f s = done s (ethReceive port f s) := if_pos ⟨hport, hup, hrun⟩

/-- A frame with a bad FCS is counted at its port and in the switch, and goes no further. -/
theorem ethReceive_of_bad_fcs {f : EthFrame} (h : f.fcsOk = false) :
    ethReceive port f s = bump 0x6400 3 4 (bump 0xA100 4 (8 * port + 4) s) := by
  simp only [ethReceive, h, Bool.false_eq_true, not_false_eq_true, if_true]

theorem execEgressSelect_of_live (hport : port < 2) (hup : ethUp s port = true) :
    execEgressSelect port s = done s (egressSelect port (sendOwed s)) := if_pos ⟨hport, hup⟩

/-- The control queue's head goes before any class. -/
theorem egressSelect_of_ctrl {f : EgFrame} {l : List EgFrame} (h : (egPort (takeOutbox none s) port).ctrl = f :: l) :
    egressSelect port s = sendFrame port f (modEgPort port (fun p => { p with ctrl := l }) (takeOutbox none s)) := by
  simp only [egressSelect, h]

theorem egressSelect_of_no_ctrl (h : (egPort (takeOutbox none s) port).ctrl = []) :
    egressSelect port s = selectClass port 8 (trimHeads port (takeOutbox none s)) := by
  simp only [egressSelect, h]

/-! ### Gates and shapers (R325, R329) -/

theorem execGateEntryBoundary_of_runs (hport : port < 2) (hrun : gatesRun s port = true) :
    let g := (egPort s port).oper
    let s1 := advanceNs (nowNs s + (gateAt g.entries (gatePhase g (nowNs s)) 0).2) s
    execGateEntryBoundary port s = done s (modEgPort port (fun p => { p with entry := gateEntry g (nowNs s1) }) s1) :=
  if_pos ⟨hport, hrun⟩

/-- A shaper whose tokens do not reach its head frame's size has them when the time for the rest has passed. -/
theorem execShaperTokensRefilled_of_short {cls : Nat} {f : EgFrame} {l : List EgFrame} (hqueue : classQueue s port cls = f :: l)
    (hrate : 0 < odField s 0x6810 2 (8 * port + cls) 0 4) (hneed : shaperTokens s port cls < (f.len + 20) * octetUnits)
    (hburst : f.len + 20 ≤ odField s 0x6810 2 (8 * port + cls) 4 4) :
    let rate := odField s 0x6810 2 (8 * port + cls) 0 4
    execShaperTokensRefilled port cls s = done s
      (advanceElapsed (s.clk.elapsed + ((f.len + 20) * octetUnits - shaperTokens s port cls + rate - 1) / rate) s) := by
  have hopen : ¬ (odField s 0x6810 2 (8 * port + cls) 0 4 = 0 ∨ (f.len + 20) * octetUnits ≤ shaperTokens s port cls ∨
      odField s 0x6810 2 (8 * port + cls) 4 4 < f.len + 20) := by omega
  simp only [execShaperTokensRefilled, hqueue]
  exact if_neg hopen

/-! ### The downlink queues (R318, R319) -/

theorem execDlQueueFromCanvas_node (n : Nat) (payload : Octets) (yellow : Bool) (h : s.ctl.domains[4]? = some .on) :
    execDlQueueFromCanvas (some n) payload yellow s = done s (dlEnqueue n payload yellow false s) := if_pos h

theorem execDlQueueFromCanvas_group (payload : Octets) (yellow : Bool) (h : s.ctl.domains[4]? = some .on) :
    execDlQueueFromCanvas none payload yellow s = done s
      (if s.rid.group.length < (groupEnqueue payload yellow s).rid.group.length then wakeGroup (groupEnqueue payload yellow s)
       else groupEnqueue payload yellow s) := if_pos h

/-- Settles O43, clause by clause from what each command does where its premise stands. -/
theorem switchAndShapersRun : Obligations.SwitchAndShapersRun := by
  unfold Obligations.SwitchAndShapersRun
  refine ⟨?received, ?selected, ?gate, ?shaper, ?queued⟩
  case received =>
    exact fun port f s hport hup hrun => ⟨execEthFrameReceived_of_live f hport hup hrun, ethReceive_of_bad_fcs⟩
  case selected =>
    intro port s hport hup
    refine ⟨execEgressSelect_of_live hport hup, fun s1 h1 => ?_⟩
    rw [h1]
    exact ⟨fun f l => egressSelect_of_ctrl, egressSelect_of_no_ctrl⟩
  case gate =>
    intro port s hport hrun g s1 h1
    rw [h1]
    exact execGateEntryBoundary_of_runs hport hrun
  case shaper =>
    intro port cls f l s hqueue rate need hrate hneed hburst
    exact execShaperTokensRefilled_of_short hqueue hrate hneed hburst
  case queued =>
    exact fun payload yellow s h =>
      ⟨fun n => execDlQueueFromCanvas_node n payload yellow h, execDlQueueFromCanvas_group payload yellow h⟩

end Sys2Proof.Machine
end

section
/-!
PROOFS. The MAC path's frames and the timers of the nodes: supervision, wake-up, join, quarantine and the channel map (R180 to R254).
-/

namespace Sys2Proof.Machine

variable {s : State} {n : Nat}

theorem execCcmLaneFrame_of_cons {lane : Nat} {m : MacFrame} {rest : List MacFrame} (hlane : lane < 8) (hmac : s.nod.mac = m :: rest) :
    execCcmLaneFrame lane s = done s (laneFrame m { s with nod := { s.nod with mac := rest } }) := by
  simp only [execCcmLaneFrame, hmac, hlane, if_true]

/-- A node not heard for its supervision superframes is lost as the window of the next beacon opens (R212). -/
theorem execNodeSupervisionExpiry_of_unheard {a : Nat} (hnext : s.eas.next = some a) (hbeacon : beaconSlot s a = true)
    (hsuper : supervised (nodeRec s n) = true) (hlate : sfIndex s (nodeRec s n).lastRx + (nodeRec s n).supSf < sfIndex s a) :
    execNodeSupervisionExpiry n s = done s (declareLost n (sfIndex s a) (advanceNs (startNs s a - 2000000).toNat s)) := by
  simp only [execNodeSupervisionExpiry, hnext]
  exact if_pos ⟨hbeacon, hsuper, hlate⟩

/-! ### A sync confirm that was missed (R237, R238) -/

section Followup

variable {a d : Nat} (hfollow : (nodeRec s n).followup = some (a, d)) (hdue : a + d + 2 ≤ s.eas.asn)

/-- The state from which a missed confirm is acted on: its time has passed, and it is no longer awaited. -/
def confirmMissed (n a d : Nat) (s : State) : State :=
  modNode n (fun r => { r with followup := none }) (advanceNs (startNs s (a + d + 3)).toNat s)

include hfollow hdue in
theorem execWakeFollowupMissed_of_due : execWakeFollowupMissed n s =
    if (nodeRec s n).st ≠ .desync then done s (confirmMissed n a d s)
    else if odNat s 0x5001 4 < (nodeRec s n).wakeTries + 1 then
      done s (declareLost n (sfIndex (confirmMissed n a d s) (confirmMissed n a d s).eas.asn)
        (nodeLog 0x83 n (linkEvent 9 (confirmMissed n a d s))))
    else done s (wakeNode 0 n (modNode n (fun r => { r with wakeTries := r.wakeTries + 1 }) (confirmMissed n a d s))) := by
  simp only [execWakeFollowupMissed, hfollow]
  exact if_neg (by omega)

include hfollow hdue in
theorem execWakeFollowupMissed_of_synced (hst : (nodeRec s n).st ≠ .desync) :
    execWakeFollowupMissed n s = done s (confirmMissed n a d s) := by
  rw [execWakeFollowupMissed_of_due hfollow hdue, if_pos hst]

include hfollow hdue in
theorem execWakeFollowupMissed_of_retry (hst : (nodeRec s n).st = .desync) (htries : (nodeRec s n).wakeTries + 1 ≤ odNat s 0x5001 4) :
    execWakeFollowupMissed n s =
      done s (wakeNode 0 n (modNode n (fun r => { r with wakeTries := r.wakeTries + 1 }) (confirmMissed n a d s))) := by
  rw [execWakeFollowupMissed_of_due hfollow hdue, if_neg (not_not.2 hst), if_neg (by omega)]

include hfollow hdue in
theorem execWakeFollowupMissed_of_last (hst : (nodeRec s n).st = .desync) (htries : odNat s 0x5001 4 < (nodeRec s n).wakeTries + 1) :
    execWakeFollowupMissed n s = done s (declareLost n (sfIndex (confirmMissed n a d s) (confirmMissed n a d s).eas.asn)
      (nodeLog 0x83 n (linkEvent 9 (confirmMissed n a d s)))) := by
  rw [execWakeFollowupMissed_of_due hfollow hdue, if_neg (not_not.2 hst), if_pos htries]

end Followup

/-! ### Joins, quarantines and maps (R214, R246, R254) -/

theorem execJoinDirectiveExpiry_of_late {j : JoinDir} (hjoin : s.nod.joins.find? (fun j => j.node == n) = some j)
    (hlate : j.sf + 4 < sfIndex s ((s.eas.next).getD s.eas.asn)) :
    let s1 := advanceNs ((j.sf + 5) * 25600000000) s
    execJoinDirectiveExpiry n s =
      done s { s1 with nod := { s1.nod with joins := s1.nod.joins.filter (fun j => j.node != n) } } := by
  simp only [execJoinDirectiveExpiry, hjoin]
  exact if_neg (by omega)

/-- At its quarantine's end a lost node's rows are free. -/
theorem execQuarantineEnd_of_lost (hst : (nodeRec s n).st = .lost) (hquar : (nodeRec s n).quarantine = true)
    (hslot : atSlot s (nodeRec s n).qend = true) :
    let s1 := modNode n (fun r => { r with quarantine := false }) (advanceToSlot (nodeRec s n).qend s)
    let s2 := (quarantinedRows s1 n).foldl (fun s row => odPut 0x4013 1 row [0xFF, 0xFF, 0xFF, 0xFF] s) s1
    execQuarantineEnd n s = done s (if quarantinedRows s1 n = [] then s2 else { s2 with hed := { s2.hed with dirty := true } }) :=
  if_pos ⟨hst, hquar, hslot⟩

theorem execMapChangeEffective_of_due {pan : Nat} {m : MapChange} (hmap : s.eas.maps.find? (fun m => m.pan == pan) = some m)
    (hslot : atSlot s m.eff = true) : execMapChangeEffective pan s = done s (applyMap m (advanceToSlot m.eff s)) := by
  simp only [execMapChangeEffective, hmap, hslot, if_true]

/-- Settles O40, clause by clause from what each command does where its premise stands. -/
theorem nodeTimersRun : Obligations.NodeTimersRun := by
  unfold Obligations.NodeTimersRun
  refine ⟨?lane, ?release, ?supervision, ?followup, ?join, ?quarantine, ?map⟩
  case lane => exact fun lane m rest s => execCcmLaneFrame_of_cons
  case release => exact fun n s => rfl
  case supervision => exact fun n a s => execNodeSupervisionExpiry_of_unheard
  case followup =>
    intro n a d s hfollow hdue s1 h1
    rw [h1]
    exact ⟨execWakeFollowupMissed_of_synced hfollow hdue, execWakeFollowupMissed_of_retry hfollow hdue,
      execWakeFollowupMissed_of_last hfollow hdue⟩
  case join =>
    intro n j s hjoin hlate s1 h1
    rw [h1]
    exact execJoinDirectiveExpiry_of_late hjoin hlate
  case quarantine =>
    intro n s hst hquar hslot s1 h1 s2 h2
    rw [h2, h1]
    exact execQuarantineEnd_of_lost hst hquar hslot
  case map => exact fun pan m s => execMapChangeEffective_of_due

end Sys2Proof.Machine
end

section
/-!
PROOFS. The modes: what reset leaves, whom a role may send where, and where an accepted change comes about (R30, R36 to R47).
-/

namespace Sys2Proof.Machine

/-! ### What reset leaves -/

theorem chan_reset {snd rcv : Nat} (hs : snd < 5) (hr : rcv < 5) : chan State.reset snd rcv = {} := by
  have hno : chanNo snd rcv < 25 := by unfold chanNo; omega
  have hc : State.reset.host.chans[chanNo snd rcv]? = some {} := List.getElem?_replicate_of_lt hno
  rw [chan, hc, Option.getD_some]

theorem page_reset {r : Nat} (hr : r < 5) : page State.reset r = { inReset := (page State.reset r).inReset } := by
  match r, hr with
  | 0, _ | 1, _ | 2, _ | 3, _ | 4, _ => rfl

/-- Settles O6: the channels and the pages by number, and the rest as `State.reset` writes it. -/
theorem resetRegisterValues : Obligations.ResetRegisterValues := by
  unfold Obligations.ResetRegisterValues
  refine ⟨rfl, rfl, rfl, rfl, rfl, rfl, fun r hr d hd => ?channels, fun r hr => ?pages, rfl, rfl, rfl, rfl, rfl, rfl, rfl, rfl, rfl⟩
  case channels =>
    rw [chan_reset hr hd]
    exact ⟨rfl, rfl, rfl, rfl⟩
  case pages =>
    rw [page_reset hr]
    exact ⟨rfl, rfl⟩

/-- Settles O22: role by role, over the twelve modes. -/
theorem rolesAndTargets : Obligations.RolesAndTargets := by
  unfold Obligations.RolesAndTargets
  refine ⟨?operator, ?installer, ?peer, ?vendor, ?gesso⟩
  all_goals exact fun m => by cases m <;> rfl

/-! ### Where a change comes about (R38 to R47) -/

variable {s : State} {c : ModeChange}

theorem execModeChangeEffective_of_due (hchange : s.ctl.change = some c)
    (hkind : (c.kind = .announced ∧ c.announced = true) ∨ c.kind = .atSlot) (hslot : atSlot s c.eff = true) :
    execModeChangeEffective s = done s (takeChange c (advanceToSlot c.eff s)) := by
  simp only [execModeChangeEffective, hchange]
  exact if_pos ⟨hkind, hslot⟩

/-- A change that no beacon announced is dropped at its slot (R44). -/
theorem execModeChangeAbandon_of_silent (hchange : s.ctl.change = some c) (hkind : c.kind = .announced) (hsilent : c.announced = false)
    (hslot : atSlot s c.eff = true) : execModeChangeAbandon s =
      done s (logEvent 0x2D 1 [BitVec.ofNat 8 c.target.code, 0] { s with ctl := { s.ctl with change := none } }) := by
  have hdrop : dropChange 0 s = logDropped c.target 0 { s with ctl := { s.ctl with change := none } } := by
    simp only [dropChange, hchange]
  simp only [execModeChangeAbandon, hchange, hkind, hsilent, hslot, Bool.false_eq_true, not_false_eq_true, and_self, if_true, hdrop]
  rfl

theorem execEndOfServiceComplete_of_served (hchange : s.ctl.change = some c) (hkind : c.kind = .endOfService)
    (hslot : atSlot s c.eff = true) : execEndOfServiceComplete s = done s (takeChange c (advanceToSlot c.eff s)) := by
  simp only [execEndOfServiceComplete, hchange]
  exact if_pos ⟨hkind, hslot⟩

theorem execM1PowerDown_of_set {t : Nat} (hset : s.ctl.powerDownAt = some t) (hmode : s.ctl.mode = .m1) :
    execM1PowerDown s = done s (dropDomains s) := by
  simp only [execM1PowerDown, hset, hmode, if_true]

/-- A reboot drops the domains at its instant, and the boot begins 100 ms on (R38). -/
theorem execRebootAssert_of_set {t : Nat} (hset : s.ctl.rebootAt = some t) :
    let s1 := dropDomains (advanceElapsed t s)
    execRebootAssert s = done s (beginBoot 6 (advanceElapsed (s1.clk.elapsed + 100 * msCycles) s1)) := by
  simp only [execRebootAssert, hset]

/-- Settles O28, clause by clause from what each command does where its premise stands. -/
theorem modeChangesComplete : Obligations.ModeChangesComplete := by
  unfold Obligations.ModeChangesComplete
  refine ⟨?effective, ?abandon, ?endOfService, ?powerDown, ?reboot⟩
  case effective => exact fun c s => execModeChangeEffective_of_due
  case abandon => exact fun c s => execModeChangeAbandon_of_silent
  case endOfService => exact fun c s => execEndOfServiceComplete_of_served
  case powerDown => exact fun t s => execM1PowerDown_of_set
  case reboot =>
    intro t s hset s1 h1
    rw [h1]
    exact execRebootAssert_of_set hset

end Sys2Proof.Machine
end

section
/-!
PROOFS. Boots, warm resets and power cycles, and what ends them (R390 to R426).
-/

namespace Sys2Proof.Machine

variable {s : State}

/-! ### Boots and warm resets (R395, R422, R424) -/

theorem execColdBoot_of_booting {cause : Nat} (a b : BankVerdict) (hmode : s.ctl.mode = .m1) (hboot : s.shd.booting = some cause) :
    execColdBoot a b s = done s (coldBoot cause ((s.shd.cycleFor.map (·.1)).getD 0) a b s) := by
  simp only [execColdBoot, hmode, hboot]

theorem execWarmResetAssert_of_due {d : DueStep} (a b : BankVerdict) (hdue : s.shd.due = some d) (hstep : d.step = 3)
    (hcode : 2 ≤ s.ctl.mode.code) : execWarmResetAssert a b s = done s (warmMode (warmDecide a b
      (resetCause (if d.cause = 6 then 6 else 1) d.fn (assertWarm d.fn d.inst (advanceElapsed d.at_ s))))) := by
  simp only [execWarmResetAssert, hdue]
  exact if_pos ⟨hstep, hcode⟩

theorem execEaselRejoin_of_warm {w : Warm} (hwarm : s.shd.warm = some w) (heasel : w.easel = false) :
    execEaselRejoin s = done s (easelBack w s) := by
  simp only [execEaselRejoin, hwarm, heasel, Bool.false_eq_true, if_false]

theorem execEaselRejoin_of_restarting (hwarm : s.shd.warm = none) (hrestart : s.eas.restarting = true) :
    execEaselRejoin s = done s (easelRestarted s) := by
  simp only [execEaselRejoin, hwarm, hrestart, if_true]

/-- Once Easel has rejoined, Canvas serves again, in M2 with the domains as they are. -/
theorem execCanvasServiceResume_of_m2 {w : Warm} (hwarm : s.shd.warm = some w) (heasel : w.easel = true) (hmode : s.ctl.mode = .m2) :
    execCanvasServiceResume s = done s (speak (sendHeartbeat (startServer
      { s with shd := { s.shd with warm := none }, hed := { s.hed with heardAt := s.clk.elapsed } }))) := by
  simp only [execCanvasServiceResume, hwarm, heasel, hmode, if_true]

/-- In any other mode Canvas's receiver and the mode's domains come back first. -/
theorem execCanvasServiceResume_of_not_m2 {w : Warm} (hwarm : s.shd.warm = some w) (heasel : w.easel = true) (hmode : s.ctl.mode ≠ .m2) :
    let s1 := releaseReceiver 2 { s with ctl := { s.ctl with domains := s.ctl.mode.domains s.chip.fPackage } }
    execCanvasServiceResume s = done s (speak (sendHeartbeat (startServer
      { s1 with shd := { s1.shd with warm := none }, hed := { s1.hed with heardAt := s1.clk.elapsed } }))) := by
  simp only [execCanvasServiceResume, hwarm, heasel, hmode, if_true, if_false]

/-! ### Power cycles and the thermal trip (R408, R422, R425) -/

theorem execPowerCycle_of_due {d : DueStep} (hdue : s.shd.due = some d) (hstep : d.step = 4) :
    execPowerCycle s = done s (powerCycle d.fn d.inst d.cause (dropL2s (advanceElapsed d.at_ s))) := by
  simp only [execPowerCycle, hdue, hstep, if_true]

/-- A cycle that the supervisor does not make within 1 s falls back to a boot, unless heat holds the unit. -/
theorem execPwrCycleFallback_of_asked {t : Nat} {f : Nat × Nat × Nat} (huntil : s.shd.cycleUntil = some t) (hfor : s.shd.cycleFor = some f) :
    let s1 := dropDomains (advanceElapsed (t + secCycles) s)
    let s2 := advanceElapsed (s1.clk.elapsed + 100 * msCycles) { s1 with shd := { s1.shd with cycleUntil := none } }
    execPwrCycleFallback s = done s (if s2.shd.thermalHold then s2 else beginBoot f.2.2 s2) := by
  simp only [execPwrCycleFallback, huntil, hfor]

theorem execRecoverRequestAssert_of_requested {d : DueStep} (hdue : s.shd.due = some d) (hcause : d.cause = 6) :
    let s1 := advanceElapsed d.at_ s
    execRecoverRequestAssert s = done s (dropL2s { s1 with shd := { s1.shd with due := some { d with at_ := s1.clk.elapsed } } }) := by
  simp only [execRecoverRequestAssert, hdue]
  exact if_pos hcause

theorem execThermalTrip_of_hot {sensor : Nat} {reading : Int} (hmode : s.ctl.mode ≠ .m0) (huntil : s.shd.cycleUntil = none)
    (hhot : tjMaxQ s + 2560 ≤ reading) :
    execThermalTrip sensor reading s = done s (powerCycle 0 0 3 (recordL4
      (logEvent 0x0A 3 (beOct 1 sensor ++ beInt 2 reading) { s with shd := { s.shd with thermalHold := true } }))) := by
  have htrips : ¬ (s.ctl.mode = .m0 ∨ s.shd.cycleUntil.isSome = true ∨ reading < tjMaxQ s + 2560) := by
    simp only [hmode, huntil, Option.isSome_none, Bool.false_eq_true, false_or]
    omega
  exact if_neg htrips

theorem execAlignedCleared_of_holdover (hstate : s.clk.state = .holdover) (haligned : aligned s = true) :
    execAlignedCleared s = done s (speak (advanceElapsed (alignedEnd s) s)) := if_pos ⟨hstate, haligned⟩

/-- Settles O53, clause by clause from what each command does where its premise stands. -/
theorem bootsAndResetsRun : Obligations.BootsAndResetsRun := by
  unfold Obligations.BootsAndResetsRun
  refine ⟨?cold, ?warm, ?rejoin, ?restarted, ?resumeM2, ?resume, ?cycle, ?fallback, ?request, ?thermal, ?aligned⟩
  case cold => exact fun a b cause s => execColdBoot_of_booting a b
  case warm => exact fun a b d s => execWarmResetAssert_of_due a b
  case rejoin => exact fun w s => execEaselRejoin_of_warm
  case restarted => exact fun s => execEaselRejoin_of_restarting
  case resumeM2 => exact fun w s => execCanvasServiceResume_of_m2
  case resume =>
    intro w s hwarm heasel hmode s1 h1
    rw [h1]
    exact execCanvasServiceResume_of_not_m2 hwarm heasel hmode
  case cycle => exact fun d s => execPowerCycle_of_due
  case fallback =>
    intro t f s huntil hfor s1 h1 s2 h2
    rw [h2, h1]
    exact execPwrCycleFallback_of_asked huntil hfor
  case request =>
    intro d s hdue hcause s1 h1
    rw [h1]
    exact execRecoverRequestAssert_of_requested hdue hcause
  case thermal => exact fun sensor reading s => execThermalTrip_of_hot
  case aligned => exact fun s => execAlignedCleared_of_holdover

end Sys2Proof.Machine
end

section
/-!
PROOFS. The supplies and the feeds, the seal, the calendar's trim and the tamper inputs (R458 to R480).
-/

namespace Sys2Proof.Machine

variable {s : State}

/-! ### The main supply and the feeds (R40, R458 to R465) -/

/-- The main supply's return brings M1 with Shed's boot ROM, its receiver out of reset, and then what Shed has to act on. -/
theorem execMainSupplyValid_of_m0 (hmode : s.ctl.mode = .m0) :
    let s1 := releaseReceiver 4 (modPwr (fun p => { p with main := true, onVbat := false })
      { s with ctl := { s.ctl with mode := .m1, domains := Mode.m1.domains s.chip.fPackage }
               shd := { s.shd with bootRom := true, cycleUntil := none } })
    execMainSupplyValid s = done s (actAlarms (startShed s1)) := if_pos hmode

theorem execBrownout_of_powered (hmode : s.ctl.mode ≠ .m0) :
    execBrownout s = done s (losePower (if s.shd.cycleFor.isSome then s else latchBrownout s)) := if_neg hmode

/-- A deviation over its limit, outside a gap and with a usable standby, connects the standby. -/
theorem execFeedDeviationDecision_of_over {rail : Nat} (sense : List Nat) (hmode : s.ctl.mode ≠ .m0) (hrail : rail < 6) :
    let s1 := takeSense sense s
    let dev : Int := (senseOf s1 s1.pwr.train rail : Int) - senseOf s1 (standby s1) rail
    inGap s1 = false → feedCfg s1 0 * railNominal rail < dev.natAbs * 1000 → standbyUsable s1 (standby s1) = true →
    execFeedDeviationDecision rail sense s = done s (connectTrain (standby s1) (some (s1.pwr.train, rail, dev))
      (modPwr (fun p => { p with deviated := setAt p.deviated s1.pwr.train true }) s1)) := by
  intro s1 dev hgap hover hstandby
  have hwatched : ¬ (s.ctl.mode = .m0 ∨ 6 ≤ rail) := not_or.2 ⟨hmode, by omega⟩
  have hdecides : ¬ (inGap s1 = true ∨ dev.natAbs * 1000 ≤ feedCfg s1 0 * railNominal rail) :=
    not_or.2 ⟨by rw [hgap]; decide, by omega⟩
  unfold execFeedDeviationDecision
  rw [if_neg hwatched]
  exact (if_neg hdecides).trans (if_pos hstandby)

/-- The state from which the end of a gap is logged: the gap is over, and the switch counted. -/
def gapEnded (s : State) : State :=
  modPwr (fun p => { p with gapEnd := none, gapAuto := none, switches := (p.switches + 1) % 2 ^ 32 }) s

theorem execFeedGapEnd_of_auto {t rail : Nat} {dev : Int} (hgap : s.pwr.gapEnd.isSome = true) (hauto : s.pwr.gapAuto = some (t, rail, dev)) :
    execFeedGapEnd s = done s (logEvent 0x60 2 (beOct 1 t ++ beOct 1 rail ++ beInt 2 dev) (gapEnded s)) := by
  obtain ⟨e, he⟩ := Option.isSome_iff_exists.1 hgap
  simp only [execFeedGapEnd, he, hauto]
  rfl

theorem execFeedGapEnd_of_manual (hgap : s.pwr.gapEnd.isSome = true) (hauto : s.pwr.gapAuto = none) :
    execFeedGapEnd s = done s (gapEnded s) := by
  obtain ⟨e, he⟩ := Option.isSome_iff_exists.1 hgap
  simp only [execFeedGapEnd, he, hauto]
  rfl

theorem execStandbyOutOfWindow_of_leaves {rail mv : Nat} (hmode : s.ctl.mode ≠ .m0) (hrail : rail < 6) (hout : stbyOk s rail mv = false)
    (hin : s.pwr.stbyOut = false) :
    execStandbyOutOfWindow rail mv s = done s (logEvent 0x62 2 (beOct 1 (standby s) ++ beOct 1 rail ++ beOct 2 mv)
      (modPwr (fun p => { p with sense := setAt p.sense (6 * standby s + rail) mv, stbyOut := true }) s)) := by
  have hwatched : ¬ (s.ctl.mode = .m0 ∨ 6 ≤ rail) := not_or.2 ⟨hmode, by omega⟩
  simp only [execStandbyOutOfWindow, hout, hin, Bool.false_eq_true, or_self, if_false]
  exact if_neg hwatched

/-! ### VBAT and the calendar's trim (R469, R470, R473) -/

section Vbat

variable {mv : Nat}

/-- VBAT as measured, with the seal as it leaves it. -/
def vbatMeasured (mv : Nat) (s : State) : State := settleSeal (modPwr (fun p => { p with vbat := mv }) s)

theorem execVbatLowCheck_of_low (hmode : s.ctl.mode ≠ .m0) (hvbat : s.pwr.onVbat = false) (hlow : mv < 2200)
    (hlogged : s.pwr.vbatLogged = none) :
    execVbatLowCheck mv s = done s
      (logEvent 0x66 2 (beOct 2 mv) (modPwr (fun p => { p with vbatLogged := some s.clk.elapsed }) (vbatMeasured mv s))) := by
  simp only [execVbatLowCheck, hmode, if_false, hvbat, hlow, hlogged, Bool.false_eq_true, not_false_eq_true, and_self, if_true]
  rfl

theorem execVbatLowCheck_of_not_low (h : s.ctl.mode = .m0 ∨ s.pwr.onVbat = true ∨ 2200 ≤ mv) :
    execVbatLowCheck mv s = done s (vbatMeasured mv s) := by
  unfold execVbatLowCheck
  dsimp only
  split
  · rfl
  · next hmode =>
    refine if_neg fun ⟨hvbat, hlow, _⟩ => ?_
    rcases h with h | h | h
    · exact hmode h
    · exact hvbat h
    · omega

end Vbat

section Trim

variable (hlocked : s.clk.state = .locked) (hvalid : s.clk.valid = true)

include hlocked hvalid in
/-- With a reference of 600 s before, the trim is set from the error gained since, or the calendar is set where it is over 0.1 s off. -/
theorem execRtcTrimCheck_of_ref {d0 : Int} {t0 : Nat} (href : s.pwr.trimRef = some (d0, t0)) :
    let s1 := advanceElapsed (t0 + 600 * secCycles) s
    execRtcTrimCheck s =
      if (owError s1).natAbs * 10 ≤ 32768 then done s (noteTrim (modPwr (fun p => { p with trimNext := trimFor s1 d0 t0 }) s1))
      else done s (noteTrim (owStep (nowSecs s1 % 2 ^ 32) (nowNanos s1 * 32768 / 1000000000) s1)) := by
  simp only [execRtcTrimCheck, hlocked, hvalid, href, ne_eq, not_true_eq_false, or_self, if_false]

include hlocked hvalid in
theorem execRtcTrimCheck_of_no_ref (href : s.pwr.trimRef = none) :
    execRtcTrimCheck s = done s (noteTrim (if (owError s).natAbs * 10 ≤ 32768 then s
      else owStep (nowSecs s % 2 ^ 32) (nowNanos s * 32768 / 1000000000) s)) := by
  simp only [execRtcTrimCheck, hlocked, hvalid, href, ne_eq, not_true_eq_false, or_self, if_false]
  split <;> rfl

end Trim

/-! ### The tamper inputs (R479, R480) -/

theorem execTamperInputActive_of_armed {input : Nat} (hinput : input < 2) (harmed : armed (tamperOf s input) = true)
    (hidle : (tamperOf s input).active = false) (hpower : owPowered s = true) :
    execTamperInputActive input s = done s (speak (tamperEvent input s)) :=
  if_pos ⟨hinput, harmed, by rw [hidle]; decide, hpower⟩

/-- From M2 on an event is logged and counted, ends the sessions and leaves Gesso safe. -/
theorem tamperEvent_of_running (input : Nat) (h0 : s.ctl.mode ≠ .m0) (h1 : s.ctl.mode ≠ .m1) :
    tamperEvent input s = gessoSafe (endSessions (fun u => decide (u.transport < 2))
      (secCount 10 (logEvent 0x43 3 (beOct 1 input) (zeroise (latchTamper input s))))) := by
  simp only [tamperEvent, h0, h1, if_false]

/-- Settles O52, clause by clause from what each command does where its premise stands. -/
theorem supplyAndTamperEventsRun : Obligations.SupplyAndTamperEventsRun := by
  unfold Obligations.SupplyAndTamperEventsRun
  refine ⟨?mainSupply, ?brownout, ?deviation, ?gapEnd, ?standby, ?supply, ?sealBreak, ?vbat, ?trim, ?set, ?first, ?tamper, ?zeroise, ?release⟩
  case mainSupply =>
    intro s hmode s1 h1
    rw [h1]
    exact execMainSupplyValid_of_m0 hmode
  case brownout => exact fun s => execBrownout_of_powered
  case deviation =>
    intro rail sense s hmode hrail s1 h1
    rw [h1]
    exact execFeedDeviationDecision_of_over sense hmode hrail
  case gapEnd =>
    intro t rail dev s hgap s1 h1
    rw [h1]
    exact ⟨execFeedGapEnd_of_auto hgap, execFeedGapEnd_of_manual hgap⟩
  case standby => exact fun rail mv s => execStandbyOutOfWindow_of_leaves
  case supply => exact fun toVbat s => rfl
  case sealBreak => exact fun s => rfl
  case vbat =>
    intro mv s s1 h1
    rw [h1]
    exact ⟨execVbatLowCheck_of_low, execVbatLowCheck_of_not_low⟩
  case trim =>
    intro d0 t0 s hlocked hvalid href s1 h1 hsmall
    rw [h1] at hsmall ⊢
    exact (execRtcTrimCheck_of_ref hlocked hvalid href).trans (if_pos hsmall)
  case set =>
    intro d0 t0 s hlocked hvalid href s1 h1 hlarge
    rw [h1] at hlarge ⊢
    exact (execRtcTrimCheck_of_ref hlocked hvalid href).trans (if_neg (Nat.not_le.2 hlarge))
  case first => exact fun s => execRtcTrimCheck_of_no_ref
  case tamper =>
    exact fun input s hinput harmed hidle hpower =>
      ⟨execTamperInputActive_of_armed hinput harmed hidle hpower, tamperEvent_of_running input⟩
  case zeroise => exact fun s => ⟨rfl, rfl, rfl, rfl, rfl, rfl⟩
  case release => exact fun input s => rfl

end Sys2Proof.Machine
end

section
/-!
PROOFS. The Ethernet and PCIe links, the service UART, the wake pins and a stale capture (R31, R32, R76, R431 to R440, R456).
-/

namespace Sys2Proof.Machine

variable {s : State}

/-! ### A port's link (R431, R432) -/

section Link

variable {port speed : Nat} {up : Bool}

/-- Setting a link stores what it comes to; a transition is counted, which touches no interface. -/
theorem setLink_eth (hlen : port < s.host.eth.length) (hport : port < 2) :
    let v := linkSpeed (odNat s 0xA100 1 port) speed
    let live := up && v.isSome && s.ctl.domains[6]? == some .on
    (setLink port up speed s).host.eth[port]? = some (live, if live then v.getD 0 else 0) := by
  intro v live
  have hset : (setAt s.host.eth port (live, if live then v.getD 0 else 0))[port]? = some (live, if live then v.getD 0 else 0) := by
    rw [getElem?_setAt, if_pos rfl, List.getElem?_eq_getElem hlen, Option.map_some]
  have heth : (setLink port up speed s).host.eth = setAt s.host.eth port (live, if live then v.getD 0 else 0) := by
    unfold setLink
    rw [if_neg (Nat.not_le.2 hport)]
    dsimp only
    split <;> rfl
  rw [heth, hset]

theorem setLink_eth_of_up {v : Nat} (hlen : port < s.host.eth.length) (hport : port < 2) (hup : up = true)
    (hspeed : linkSpeed (odNat s 0xA100 1 port) speed = some v) (hd6 : s.ctl.domains[6]? = some .on) :
    (setLink port up speed s).host.eth[port]? = some (true, v) := by
  simp [setLink_eth hlen hport, hup, hspeed, hd6]

theorem setLink_eth_of_down (hlen : port < s.host.eth.length) (hport : port < 2)
    (hdown : up = false ∨ linkSpeed (odNat s 0xA100 1 port) speed = none ∨ s.ctl.domains[6]? ≠ some .on) :
    (setLink port up speed s).host.eth[port]? = some (false, 0) := by
  have hlive : (up && (linkSpeed (odNat s 0xA100 1 port) speed).isSome && s.ctl.domains[6]? == some .on) = false := by
    rcases hdown with h | h | h <;> simp [h]
  simp only [setLink_eth hlen hport, hlive, Bool.false_eq_true, if_false]

end Link

/-! ### The PCIe endpoint and the sessions that end with it (R76, R433, R437) -/

/-- A session as new, begun at a time. -/
def Renewed (e : Nat) (u : Session) : Prop := u = { id := u.id, transport := u.transport, role := u.role, lastMsg := e }

/-- Of the sessions that an end of session leaves, those of its number are as new and the others were there. -/
theorem mem_sessions_endSession {id : Nat} {u : Session} (h : u ∈ (endSession id s).srv.sessions) :
    (u ∈ s.srv.sessions ∧ u.id ≠ id) ∨ Renewed s.clk.elapsed u := by
  unfold endSession at h
  simp only [freeKeysOf_srv, freeKeysOf_clk, List.mem_map, List.mem_filter] at h
  obtain ⟨v, ⟨hv, -⟩, hvu⟩ := h
  split at hvu
  · next hid => exact .inr (by rw [← hvu]; rfl)
  · next hid => exact .inl (hvu ▸ ⟨hv, hid⟩)

theorem mem_txns_endSession {id : Nat} {x : Txn} (h : x ∈ (endSession id s).srv.txns) : x ∈ s.srv.txns ∧ x.session ≠ id := by
  unfold endSession at h
  simpa only [freeKeysOf_srv, List.mem_filter, bne_iff_ne] using h

theorem mem_sessions_endAll {l : List Session} {u : Session} (h : u ∈ (l.foldl (fun s v => endSession v.id s) s).srv.sessions) :
    (u ∈ s.srv.sessions ∧ ∀ v ∈ l, u.id ≠ v.id) ∨ Renewed s.clk.elapsed u := by
  induction l generalizing s with
  | nil => exact .inl ⟨h, fun v hv => absurd hv List.not_mem_nil⟩
  | cons v l ih =>
    rcases ih (s := endSession v.id s) h with ⟨hu, hl⟩ | hnew
    · rcases mem_sessions_endSession hu with ⟨hu, hv⟩ | hnew
      · exact .inl ⟨hu, List.forall_mem_cons.2 ⟨hv, hl⟩⟩
      · exact .inr hnew
    · exact .inr (by rwa [endSession_clk] at hnew)

theorem mem_txns_endAll {l : List Session} {x : Txn} (h : x ∈ (l.foldl (fun s v => endSession v.id s) s).srv.txns) :
    x ∈ s.srv.txns ∧ ∀ v ∈ l, x.session ≠ v.id := by
  induction l generalizing s with
  | nil => exact ⟨h, fun v hv => absurd hv List.not_mem_nil⟩
  | cons v l ih =>
    obtain ⟨hx, hl⟩ := ih (s := endSession v.id s) h
    obtain ⟨hx, hv⟩ := mem_txns_endSession hx
    exact ⟨hx, List.forall_mem_cons.2 ⟨hv, hl⟩⟩

@[simp] theorem resetReceivers_srv (rs : List Nat) (s : State) : (resetReceivers rs s).srv = s.srv :=
  resetReceivers_keeps State.srv (fun _ _ _ => rfl) (fun _ _ => rfl) (fun _ _ _ _ => rfl) rs s

@[simp] theorem resetReceivers_pcie (rs : List Nat) (s : State) : (resetReceivers rs s).host.pcie = s.host.pcie :=
  resetReceivers_keeps (fun t => t.host.pcie) (fun _ _ _ => rfl) (fun _ _ => rfl) (fun _ _ _ _ => rfl) rs s

@[simp] theorem endSessions_host (pick : Session → Bool) (s : State) : (endSessions pick s).host = s.host := by
  unfold endSessions
  exact foldl_keeps State.host _ (fun t _ => endSession_host t _) _ s

theorem pcieDown_pcie (s : State) : (pcieDown s).host.pcie = (false, 0, 0) := by
  rw [pcieDown, resetReceivers_pcie, linkDown, endSessions_host]

/-- The session of the descriptor pair starts anew when the endpoint goes down. -/
theorem renewed_of_mem_pcieDown {u : Session} (hu : u ∈ (pcieDown s).srv.sessions) (htrans : u.transport = 2) :
    Renewed s.clk.elapsed u := by
  rw [pcieDown, resetReceivers_srv] at hu
  rcases mem_sessions_endAll hu with ⟨hu, hother⟩ | hnew
  · exact absurd rfl (hother u (List.mem_filter.2 ⟨hu, beq_iff_eq.2 htrans⟩))
  · exact hnew

theorem session_ne_of_mem_pcieDown {x : Txn} {u : Session} (hx : x ∈ (pcieDown s).srv.txns) (hu : u ∈ s.srv.sessions)
    (htrans : u.transport = 2) : x.session ≠ u.id := by
  rw [pcieDown, resetReceivers_srv] at hx
  obtain ⟨-, hother⟩ := mem_txns_endAll hx
  exact hother u (List.mem_filter.2 ⟨hu, beq_iff_eq.2 htrans⟩)

theorem execPcieReset_of_f (hf : s.chip.fPackage = true) : execPcieReset s = done s (pcieDown s) := if_pos hf

/-- A receiver that leaves reset touches the pages and the channels. -/
theorem releaseReceiver_keeps {β : Type} (p : State → β) (hhost : ∀ t c g, p { t with host := { t.host with chans := c, pages := g } } = p t)
    (r : Nat) (s : State) : p (releaseReceiver r s) = p s := by
  unfold releaseReceiver
  refine (foldl_keeps p _ (fun t o => ?_) _ _).trans (hhost s _ _)
  split
  · exact hhost t _ _
  · rfl

theorem releaseReceiver_same {p : Part} (hp : p ≠ .host) {t : State} (h : p.same s t) (r : Nat) : p.same s (releaseReceiver r t) := by
  rw [releaseReceiver_keeps (fun t => p.same s t) (fun t c g => ?_) r t]
  · exact h
  · cases p with
    | host => exact absurd rfl hp
    | _ => rfl

/-- The link comes up at no more than PCIE_MAX_GEN and x2, with D6 on. -/
theorem execPcieLinkUp_of_d6 {gen width : Nat} (hf : s.chip.fPackage = true) (hd6 : s.ctl.domains[6]? = some .on) (hgen : 1 ≤ gen)
    (hwidth : 1 ≤ width) : execPcieLinkUp gen width s =
      done s (releaseReceiver 0 { s with host := { s.host with pcie := (true, min gen (odNat s 0xA200 2), min width 2) } }) :=
  if_pos ⟨hf, hd6, hgen, hwidth⟩

/-! ### Wakes from M1, and the service UART (R31, R32, R438, R440) -/

/-- In M1 with nothing that holds the unit, a wake begins a boot and brings D2 on. -/
theorem wake_of_m1 {uart : Bool} (hmode : s.ctl.mode = .m1) (hboot : s.shd.booting = none) (hheat : s.shd.thermalHold = false)
    (hfeed : uart = true ∨ s.shd.feedHold = false) (hcycle : s.shd.cycleUntil = none) :
    wake uart s = { s with shd := { s.shd with booting := some 0 }, ctl := { s.ctl with domains := setAt s.ctl.domains 2 .on } } := by
  have hfree : uart = true ∨ ¬ s.shd.feedHold = true := by simpa using hfeed
  exact if_pos ⟨hmode, hboot, by rw [hheat]; decide, hfree, hcycle⟩

section Uart

variable {frame : Octets} {authOk overrun : Bool}

/-- The record that a frame of the service UART carries: what stands before its FCS. -/
def uartRecordOf (frame : Octets) : Octets := (uartUnstuff frame).take ((uartUnstuff frame).length - 2)

/-- A frame is good: of a record's length, and its last two octets are the FCS of the rest. -/
def UartGood (frame : Octets) : Prop :=
  2 ≤ (uartUnstuff frame).length ∧ (uartUnstuff frame).length ≤ 1402 ∧ (uartUnstuff frame).drop ((uartUnstuff frame).length - 2) =
    [BitVec.ofNat 8 (fcs16 (uartRecordOf frame)), BitVec.ofNat 8 (fcs16 (uartRecordOf frame) / 256)]

theorem execUartFrameReceived_of_m1 (hmode : s.ctl.mode = .m1) :
    execUartFrameReceived frame authOk overrun s = done s (wake true s) := by
  simp only [execUartFrameReceived, hmode]

/-- From M2 on a frame is looked at: an overrun, a fault, or a record. -/
theorem execUartFrameReceived_of_running (hcode : 2 ≤ s.ctl.mode.code) : execUartFrameReceived frame authOk overrun s =
    if overrun then done s (bump 0xA300 2 2 s)
    else if (uartUnstuff frame).length < 2 ∨ 1402 < (uartUnstuff frame).length ∨
        (uartUnstuff frame).drop ((uartUnstuff frame).length - 2) ≠
          [BitVec.ofNat 8 (fcs16 (uartRecordOf frame)), BitVec.ofNat 8 (fcs16 (uartRecordOf frame) / 256)] then
      done s (bump 0xA300 2 1 s)
    else done s (uartRecord (uartRecordOf frame) authOk (bump 0xA300 2 0 s)) := by
  unfold execUartFrameReceived
  cases hmode : s.ctl.mode with
  | m0 | m1 => rw [hmode] at hcode; exact absurd hcode (by decide)
  | _ => rfl

theorem uartFaulty_iff : ((uartUnstuff frame).length < 2 ∨ 1402 < (uartUnstuff frame).length ∨
      (uartUnstuff frame).drop ((uartUnstuff frame).length - 2) ≠
        [BitVec.ofNat 8 (fcs16 (uartRecordOf frame)), BitVec.ofNat 8 (fcs16 (uartRecordOf frame) / 256)]) ↔ ¬ UartGood frame := by
  unfold UartGood
  rw [not_and_or, not_and_or, Nat.not_le, Nat.not_le]

theorem execUartFrameReceived_of_overrun (hcode : 2 ≤ s.ctl.mode.code) (hover : overrun = true) :
    execUartFrameReceived frame authOk overrun s = done s (bump 0xA300 2 2 s) := by
  rw [execUartFrameReceived_of_running hcode, if_pos hover]

theorem execUartFrameReceived_of_faulty (hcode : 2 ≤ s.ctl.mode.code) (hover : overrun = false) (hbad : ¬ UartGood frame) :
    execUartFrameReceived frame authOk overrun s = done s (bump 0xA300 2 1 s) := by
  rw [execUartFrameReceived_of_running hcode, if_neg (by rw [hover]; decide), if_pos (uartFaulty_iff.2 hbad)]

theorem execUartFrameReceived_of_good (hcode : 2 ≤ s.ctl.mode.code) (hover : overrun = false) (hgood : UartGood frame) :
    execUartFrameReceived frame authOk overrun s = done s (uartRecord (uartRecordOf frame) authOk (bump 0xA300 2 0 s)) := by
  rw [execUartFrameReceived_of_running hcode, if_neg (by rw [hover]; decide), if_neg fun h => uartFaulty_iff.1 h hgood]

end Uart

theorem execGpioWake_of_edge {pin : Nat} {rising : Bool} (hpin : pin < 8)
    (hedge : odField s 0xA400 1 pin 2 1 = (if rising then 1 else 2)) : execGpioWake pin rising s = done s (wake false s) :=
  if_pos ⟨hpin, hedge⟩

/-! ### A stale capture (R456) -/

section Stale

variable {master addr : Nat}

/-- The value captured before is what a reader has, free where none was. -/
theorem lastCaptured_of_find {v : Nat × Nat} (h : s.host.captured.find? (fun p => p.1 == captureKey master addr) = some v) :
    lastCaptured master addr s = (v.2, s) := by
  simp only [lastCaptured, h]

/-- Reading the value captured before takes at most a free value. -/
theorem lastCaptured_snd (master addr : Nat) (s : State) : ∃ n, (lastCaptured master addr s).2 = { s with free := n } := by
  unfold lastCaptured
  split <;> exact ⟨_, rfl⟩

/-- What is logged between does not matter to the value captured before. -/
theorem lastCaptured_logEvent (type sev : Nat) (data : Octets) (s : State) :
    (lastCaptured master addr (logEvent type sev data s)).1 = (lastCaptured master addr s).1 := by
  have hcap : (logEvent type sev data s).host.captured = s.host.captured := rfl
  unfold lastCaptured
  rw [hcap]
  split <;> rfl

/-- A stale capture as the reader's page shows it. -/
def markStale (addr : Nat) (p : MbPage) : MbPage := { p with stale := true, staleCount := min 65535 (p.staleCount + 1), staleAddr := addr }

theorem page_modPage {r : Nat} (f : MbPage → MbPage) (h : r < s.host.pages.length) : page (modPage r f s) r = f (page s r) := by
  simp only [page, modPage, getElem?_modAt, if_pos, List.getElem?_eq_getElem h, Option.map_some, Option.getD_some]

/-- A master other than a fixed function reads the value captured before, and its page is marked. -/
def staleRead (master addr : Nat) (s : State) : State :=
  let r := lastCaptured master addr (logEvent 0x10 2 (beOct 1 master ++ beOct 4 addr) s)
  emit (.word master r.1) (modPage master (markStale addr) r.2)

theorem staleRead_eq (master addr : Nat) (s : State) : ∃ n, staleRead master addr s =
    emit (.word master (lastCaptured master addr s).1)
      (modPage master (markStale addr) { logEvent 0x10 2 (beOct 1 master ++ beOct 4 addr) s with free := n }) := by
  obtain ⟨n, hn⟩ := lastCaptured_snd master addr (logEvent 0x10 2 (beOct 1 master ++ beOct 4 addr) s)
  refine ⟨n, ?_⟩
  simp only [staleRead, lastCaptured_logEvent, hn]

/-- A word sent, a page's mark, a log entry and a free value are all that a stale read can touch. -/
theorem sent_marked_logged_same {p : Part} (hp : p ∉ [Part.host, .shd, .free]) (o : Output) (r n : Nat) (f : MbPage → MbPage) (x : Shd)
    (s : State) : p.same s (emit o (modPage r f { s with shd := x, free := n })) := by
  cases p with
  | host | shd | free => exact absurd (by decide) hp
  | _ => rfl

theorem execCdcStaleCapture_of_master : execCdcStaleCapture master addr false s = done s (staleRead master addr s) := rfl

/-- What a stale read leaves: the page's mark, one log entry, the word read, and nothing else. -/
theorem staleRead_effect (hpage : master < s.host.pages.length) :
    let t := conclude s (staleRead master addr s)
    (page t master).stale = true ∧ (page t master).staleAddr = addr ∧
      (page t master).staleCount = min 65535 ((page s master).staleCount + 1) ∧ t.shd.seq = s.shd.seq + 1 ∧
      OnlyChanges [.host, .shd, .free] s t ∧ .word master (lastCaptured master addr s).1 ∈ t.out := by
  intro t
  obtain ⟨n, hn⟩ := staleRead_eq master addr s
  have hmarked : page t master = markStale addr (page s master) := by
    have h : page t master = page (staleRead master addr s) master := by simp only [t, page, conclude_host]
    rw [h, hn]
    exact page_modPage (s := { logEvent 0x10 2 (beOct 1 master ++ beOct 4 addr) s with free := n }) (markStale addr) hpage
  rw [hmarked]
  refine ⟨rfl, rfl, rfl, ?_, onlyChanges_conclude fun p hp => ?_, mem_conclude_out ?_⟩
  · simp only [t, conclude_shd, hn]; rfl
  · rw [hn]; exact sent_marked_logged_same hp _ _ _ _ _ s
  · rw [hn]; exact List.mem_append_right _ (List.mem_singleton.2 rfl)

end Stale

/-- Settles O55, clause by clause: the links, the wakes, the UART's frames and a stale capture. -/
theorem hostLinksRun : Obligations.HostLinksRun := by
  unfold Obligations.HostLinksRun
  refine ⟨?link, ?pcieReset, ?pcieUp, ?uart, ?gpio, ?stale⟩
  case link =>
    exact fun port up speed s => ⟨rfl, fun v => setLink_eth_of_up, setLink_eth_of_down, rfl, rfl, rfl⟩
  case pcieReset =>
    intro s hf
    refine ⟨execPcieReset_of_f hf, pcieDown_pcie s, fun u hu htrans => ?_, fun x hx u => session_ne_of_mem_pcieDown hx⟩
    have hnew := renewed_of_mem_pcieDown hu htrans
    rwa [Renewed, htrans] at hnew
  case pcieUp =>
    intro gen width s hf hd6 hgen hwidth
    refine ⟨_, execPcieLinkUp_of_d6 hf hd6 hgen hwidth, ?_, onlyChanges_conclude fun p hp => releaseReceiver_same ?_ ?_ 0⟩
    · rw [conclude_host]
      exact releaseReceiver_keeps (fun t => t.host.pcie) (fun _ _ _ => rfl) 0 _
    · rintro rfl; exact absurd (by decide) hp
    · cases p with
      | host | od => exact absurd (by decide) hp
      | _ => rfl
  case uart =>
    intro frame authOk overrun s o rec_ good
    refine ⟨fun hmode hboot hheat hcycle => ?_, execUartFrameReceived_of_overrun, execUartFrameReceived_of_faulty,
      execUartFrameReceived_of_good⟩
    rw [← wake_of_m1 (uart := true) hmode hboot hheat (.inl rfl) hcycle]
    exact execUartFrameReceived_of_m1 hmode
  case gpio =>
    intro pin rising s hpin hedge hmode hboot hheat hfeed hcycle
    rw [← wake_of_m1 (uart := false) hmode hboot hheat (.inr hfeed) hcycle]
    exact execGpioWake_of_edge hpin hedge
  case stale =>
    exact fun master addr s hpage =>
      ⟨⟨_, execCdcStaleCapture_of_master, staleRead_effect hpage⟩, fun v h => by rw [lastCaptured_of_find h], rfl⟩

end Sys2Proof.Machine
end

section
/-!
PROOFS. The fuses and the queue under a step: every step is concluded, so it burns fuses and takes at most its own command (R52, R53,
R390 to R392).
-/

namespace Sys2Proof.Machine

/-! ### The order of the fuses -/

/-- Where each entry of a list is rewritten into one related to it, so is each position, those beyond the end included. -/
theorem rel_getD_mapIdx {α : Type} {r : α → α → Prop} {f : Nat → α → α} {d : α} (hd : r d d) (hf : ∀ i x, r x (f i x))
    (l : List α) (i : Nat) : r (l.getD i d) ((l.mapIdx f).getD i d) := by
  rw [List.getD_eq_getElem?_getD, List.getD_eq_getElem?_getD, List.getElem?_mapIdx]
  cases l[i]? with
  | none => exact hd
  | some x => exact hf i x

/-- Of a fuse's two redundant cells, each that was blown still is (R360). -/
def CellsKept (x y : Bool × Bool) : Prop := (x.1 = true → y.1 = true) ∧ (x.2 = true → y.2 = true)

/-- A chip holds what it held, whatever it is asked to burn: the request's identity is not looked at, its fuses are joined (R390, R392). -/
theorem fusesAtLeast_burn (c new : Chip) : FusesAtLeast c (burn c new) := by
  have hrevoked : c.rootRevoked &&& (c.rootRevoked ||| new.rootRevoked) = c.rootRevoked := by
    apply Nat.eq_of_testBit_eq
    simp +contextual
  have hsvn (g : Nat) : c.svn.getD g 0 ≤ (burn c new).svn.getD g 0 :=
    rel_getD_mapIdx (r := (· ≤ ·)) (Nat.le_refl 0) (fun _ _ => Nat.le_max_left ..) c.svn g
  have hcells (g : Nat) : CellsKept (c.lcFuses.getD g (false, false)) ((burn c new).lcFuses.getD g (false, false)) :=
    rel_getD_mapIdx ⟨id, id⟩ (fun _ _ => ⟨Bool.or_inl, Bool.or_inl⟩) c.lcFuses g
  exact ⟨rfl, rfl, rfl, rfl, rfl, rfl, rfl, hrevoked, List.length_mapIdx, hsvn, List.length_mapIdx, hcells⟩

theorem FusesAtLeast.trans {a b c : Chip} (hab : FusesAtLeast a b) (hbc : FusesAtLeast b c) : FusesAtLeast a c := by
  obtain ⟨hpackage, hchannels, hfabric, hgrade, hserial, hstepping, hroots, hrevoked, hsvnLen, hsvn, hlcLen, hlc⟩ := hab
  obtain ⟨hpackage', hchannels', hfabric', hgrade', hserial', hstepping', hroots', hrevoked', hsvnLen', hsvn', hlcLen', hlc'⟩ := hbc
  have hrevokedBoth : a.rootRevoked &&& c.rootRevoked = a.rootRevoked := by
    rw [← hrevoked, Nat.and_assoc, hrevoked']
  exact ⟨hpackage'.trans hpackage, hchannels'.trans hchannels, hfabric'.trans hfabric, hgrade'.trans hgrade, hserial'.trans hserial,
    hstepping'.trans hstepping, hroots'.trans hroots, hrevokedBoth, hsvnLen'.trans hsvnLen, fun g => (hsvn g).trans (hsvn' g),
    hlcLen'.trans hlcLen, fun g => ⟨(hlc' g).1 ∘ (hlc g).1, (hlc' g).2 ∘ (hlc g).2⟩⟩

/-! ### What a step can do -/

/-- A step, idle or a command's, ends in an effect concluded over the queue's rest. -/
theorem step_concludes (s : State) : Concludes { s with pending := s.pending.tail } (step s) := by
  unfold step
  split
  next hempty =>
    have hself : { s with pending := s.pending.tail } = s := by rw [hempty, List.tail_nil, ← hempty]
    rw [hself]
    exact concludes_done s _
  next c rest hfront =>
    rw [hfront]
    exact exec_concludes c { s with pending := rest }

theorem step_chip {s t : State} (h : step s = .next t) : ∃ new, t.chip = burn s.chip new := by
  obtain ⟨u, hu⟩ := step_concludes s
  cases h.symm.trans hu
  exact ⟨u.chip, conclude_chip _ u⟩

theorem step_pending {s t : State} (h : step s = .next t) : t.pending = s.pending.tail := by
  obtain ⟨u, hu⟩ := step_concludes s
  cases h.symm.trans hu
  exact conclude_pending _ u

/-- Settles O4: a step burns what its effect asks of the chip, and what waits after it waited before. -/
theorem fusesOnlyBlown : Obligations.FusesOnlyBlown := by
  unfold Obligations.FusesOnlyBlown
  intro f s t hfuses hqueue hstep
  refine ⟨?fuses, ?queue⟩
  case fuses =>
    obtain ⟨new, hnew⟩ := step_chip hstep
    rw [hnew]
    exact hfuses.trans (fusesAtLeast_burn s.chip new)
  case queue =>
    intro c hc
    rw [step_pending hstep] at hc
    exact hqueue c (List.mem_of_mem_tail hc)

end Sys2Proof.Machine
end

section
/-!
PROOFS. What the ODAP server answers to READ and WRITE, and to requests it has answered before or does not admit (R64 to R87).
-/

namespace Sys2Proof.Machine

/-! ### The checks and their order (R81) -/

theorem firstFailure_eq_none {l : List (Nat × Nat)} (h : firstFailure l = none) : l = [] := by
  cases l with
  | nil => rfl
  | cons f l =>
    unfold firstFailure at h
    split at h
    · cases h
    · split at h <;> cases h

/-- The failure answered is a failed check of the least rank. -/
theorem firstFailure_least {l : List (Nat × Nat)} {f : Nat × Nat} (h : firstFailure l = some f) :
    f ∈ l ∧ ∀ g ∈ l, statusRank f.1 ≤ statusRank g.1 := by
  induction l generalizing f with
  | nil => cases h
  | cons x l ih =>
    rw [firstFailure] at h
    cases hl : firstFailure l with
    | none =>
      simp only [hl] at h
      cases h
      rw [firstFailure_eq_none hl]
      exact ⟨List.mem_singleton_self _, fun g hg => by rw [List.mem_singleton.1 hg]⟩
    | some y =>
      obtain ⟨hy, hle⟩ := ih hl
      simp only [hl] at h
      split at h
      case isTrue hlt =>
        cases h
        exact ⟨List.mem_cons_of_mem _ hy, List.forall_mem_cons.2 ⟨hlt.le, hle⟩⟩
      case isFalse hge =>
        cases h
        exact ⟨List.mem_cons_self, List.forall_mem_cons.2 ⟨le_rfl, fun g hg => (not_lt.1 hge).trans (hle g hg)⟩⟩

/-- Settles O12: the first failure is the least of the failed checks, by induction on their list. -/
theorem firstFailureFollowsOrder : Obligations.FirstFailureFollowsOrder :=
  ⟨fun _ => firstFailure_eq_none, fun _ _ => firstFailure_least, by decide⟩

/-! ### A request that is taken up, from its effect to its outcome (R82, R83) -/

section Taken

variable {q : OdapReq} {u : Session} {s t : State} {op need : Nat} {a : Answer} {cached : Bool}

/-- A change of the server and of what was sent leaves every other part alone. -/
theorem server_same {p : Part} (hp : p ≠ .srv) (s : State) (x : Srv) (o : List Output) : p.same s { s with srv := x, out := o } := by
  cases p with
  | srv => exact absurd rfl hp
  | _ => rfl

theorem touch_same {p : Part} (hp : p ≠ .srv) (id : Nat) (s : State) : p.same s (touch id s) := server_same hp s _ _

/-- A command that is served, and whose request is taken up, answers what its effect on the touched state gives. -/
theorem exec_taken {c : Instr} {h : Session → State → State × Answer} (hr : TakenUp q need u s) (ht : t = touch q.session s)
    (hc : exec c s = done s (serve q op need h s)) {t1 : State} (he : h u t = (t1, a)) :
    exec c s = .next (conclude s (respond q op a true t1)) := by
  subst ht
  rw [hc, serve_run hr, he]; rfl

theorem answers_respond (ha : a ≠ owedA) : Answers q op a (conclude s (respond q op a cached t)) :=
  mem_conclude_out (respond_answers q op a cached t ha)

theorem onlyChanges_respond {ps : List Part} (h : ∀ p : Part, p ∉ .srv :: ps → p.same s t) :
    OnlyChanges (.srv :: ps) s (conclude s (respond q op a cached t)) :=
  onlyChanges_conclude fun p hp => respond_same (fun hs => hp (hs ▸ List.mem_cons_self)) q op a cached (h p hp)

/-- A request whose effect changes the server alone changes the server alone. -/
theorem onlyServer_respond (h : ∀ p : Part, p ≠ .srv → p.same s t) : OnlyChanges [.srv] s (conclude s (respond q op a cached t)) :=
  onlyChanges_respond fun p hp => h p fun hs => hp (hs ▸ List.mem_cons_self)

end Taken

/-! ### Requests answered before, and requests that are not admitted (R78, R82, R83) -/

section Refused

variable {q : OdapReq} {u : Session} {s : State}

theorem admitReq_of_malformed {need x : Nat} (hq : q.queueFull = false) (ho : q.outstanding < 64) (h : formFault q need = some x) :
    admitReq q need u = .refuse (errA stFormatError x) false := by
  simp only [admitReq, hq, Bool.false_eq_true, false_or, Nat.not_le.2 ho, if_false, h]

theorem admitReq_of_stale {need n : Nat} (hq : q.queueFull = false) (ho : q.outstanding < 64) (h : formFault q need = none)
    (hcache : u.cache.find? (fun e => e.rid == q.rid) = none) (hhigh : u.highest = some n) (habove : ridAbove q.rid n = false) :
    admitReq q need u = .refuse (errA stStaleRequest n) false := by
  simp only [admitReq, hq, Bool.false_eq_true, false_or, Nat.not_le.2 ho, if_false, h, hcache, hhigh, habove]

/-- A request of any kind that is refused is answered so, and changes nothing but the server. -/
theorem request_refused {c : Instr} {x d : Nat} (hc : RequestOf q c) (hup : s.srv.up = true) (hu : findSession s q.session = some u)
    (h : admitReq q (bodyNeed c) u = .refuse (errA x d) false) :
    Gives (exec c s) (fun t => OnlyChanges [.srv] s t ∧ ∃ op, Answers q op (errA x d) t ∧
      t = conclude s (respond q op (errA x d) false (touch q.session s))) := by
  obtain ⟨op, f, hexec⟩ := request_served hc s
  rw [serve_refuse hup hu h] at hexec
  exact ⟨_, hexec, onlyServer_respond fun p hp => touch_same hp .., op, answers_respond (errA_ne_owedA x d), rfl⟩

/-- Settles O10: every kind of request is served, and a cached response stands for its effect. -/
theorem replayIsNotExecutedAgain : Obligations.ReplayIsNotExecutedAgain := by
  unfold Obligations.ReplayIsNotExecutedAgain
  intro q u r s hup hu c hc hreplay
  obtain ⟨op, f, hexec⟩ := request_served hc s
  rw [serve_replay hup hu hreplay] at hexec
  refine ⟨_, hexec, mem_conclude_out ?_, onlyChanges_conclude fun p hp => ?_, rfl⟩
  · exact List.mem_append_right _ (List.mem_singleton_self _)
  · exact server_same (by simpa using hp) s _ _

/-! The header checks of R78, one by one, and then the body's length. -/

theorem formFault_of_version (h : q.version ≠ 1) (need : Nat) : formFault q need = some 0 := by
  simp only [formFault, formChecks, h, ne_eq, not_false_eq_true, if_true, Option.orElse_some]

theorem formFault_of_short (hv : q.version = 1) (h : q.len < 16) (need : Nat) : formFault q need = some q.len := by
  simp only [formFault, formChecks, hv, h, ne_eq, not_true_eq_false, if_false, if_true, Option.orElse_some]

theorem formFault_of_length (hv : q.version = 1) (hlen : 16 ≤ q.len) (h : 1136 < q.bodyLen ∨ q.bodyLen ≠ q.len - 16) (need : Nat) :
    formFault q need = some 14 := by
  simp only [formFault, formChecks, hv, Nat.not_lt.2 hlen, h, ne_eq, not_true_eq_false, if_false, if_true, Option.orElse_some]

theorem formFault_of_header (hv : q.version = 1) (hlen : 16 ≤ q.len) (hmax : q.bodyLen ≤ 1136) (hbody : q.bodyLen = q.len - 16)
    (need : Nat) : formFault q need = bodyFault q need := by
  have h : ¬ (1136 < q.bodyLen ∨ q.bodyLen ≠ q.len - 16) := by omega
  simp only [formFault, formChecks, hv, Nat.not_lt.2 hlen, h, ne_eq, not_true_eq_false, if_false, Option.orElse_none]

/-- Settles O11: neither a malformed nor a stale request is admitted; the form by its checks in order. -/
theorem staleAndMalformedRequestsAreRefused : Obligations.StaleAndMalformedRequestsAreRefused := by
  unfold Obligations.StaleAndMalformedRequestsAreRefused
  intro q u s hup hu hq ho
  refine ⟨fun c x hc hform => ?malformed, fun c n hc hform hcache hhigh habove => ?stale, fun need => ?form⟩
  case malformed => exact request_refused hc hup hu (admitReq_of_malformed hq ho hform)
  case stale => exact request_refused hc hup hu (admitReq_of_stale hq ho hform hcache hhigh habove)
  case form =>
    refine ⟨fun h => formFault_of_version h need, fun hv h => formFault_of_short hv h need,
      fun hv hlen h => formFault_of_length hv hlen h need, fun hv hlen hmax hbody hneed => ?_, fun hv hlen hmax hbody hneed => ?_⟩
    · rw [formFault_of_header hv hlen hmax hbody, bodyFault, if_neg hneed]
    · rw [formFault_of_header hv hlen hmax hbody, bodyFault, if_pos hneed]

end Refused

end Sys2Proof.Machine
end

section
/-!
PROOFS. READ and WRITE of one object (R64 to R87).
-/

namespace Sys2Proof.Machine

/-! ### READ (R79, Table 04-8) -/

section Read

variable {q : OdapReq} {a : Addr} {s : State}

/-! The body of a READ, by what is pending and what is staged. -/

theorem readBody_in_effect (ty : Nat) (hp : pendingOf s a = none) (hv : (ownTxn q s).bind (fun t => stagedValue t a) = none) :
    readBody q a ty s = beOct 1 0 ++ beOct 1 ty ++ beOct 2 (odRead s a.idx a.sub a.row).length ++ beOct 8 effNone ++
      odRead s a.idx a.sub a.row := by
  simp only [readBody, hp, hv]; rfl

theorem readBody_pending (ty : Nat) {w : PendWrite} (hp : pendingOf s a = some w)
    (hv : (ownTxn q s).bind (fun t => stagedValue t a) = none) :
    readBody q a ty s = beOct 1 1 ++ beOct 1 ty ++ beOct 2 (if bit q.flags 2 then w.val else odRead s a.idx a.sub a.row).length ++
      beOct 8 (w.eff.getD effNone) ++ (if bit q.flags 2 then w.val else odRead s a.idx a.sub a.row) := by
  simp only [readBody, hp, hv]; rfl

theorem readBody_staged (ty : Nat) {v : Octets} (hp : pendingOf s a = none)
    (hv : (ownTxn q s).bind (fun t => stagedValue t a) = some v) :
    readBody q a ty s = beOct 1 0 ++ beOct 1 ty ++ beOct 2 v.length ++ beOct 8 effNone ++ v := by
  simp only [readBody, hp, hv]; rfl

end Read

/-- Settles O7: a checked READ is answered with its body, and the body carries the value by what is pending and staged. -/
theorem readReturnsValueInEffect : Obligations.ReadReturnsValueInEffect := by
  unfold Obligations.ReadReturnsValueInEffect
  intro q a u s h t hpass
  have hplain (d : ObjDesc) (hsub : a.sub ≠ 0) (hd : odFind a.idx a.sub = some d) (hdom : d.ty ≠ .domain) :
      exec (.read q a) s = .next (conclude s (respond q 1 (okA (readBody q a d.ty.code t)) true t)) :=
    exec_taken h (t := t) rfl rfl (by simp only [hpass, hsub, hd, hdom, if_false])
  have hgives {d : ObjDesc} {b : Octets} (hsub : a.sub ≠ 0) (hd : odFind a.idx a.sub = some d) (hdom : d.ty ≠ .domain)
      (hb : readBody q a d.ty.code t = b) :
      Gives (exec (.read q a) s) (fun r => Answers q 1 (okA b) r ∧ OnlyChanges [.srv] s r) :=
    ⟨_, hb ▸ hplain d hsub hd hdom, answers_respond (okA_ne_owedA b), onlyServer_respond fun p hp => touch_same hp ..⟩
  refine ⟨fun d hsub hd hdom => ⟨fun hp hv => ?inEffect, fun w hp hv => ?pending, fun v hp hv => ?staged⟩, fun hsub => ?count, hplain,
    fun d hsub hd hdom => ?domain⟩
  case inEffect => exact hgives hsub hd hdom (readBody_in_effect _ hp hv)
  case pending =>
    obtain ⟨r, hr, hanswer, honly⟩ := hgives hsub hd hdom (readBody_pending _ hp hv)
    exact ⟨r, hr, honly, hanswer⟩
  case staged => exact hgives hsub hd hdom (readBody_staged _ hp hv)
  case count => exact exec_taken h (t := t) rfl rfl (by simp only [hpass, hsub, if_true])
  case domain => exact exec_taken h (t := t) rfl rfl (by simp only [hpass, hsub, hd, hdom, if_false, if_true])

/-! ### WRITE (R68, R84, R87) -/

section Write

variable {q : OdapReq} {a : Addr} {u : Session} {s t : State} {ty : Nat} {v : Octets} {d : ObjDesc} {authOk : Bool}

/-- The writes staged in the request's transaction, but for those of an address. -/
def priorWrites (q : OdapReq) (a : Addr) (s : State) : List Staged := ((ownTxn q s).map (fun t => (unstage a t).staged)).getD []

/-- The first failure of a write of a request (R81), at the slot where it would take effect. -/
def coreFailure (u : Session) (q : OdapReq) (a : Addr) (ty : Nat) (v : Octets) (authOk : Bool) (s : State) : Option (Nat × Nat) :=
  writeFailure (quarantineEff a v (slotE a s) s) u q a ty v authOk (q.txn != 0) (priorWrites q a s) s

theorem writeCore_of_failure {st x : Nat} (h : coreFailure u q a ty v authOk s = some (st, x)) :
    writeCore u q a ty v authOk s = (s, errA st x) := by
  simp only [coreFailure, priorWrites] at h
  simp only [writeCore, h]

theorem writeCore_of_no_txn (h : coreFailure u q a ty v authOk s = none) (hnone : ownTxn q s = none) :
    writeCore u q a ty v authOk s = commitWrite u a v authOk s := by
  simp only [coreFailure, priorWrites] at h
  simp only [writeCore]
  rw [h, hnone]

/-- In a transaction with room a write is staged with its reserved bits clear. -/
theorem writeCore_of_txn {x : Txn} (h : coreFailure u q a ty v authOk s = none) (hx : ownTxn q s = some x)
    (hd : odFind a.idx a.sub = some d) (hroom : plainWrites (stageWrite ⟨a.idx, a.sub, a.row, masked d v⟩ x) ≤ 1024) :
    writeCore u q a ty v authOk s = (modTxn x.id (stageWrite ⟨a.idx, a.sub, a.row, masked d v⟩) s, effA effStaged) := by
  simp only [coreFailure, priorWrites] at h
  simp only [writeCore]
  rw [h, hx]
  simp only [stageIn, hd, Option.map_some, Option.getD_some, Nat.not_lt.2 hroom, if_false]

/-- A WRITE of an object that is no DOMAIN is answered as a write of its request. -/
theorem exec_write_of_taken (h : TakenUp q (12 + v.length) u s) (hd : odFind a.idx a.sub = some d) (hdom : d.ty ≠ .domain)
    (ht : t = touch q.session s) {r : State × Answer} (hr : writeCore u q a ty v true t = r) :
    exec (.write q a ty v) s = .next (afterWrite q s r) :=
  exec_taken h ht rfl (by simp only [hd, hdom, if_false, hr])

end Write

/-- Settles O8: what a write of a request does where it fails, where it is staged and where it commits. -/
theorem writeCommitsOrStages : Obligations.WriteCommitsOrStages := by
  unfold Obligations.WriteCommitsOrStages
  intro q a ty v u s d h hd hdom _ t e
  refine ⟨fun hpass hnone => ?commits, fun x hx hpass hroom => ?stages, fun st y hfail => ?refused⟩
  case commits =>
    have hcore : coreFailure u q a ty v true t = none := by
      simp only [coreFailure, priorWrites, hnone]
      exact hpass
    exact exec_write_of_taken h hd hdom rfl (writeCore_of_no_txn hcore hnone)
  case stages =>
    have hcore : coreFailure u q a ty v true t = none := by
      simp only [coreFailure, priorWrites, hx]
      exact hpass
    exact ⟨_, exec_write_of_taken h hd hdom rfl (writeCore_of_txn hcore hx hd hroom), answers_respond (effA_ne_owedA _),
      onlyServer_respond fun p hp => server_same hp .., rfl⟩
  case refused =>
    exact ⟨_, exec_write_of_taken h hd hdom rfl (writeCore_of_failure hfail), answers_respond (errA_ne_owedA st y),
      onlyServer_respond fun p hp => touch_same hp .., rfl⟩

/-- An IMMEDIATE object without a rule of its own takes its value at once. -/
theorem commitWrite_of_immediate {u : Session} {a : Addr} {v : Octets} {s : State} {d : ObjDesc} (hd : odFind a.idx a.sub = some d)
    (happ : d.app = .immediate) (hown : ownerCommit u a (masked d v) true s = none)
    (heffect : takeEffect a.idx a.sub a.row (masked d v) s = odPut a.idx a.sub a.row (masked d v) s) :
    commitWrite u a v true s = storedChange d (odPut a.idx a.sub a.row (masked d v) s, effA (effNow s)) := by
  have hat : valueEff d a (masked d v) s = (effNow s, none) := by simp only [valueEff, writeEff, happ]
  simp only [commitWrite, hd, hown, hat, heffect]

/-- A commit that was done marks the spare's snapshot stale where its object is STORED, and changes nothing else (R343). -/
theorem storedChange_effA (d : ObjDesc) (s : State) (e : Nat) : storedChange d (s, effA e) =
    ({ s with hed := if d.pers = .stored then { s.hed with dirty := true } else s.hed }, effA e) := by
  have hok : committedOk (effA e) = true := rfl
  simp only [storedChange, hok, and_true]
  split <;> rfl

/-- Settles O9: the value goes to the store, where only its own key reads anew, and the mark follows the object's persistence. -/
theorem immediateWriteTakesEffect : Obligations.ImmediateWriteTakesEffect := by
  unfold Obligations.ImmediateWriteTakesEffect
  intro q a ty v u s d h _ hd hdom happ hown heffect
  have hcommit := (commitWrite_of_immediate hd happ hown (heffect _)).trans (storedChange_effA d _ _)
  have hexec : exec (.write q a ty v) s = .next (afterWrite q s (commitWrite u a v true (touch q.session s))) :=
    congrArg (fun t => Host.Outcome.next (conclude s t)) (write_accepted d h hd hdom)
  rw [hcommit] at hexec
  have hod {i b r : Nat} {t : State × Answer} : odGet (afterWrite q s t) i b r = odGet t.1 i b r := by
    simp only [odGet, afterWrite_od]
  refine ⟨_, hexec, ?_, answers_afterWrite (effA_ne_owedA _), fun i b r hne => ?_, fun hp => ?_, fun hp => ?_,
    onlyChanges_afterWrite fun p hp => ?_⟩
  · exact hod.trans (odGet_odPut_self (touch q.session s) a.idx a.sub a.row (masked d v))
  · exact hod.trans (odGet_odPut_ne (touch q.session s) _ _ _ i b r _ hne.symm)
  · simp only [afterWrite, conclude_hed, respond_hed, hp, if_true]; rfl
  · simp only [afterWrite, conclude_hed, respond_hed, hp, if_false]; rfl
  · cases p with
    | srv | od | hed => exact absurd (by decide) hp
    | _ => rfl

end Sys2Proof.Machine
end

section
/-!
PROOFS. Transactions: their beginning, their commit at one point, and their end (R84, R87, R88, R89, R498).
-/

namespace Sys2Proof.Machine

/-! ### What answering leaves of transactions and transfers (R88) -/

section Answered

variable {s t : State} {q : OdapReq} {op : Nat} {a : Answer} {cached : Bool}

@[simp] theorem respond_srv_nextTxn (q : OdapReq) (op : Nat) (a : Answer) (c : Bool) (s : State) :
    (respond q op a c s).srv.nextTxn = s.srv.nextTxn := by
  unfold respond
  dsimp only
  split
  · rfl
  · split
    · rfl
    · rfl

@[simp] theorem respond_srv_blocks (q : OdapReq) (op : Nat) (a : Answer) (c : Bool) (s : State) :
    (respond q op a c s).srv.blocks = s.srv.blocks := by
  unfold respond
  dsimp only
  split
  · rfl
  · split
    · rfl
    · rfl

/-- A transaction that its session's request names notes the time of the request. -/
def notedTxn (q : OdapReq) (now : Nat) (x : Txn) : Txn :=
  if x.id = q.txn ∧ x.session = q.session then { x with lastReq := now } else x

@[simp] theorem notedTxn_id (q : OdapReq) (now : Nat) (x : Txn) : (notedTxn q now x).id = x.id := by
  unfold notedTxn; split <;> rfl

theorem respond_srv_txns_cached (q : OdapReq) (op : Nat) (a : Answer) (s : State) :
    (respond q op a true s).srv.txns = s.srv.txns.map (notedTxn q s.clk.elapsed) := by
  unfold respond; dsimp only; split <;> rfl

/-- A transaction that has ended is still ended when its request has been answered. -/
theorem ended_after_answer {x : Txn} (h : ∀ y ∈ t.srv.txns, y.id ≠ x.id) :
    ∀ y ∈ (conclude s (respond q op a true t)).srv.txns, y.id ≠ x.id := by
  intro y hy
  rw [conclude_srv_txns, respond_srv_txns_cached] at hy
  obtain ⟨z, hz, rfl⟩ := List.mem_map.1 hy
  rw [notedTxn_id]
  exact h z hz

theorem closeTxn_ends (x : Txn) (c : Bool) (s : State) : ∀ y ∈ (closeTxn x c s).srv.txns, y.id ≠ x.id := by
  intro y hy
  simpa using (List.mem_filter.1 hy).2

/-- The end of a transaction touches the server alone. -/
theorem closeTxn_same {p : Part} (hp : p ≠ .srv) (x : Txn) (c : Bool) (id : Nat) (s : State) : p.same s (closeTxn x c (touch id s)) :=
  server_same hp s _ _

end Answered

theorem commitError_ne_owedA (st d n : Nat) : commitError st d n ≠ owedA := by
  intro h
  injection h with _ hbody
  exact absurd (congrArg List.length hbody) (by simp [List.length_append])

/-! ### The three requests -/

section Requests

variable {q : OdapReq} {u : Session} {s t : State} {x : Txn}

/-- TXN_BEGIN opens a transaction under the next number. -/
theorem exec_txnBegin_of_room (h : TakenUp q 0 u s) (ht : t = touch q.session s) (hpass : firstFailure (txnChecks q t) = none)
    (hroom : t.srv.txns.length < 4) :
    exec (.txnBegin q) s = .next (conclude s (respond q 0x20 (okA (beOct 4 t.srv.nextTxn)) true { t with srv := { t.srv with
      txns := t.srv.txns ++ [{ id := t.srv.nextTxn, session := u.id, lastReq := t.clk.elapsed }]
      nextTxn := (t.srv.nextTxn + 1) % 2 ^ 32 } })) :=
  exec_taken h ht rfl (by simp only [hpass, Nat.not_le.2 hroom, if_false])

theorem exec_txnAbort_of_open (h : TakenUp q 0 u s) (ht : t = touch q.session s) (hx : ownTxn q t = some x) :
    exec (.txnAbort q) s = .next (conclude s (respond q 0x22 (okA []) true (closeTxn x false t))) :=
  exec_taken h ht rfl (by simp only [hx])

/-- The slot that a transaction's commit answers: the common one of its air writes, or one of the two values of none. -/
def commonAnswer (staged : List Staged) (s : State) : Nat :=
  match commonEff staged s with
  | some e => e
  | none => if hasAir staged then effNoSlots else effNone

/-! A commit: its re-check, the checks on the whole set, then every staged write in order; the first failure ends it without effect. -/

/-- The slot that a transaction's writes are checked against again (R87, R88). -/
def recheckSlot (x : Txn) (s : State) : Nat := (commonEff x.staged s).getD (nextSuperframeE s)

variable (authOk : Bool) (h : TakenUp q 0 u s) (ht : t = touch q.session s) (hx : ownTxn q t = some x)
include h ht hx

theorem exec_txnCommit_of_recheck {st d n : Nat} (hre : recheck (recheckSlot x t) u q authOk t [] x.staged = some (st, d, n)) :
    exec (.txnCommit q authOk) s = .next (conclude s (respond q 0x21 (commitError st d n) true (closeTxn x false t))) := by
  unfold recheckSlot at hre
  exact exec_taken h ht rfl (by simp only [hx, hre])

variable (hre : recheck (recheckSlot x t) u q authOk t [] x.staged = none)
include hre

theorem exec_txnCommit_of_setChecks {st d : Nat} (hset : setChecks (recheckSlot x t) x.staged t = some (st, d)) :
    exec (.txnCommit q authOk) s = .next (conclude s (respond q 0x21
      (commitError st d (setPosition (recheckSlot x t) x.staged st d t)) true (closeTxn x false t))) := by
  unfold recheckSlot at hre hset
  exact exec_taken h ht rfl
    (by simp only [hx, hre, hset, recheckSlot])

variable (hset : setChecks (recheckSlot x t) x.staged t = none)
include hset

theorem exec_txnCommit_of_error {n : Nat} {b : Octets} (hall : commitAll u authOk (commonEff x.staged t) 0 x.staged t = .error (n, b)) :
    exec (.txnCommit q authOk) s = .next (conclude s (respond q 0x21
      (commitError (fieldNat b 0 2) (fieldNat b 2 4) n) true (closeTxn x false t))) := by
  unfold recheckSlot at hre hset
  exact exec_taken h ht rfl
    (by simp only [hx, hre, hset, hall])

theorem exec_txnCommit_of_ok {t1 : State} (hall : commitAll u authOk (commonEff x.staged t) 0 x.staged t = .ok t1) {eff : Nat}
    (heff : eff = commonAnswer x.staged t) :
    exec (.txnCommit q authOk) s = .next (conclude s (respond q 0x21 (effA eff) true (closeTxn x true (mergeChanges t.eas.changes t1)))) := by
  subst heff
  unfold recheckSlot at hre hset
  exact exec_taken h ht rfl
    (by simp only [hx, hre, hset, hall]; rfl)

end Requests

/-- Every staged write of a commit that is done was done itself, in order. -/
theorem commitAll_cons_ok (u : Session) (authOk : Bool) (common : Option Nat) (n : Nat) (w : Staged) (l : List Staged) (s t : State) :
    commitAll u authOk common n (w :: l) s = .ok t ↔ committedOk (commitStaged u authOk common w s).2 = true ∧
      commitAll u authOk common (n + 1) l (commitStaged u authOk common w s).1 = .ok t := by
  rw [commitAll]
  by_cases hok : committedOk (commitStaged u authOk common w s).2 = true <;> simp [hok]

/-- Settles O14: each request by what it leaves, and a transaction that ends is among none that stay. -/
theorem transactionsRun : Obligations.TransactionsRun := by
  unfold Obligations.TransactionsRun
  intro q u s h t ended
  have hfails {c : Instr} {op : Nat} {x : Txn} {a : Answer} (ha : a ≠ owedA)
      (hexec : exec c s = .next (conclude s (respond q op a true (closeTxn x false t)))) :
      Gives (exec c s) (fun r => Answers q op a r ∧ ended r x ∧ OnlyChanges [.srv] s r) :=
    ⟨_, hexec, answers_respond ha, ended_after_answer (closeTxn_ends x false t),
      onlyServer_respond fun p hp => closeTxn_same hp x false q.session s⟩
  refine ⟨fun hpass hroom => ?begins, fun authOk x t1 hx hre hset hall => ?commits,
    fun authOk common n w l a b => commitAll_cons_ok u authOk common n w l a b, fun authOk x st d n hx hre => ?recheck,
    fun authOk x st d hx hre hset => ?setChecks, fun authOk x n b hx hre hset hall => ?error, fun x hx => ?aborts⟩
  case begins =>
    refine ⟨_, exec_txnBegin_of_room h rfl hpass hroom, answers_respond (okA_ne_owedA _),
      onlyServer_respond fun p hp => server_same hp s _ _, ?_, ?_⟩
    · rw [conclude_srv_nextTxn, respond_srv_nextTxn]
    · rw [conclude_srv_txns, respond_srv_txns_cached]
      refine List.mem_map.2 ⟨_, List.mem_append_right _ (List.mem_singleton_self _), ?_⟩
      unfold notedTxn
      split <;> rfl
  case commits =>
    exact ⟨_, exec_txnCommit_of_ok authOk h rfl hx hre hset hall rfl, answers_respond (effA_ne_owedA _),
      ended_after_answer (closeTxn_ends x true _), rfl⟩
  case recheck => exact hfails (commitError_ne_owedA st d n) (exec_txnCommit_of_recheck authOk h rfl hx hre)
  case setChecks =>
    obtain ⟨r, hr, hanswer, hended, honly⟩ :=
      hfails (commitError_ne_owedA st d _) (exec_txnCommit_of_setChecks authOk h rfl hx hre hset)
    exact ⟨r, hr, hended, honly, hanswer⟩
  case error =>
    obtain ⟨r, hr, hanswer, hended, honly⟩ := hfails (commitError_ne_owedA _ _ n) (exec_txnCommit_of_error authOk h rfl hx hre hset hall)
    exact ⟨r, hr, hended, honly, hanswer⟩
  case aborts => exact hfails (okA_ne_owedA []) (exec_txnAbort_of_open h rfl hx)

end Sys2Proof.Machine
end

section
/-!
PROOFS. Block transfers, and what is answered for an identifier that is not open (R85, R86, R89, R498).
-/

namespace Sys2Proof.Machine

section Blocks

variable {q : OdapReq} {u : Session} {s t : State} {b : Block} {block seg : Nat}

/-! ### The transfers of a session -/

/-- The transfer found under a number is that session's, and has that number. -/
theorem findBlock_ids {session id : Nat} (h : findBlock s session id = some b) : b.session = session ∧ b.id = id := by
  simpa using List.find?_some h

/-- A message of a transfer notes its time, whatever it does to it. -/
theorem findBlock_modBlock {session id : Nat} {f : Block → Block} (hf : ∀ x, (f x).session = x.session ∧ (f x).id = x.id) :
    findBlock (modBlock session id f s) session id =
      (findBlock s session id).map (fun x => { f x with lastMsg := s.clk.elapsed }) := by
  unfold findBlock modBlock
  dsimp only
  induction s.srv.blocks with
  | nil => rfl
  | cons x l ih =>
    obtain ⟨hs, hi⟩ := hf x
    by_cases hx : x.session = session ∧ x.id = id
    · simp [hx, hs, hi]
    · have hne : (x.session == session && x.id == id) = false := by simpa using hx
      simp only [List.map_cons, hx, if_false, List.find?_cons, hne, ih]

theorem findBlock_noted {session n : Nat} : findBlock (modBlock session n id s) session n =
    (findBlock s session n).map (fun x => { x with lastMsg := s.clk.elapsed }) :=
  findBlock_modBlock fun _ => ⟨rfl, rfl⟩

theorem findBlock_congr {session id : Nat} (h : s.srv.blocks = t.srv.blocks) : findBlock s session id = findBlock t session id := by
  simp only [findBlock, h]

theorem findBlock_closeBlock (session id : Nat) (c : Bool) (s : State) : findBlock (closeBlock session id c s) session id = none := by
  refine List.find?_eq_none.2 fun x hx => ?_
  simpa [imp_iff_not_or] using (List.mem_filter.1 hx).2

/-- A transfer stands after the answer as it stood before. -/
theorem findBlock_after_answer {op session id : Nat} {a : Answer} {cached : Bool} :
    findBlock (conclude s (respond q op a cached t)) session id = findBlock t session id :=
  findBlock_congr (by rw [conclude_srv_blocks, respond_srv_blocks])

theorem modBlock_same {p : Part} (hp : p ≠ .srv) (session id : Nat) (f : Block → Block) (i : Nat) (s : State) :
    p.same s (modBlock session id f (touch i s)) := server_same hp s _ _

/-! ### BLOCK_START (R85) -/

/-- BLOCK_START opens a transfer under the session's next number. -/
theorem exec_blockStart_of_room {a : Addr} {dir size : Nat} {t1 : State} (h : TakenUp q 16 u s) (ht : t = touch q.session s)
    (hdir : dir < 2) (hsize : dir = 1 → size ≤ domainMax a.idx a.sub)
    (hpass : firstFailure (addrChecks u.role (dir != 0) a t ++ failIf (!((odFind a.idx a.sub).map (·.ty) == some .domain)) stTypeMismatch ++
      txnChecks q t ++ failIf (readDenied u a t) stAccessDenied (roleNumber u.role)) = none)
    (hroom : (t.srv.blocks.filter (fun b => b.session == u.id)).length < 2)
    (hown : (if dir = 1 then ownerBlockStart a size t else (t, none)) = (t1, none))
    {total : Nat} (htotal : total = if dir = 0 then (domainValue a t).length else size)
    (hb : b = { session := u.id, id := u.nextBlock, idx := a.idx, sub := a.sub, row := a.row, isWrite := dir == 1, size := total
                txn := q.txn, snapshot := if dir = 0 then domainValue a t else [], lastMsg := t.clk.elapsed }) :
    exec (.blockStart q a dir size) s = .next (conclude s (respond q 0x10 (okA (beOct 2 u.nextBlock ++ [0, 0] ++ beOct 4 total)) true
      (modSession u.id (fun u => { u with nextBlock := (u.nextBlock + 1) % 65536 })
        { t1 with srv := { t1.srv with blocks := t1.srv.blocks ++ [b] } }))) := by
  have hrange : (decide (1 < dir) || (dir == 1 && decide (domainMax a.idx a.sub < size))) = false := by
    simp only [Bool.or_eq_false_iff, decide_eq_false_iff_not, Bool.and_eq_false_imp, beq_iff_eq]
    exact ⟨by omega, fun hd => Nat.not_lt.2 (hsize hd)⟩
  have hchecks : firstFailure (addrChecks u.role (dir != 0) a t ++ failIf (!((odFind a.idx a.sub).map (·.ty) == some .domain)) stTypeMismatch ++
      failIf (decide (1 < dir) || (dir == 1 && decide (domainMax a.idx a.sub < size))) stOutOfRange ++
      txnChecks q t ++ failIf (readDenied u a t) stAccessDenied (roleNumber u.role)) = none := by
    rw [hrange, show failIf false stOutOfRange = [] from rfl, List.append_nil]
    exact hpass
  subst hb htotal
  have htotal : (if dir = 0 then (if dir = 0 then domainValue a t else []).length else size) =
      if dir = 0 then (domainValue a t).length else size := by
    split <;> rfl
  exact exec_taken h ht rfl (by
    simp only [hchecks, Nat.not_le.2 hroom, if_false, hown, htotal])

/-! ### BLOCK_SEG (R85) -/

/-- A segment of a read is served from the snapshot, and the transfer notes the message. -/
theorem exec_blockSeg_of_read (h : TakenUp q 8 u s) (ht : t = touch q.session s) (hpass : firstFailure (txnChecks q t) = none)
    (hb : findBlock t u.id block = some b) (hread : b.isWrite = false) (hseg : seg < segCount b.size) (hout : q.segsOut < 8) :
    exec (.blockSeg q block seg []) s = .next (conclude s (respond q 0x11 (okA ((b.snapshot.drop (1024 * seg)).take 1024)) true
      (modBlock u.id block id t))) :=
  exec_taken h ht rfl (by
    simp only [hpass, hb, hread, Bool.false_eq_true, if_false, ne_eq, not_true_eq_false, giveSegment, Nat.not_le.2 hout,
      Nat.not_le.2 hseg])

/-- A new segment of a write, within the window and of the right length, is kept. -/
theorem exec_blockSeg_of_write {data : Octets} (h : TakenUp q (8 + data.length) u s) (ht : t = touch q.session s)
    (hpass : firstFailure (txnChecks q t) = none) (hb : findBlock t u.id block = some b) (hwrite : b.isWrite = true)
    (hnew : b.segs.find? (fun p => p.1 == seg) = none) (hseg : seg < segCount b.size) (hwindow : seg < lowestMissing b + 8)
    (hlen : data.length = (if seg + 1 < segCount b.size then 1024 else b.size - 1024 * seg)) :
    exec (.blockSeg q block seg data) s = .next (conclude s (respond q 0x11 (okA []) true
      (modBlock u.id block (fun b => { b with segs := b.segs ++ [(seg, data)] }) (modBlock u.id block id t)))) := by
  obtain ⟨hsession, hid⟩ := findBlock_ids hb
  have hinside : ¬ (segCount b.size ≤ seg ∨ lowestMissing b + 8 ≤ seg) := by omega
  exact exec_taken h ht rfl (by
      simp only [hpass, hb, hwrite, if_true, takeSegment, hnew, hinside, if_false, hlen, ne_eq, not_true_eq_false, hsession, hid])

/-! ### BLOCK_END (R85 to R87) -/

/-- The end of a read closes its transfer. -/
theorem exec_blockEnd_of_read (authOk : Bool) (h : TakenUp q 4 u s) (ht : t = touch q.session s)
    (hpass : firstFailure (txnChecks q t) = none) (hb : findBlock t u.id block = some b) (hread : b.isWrite = false) :
    exec (.blockEnd q block authOk) s = .next (conclude s (respond q 0x12 (okA []) true
      (closeBlock u.id block false (modBlock u.id block id t)))) := by
  have hchecks : firstFailure (txnChecks q (modBlock u.id block id t)) = none := hpass
  have hfound : findBlock (modBlock u.id block id t) u.id block = some { b with lastMsg := t.clk.elapsed } := by
    rw [findBlock_noted, hb]; rfl
  exact exec_taken h ht rfl (by
    simp only [hchecks, hfound, hread, Bool.false_eq_true, if_false])

/-- What the end of a complete write does with the write of its value. -/
def endWrite (q : OdapReq) (u : Session) (block txn : Nat) (a : Addr) (r : State × Answer) : State × Answer :=
  if r.2 = owedA then (ownPrep q block r.1, owedA)
  else if committedOk r.2 then
    (closeBlock u.id block (txn == 0) (modTxn txn (fun t => { t with blocks := t.blocks ++ [(block, a)] }) r.1), r.2)
  else r

theorem endWrite_of_done {txn : Nat} {a : Addr} {r : State × Answer} (hok : committedOk r.2 = true) (howed : r.2 ≠ owedA) :
    endWrite q u block txn a r =
      (closeBlock u.id block (txn == 0) (modTxn txn (fun t => { t with blocks := t.blocks ++ [(block, a)] }) r.1), r.2) := by
  rw [endWrite, if_neg howed, if_pos hok]

theorem endWrite_of_refused {txn : Nat} {a : Addr} {r : State × Answer} (hbad : committedOk r.2 = false) :
    endWrite q u block txn a r = r := by
  have howed : r.2 ≠ owedA := fun h => by rw [h] at hbad; exact absurd hbad (by decide)
  rw [endWrite, if_neg howed, hbad, if_neg Bool.false_ne_true]

/-- The end of a complete write is the WRITE of its value. -/
theorem exec_blockEnd_of_write (authOk : Bool) (h : TakenUp q 4 u s) (ht : t = touch q.session s)
    (hpass : firstFailure (txnChecks q t) = none) (hb : findBlock t u.id block = some b) (hwrite : b.isWrite = true)
    (hall : segCount b.size ≤ lowestMissing b) {txn : Nat} (htxn : txn = if q.txn = 0 then b.txn else q.txn) {r : State × Answer}
    (hr : endWrite q u block txn ⟨b.idx, b.sub, b.row⟩ (writeCore u { q with txn := txn } ⟨b.idx, b.sub, b.row⟩ 0x10 (blockValue b)
      authOk (modBlock u.id block id t)) = r) :
    exec (.blockEnd q block authOk) s = .next (conclude s (respond q 0x12 r.2 true r.1)) := by
  have hchecks : firstFailure (txnChecks q (modBlock u.id block id t)) = none := hpass
  have hfound : findBlock (modBlock u.id block id t) u.id block = some { b with lastMsg := t.clk.elapsed } := by
    rw [findBlock_noted, hb]; rfl
  have hcomplete : ¬ (lowestMissing { b with lastMsg := t.clk.elapsed } < segCount b.size) := Nat.not_lt.2 hall
  subst htxn hr
  refine exec_taken h ht rfl ?_
  simp only [hchecks, hfound, hwrite, if_true]
  exact if_neg hcomplete

/-! ### BLOCK_ABORT (R89) -/

theorem exec_blockAbort_of_open (h : TakenUp q 4 u s) (ht : t = touch q.session s) (hpass : firstFailure (txnChecks q t) = none)
    (hb : findBlock t u.id block = some b) :
    exec (.blockAbort q block) s = .next (conclude s (respond q 0x13 (okA []) true
      (closeBlock u.id block false (abortPrep q.session block t)))) :=
  exec_taken h ht rfl (by simp only [hb, hpass])

end Blocks

/-- Settles O13: each request by what it leaves, and a closed transfer is not found again. -/
theorem blockTransfersRun : Obligations.BlockTransfersRun := by
  unfold Obligations.BlockTransfersRun
  intro q u s t ended hpass
  have hended {op block : Nat} {a : Answer} {c : Bool} {x : State} :
      ended (conclude s (respond q op a true (closeBlock u.id block c x))) block :=
    findBlock_after_answer.trans (findBlock_closeBlock u.id block c x)
  refine ⟨fun a dir size t1 h hdir hsize hchecks hroom hown => ?start, fun block seg b h hb hread hseg hout => ?serves,
    fun block seg data b h hb hwrite hnew hseg hwindow hlen => ?keeps, fun block authOk b h hb hread => ?endsRead,
    fun block authOk b h hb hwrite hall => ?endsWrite,
    fun block b h hb => ?aborts⟩
  case start =>
    intro total b
    refine ⟨_, exec_blockStart_of_room h rfl hdir hsize hchecks hroom hown rfl rfl, answers_respond (okA_ne_owedA _), ?_, rfl⟩
    rw [conclude_srv_blocks, respond_srv_blocks]; rfl
  case serves =>
    exact ⟨_, exec_blockSeg_of_read h rfl hpass hb hread hseg hout, answers_respond (okA_ne_owedA _),
      onlyServer_respond fun p hp => modBlock_same hp .., rfl⟩
  case keeps =>
    refine ⟨_, exec_blockSeg_of_write h rfl hpass hb hwrite hnew hseg hwindow hlen, answers_respond (okA_ne_owedA _),
      onlyServer_respond fun p hp => server_same hp s _ _, ?_⟩
    rw [findBlock_after_answer, findBlock_modBlock (f := fun b => { b with segs := b.segs ++ [(seg, data)] }) fun _ => ⟨rfl, rfl⟩,
      findBlock_noted, hb]
    rfl
  case endsRead =>
    exact ⟨_, exec_blockEnd_of_read authOk h rfl hpass hb hread, answers_respond (okA_ne_owedA _), hended,
      onlyServer_respond fun p hp => server_same hp s _ _⟩
  case endsWrite =>
    intro txn r1
    refine ⟨fun hok howed => ?accepted, fun howed => ?owed, fun hbad => ?refused⟩
    case accepted =>
      have hend := endWrite_of_done (q := q) (u := u) (block := block) (txn := txn) (a := ⟨b.idx, b.sub, b.row⟩) hok howed
      exact ⟨_, exec_blockEnd_of_write authOk h rfl hpass hb hwrite hall rfl hend, answers_respond howed, hended, rfl⟩
    case owed => exact exec_blockEnd_of_write authOk h rfl hpass hb hwrite hall rfl (if_pos howed)
    case refused => exact exec_blockEnd_of_write authOk h rfl hpass hb hwrite hall rfl (endWrite_of_refused hbad)
  case aborts =>
    exact ⟨_, exec_blockAbort_of_open h rfl hpass hb, answers_respond (okA_ne_owedA _), hended, rfl⟩

end Sys2Proof.Machine
end

section
/-!
PROOFS. What is answered for an identifier that is not open in its session (R498).
-/

namespace Sys2Proof.Machine

variable {q : OdapReq} {u : Session} {s t : State}

/-! ### What a session remembers -/

/-- A transaction's end is remembered by its session. -/
theorem closeTxn_remembered {x : Txn} (c : Bool) (hu : u ∈ s.srv.sessions) (hid : u.id = x.session) :
    ∃ v ∈ (closeTxn x c s).srv.sessions, v.id = u.id ∧ v.endedTxns = ((x.id, c) :: u.endedTxns).take 64 := by
  refine ⟨_, List.mem_map_of_mem hu, ?_, ?_⟩ <;> rw [if_pos hid]

/-- A transfer's end is remembered by its session. -/
theorem closeBlock_remembered (block : Nat) (c : Bool) (hu : u ∈ s.srv.sessions) :
    ∃ v ∈ (closeBlock u.id block c s).srv.sessions, v.id = u.id ∧ v.endedBlocks = ((block, c) :: u.endedBlocks).take 64 := by
  refine ⟨_, List.mem_map_of_mem hu, ?_, ?_⟩ <;> rw [if_pos rfl]

theorem abortRemembered_committed {ended : List (Nat × Bool)} {n : Nat} (h : ended.find? (fun p => p.1 == n) = some (n, true)) :
    abortRemembered ended n = errA stTooLate := by
  simp only [abortRemembered, h]

theorem abortRemembered_aborted {ended : List (Nat × Bool)} {n : Nat} (h : ended.find? (fun p => p.1 == n) = some (n, false)) :
    abortRemembered ended n = okA [] := by
  simp only [abortRemembered, h]

theorem abortRemembered_unknown {ended : List (Nat × Bool)} {n : Nat} (h : ended.find? (fun p => p.1 == n) = none) :
    abortRemembered ended n = errA stOutOfRange := by
  simp only [abortRemembered, h]

/-! ### A request that names what is not open -/

/-- A command is answered, and changes nothing but the server. -/
def Tells (q : OdapReq) (s : State) (c : Instr) (op : Nat) (a : Answer) : Prop :=
  Gives (exec c s) (fun r => Answers q op a r ∧ OnlyChanges [.srv] s r)

theorem tells_of_exec {c : Instr} {op : Nat} {a : Answer} (ha : a ≠ owedA) (hsame : ∀ p : Part, p ≠ .srv → p.same s t)
    (hexec : exec c s = .next (conclude s (respond q op a true t))) : Tells q s c op a :=
  ⟨_, hexec, answers_respond ha, onlyServer_respond hsame⟩

theorem tells_error {c : Instr} {op x d : Nat} (ht : t = touch q.session s)
    (hexec : exec c s = .next (conclude s (respond q op (errA x d) true t))) : Tells q s c op (errA x d) :=
  tells_of_exec (errA_ne_owedA x d) (fun _ hp => ht ▸ touch_same hp q.session s) hexec

/-- A header that names a transaction that is not open fails that check alone. -/
theorem txnChecks_of_unknown (hnone : ownTxn q t = none) (hq : q.txn ≠ 0) : txnChecks q t = [(stOutOfRange, 0)] := by
  have hbad : (q.txn != 0 && (ownTxn q t).isNone) = true := by simp [hq, hnone]
  rw [txnChecks, hbad]; rfl

section

variable (ht : t = touch q.session s)
include ht

theorem blockSeg_unopened {block seg : Nat} {data : Octets} (h : TakenUp q (8 + data.length) u s) (hnone : findBlock t u.id block = none)
    (hpass : firstFailure (txnChecks q t) = none) :
    Tells q s (.blockSeg q block seg data) 0x11 (errA stOutOfRange) := by
  refine tells_error ht (exec_taken h ht rfl ?_)
  simp only [hnone, hpass]

theorem blockEnd_unopened {block : Nat} {authOk : Bool} (h : TakenUp q 4 u s) (hnone : findBlock t u.id block = none)
    (hpass : firstFailure (txnChecks q t) = none) :
    Tells q s (.blockEnd q block authOk) 0x12 (errA stOutOfRange) := by
  have hnoted : findBlock (modBlock u.id block id t) u.id block = none := by rw [findBlock_noted, hnone]; rfl
  have hchecks : firstFailure (txnChecks q (modBlock u.id block id t)) = none := hpass
  refine tells_of_exec (errA_ne_owedA _ _) (fun p hp => ?_) (exec_taken (t1 := modBlock u.id block id t) h ht rfl ?_)
  · rw [ht]; exact modBlock_same hp ..
  · simp only [hnoted, hchecks]

/-- An abort of a transfer that is not open is answered from what the session remembers. -/
theorem blockAbort_unopened {block : Nat} (h : TakenUp q 4 u s) (hnone : findBlock t u.id block = none)
    (hstaged : stagedBlock t u.id block = none) {a : Answer} (ha : a ≠ owedA) (hrem : abortRemembered u.endedBlocks block = a) :
    Tells q s (.blockAbort q block) 0x13 a := by
  refine tells_of_exec ha (fun p hp => ht ▸ touch_same hp q.session s) (exec_taken h ht rfl ?_)
  simp only [hnone, hstaged, hrem]

theorem txnCommit_unopened {authOk : Bool} (h : TakenUp q 0 u s) (hnone : ownTxn q t = none) :
    Tells q s (.txnCommit q authOk) 0x21 (errA stOutOfRange) := by
  refine tells_error ht (exec_taken h ht rfl ?_)
  simp only [hnone]

theorem txnAbort_unopened (h : TakenUp q 0 u s) (hnone : ownTxn q t = none) {a : Answer} (ha : a ≠ owedA)
    (hrem : abortRemembered u.endedTxns q.txn = a) : Tells q s (.txnAbort q) 0x22 a := by
  refine tells_of_exec ha (fun p hp => ht ▸ touch_same hp q.session s) (exec_taken h ht rfl ?_)
  simp only [hnone, hrem]

/-! The same of a header that names a transaction that is not open. -/

variable (hchecks : txnChecks q t = [(stOutOfRange, 0)])
include hchecks

theorem txnBegin_in_unknown (h : TakenUp q 0 u s) : Tells q s (.txnBegin q) 0x20 (errA stOutOfRange) := by
  refine tells_error ht (exec_taken h ht rfl ?_)
  simp only [hchecks, firstFailure]

theorem blockSeg_in_unknown {block seg : Nat} {data : Octets} (h : TakenUp q (8 + data.length) u s) :
    Tells q s (.blockSeg q block seg data) 0x11 (errA stOutOfRange) := by
  refine tells_error ht (exec_taken h ht rfl ?_)
  simp only [hchecks, firstFailure]

theorem read_in_unknown {a : Addr} (h : TakenUp q 8 u s)
    (hpass : firstFailure (addrChecks u.role false a t ++ failIf (readDenied u a t) stAccessDenied (roleNumber u.role)) = none) :
    Tells q s (.read q a) 1 (errA stOutOfRange) := by
  obtain ⟨haddr, hread⟩ := List.append_eq_nil_iff.1 (firstFailure_eq_none hpass)
  refine tells_error ht (exec_taken h ht rfl ?_)
  simp only [haddr, hread, hchecks, List.nil_append, List.append_nil, firstFailure]

end

/-- Settles O15: the ends are remembered by their sessions, and each request is answered by what is not open. -/
theorem abortOfEndedTransferOrTransaction : Obligations.AbortOfEndedTransferOrTransaction := by
  unfold Obligations.AbortOfEndedTransferOrTransaction
  refine ⟨rfl, fun _ _ _ => rfl, fun x c s u => closeTxn_remembered c, fun b c s u => closeBlock_remembered b c, fun q u s => ?_⟩
  intro t tells
  refine ⟨fun block authOk hnone hpass => ⟨fun seg data h => ?seg, fun h => ?ends, fun h hstaged => ?aborts⟩,
    fun hnone h => ?transaction, fun hnone hq => ?header⟩
  case seg => exact blockSeg_unopened rfl h hnone hpass
  case ends => exact blockEnd_unopened rfl h hnone hpass
  case aborts =>
    have hrem {a : Answer} (ha : a ≠ owedA) := blockAbort_unopened (t := t) rfl h hnone hstaged ha
    exact ⟨fun he => hrem (errA_ne_owedA _ _) (abortRemembered_committed he),
      fun he => hrem (okA_ne_owedA _) (abortRemembered_aborted he), fun he => hrem (errA_ne_owedA _ _) (abortRemembered_unknown he)⟩
  case transaction =>
    have hrem {a : Answer} (ha : a ≠ owedA) := txnAbort_unopened (t := t) rfl h hnone ha
    exact ⟨fun authOk => txnCommit_unopened rfl h hnone, fun he => hrem (errA_ne_owedA _ _) (abortRemembered_committed he),
      fun he => hrem (okA_ne_owedA _) (abortRemembered_aborted he), fun he => hrem (errA_ne_owedA _ _) (abortRemembered_unknown he)⟩
  case header =>
    have hchecks := txnChecks_of_unknown hnone hq
    exact ⟨fun h => txnBegin_in_unknown rfl hchecks h, fun block seg data h => blockSeg_in_unknown rfl hchecks h,
      fun a h hpass => read_in_unknown rfl hchecks h hpass⟩

end Sys2Proof.Machine
end

section
/-!
PROOFS. Subscriptions and notifications, the server's timers, and the end of a session (R76, R78, R83, R85, R88, R90 to R93).
-/

namespace Sys2Proof.Machine

/-! ### SUBSCRIBE, UNSUBSCRIBE and NOTIFY_ACK (R90, R92) -/

section Requests

variable {q : OdapReq} {u : Session} {s t : State}

theorem exec_subscribe_of_room {kind periodMs minGapMs evtLo evtHi : Nat} {a : Addr} (h : TakenUp q (if kind = 2 then 8 else 16) u s)
    (ht : t = touch q.session s)
    (hpass : firstFailure (txnChecks q t ++ subscribeChecks u kind periodMs minGapMs evtLo evtHi a t) = none)
    (hsession : (t.srv.subs.filter (fun x => x.session == u.id)).length < 64) (hunit : t.srv.subs.length < 256) :
    exec (.subscribe q kind periodMs minGapMs evtLo evtHi a) s = .next (conclude s (respond q 0x30 (okA (beOct 2 t.srv.nextSub)) true
      { t with srv := { t.srv with
          nextSub := (t.srv.nextSub + 1) % 65536
          subs := t.srv.subs ++ [{ id := t.srv.nextSub, session := u.id, kind := kind, periodMs := periodMs, minGapMs := minGapMs
                                   evtLo := evtLo, evtHi := evtHi, idx := a.idx, sub := a.sub, row := a.row
                                   lastAt := if kind = 1 then some t.clk.elapsed else none }] } })) :=
  exec_taken h ht rfl (by simp only [hpass, Nat.not_le.2 hsession, Nat.not_le.2 hunit, if_false])

theorem exec_unsubscribe_of_own {sub : Nat} (h : TakenUp q 2 u s) (ht : t = touch q.session s)
    (hpass : firstFailure (noSubs t ++ txnChecks q t) = none) (hown : t.srv.subs.any (fun x => x.id == sub && x.session == u.id) = true) :
    exec (.unsubscribe q sub) s = .next (conclude s (respond q 0x31 (okA []) true
      { t with srv := { t.srv with subs := t.srv.subs.filter (fun x => !(x.id == sub && x.session == u.id)) } })) :=
  exec_taken h ht rfl (by simp only [hpass, hown, if_true])

/-- NOTIFY_ACK drops what it acknowledges, and has no response. -/
theorem exec_notifyAck_of_heard {sub seq : Nat} (hup : s.srv.up = true) (hu : findSession s q.session = some u)
    (hform : formFault q 6 = none) (hmode : s.ctl.mode ≠ .m2) (ht : t = touch q.session s) :
    exec (.notifyAck q sub seq) s = .next (conclude s { t with srv := { t.srv with subs := t.srv.subs.map (fun x =>
      if x.id = sub ∧ x.session = q.session then { x with unacked := x.unacked.filter (fun n => decide (seq < n.n.seq)) }
      else x) } }) := by
  subst ht
  change done s (odapNotifyAck q sub seq s) = _
  simp only [odapNotifyAck, hup, hu, hform, touch_ctl, hmode, if_false]
  rfl

end Requests

/-- Settles O16: what each of the three leaves of the subscriptions. -/
theorem subscriptionsRun : Obligations.SubscriptionsRun := by
  unfold Obligations.SubscriptionsRun
  refine ⟨?subscribe, ?unsubscribe, ?ack⟩
  case subscribe =>
    intro q u s kind periodMs minGapMs evtLo evtHi a h t hpass hsession hunit
    exact exec_subscribe_of_room h rfl hpass hsession hunit
  case unsubscribe =>
    intro q u s sub h t hpass hown
    exact exec_unsubscribe_of_own h rfl hpass hown
  case ack =>
    intro q u s sub seq hup hu hform hmode t
    exact exec_notifyAck_of_heard hup hu hform hmode rfl

/-! ### The limits of a subscription (R91, R92) -/

section Limits

variable (st : Nat × Nat × Nat) (v : Octets)

@[simp] theorem coalesce_length (l : List Unacked) : (coalesce st v l).length = l.length := by
  induction l with
  | nil => rfl
  | cons x l ih =>
    cases l with
    | nil => rfl
    | cons y l => exact congrArg (· + 1) ih

theorem coalesce_dropLast (l : List Unacked) : (coalesce st v l).dropLast = l.dropLast := by
  induction l with
  | nil => rfl
  | cons x l ih =>
    cases l with
    | nil => rfl
    | cons y l =>
      have hne : coalesce st v (y :: l) ≠ [] := fun h => by simpa [h] using coalesce_length st v (y :: l)
      rw [coalesce, List.dropLast_cons_of_ne_nil hne, ih, List.dropLast_cons_of_ne_nil (List.cons_ne_nil y l)]
      exact fun h => absurd h (List.cons_ne_nil y l)

/-- The newest notification held takes the value and its stamp, and says that one was overrun. -/
theorem coalesce_getLast? {l : List Unacked} (h : l ≠ []) : ∃ x ∈ l.getLast?, (coalesce st v l).getLast? =
    some { x with n := { x.n with payload := v, overrun := true, asn := st.1, secs := st.2.1, nanos := st.2.2 } } := by
  induction l with
  | nil => exact absurd rfl h
  | cons x l ih =>
    cases l with
    | nil => exact ⟨x, rfl, rfl⟩
    | cons y l =>
      obtain ⟨z, hz, hlast⟩ := ih (List.cons_ne_nil y l)
      have hne : coalesce st v (y :: l) ≠ [] := fun h => by simpa [h] using coalesce_length st v (y :: l)
      refine ⟨z, by rwa [List.getLast?_cons_cons], ?_⟩
      rw [coalesce, List.getLast?_cons_of_ne_nil hne, hlast]
      exact fun h => absurd h (List.cons_ne_nil y l)

end Limits

/-- Settles O17: below 16 a notification is added; at 16 an event is counted and a value coalesces. -/
theorem notificationLimits : Obligations.NotificationLimits := by
  unfold Obligations.NotificationLimits
  intro u now asn secs nanos v n p
  refine ⟨fun hroom => ?room, fun hfull hkind => ?event, fun hfull hkind => ?value⟩
  case room =>
    have hp : p = _ := if_neg (Nat.not_le.2 hroom)
    rw [hp]
    exact ⟨rfl, rfl, rfl, rfl⟩
  case event =>
    have hp : p = _ := (if_pos hfull).trans (if_pos hkind)
    exact hp
  case value =>
    have hp : p = _ := (if_pos hfull).trans (if_neg hkind)
    have hne : u.unacked ≠ [] := fun h => by simp [h] at hfull
    rw [hp]
    exact ⟨rfl, rfl, coalesce_length .., coalesce_dropLast .., coalesce_getLast? (asn, secs, nanos) v hne⟩

/-! ### The server's timers (R76, R78, R83, R85, R88, R90, R92) -/

section Timers

variable {s t : State}

theorem exec_odapRuntMessage_of_short {n len : Nat} {u : Session} (hup : s.srv.up = true) (hu : findSession s n = some u) (hlen : len < 8) :
    exec (.odapRuntMessage n len) s = .next (conclude s (bump 0xA010 7 0 (touch n s))) := by
  change done s (odapRunt n len s) = _
  simp only [odapRunt, hup, hu, hlen, if_true]
  rfl

section Sub

variable {i : Nat} {u : Sub} (hu : findSub s i = some u)
include hu

/-- What a subscription pushes is kept in it and sent. -/
theorem sendNow_of_found (st : Nat × Nat × Nat) (v : Octets) : sendNow i st v s =
    { s with srv := { s.srv with subs := s.srv.subs.map (fun x => if x.id = i then (u.push s.clk.elapsed st v).1 else x) }
             out := s.out ++ (u.push s.clk.elapsed st v).2 } := by
  simp only [sendNow, hu]
  rfl

theorem exec_subscriptionPeriodTimer_of_periodic (hkind : u.kind = 1)
    (ht : t = advanceElapsed ((u.lastAt.getD s.clk.elapsed) + u.periodMs * msCycles) s) :
    exec (.subscriptionPeriodTimer i) s = .next (conclude s (sendNow i (stampNow t) (odRead t u.idx u.sub u.row) t)) := by
  subst ht
  change execSubscriptionPeriodTimer i s = _
  simp only [execSubscriptionPeriodTimer, hu, hkind, if_true]
  rfl

theorem exec_subscriptionGapExpiry_of_held (hkind : u.kind = 0) (hheld : u.held = true)
    (ht : t = advanceElapsed ((u.lastAt.getD s.clk.elapsed) + u.minGapMs * msCycles) s) :
    exec (.subscriptionGapExpiry i) s = .next (conclude s (sendNow i u.heldAt (odRead t u.idx u.sub u.row) t)) := by
  subst ht
  change execSubscriptionGapExpiry i s = _
  simp only [execSubscriptionGapExpiry, hu, hkind, hheld, and_self, if_true]
  rfl

/-- The retransmission timer of a subscription that holds notifications and is not paused. -/
theorem exec_notifyRetransmitTimer_of_waiting (hne : u.unacked ≠ []) (hpause : u.paused = false) (ht : t = advanceElapsed (resendAt u) s) :
    exec (.notifyRetransmitTimer i) s = .next (conclude s
      { modSub i (fun _ => (resend u t.clk.elapsed).1) t with out := t.out ++ (resend u t.clk.elapsed).2 }) := by
  subst ht
  have hwaits : ¬ (u.unacked = [] ∨ u.paused = true) := by simp [hne, hpause]
  change execNotifyRetransmitTimer i s = _
  simp only [execNotifyRetransmitTimer, hu, hwaits, if_false]
  rfl

end Sub

/-- What is due is sent again while none of it was sent again 5 times. -/
theorem resend_of_few {u : Sub} {now : Nat} (h : ∀ x ∈ u.unacked, decide (x.at_ + secCycles ≤ now) = true → x.resends < 5) :
    resend u now = ({ u with unacked := u.unacked.map (fun x =>
        if decide (x.at_ + secCycles ≤ now) then { x with at_ := now, resends := x.resends + 1 } else x) },
      (u.unacked.filter (fun x => decide (x.at_ + secCycles ≤ now))).map (fun x => .notify u.session x.n)) := by
  have hfew : u.unacked.any (fun x => resendDue now x && decide (5 ≤ x.resends)) = false := by
    simp only [List.any_eq_false, Bool.and_eq_true, decide_eq_true_eq, not_and, Nat.not_le]
    exact h
  rw [resend, hfew, if_neg Bool.false_ne_true]
  rfl

/-- The sixth time the subscription pauses instead. -/
theorem resend_of_exhausted {u : Sub} {now : Nat} (h : ∃ x ∈ u.unacked, decide (x.at_ + secCycles ≤ now) = true ∧ 5 ≤ x.resends) :
    resend u now = ({ u with paused := true }, []) := by
  refine if_pos (List.any_eq_true.2 ?_)
  obtain ⟨x, hx, hdue, hfive⟩ := h
  exact ⟨x, hx, Bool.and_eq_true_iff.2 ⟨hdue, decide_eq_true hfive⟩⟩

theorem exec_sessionIdleExpiry_of_found {n : Nat} {u : Session} (hu : findSession s n = some u) : exec (.sessionIdleExpiry n) s =
    .next (conclude s (endSession n (advanceElapsed (u.lastMsg + odNat s 0xA010 3 * secCycles) s))) := by
  change execSessionIdleExpiry n s = _
  simp only [execSessionIdleExpiry, hu]
  rfl

theorem exec_txnIdleExpiry_of_found {n : Nat} {x : Txn} (hx : s.srv.txns.find? (fun t => t.id == n) = some x) :
    exec (.txnIdleExpiry n) s = .next (conclude s (closeTxn x false (advanceElapsed (x.lastReq + odNat s 0xA010 4 * secCycles) s))) := by
  change execTxnIdleExpiry n s = _
  simp only [execTxnIdleExpiry, hx]
  rfl

theorem exec_blockIdleExpiry_of_found {n k : Nat} {b : Block} (hb : findBlock s n k = some b) :
    exec (.blockIdleExpiry n k) s =
      .next (conclude s (closeBlock n k false (advanceElapsed (b.lastMsg + odNat s 0xA010 4 * secCycles) s))) := by
  change execBlockIdleExpiry n k s = _
  simp only [execBlockIdleExpiry, hb]
  rfl

theorem exec_replayCacheExpiry_of_found {n rid : Nat} {u : Session} {e : CacheEntry} (hu : findSession s n = some u)
    (he : u.cache.find? (fun e => e.rid == rid) = some e) :
    exec (.replayCacheExpiry n rid) s = .next (conclude s (modSession n (fun u => { u with cache := u.cache.filter (fun e => e.rid != rid) })
      (advanceElapsed (e.at_ + 60 * secCycles) s))) := by
  change execReplayCacheExpiry n rid s = _
  simp only [execReplayCacheExpiry, hu, Option.bind_some, he]
  rfl

end Timers

/-- Settles O18: each timer by what it leaves where its premise stands. -/
theorem odapTimersAndRunts : Obligations.OdapTimersAndRunts := by
  unfold Obligations.OdapTimersAndRunts
  refine ⟨fun n len u s => exec_odapRuntMessage_of_short, fun i u s hu => ?subscription, fun n u s => exec_sessionIdleExpiry_of_found,
    fun n x s hx => ?txn, fun n k b s hb => ?block, fun n rid u e s => exec_replayCacheExpiry_of_found⟩
  case subscription =>
    refine ⟨fun hkind t => exec_subscriptionPeriodTimer_of_periodic hu hkind,
      fun hkind hheld t => exec_subscriptionGapExpiry_of_held hu hkind hheld, sendNow_of_found hu, fun hne hpause t ht => ?_⟩
    intro due
    have hexec := exec_notifyRetransmitTimer_of_waiting hu hne hpause ht
    refine ⟨fun hfew => ?_, fun hfive => ?_⟩
    · rw [hexec, resend_of_few hfew]
    · rw [hexec, resend_of_exhausted hfive, List.append_nil]; rfl
  case txn =>
    have hid : x.id = n := by simpa using List.find?_some hx
    refine ⟨_, exec_txnIdleExpiry_of_found hx, fun y hy => ?_, rfl⟩
    rw [conclude_srv_txns] at hy
    exact hid ▸ closeTxn_ends x false _ y hy
  case block =>
    exact ⟨_, exec_blockIdleExpiry_of_found hb, (findBlock_congr (conclude_srv_blocks _ _)).trans (findBlock_closeBlock n k false _), rfl⟩

/-! ### The end of a session (R76, R357) -/

section SessionEnd

variable {n k : Nat} {s : State}

theorem slotAt_freeSlot (m k : Nat) (s : State) :
    slotAt (freeSlot m s) k = if m = k then { gen := ((slotAt s m).gen + 1) % 127 } else slotAt s k := by
  split
  · next h => subst h; exact sget_sset_self ..
  · next h => exact sget_sset_ne _ _ _ _ _ h

/-- Freeing the slots of a list leaves every other slot as it was. -/
theorem slotAt_freed_of_not_mem {l : List (Nat × KeySlot)} (h : ∀ e ∈ l, e.1 ≠ k) (s : State) :
    slotAt (l.foldl (fun s e => freeSlot e.1 s) s) k = slotAt s k := by
  induction l generalizing s with
  | nil => rfl
  | cons e l ih =>
    obtain ⟨he, hl⟩ := List.forall_mem_cons.1 h
    rw [List.foldl_cons, ih hl, slotAt_freeSlot, if_neg he]

/-- A slot that is free stays so while slots are freed. -/
theorem slotAt_freed_of_free (l : List (Nat × KeySlot)) (h : (slotAt s k).held = false) :
    (slotAt (l.foldl (fun s e => freeSlot e.1 s) s) k).held = false := by
  induction l generalizing s with
  | nil => exact h
  | cons e l ih =>
    refine ih ?_
    rw [slotAt_freeSlot]
    split
    · rfl
    · exact h

theorem slotAt_freed_of_mem {l : List (Nat × KeySlot)} {e : Nat × KeySlot} (h : e ∈ l) (s : State) :
    (slotAt (l.foldl (fun s e => freeSlot e.1 s) s) e.1).held = false := by
  induction l generalizing s with
  | nil => cases h
  | cons x l ih =>
    rcases List.mem_cons.1 h with rfl | h
    · exact slotAt_freed_of_free l (by rw [slotAt_freeSlot, if_pos rfl])
    · exact ih h _

theorem slotAt_endSession (n k : Nat) (s : State) : slotAt (endSession n s) k = slotAt (freeKeysOf (· == n) s) k := rfl

/-- A session's end touches the server and the key slots. -/
theorem endSession_same {p : Part} (h1 : p ≠ .srv) (h2 : p ≠ .sec) (n : Nat) (s : State) : p.same s (endSession n s) := by
  cases p with
  | srv => exact absurd rfl h1
  | sec => exact absurd rfl h2
  | _ => simp only [Part.same, endSession_chip, endSession_ctl, endSession_clk, endSession_rf, endSession_pal, endSession_pri,
      endSession_nod, endSession_eas, endSession_gla, endSession_tre, endSession_rid, endSession_hed, endSession_fw, endSession_shd,
      endSession_host, endSession_pwr, endSession_od, endSession_mem, endSession_free]

/-- What is kept of a list is what its test passes. -/
theorem endSession_txns (n : Nat) (s : State) : (endSession n s).srv.txns = s.srv.txns.filter (fun x => x.session != n) := by
  rw [← freeKeysOf_srv s (· == n)]; rfl

theorem endSession_blocks (n : Nat) (s : State) : (endSession n s).srv.blocks = s.srv.blocks.filter (fun x => x.session != n) := by
  rw [← freeKeysOf_srv s (· == n)]; rfl

theorem endSession_subs (n : Nat) (s : State) : (endSession n s).srv.subs = s.srv.subs.filter (fun x => x.session != n) := by
  rw [← freeKeysOf_srv s (· == n)]; rfl

/-- The PCIe and the internal session start over; any other that ends is gone. -/
theorem endSession_sessions (n : Nat) (s : State) : (endSession n s).srv.sessions =
    (s.srv.sessions.filter (fun u => u.id != n || u.transport == 2 || u.transport == 4)).map (fun u =>
      if u.id = n then { id := u.id, transport := u.transport, role := u.role, lastMsg := s.clk.elapsed } else u) := by
  have hclk : (freeKeysOf (· == n) s).clk = s.clk := freeKeysOf_clk s _
  have hsrv : (freeKeysOf (· == n) s).srv = s.srv := freeKeysOf_srv s _
  rw [← hsrv, ← hclk]
  rfl

theorem endSession_transport {x : Session} (hx : x ∈ (endSession n s).srv.sessions) (hid : x.id = n) :
    x.transport = 2 ∨ x.transport = 4 := by
  rw [endSession_sessions] at hx
  obtain ⟨u, hu, rfl⟩ := List.mem_map.1 hx
  have hkept := (List.mem_filter.1 hu).2
  by_cases hun : u.id = n
  · simpa [hun] using hkept
  · rw [if_neg hun] at hid; exact absurd hid hun

theorem endSession_others {x : Session} (hx : x ∈ s.srv.sessions) (hid : x.id ≠ n) : x ∈ (endSession n s).srv.sessions := by
  rw [endSession_sessions]
  exact List.mem_map.2 ⟨x, List.mem_filter.2 ⟨hx, by simp [hid]⟩, if_neg hid⟩

end SessionEnd

/-- Settles O19: what the end filters is gone, what it does not name stays, and the keys are those of the session. -/
theorem sessionEndTakesItsWork : Obligations.SessionEndTakesItsWork := by
  unfold Obligations.SessionEndTakesItsWork
  intro n s
  rw [endSession_txns, endSession_blocks, endSession_subs]
  refine ⟨fun x hx => bne_iff_ne.1 (List.mem_filter.1 hx).2, fun x hx hne => List.mem_filter.2 ⟨hx, bne_iff_ne.2 hne⟩,
    fun x hx => bne_iff_ne.1 (List.mem_filter.1 hx).2, fun x hx hne => List.mem_filter.2 ⟨hx, bne_iff_ne.2 hne⟩,
    fun x hx => bne_iff_ne.1 (List.mem_filter.1 hx).2, fun x hx hne => List.mem_filter.2 ⟨hx, bne_iff_ne.2 hne⟩,
    fun x => endSession_transport, fun x => endSession_others, fun e he hheld heph hses => ?freed, fun k hk => ?kept,
    endSession_pending s n, fun p hp => ?same⟩
  case freed =>
    rw [slotAt_endSession]
    exact slotAt_freed_of_mem (List.mem_filter.2 ⟨he, by simp [hheld, heph, hses]⟩) s
  case kept =>
    rw [slotAt_endSession]
    refine slotAt_freed_of_not_mem (fun e he hek => ?_) s
    obtain ⟨hmem, hpick⟩ := List.mem_filter.1 he
    cases hses : e.2.session with
    | none => simp [hses] at hpick
    | some i =>
      have hin : i = n := by simpa [hses] using (Bool.and_eq_true_iff.1 hpick).2
      exact hk e hmem hek (hin ▸ hses)
  case same =>
    exact endSession_same (by rintro rfl; exact hp (by decide)) (by rintro rfl; exact hp (by decide)) n s

end Sys2Proof.Machine
end

section
/-!
PROOFS. The DTLS handshake: a session opened under the key that a row binds, or an alert (R74 to R77, R357, R366).
-/

namespace Sys2Proof.Machine

variable {h : ClientHello} {s : State}

/-! ### The use of a key (R359, R376) -/

/-- A use of a key in a slot is counted there. -/
theorem countUse_sec (k : Nat) (s : State) : (countUse k s).sec =
    (setSlot (k % 512) { slotAt s (k % 512) with uses := (slotAt s (k % 512)).uses + 1 } s).sec := by
  unfold countUse
  dsimp only
  split
  · rw [secCount, bump_sec, logEvent_sec]
  · rfl

/-- A use of a key in a slot touches the slots, and at its soft limit the log and a counter. -/
theorem countUse_shape (k : Nat) (s : State) : ∃ x y z, countUse k s = { s with sec := x, od := y, shd := z } := by
  unfold countUse
  dsimp only
  split <;> exact ⟨_, _, _, rfl⟩

/-- So does a use of a key that stands in no slot. -/
theorem useOther_shape (k : Nat) (s : State) : ∃ x y z, useOther k s = { s with sec := x, od := y, shd := z } := by
  unfold useOther
  dsimp only
  split <;> exact ⟨_, _, _, rfl⟩

theorem slotAt_congr {t : State} (h : t.sec = s.sec) (k : Nat) : slotAt t k = slotAt s k := by
  simp only [slotAt, h]

theorem slotAt_setSlot (m k : Nat) (x : KeySlot) (s : State) : slotAt (setSlot m x s) k = if m = k then x else slotAt s k := by
  split
  · next h => subst h; exact sget_sset_self ..
  · next h => exact sget_sset_ne _ _ _ _ _ h

/-- A use that its key does not permit is a counter's. -/
theorem wrongUse_shape (k purpose : Nat) (s : State) : ∃ y, wrongUse k purpose s = { s with od := y } := by
  unfold wrongUse
  split
  · split <;> exact ⟨_, rfl⟩
  · exact ⟨_, rfl⟩

theorem pskWrong_shape (h : ClientHello) (s : State) : ∃ y, pskWrong h s = { s with od := y } := by
  have hfold (f : State → Nat → Nat) (rows : List Nat) (t : State) :
      ∃ y, rows.foldl (fun t r => wrongUse (f t r) 4 t) t = { t with od := y } := by
    induction rows generalizing t with
    | nil => exact ⟨_, rfl⟩
    | cons r rows ih =>
      obtain ⟨y, hy⟩ := wrongUse_shape (f t r) 4 t
      obtain ⟨z, hz⟩ := ih (wrongUse (f t r) 4 t)
      exact ⟨z, by rw [List.foldl_cons, hz, hy]⟩
  exact hfold (fun t r => odField t 0xA011 1 r 2 2) _ s

/-! ### The handshake (R75, R77, R84) -/

/-- The use of a handshake's key is counted, in its slot or beside the slots. -/
def countPsk (h : ClientHello) (row : Option Nat) (s : State) : State :=
  match row with
  | some r => countUse (odField s 0xA011 1 r 2 2) s
  | none => useOther (pskId h s) s

theorem countPsk_shape (h : ClientHello) (row : Option Nat) (s : State) : ∃ x y z, countPsk h row s = { s with sec := x, od := y, shd := z } := by
  cases row with
  | some r => exact countUse_shape _ s
  | none => exact useOther_shape _ s

/-- The keys of a new session in the slot they take. -/
def trafficKeys (h : ClientHello) (row : Option Nat) (n : Nat) (s : State) : State :=
  putEphemeral n (if h.aes256gcm then 2 else 1) 0 (some s.srv.nextSession) (padTo (if h.aes256gcm then 32 else 16)
    (Config.crypto "DTLS 1.3 traffic keys" s.srv.nextSession [pskValue h row s])) (countPsk h row s)

/-- The session that a handshake opens. -/
def openedSession (h : ClientHello) (row : Option Nat) (role : Nat) (s : State) : Session :=
  { id := s.srv.nextSession, transport := h.transport, role := role, pskRow := row, eth := h.eth, mac := h.mac, ip := h.ip, udp := h.udp
    lastMsg := s.clk.elapsed }

/-- Whether a handshake offers the profile, proves its key and finds room for a session. -/
def offerOk (h : ClientHello) (s : State) : Bool :=
  helloOk h && h.binderOk && decide ((s.srv.sessions.filter (fun u => u.transport < 2)).length < 8)

/-- A ClientHello is heard where a server listens: the UART, or the field network's ODAP port outside the boot ROM. -/
theorem hello_heard (hport : h.transport ≠ 0 ∨ (h.port = odNat s 0xA010 1 ∧ s.shd.bootRom = false)) :
    ¬ (h.transport = 0 ∧ (h.port ≠ odNat s 0xA010 1 ∨ s.shd.bootRom = true)) := by
  rintro ⟨h0, hbad⟩
  rcases hport with hport | ⟨hp, hrom⟩
  · exact hport h0
  · rcases hbad with hbad | hbad
    · exact hbad hp
    · exact absurd (hrom.symm.trans hbad) (by decide)

section Heard

variable (hup : s.srv.up = true) (hport : h.transport ≠ 0 ∨ (h.port = odNat s 0xA010 1 ∧ s.shd.bootRom = false))
include hup hport

/-- A handshake that finds its key, room for a session and a slot opens a session. -/
theorem exec_dtlsHandshake_opens {row : Option Nat} {role n : Nat} (hoffer : offerOk h s = true)
    (hpsk : pskSession h s = some (row, role)) (hslot : ephemeralSlot s = some n) :
    exec (.dtlsHandshake h) s = .next (conclude s (emit (.dtlsOpen h.transport s.srv.nextSession)
      { trafficKeys h row n s with srv := { (trafficKeys h row n s).srv with
          sessions := (trafficKeys h row n s).srv.sessions ++ [openedSession h row role s]
          nextSession := s.srv.nextSession + 1 } })) := by
  change execDtlsHandshake h s = _
  unfold offerOk at hoffer
  simp only [execDtlsHandshake, hup, if_true, hello_heard hport, if_false, hoffer, hpsk, hslot]
  cases row <;> rfl

/-- Any other is answered with an alert. -/
theorem exec_dtlsHandshake_fails (hfail : offerOk h s = false ∨ pskSession h s = none ∨ ephemeralSlot s = none) :
    exec (.dtlsHandshake h) s = .next (conclude s (emit (.dtlsAlert h.transport) (pskWrong h s))) := by
  change execDtlsHandshake h s = _
  simp only [execDtlsHandshake, hup, if_true, hello_heard hport, if_false]
  unfold offerOk at hfail
  split
  · next hoffer hpsk hslot =>
      rcases hfail with hf | hf | hf
      · exact absurd (hoffer.symm.trans hf) (by decide)
      · exact absurd (hpsk.symm.trans hf) (Option.some_ne_none _)
      · exact absurd (hslot.symm.trans hf) (Option.some_ne_none _)
  · rfl

end Heard

/-- What the opening of a session touches. -/
theorem trafficKeys_shape (h : ClientHello) (row : Option Nat) (n : Nat) (s : State) :
    ∃ x y z, trafficKeys h row n s = { s with sec := x, od := y, shd := z } := by
  obtain ⟨x, y, z, hs⟩ := countPsk_shape h row s
  exact ⟨_, y, z, by rw [trafficKeys, hs]; rfl⟩

theorem slotAt_trafficKeys (h : ClientHello) (row : Option Nat) (n k : Nat) (s : State) : slotAt (trafficKeys h row n s) k =
    if n = k then slotAt (trafficKeys h row n s) n else slotAt (countPsk h row s) k := by
  split
  · next hk => rw [hk]
  · next hk => exact (slotAt_setSlot n k _ _).trans (if_neg hk)

/-- The use of a row's key is counted in its slot, where the traffic keys do not take it. -/
theorem uses_trafficKeys {r n : Nat} (hne : odField s 0xA011 1 r 2 2 % 512 ≠ n) :
    (slotAt (trafficKeys h (some r) n s) (odField s 0xA011 1 r 2 2 % 512)).uses =
      (slotAt s (odField s 0xA011 1 r 2 2 % 512)).uses + 1 := by
  have hcount : slotAt (countUse (odField s 0xA011 1 r 2 2) s) (odField s 0xA011 1 r 2 2 % 512) = _ :=
    (slotAt_congr (countUse_sec _ s) _).trans (slotAt_setSlot _ _ _ s)
  rw [slotAt_trafficKeys, if_neg hne.symm, countPsk, hcount, if_pos rfl]

/-- Settles O20: the session that opens and its keys, or an alert that changes at most a counter. -/
theorem handshakeOpensSession : Obligations.HandshakeOpensSession := by
  unfold Obligations.HandshakeOpensSession
  intro h s hup hport
  refine ⟨fun row role n hok hbinder hroom hpsk hslot => ?opens, fun hfail => ?fails⟩
  case opens =>
    have hoffer : offerOk h s = true := by rw [offerOk, hok, hbinder, decide_eq_true hroom]; rfl
    obtain ⟨x, y, z, hshape⟩ := trafficKeys_shape h row n s
    have hkeys : slotAt (trafficKeys h row n s) n = _ := (slotAt_setSlot n n _ _).trans (if_pos rfl)
    have hslots (k : Nat) (o : Output) (v : Srv) :
        slotAt (conclude s (emit o { trafficKeys h row n s with srv := v })) k = slotAt (trafficKeys h row n s) k :=
      slotAt_congr (conclude_sec ..) k
    refine ⟨_, exec_dtlsHandshake_opens hup hport hoffer hpsk hslot, mem_conclude_out (List.mem_append_right _ (List.mem_singleton_self _)),
      ?_, ?_, ?_, ?_, ?_, fun r hr hne => ?_, onlyChanges_conclude fun p hp => ?_⟩
    · rw [conclude_srv_nextSession]; rfl
    · rw [conclude_srv_sessions, hshape]; rfl
    · rw [hslots, hkeys]
    · rw [hslots, hkeys]
    · rw [hslots, hkeys]
    · subst hr
      rw [hslots, uses_trafficKeys hne]
    · rw [hshape]
      cases p with
      | srv | sec | od | shd => exact absurd (by decide) hp
      | _ => rfl
  case fails =>
    obtain ⟨y, hshape⟩ := pskWrong_shape h s
    have hbad : offerOk h s = false ∨ pskSession h s = none ∨ ephemeralSlot s = none := by
      rcases hfail with hok | hbinder | hpsk | hfull | hslot
      · exact .inl (by rw [offerOk, hok]; rfl)
      · exact .inl (by rw [offerOk, hbinder, Bool.and_false]; rfl)
      · exact .inr (.inl hpsk)
      · exact .inl (by rw [offerOk, decide_eq_false (Nat.not_lt.2 hfull), Bool.and_false])
      · exact .inr (.inr hslot)
    refine ⟨_, exec_dtlsHandshake_fails hup hport hbad, onlyChanges_conclude fun p hp => ?_,
      mem_conclude_out (List.mem_append_right _ (List.mem_singleton_self _)), rfl⟩
    rw [hshape]
    cases p with
    | srv | od | shd => exact absurd (by decide) hp
    | _ => rfl

end Sys2Proof.Machine
end

section
/-!
PROOFS. Accepted writes of the air, node, capture and handover objects (R68, R128, R180, R197, R212, R244, R268, R352, R353).
-/

namespace Sys2Proof.Machine

/-! ### An accepted write of one object, from its commit to its outcome (R68, R343) -/

section Accepted

variable {q : OdapReq} {a : Addr} {ty : Nat} {v : Octets} {u : Session} {s t : State} {d : ObjDesc} {c : Instr}

/-- The spare's snapshot is stale. -/
def stale (s : State) : State := { s with hed := { s.hed with dirty := true } }

theorem stale_same {p : Part} (hp : p ≠ .hed) (s : State) : p.same s (stale s) := by
  cases p with
  | hed => exact absurd rfl hp
  | _ => rfl

@[simp] theorem stale_od (s : State) : (stale s).od = s.od := rfl
@[simp] theorem stale_pri (s : State) : (stale s).pri = s.pri := rfl

theorem storedChange_of_stored (hp : d.pers = .stored) (t : State) (e : Nat) : storedChange d (t, effA e) = (stale t, effA e) :=
  if_pos ⟨hp, rfl⟩

theorem storedChange_of_error (d : ObjDesc) (t : State) {x n : Nat} (hx : committedOk (errA x n) = false) :
    storedChange d (t, errA x n) = (t, errA x n) :=
  if_neg fun h => by rw [hx] at h; exact absurd h.2 (by decide)

theorem storedChange_of_unstored (hp : d.pers ≠ .stored) (r : State × Answer) : storedChange d r = r := if_neg fun h => hp h.1

/-- An accepted write answers its commit. -/
theorem exec_write_accepted (hc : exec c s = done s (odapWrite q a ty v s)) (h : WriteAccepted q a ty v u s)
    (hd : odFind a.idx a.sub = some d) (hdom : d.ty ≠ .domain) {r : State × Answer}
    (hr : commitWrite u a v true (touch q.session s) = r) : exec c s = .next (afterWrite q s r) := by
  rw [hc, write_accepted d h hd hdom, hr]
  rfl

theorem commitWrite_of_owner {r : State × Answer} (hd : odFind a.idx a.sub = some d) (ho : ownerCommit u a (masked d v) true t = some r) :
    commitWrite u a v true t = storedChange d r := by
  simp only [commitWrite, hd, ho]

theorem commitWrite_at_once {e : Nat} (hd : odFind a.idx a.sub = some d) (ho : ownerCommit u a (masked d v) true t = none)
    (hat : valueEff d a (masked d v) t = (e, none)) :
    commitWrite u a v true t = storedChange d (takeEffect a.idx a.sub a.row (masked d v) t, effA e) := by
  simp only [commitWrite, hd, ho, hat]

theorem commitWrite_pending {e : Nat} {x : Option Nat} (hd : odFind a.idx a.sub = some d)
    (ho : ownerCommit u a (masked d v) true t = none) (hat : valueEff d a (masked d v) t = (e, some x)) :
    commitWrite u a v true t = storedChange d (addPending a (masked d v) x t, effA e) := by
  simp only [commitWrite, hd, ho, hat]

/-- An accepted write of a STORED object whose owner commits it. -/
theorem exec_write_owned_stored {e : Nat} (hc : exec c s = done s (odapWrite q a ty v s)) (h : WriteAccepted q a ty v u s)
    (hd : odFind a.idx a.sub = some d) (hdom : d.ty ≠ .domain) (hp : d.pers = .stored)
    (ho : ownerCommit u a (masked d v) true (touch q.session s) = some (t, effA e)) :
    exec c s = .next (afterWrite q s (stale t, effA e)) :=
  exec_write_accepted hc h hd hdom ((commitWrite_of_owner hd ho).trans (storedChange_of_stored hp t e))

/-- An accepted write of any other object whose owner commits it. -/
theorem exec_write_owned_unstored {r : State × Answer} (hc : exec c s = done s (odapWrite q a ty v s)) (h : WriteAccepted q a ty v u s)
    (hd : odFind a.idx a.sub = some d) (hdom : d.ty ≠ .domain) (hp : d.pers ≠ .stored)
    (ho : ownerCommit u a (masked d v) true (touch q.session s) = some r) : exec c s = .next (afterWrite q s r) :=
  exec_write_accepted hc h hd hdom ((commitWrite_of_owner hd ho).trans (storedChange_of_unstored hp r))

/-- The row of an accepted write exists. -/
theorem rowExists_of_accepted (h : WriteAccepted q a ty v u s) (hsub : a.sub ≠ 0) (hd : odFind a.idx a.sub = some d) :
    rowExists d a.row = true := by
  obtain ⟨-, -, hpass⟩ := h
  unfold writeFailure at hpass
  dsimp only at hpass
  split at hpass
  · cases hpass
  · next hnone =>
    have hearly := (List.append_eq_nil_iff.1 (firstFailure_eq_none hnone)).1
    simp only [List.append_eq_nil_iff, addrChecks, hsub, if_false, hd] at hearly
    obtain ⟨⟨⟨⟨-, hrow⟩, -⟩, -⟩, -⟩ := hearly
    cases hex : rowExists d a.row with
    | true => rfl
    | false => rw [hex] at hrow; cases hrow

end Accepted

/-! What the answer leaves of the parts. -/

section Answered

variable (q : OdapReq) (s : State) (r : State × Answer)

@[simp] theorem afterWrite_rf : (afterWrite q s r).rf = r.1.rf := by simp only [afterWrite, conclude_rf, respond_rf]
@[simp] theorem afterWrite_pal : (afterWrite q s r).pal = r.1.pal := by simp only [afterWrite, conclude_pal, respond_pal]
@[simp] theorem afterWrite_pri : (afterWrite q s r).pri = r.1.pri := by simp only [afterWrite, conclude_pri, respond_pri]
@[simp] theorem afterWrite_nod : (afterWrite q s r).nod = r.1.nod := by simp only [afterWrite, conclude_nod, respond_nod]
@[simp] theorem afterWrite_eas : (afterWrite q s r).eas = r.1.eas := by simp only [afterWrite, conclude_eas, respond_eas]
@[simp] theorem afterWrite_tre : (afterWrite q s r).tre = r.1.tre := by simp only [afterWrite, conclude_tre, respond_tre]
@[simp] theorem afterWrite_rid : (afterWrite q s r).rid = r.1.rid := by simp only [afterWrite, conclude_rid, respond_rid]
@[simp] theorem afterWrite_hed : (afterWrite q s r).hed = r.1.hed := by simp only [afterWrite, conclude_hed, respond_hed]

@[simp] theorem respond_srv_pend (op : Nat) (a : Answer) (c : Bool) (t : State) : (respond q op a c t).srv.pend = t.srv.pend := by
  unfold respond
  dsimp only
  split
  · rfl
  · split
    · rfl
    · rfl

@[simp] theorem afterWrite_srv_pend : (afterWrite q s r).srv.pend = r.1.srv.pend := by
  simp only [afterWrite, conclude_srv_pend, respond_srv_pend]

@[simp] theorem odGet_afterWrite (i b k : Nat) : odGet (afterWrite q s r) i b k = odGet r.1 i b k := by
  simp only [odGet, afterWrite_od]

@[simp] theorem nodeRec_afterWrite (n : Nat) : nodeRec (afterWrite q s r) n = nodeRec r.1 n := by
  simp only [nodeRec, afterWrite_nod]

end Answered

/-! The objects in the tables. -/

theorem odFind_chMap : odFind 0x4032 1 = some (odPage 0x40)[21] := rfl
theorem odFind_nodeReg : odFind 0x5010 1 = some (odPage 0x50)[8] := rfl
theorem odFind_nodeRejoin : odFind 0x5011 1 = some (odPage 0x50)[12] := rfl
theorem odFind_rxCentre : odFind 0x3000 1 = some (odPage 0x30)[0] := rfl
theorem odFind_txCentre : odFind 0x3000 2 = some (odPage 0x30)[1] := rfl
theorem odFind_handover : odFind 0x7030 1 = some (odPage 0x70)[23] := rfl

/-! ### CH_MAP (R212) -/

section Writes

variable {q : OdapReq} {u : Session} {s : State}

/-- A map is announced from the next boundary, and in effect MODE_LEAD superframes on. -/
def announceMap (pan : Nat) (map : Octets) (first e : Nat) (s : State) : State :=
  clearMapInformed { s with
    eas := { s.eas with maps := s.eas.maps ++ [{ pan := pan, map := map, first := first, eff := e }] }
    srv := { s.srv with pend := s.srv.pend ++ [⟨0x4032, 1, pan, map, some e⟩] } }

theorem exec_chMapWrite_of_running {pan : Nat} {map : Octets} (h : WriteAccepted q ⟨0x4032, 1, pan⟩ 0xD map u s)
    (hrun : s.eas.running = true) {first e : Nat} (hfirst : first = firstBoundaryAt s (nowNs s + 1))
    (he : e = firstBoundaryAt s ((startNs s first).toNat + modeLead s * 25600000000)) :
    exec (.chMapWrite q pan map) s = .next (afterWrite q s (stale (announceMap pan map first e (touch q.session s)), effA e)) := by
  subst hfirst he
  refine exec_write_owned_stored rfl h odFind_chMap (by decide) rfl ?_
  exact congrArg some (if_pos hrun)

theorem exec_chMapWrite_of_no_slots {pan : Nat} {map : Octets} (h : WriteAccepted q ⟨0x4032, 1, pan⟩ 0xD map u s)
    (hrun : s.eas.running = false) :
    exec (.chMapWrite q pan map) s = .next (afterWrite q s (stale (odPut 0x4032 1 pan map (touch q.session s)), effA effNoSlots)) := by
  refine exec_write_owned_stored rfl h odFind_chMap (by decide) rfl ?_
  exact congrArg some (if_neg (by rw [touch_eas, hrun]; decide))

/-! ### Node registrations (R244, R268) -/

section Registration

variable {c : Instr} {row : Nat} {reg v : Octets} {d : ObjDesc} {t : State}
  (hc : exec c s = done s (odapWrite q ⟨0x5010, 1, row⟩ 0xE reg s)) (h : WriteAccepted q ⟨0x5010, 1, row⟩ 0xE reg u s)
  (hd : odFind 0x5010 1 = some d) (hv : v = masked d reg)
include hc h hd hv

/-- An accepted write of NODE_REG is committed by the registration. -/
theorem exec_registration_of_done (hreg : registerNode row v (touch q.session s) = (t, true)) :
    exec c s = .next (afterWrite q s (stale t, effA (effNow s))) := by
  obtain rfl : (odPage 0x50)[8] = d := Option.some.inj hd
  subst hv
  refine exec_write_owned_stored hc h hd (by decide) rfl ?_
  change some (match registerNode row (masked (odPage 0x50)[8] reg) (touch q.session s) with
    | (t, true) => (t, effA (effNow (touch q.session s)))
    | (t, false) => (t, errA stTableFull)) = _
  rw [hreg]
  rfl

theorem exec_registration_of_refused (hreg : registerNode row v (touch q.session s) = (t, false)) :
    exec c s = .next (afterWrite q s (t, errA stTableFull)) := by
  obtain rfl : (odPage 0x50)[8] = d := Option.some.inj hd
  subst hv
  refine exec_write_accepted hc h hd (by decide) ((commitWrite_of_owner hd ?_).trans (storedChange_of_error _ t rfl))
  change some (match registerNode row (masked (odPage 0x50)[8] reg) (touch q.session s) with
    | (t, true) => (t, effA (effNow (touch q.session s)))
    | (t, false) => (t, errA stTableFull)) = _
  rw [hreg]

end Registration

/-- Whether a registration names the node that its row registers, whose record stands (R244). -/
def SameNode (row : Nat) (v : Octets) (s : State) : Prop :=
  fieldNat v 0 8 = regEui s row ∧ fieldNat v 8 1 = regPan s row ∧ fieldNat v 10 2 = regShort s row ∧
    (nodeRec s row).poisoned = false ∧ (nodeRec s row).st ≠ .free

/-- The model's test for the node of a row. -/
theorem sameNode_iff (row : Nat) (v : Octets) (s : State) :
    ((fieldNat v 0 8 == regEui s row && fieldNat v 8 1 == regPan s row && fieldNat v 10 2 == regShort s row) = true ∧
      ¬ (nodeRec s row).poisoned = true ∧ (nodeRec s row).st ≠ .free) ↔ SameNode row v s := by
  simp only [SameNode, Bool.and_eq_true, beq_iff_eq, Bool.not_eq_true, and_assoc]

/-- A registration of the same node changes its supervision and its transmit row alone. -/
theorem registerNode_of_same {row : Nat} {v : Octets} (hne : fieldNat v 0 8 ≠ 0) (h : SameNode row v s) :
    registerNode row v s =
      (modNode row (fun r => { r with supSf := fieldNat v 12 2, txRow := fieldNat v 14 1 }) (odPut 0x5010 1 row v s), true) := by
  unfold registerNode
  simp only [hne, if_false]
  exact if_pos ((sameNode_iff row v s).2 h)

/-- A deregistration frees the record and its work. -/
theorem registerNode_of_zero {row : Nat} {v : Octets} (h0 : fieldNat v 0 8 = 0) : registerNode row v s =
    (touchNode row (setNode row {} (freeNodeWork row (odPut 0x5010 1 row (zeros 14 ++ [0xFF, 0]) (dropEntries row s)))), true) := by
  unfold registerNode
  simp only [h0, if_true]

section Fresh

variable {row : Nat} {v : Octets} (hne : fieldNat v 0 8 ≠ 0) (hnew : ¬ SameNode row v s)
include hne hnew

/-- A registration of another node whose two entries the tables take replaces the record. -/
theorem registerNode_of_fresh {t1 t2 : State} {e1 e2 : TEntry} {x1 x2 : Inserted}
    (hentries : nodeEntries (odPut 0x5010 1 row v (dropEntries row s)) row = [e1, e2])
    (h1 : tableInsert e1 (odPut 0x5010 1 row v (dropEntries row s)) = (t1, x1)) (hx1 : x1 ≠ .tableFull)
    (h2 : tableInsert e2 t1 = (t2, x2)) (hx2 : x2 ≠ .tableFull) :
    registerNode row v s = (touchNode row (setNode row (regRecord t2 row) (dropNodeWork row t2)), true) := by
  unfold registerNode
  simp only [hne, if_false]
  rw [if_neg (fun h => hnew ((sameNode_iff row v s).1 h))]
  simp only [hentries, h1, h2]

end Fresh

/-! The tables' operations that a registration uses change the tables alone. -/

/-- A state is another but for the Trellis. -/
def TablesOnly (s t : State) : Prop := ∃ x, t = { s with tre := x }

theorem TablesOnly.trans {a b c : State} (hab : TablesOnly a b) (hbc : TablesOnly b c) : TablesOnly a c := by
  obtain ⟨x, rfl⟩ := hab
  obtain ⟨y, rfl⟩ := hbc
  exact ⟨y, rfl⟩

theorem tableDelete_tablesOnly (tag : Nat) (key : Octets) (s : State) : TablesOnly s (tableDelete tag key s) := by
  unfold tableDelete
  split
  · exact ⟨_, rfl⟩
  · exact ⟨_, rfl⟩

theorem dropEntries_tablesOnly (row : Nat) (s : State) : TablesOnly s (dropEntries row s) := by
  unfold dropEntries
  split
  · exact ⟨s.tre, rfl⟩
  · exact (tableDelete_tablesOnly ..).trans (tableDelete_tablesOnly ..)

theorem insertNow_tablesOnly {e : TEntry} {t : State} {x : Inserted} (h : insertNow e s = (t, x)) (hx : x ≠ .tableFull) : TablesOnly s t := by
  unfold insertNow at h
  dsimp only at h
  split at h
  · cases h; exact absurd rfl hx
  · split at h
    · cases h; exact absurd rfl hx
    · split at h
      · cases h; exact ⟨s.tre, rfl⟩
      · split at h
        · cases h; exact ⟨_, rfl⟩
        · cases h; exact absurd rfl hx

/-- An insertion that is not refused changes the tables alone. -/
theorem tableInsert_tablesOnly {e : TEntry} {t : State} {x : Inserted} (h : tableInsert e s = (t, x)) (hx : x ≠ .tableFull) : TablesOnly s t := by
  unfold tableInsert at h
  dsimp only at h
  generalize hr : (if s.tre.waiting = [] then insertNow e s else (s, .waits)) = r at h
  split at h
  · split at h
    · cases h; exact absurd rfl hx
    · cases h; exact ⟨_, rfl⟩
  · next hnow =>
    split at hr
    · exact insertNow_tablesOnly (hr.trans h) hx
    · subst hr; exact absurd rfl hnow

/-- A registration that is refused is counted, and changes nothing else. -/
theorem registerNode_of_refused {row : Nat} {v : Octets} (h : (registerNode row v s).2 = false) :
    registerNode row v s = (bump 0x6400 3 0 s, false) := by
  unfold registerNode at h ⊢
  dsimp only at h ⊢
  split
  · next h0 => rw [if_pos h0] at h; cases h
  · next h0 =>
    rw [if_neg h0] at h
    split
    · next hsame => rw [if_pos hsame] at h; cases h
    · next hnew =>
      rw [if_neg hnew] at h
      simp only [nodeEntries] at h ⊢
      split
      · rfl
      · split
        · rfl
        · next hnot1 _ _ _ hnot2 =>
          exfalso
          revert h
          grind

/-- The record of a registered node reads its row. -/
theorem regRecord_of_row {row : Nat} {v : Octets} {t : State} (h : odGet t 0x5010 1 row = v) :
    regRecord t row = { st := .registered, pan := fieldNat v 8 1, short := fieldNat v 10 2, eui := fieldNat v 0 8
                        supSf := fieldNat v 12 2, txRow := fieldNat v 14 1, halfWidth := 0 } := by
  subst h
  rfl

theorem nodeRec_setNode (n : Nat) (r : NodeRec) (t : State) : nodeRec (setNode n r t) n = r := sget_sset_self ..

/-! ### Wakes (R268) -/

section Wakes

variable (w : WakeEntry) (s)

/-- A queued wake changes the wake queue, or the counter of lost ones. -/
theorem queueWake_same {p : Part} (hpri : p ≠ .pri) (hod : p ≠ .od) : p.same s (queueWake w s) := by
  unfold queueWake
  split
  · cases p with
    | pri => exact absurd rfl hpri
    | _ => rfl
  · split
    · cases p with
      | od => exact absurd rfl hod
      | _ => rfl
    · cases p with
      | pri => exact absurd rfl hpri
      | _ => rfl

/-- With room in the queue a wake of its type and address waits there. -/
theorem queueWake_waits (hroom : s.pri.wake.length < 256) :
    ∃ x ∈ (queueWake w s).pri.wake, x.type = w.type ∧ x.addr = w.addr := by
  unfold queueWake
  split
  · next hany =>
    obtain ⟨x, hx, heq⟩ := List.any_eq_true.1 hany
    rw [Bool.and_eq_true, beq_iff_eq, beq_iff_eq] at heq
    exact ⟨{ x with reason := w.reason }, List.mem_map.2 ⟨x, hx, if_pos heq⟩, heq⟩
  · rw [if_neg (Nat.not_le.2 hroom)]
    exact ⟨w, List.mem_append_right _ (List.mem_singleton.2 rfl), rfl, rfl⟩

end Wakes

/-! ### Window centres and dwell rules (R180, R197) -/

/-- A calibration, like the use of one, keeps the synthesisers. -/
theorem calibrate_synths (y c : Nat) (s : State) : (calibrate y c s).rf.synths = s.rf.synths := by
  unfold calibrate
  dsimp only
  split
  · split
    · split
      · rfl
      · rfl
    · rfl
  · rfl

/-- A centre moves its own synthesiser. -/
theorem moveCentre_synths (y hz : Nat) (s : State) : (moveCentre y hz s).rf.synths =
    modAt (fun z => { z with centre := hz, locked := decide (hz ≠ 0), attempts := 0 }) s.rf.synths y := by
  unfold moveCentre
  dsimp only
  split
  · next h0 => subst h0; simp only [modSynth, movedFloors_rf]; rfl
  · next h0 =>
    have hrf : (movedFloors y hz s).rf.synths = s.rf.synths := congrArg Rf.synths (movedFloors_rf ..)
    have hkept : (if centreValid (movedFloors y hz s) y hz then useEntry y hz (movedFloors y hz s)
        else calibrate y hz (movedFloors y hz s)).rf.synths = s.rf.synths := by
      split
      · exact hrf
      · exact (calibrate_synths ..).trans hrf
    simp only [modSynth, hkept, ne_eq, h0, not_false_eq_true, decide_true]

theorem touchAcc_same {p : Part} (hpri : p ≠ .pri) (r c b : Nat) (s : State) : p.same s (touchAcc r c b s) := by
  unfold touchAcc setAcc
  dsimp only
  split
  · split
    · cases p <;> rfl
    · split
      · cases p with
        | pri => exact absurd rfl hpri
        | _ => rfl
      · cases p with
        | pri => exact absurd rfl hpri
        | _ => rfl
  · cases p <;> rfl

/-- A rule's reset starts its accounts over, and changes nothing else. -/
theorem resetRule_same {p : Part} (hpri : p ≠ .pri) (row : Nat) (s : State) : p.same s (resetRule row s) := by
  unfold resetRule
  dsimp only
  split
  · have h := touchAcc_same hpri row 0 (dwellField s row 1 1) { s with pri := { s.pri with
      dwell := s.pri.dwell.filter (fun a => a.rule != row)
      preload := s.pri.preload.filter (fun p => p.1 != row) ++ [(row, [])] } }
    cases p with
    | pri => exact absurd rfl hpri
    | _ => exact h
  · cases p with
    | pri => exact absurd rfl hpri
    | _ => rfl

/-! The accounts it starts do not depend on the server. -/

/-- The state with another server, and what it has sent. -/
def setSrv (x : Srv) (o : List Output) (s : State) : State := { s with srv := x, out := o }

@[simp] theorem setSrv_pri (x : Srv) (o : List Output) (s : State) : (setSrv x o s).pri = s.pri := rfl

theorem touchAcc_setSrv (x : Srv) (o : List Output) (r c b : Nat) (s : State) : touchAcc r c b (setSrv x o s) = setSrv x o (touchAcc r c b s) := by
  unfold touchAcc
  rw [setSrv_pri]
  cases s.pri.preload.find? (fun p => p.1 == r) with
  | none => rfl
  | some p =>
    dsimp only
    rw [apply_ite (setSrv x o), apply_ite (setSrv x o)]
    rfl

theorem resetRule_setSrv (x : Srv) (o : List Output) (row : Nat) (s : State) : resetRule row (setSrv x o s) = setSrv x o (resetRule row s) := by
  unfold resetRule
  dsimp only
  rw [apply_ite (setSrv x o), ← touchAcc_setSrv]
  rfl

/-- A node's registration again changes its record and row alone. -/
theorem commits_registration_of_same {row : Nat} {reg v : Octets} {d : ObjDesc} (h : WriteAccepted q ⟨0x5010, 1, row⟩ 0xE reg u s)
    (hd : odFind 0x5010 1 = some d) (hv : v = masked d reg) (hne : fieldNat v 0 8 ≠ 0) (hsame : SameNode row v s) :
    Commits q (.nodeRegWrite q row reg) (effNow s) [.hed, .nod, .od] s (fun r => odGet r 0x5010 1 row = v ∧
      nodeRec r row = { nodeRec s row with supSf := fieldNat v 12 2, txRow := fieldNat v 14 1 }) := by
  have hreg := registerNode_of_same hne (s := touch q.session s) hsame
  refine commits_of_afterWrite (exec_registration_of_done (c := .nodeRegWrite q row reg) rfl h hd hv hreg) (fun p hp => ?_) ⟨?_, ?_⟩
  · cases p with
    | srv | hed | nod | od => exact absurd (by decide) hp
    | _ => rfl
  · rw [odGet_afterWrite]; exact sget_sset_self ..
  · rw [nodeRec_afterWrite]; exact nodeRec_setNode ..

/-- Another node's registration replaces the record and the two entries. -/
theorem gives_registration_of_fresh {row : Nat} {reg v : Octets} {d : ObjDesc} {t1 t2 : State} {e1 e2 : TEntry} {x1 x2 : Inserted}
    (h : WriteAccepted q ⟨0x5010, 1, row⟩ 0xE reg u s) (hd : odFind 0x5010 1 = some d) (hv : v = masked d reg)
    (hne : fieldNat v 0 8 ≠ 0) (hnew : ¬ SameNode row v s)
    (hentries : nodeEntries (odPut 0x5010 1 row v (dropEntries row (touch q.session s))) row = [e1, e2])
    (h1 : tableInsert e1 (odPut 0x5010 1 row v (dropEntries row (touch q.session s))) = (t1, x1)) (hx1 : x1 ≠ .tableFull)
    (h2 : tableInsert e2 t1 = (t2, x2)) (hx2 : x2 ≠ .tableFull) :
    Gives (exec (.nodeRegWrite q row reg) s) (fun r => Answers q 2 (effA (effNow s)) r ∧ odGet r 0x5010 1 row = v ∧ r.tre = t2.tre ∧
      nodeRec r row = { st := .registered, pan := fieldNat v 8 1, short := fieldNat v 10 2, eui := fieldNat v 0 8
                        supSf := fieldNat v 12 2, txRow := fieldNat v 14 1, halfWidth := 0 }) := by
  have hreg := registerNode_of_fresh (s := touch q.session s) hne hnew hentries h1 hx1 h2 hx2
  have hexec := exec_registration_of_done (c := .nodeRegWrite q row reg) rfl h hd hv hreg
  have hrow : odGet t2 0x5010 1 row = v := by
    obtain ⟨y, rfl⟩ := (tableInsert_tablesOnly h1 hx1).trans (tableInsert_tablesOnly h2 hx2)
    exact sget_sset_self ..
  refine ⟨_, hexec, answers_afterWrite (effA_ne_owedA _), ?_, ?_, ?_⟩
  · rw [odGet_afterWrite]; exact hrow
  · rw [afterWrite_tre]; rfl
  · rw [nodeRec_afterWrite]; exact (nodeRec_setNode ..).trans (regRecord_of_row hrow)

theorem Part.same_trans {p : Part} {a b c : State} (hab : p.same a b) (hbc : p.same b c) : p.same a c := by
  cases p with
  | _ => exact Eq.trans hbc hab

theorem touchNode_same {p : Part} (hp : p ≠ .hed) (n : Nat) (s : State) : p.same s (touchNode n s) := by
  cases p with
  | hed => exact absurd rfl hp
  | _ => rfl

@[simp] theorem touchNode_od (n : Nat) (s : State) : (touchNode n s).od = s.od := rfl
@[simp] theorem touchNode_pri (n : Nat) (s : State) : (touchNode n s).pri = s.pri := rfl

theorem setNode_same {p : Part} (hp : p ≠ .nod) (n : Nat) (r : NodeRec) (s : State) : p.same s (setNode n r s) := by
  cases p with
  | nod => exact absurd rfl hp
  | _ => rfl

theorem dropNodeWork_same {p : Part} (hrid : p ≠ .rid) (hpri : p ≠ .pri) (n : Nat) (s : State) : p.same s (dropNodeWork n s) := by
  cases p with
  | rid => exact absurd rfl hrid
  | pri => exact absurd rfl hpri
  | _ => rfl

theorem zeroTokens_same {p : Part} (hrid : p ≠ .rid) (n : Nat) (s : State) : p.same s (zeroTokens n s) := by
  cases p with
  | rid => exact absurd rfl hrid
  | _ => rfl

/-- The work of a node: its joins and acknowledgements, its queue and tokens, and its wakes. -/
theorem freeNodeWork_same {p : Part} (hnod : p ≠ .nod) (hrid : p ≠ .rid) (hpri : p ≠ .pri) (n : Nat) (s : State) :
    p.same s (freeNodeWork n s) := by
  refine Part.same_trans (Part.same_trans (dropNodeWork_same hrid hpri n s) (zeroTokens_same hrid n _)) ?_
  cases p with
  | nod => exact absurd rfl hnod
  | _ => rfl

@[simp] theorem freeNodeWork_od (n : Nat) (s : State) : (freeNodeWork n s).od = s.od := rfl
@[simp] theorem freeNodeWork_wake (n : Nat) (s : State) : (freeNodeWork n s).pri.wake = s.pri.wake.filter (fun w => w.node != some n) := rfl

/-- A deregistration frees the record, its entries and its work. -/
theorem commits_deregistration {row : Nat} (h : WriteAccepted q ⟨0x5010, 1, row⟩ 0xE (zeros 14 ++ [0xFF, 0]) u s) :
    Commits q (.nodeDeregister q row) (effNow s) [.hed, .nod, .od, .tre, .rid, .pri] s (fun r => nodeRec r row = {} ∧
      (nodeRec r row).st = .free ∧ odGet r 0x5010 1 row = zeros 14 ++ [0xFF, 0] ∧ ∀ w ∈ r.pri.wake, w.node ≠ some row) := by
  have hreg := registerNode_of_zero (row := row) (v := zeros 14 ++ [0xFF, 0]) (s := touch q.session s) (by decide)
  obtain ⟨x, hdrop⟩ := dropEntries_tablesOnly row (touch q.session s)
  rw [hdrop] at hreg
  have hrec : ∀ t : State, nodeRec (stale (touchNode row (setNode row {} t))) row = {} := fun t => nodeRec_setNode row {} t
  have hexec := exec_registration_of_done (c := .nodeDeregister q row) rfl h odFind_nodeReg rfl hreg
  refine commits_of_afterWrite hexec (fun p hp => ?_) ⟨?_, ?_, ?_, ?_⟩
  · simp only [List.mem_cons, List.not_mem_nil, or_false, not_or] at hp
    obtain ⟨hsrv, hhed, hnod, hod, htre, hrid, hpri⟩ := hp
    have hrow : p.same s (odPut 0x5010 1 row (zeros 14 ++ [0xFF, 0]) { touch q.session s with tre := x }) := by
      cases p with
      | srv => exact absurd rfl hsrv
      | od => exact absurd rfl hod
      | tre => exact absurd rfl htre
      | _ => rfl
    exact Part.same_trans (Part.same_trans (Part.same_trans (Part.same_trans hrow (freeNodeWork_same hnod hrid hpri row _))
      (setNode_same hnod row {} _)) (touchNode_same hhed row _)) (stale_same hhed _)
  · rw [nodeRec_afterWrite]; exact hrec _
  · rw [nodeRec_afterWrite]; exact congrArg NodeRec.st (hrec _)
  · rw [odGet_afterWrite]
    simp only [odGet, stale_od, touchNode_od, setNode_od, freeNodeWork_od]
    exact sget_sset_self ..
  · intro w hw
    simp only [afterWrite_pri, stale_pri, touchNode_pri, setNode_pri, freeNodeWork_wake] at hw
    exact bne_iff_ne.1 (List.mem_filter.1 hw).2

/-! ### Rejoins and captures -/

section Rejoin

variable (node reason : Nat) (s)

/-- The record of a node that is to rejoin. -/
def markRejoin (node reason : Nat) (s : State) : State := modNode node (fun r => { r with rejoin := some reason }) s

/-- The wake that asks a node to rejoin. -/
def rejoinWake (node reason : Nat) (s : State) : WakeEntry :=
  { type := 1, addr := (nodeRec s node).short, pan := (nodeRec s node).pan, node := some node, reason := reason }

theorem askRejoin_eq : askRejoin node reason s = queueWake (rejoinWake node reason (markRejoin node reason s)) (markRejoin node reason s) := rfl

theorem nodeRec_markRejoin : nodeRec (markRejoin node reason s) node = { nodeRec s node with rejoin := some reason } := nodeRec_setNode ..

theorem askRejoin_same {p : Part} (hnod : p ≠ .nod) (hpri : p ≠ .pri) (hod : p ≠ .od) : p.same s (askRejoin node reason s) := by
  rw [askRejoin_eq]
  have hmarked : p.same s (markRejoin node reason s) := setNode_same hnod ..
  exact Part.same_trans hmarked (queueWake_same _ _ hpri hod)

theorem nodeRec_askRejoin : nodeRec (askRejoin node reason s) node = { nodeRec s node with rejoin := some reason } := by
  have hkept : (askRejoin node reason s).nod = (markRejoin node reason s).nod := queueWake_same (p := .nod) _ _ (by decide) (by decide)
  rw [nodeRec, hkept]
  exact nodeRec_markRejoin ..

theorem askRejoin_waits (hroom : s.pri.wake.length < 256) :
    ∃ w ∈ (askRejoin node reason s).pri.wake, w.type = 1 ∧ w.addr = (nodeRec s node).short := by
  obtain ⟨w, hw, htype, haddr⟩ := queueWake_waits (markRejoin node reason s) (rejoinWake node reason (markRejoin node reason s)) hroom
  refine ⟨w, hw, htype, haddr.trans ?_⟩
  rw [rejoinWake, nodeRec_markRejoin]

end Rejoin

/-- A rejoin marks the node and queues its wake. -/
theorem commits_rejoin {node : Nat} (h : WriteAccepted q ⟨0x5011, 1, 0⟩ 4 (beOct 4 node) u s) (hfit : node < 2 ^ 32) :
    Commits q (.nodeRejoinWrite q node) (effNow s) [.nod, .pri, .od] s (fun r =>
      nodeRec r node = { nodeRec s node with rejoin := some 2 } ∧
      (s.pri.wake.length < 256 → ∃ w ∈ r.pri.wake, w.type = 1 ∧ w.addr = (nodeRec s node).short)) := by
  have hno : beNat (beOct 4 node) = node := (beNat_beOct 4 node).trans (Nat.mod_eq_of_lt hfit)
  have hexec := exec_write_owned_unstored (c := .nodeRejoinWrite q node) (r := atOnce (askRejoin node 2) (touch q.session s)) rfl h
    odFind_nodeRejoin (by decide) (by decide) (congrArg (fun n => some (atOnce (askRejoin n 2) (touch q.session s))) hno)
  refine commits_of_afterWrite hexec (fun p hp => ?_) ⟨?_, fun hroom => ?_⟩
  · simp only [List.mem_cons, List.not_mem_nil, or_false, not_or] at hp
    obtain ⟨hsrv, hnod, hpri, hod⟩ := hp
    exact Part.same_trans (touch_same hsrv q.session s) (askRejoin_same _ node 2 hnod hpri hod)
  · rw [nodeRec_afterWrite]; exact nodeRec_askRejoin ..
  · rw [afterWrite_pri]; exact askRejoin_waits (touch q.session s) node 2 hroom

/-- A capture starts, or is armed for its time. -/
theorem commits_capture {cfg v : Octets} {d : ObjDesc} (h : WriteAccepted q ⟨0x3300, 1, 0⟩ 0xE cfg u s)
    (hd : odFind 0x3300 1 = some d) (hv : v = captureCfg (masked d cfg)) :
    Commits q (.captureCfgWrite q cfg) (effNow s) [.od, .pal, .free] s (fun r => odGet r 0x3300 1 = v ∧
      if fieldNat v 18 5 = 0 then r.pal.capState = 2 ∧ r.pal.capDone = 0 ∧ r.pal.capCfg = v ∧ r.pal.capFrom = s.clk.elapsed
      else r.pal.capState = 1) := by
  obtain rfl : (odPage 0x33)[0] = d := Option.some.inj hd
  have hexec := exec_write_owned_unstored (c := .captureCfgWrite q cfg) (r := atOnce (captureCommit v) (touch q.session s)) rfl h hd
    (by decide) (by decide) (congrArg (fun x => some (atOnce (captureCommit x) (touch q.session s))) hv.symm)
  have hrow : odGet (odPut 0x3300 1 0 v (touch q.session s)) 0x3300 1 0 = v := odGet_odPut_self (touch q.session s) ..
  by_cases hnow : fieldNat v 18 5 = 0
  · have hcommit : captureCommit v (touch q.session s) = startCapture (odPut 0x3300 1 0 v (touch q.session s)) := if_pos hnow
    rw [atOnce, hcommit] at hexec
    refine commits_of_afterWrite hexec (fun p hp => ?_) ⟨?_, ?_⟩
    · cases p with
      | srv | od | pal | free => exact absurd (by decide) hp
      | _ => rfl
    · rw [odGet_afterWrite]; exact hrow
    · rw [if_pos hnow, afterWrite_pal]; exact ⟨rfl, rfl, hrow, rfl⟩
  · have hcommit : captureCommit v (touch q.session s) = endCapture 1 (odPut 0x3300 1 0 v (touch q.session s)) := if_neg hnow
    rw [atOnce, hcommit] at hexec
    refine commits_of_afterWrite hexec (fun p hp => ?_) ⟨?_, ?_⟩
    · cases p with
      | srv | od | pal => exact absurd (by decide) hp
      | _ => rfl
    · rw [odGet_afterWrite]; exact hrow
    · rw [if_neg hnow, afterWrite_pal]; rfl

/-! ### Window centres (R180) -/

section Centre

variable {tx : Bool} {hz : Nat}

/-- The object of a window's centre. -/
def centreAddr (tx : Bool) : Addr := ⟨0x3000, if tx then 2 else 1, 0⟩

theorem centre_object (tx : Bool) :
    ∃ d, odFind (centreAddr tx).idx (centreAddr tx).sub = some d ∧ d.ty ≠ .domain ∧ d.pers = .stored ∧ ∀ v, masked d v = v := by
  cases tx with
  | false => exact ⟨_, odFind_rxCentre, by decide, rfl, fun _ => rfl⟩
  | true => exact ⟨_, odFind_txCentre, by decide, rfl, fun _ => rfl⟩

theorem ownerCommit_centre (tx : Bool) (u : Session) (v : Octets) (t : State) :
    ownerCommit u (centreAddr tx) v true t = some (centreCommit (centreAddr tx) v t) := by
  cases tx with
  | false => rfl
  | true => rfl

/-- An accepted write of a window's centre is committed by its own rule. -/
theorem exec_sgCentreWrite {e : Nat} {t : State} (h : WriteAccepted q (centreAddr tx) 4 (beOct 4 hz) u s)
    (hcommit : centreCommit (centreAddr tx) (beOct 4 hz) (touch q.session s) = (t, effA e)) :
    exec (.sgCentreWrite q tx hz) s = .next (afterWrite q s (stale t, effA e)) := by
  obtain ⟨d, hd, hdom, hstored, hmask⟩ := centre_object tx
  refine exec_write_owned_stored rfl h hd hdom hstored ?_
  rw [hmask]
  exact (ownerCommit_centre ..).trans (congrArg some hcommit)

/-- Outside the slots of M5 to M10 a centre moves its synthesiser at once. -/
theorem takeEffect_centre {t : State} (hidle : ¬ (5 ≤ t.ctl.mode.code ∧ t.ctl.mode.code ≤ 10 ∧ t.eas.running = true)) (v : Octets) :
    takeEffect (centreAddr tx).idx (centreAddr tx).sub (centreAddr tx).row v t =
      moveCentre (if tx then 1 else 0) (beNat v) (odPut 0x3000 (if tx then 2 else 1) 0 v t) := by
  have hidle' : ¬ (t.eas.running = true ∧ 5 ≤ t.ctl.mode.code ∧ t.ctl.mode.code ≤ 10) := fun ⟨hr, hlo, hhi⟩ => hidle ⟨hlo, hhi, hr⟩
  cases tx with
  | false => exact if_neg hidle'
  | true => exact if_neg hidle'

/-- A centre's move is of its synthesiser, its calibration and the noise floors. -/
theorem moveCentre_same {p : Part} (hrf : p ≠ .rf) (hpal : p ≠ .pal) (hpri : p ≠ .pri) (y c : Nat) (t : State) :
    p.same t (moveCentre y c t) := by
  cases p with
  | rf => exact absurd rfl hrf
  | pal => exact absurd rfl hpal
  | pri => exact absurd rfl hpri
  | _ => simp only [Part.same, moveCentre_chip, moveCentre_ctl, moveCentre_clk, moveCentre_srv, moveCentre_nod, moveCentre_eas, moveCentre_gla,
      moveCentre_tre, moveCentre_rid, moveCentre_hed, moveCentre_sec, moveCentre_fw, moveCentre_shd, moveCentre_host, moveCentre_pwr,
      moveCentre_od, moveCentre_mem, moveCentre_free]

theorem commits_centre_of_running (h : WriteAccepted q (centreAddr tx) 4 (beOct 4 hz) u s)
    (hrun : 5 ≤ s.ctl.mode.code ∧ s.ctl.mode.code ≤ 10 ∧ s.eas.running = true) :
    Commits q (.sgCentreWrite q tx hz) (nextSuperframeE s) [.hed] s (fun r =>
      r.srv.pend = s.srv.pend ++ [⟨0x3000, if tx then 2 else 1, 0, beOct 4 hz, some (nextSuperframeE s)⟩]) := by
  refine commits_of_afterWrite (exec_sgCentreWrite h (if_pos hrun)) (fun p hp => ?_) ?_
  · cases p with
    | srv | hed => exact absurd (by decide) hp
    | _ => rfl
  · rw [afterWrite_srv_pend]; rfl

theorem commits_centre_of_idle (h : WriteAccepted q (centreAddr tx) 4 (beOct 4 hz) u s) (hfit : hz < 2 ^ 32)
    (hidle : ¬ (5 ≤ s.ctl.mode.code ∧ s.ctl.mode.code ≤ 10 ∧ s.eas.running = true)) :
    Commits q (.sgCentreWrite q tx hz) (effNow s) [.hed, .rf, .od, .pal, .pri] s (fun r =>
      odGet r 0x3000 (if tx then 2 else 1) = beOct 4 hz ∧
      r.rf.synths = modAt (fun z => { z with centre := hz, locked := decide (hz ≠ 0), attempts := 0 }) s.rf.synths (if tx then 1 else 0)) := by
  have hno : beNat (beOct 4 hz) = hz := (beNat_beOct 4 hz).trans (Nat.mod_eq_of_lt hfit)
  have hmove := takeEffect_centre (tx := tx) (t := touch q.session s) hidle (beOct 4 hz)
  rw [hno] at hmove
  have hcommit : centreCommit (centreAddr tx) (beOct 4 hz) (touch q.session s) = (moveCentre (if tx then 1 else 0) hz
      (odPut 0x3000 (if tx then 2 else 1) 0 (beOct 4 hz) (touch q.session s)), effA (effNow s)) :=
    (if_neg hidle).trans (congrArg (·, effA (effNow s)) hmove)
  refine commits_of_afterWrite (exec_sgCentreWrite h hcommit) (fun p hp => ?_) ⟨?_, ?_⟩
  · simp only [List.mem_cons, List.not_mem_nil, or_false, not_or] at hp
    obtain ⟨hsrv, hhed, hrf, hod, hpal, hpri⟩ := hp
    have hrow : p.same s (odPut 0x3000 (if tx then 2 else 1) 0 (beOct 4 hz) (touch q.session s)) := by
      cases p with
      | srv => exact absurd rfl hsrv
      | od => exact absurd rfl hod
      | _ => rfl
    exact Part.same_trans (Part.same_trans hrow (moveCentre_same hrf hpal hpri ..)) (stale_same hhed _)
  · rw [odGet_afterWrite]
    simp only [odGet, stale_od, moveCentre_od]
    exact sget_sset_self ..
  · rw [afterWrite_rf]
    exact moveCentre_synths ..

end Centre

/-! ### Dwell rules (R197) -/

section Dwell

variable {row : Nat} {rec : Octets} {d : ObjDesc}

theorem commits_dwellRule_of_running (h : WriteAccepted q ⟨0x3420, 1, row⟩ 0xE rec u s) (hd : odFind 0x3420 1 = some d)
    (hrun : s.eas.running = true) :
    Commits q (.dwellRuleWrite q row rec) (nextSuperframeE s) [.hed, .eas] s (fun r =>
      r.srv.pend = s.srv.pend ++ [⟨0x3420, 1, row, masked d rec, some (nextSuperframeE s)⟩]) := by
  obtain rfl : (odPage 0x34)[11] = d := Option.some.inj hd
  have hat : valueEff (odPage 0x34)[11] ⟨0x3420, 1, row⟩ (masked (odPage 0x34)[11] rec) (touch q.session s) =
      (nextSuperframeE s, some (some (nextSuperframeE s))) := by
    have heff : writeEff (odPage 0x34)[11] (touch q.session s) = (nextSuperframeE s, some (some (nextSuperframeE s))) := if_pos hrun
    rw [valueEff, heff]
    rfl
  have hexec := exec_write_accepted (c := .dwellRuleWrite q row rec) rfl h hd (by decide)
    ((commitWrite_pending hd rfl hat).trans (storedChange_of_stored rfl _ _))
  refine commits_of_afterWrite hexec (fun p hp => ?_) ?_
  · cases p with
    | srv | hed | eas => exact absurd (by decide) hp
    | _ => rfl
  · rw [afterWrite_srv_pend]; rfl

theorem commits_dwellRule_of_no_slots (h : WriteAccepted q ⟨0x3420, 1, row⟩ 0xE rec u s) (hd : odFind 0x3420 1 = some d)
    (hrun : s.eas.running = false) :
    Commits q (.dwellRuleWrite q row rec) effNoSlots [.hed, .od, .pri] s (fun r => odGet r 0x3420 1 row = masked d rec ∧
      r.pri = (resetRule row (odPut 0x3420 1 row (masked d rec) s)).pri) := by
  obtain rfl : (odPage 0x34)[11] = d := Option.some.inj hd
  have hat : valueEff (odPage 0x34)[11] ⟨0x3420, 1, row⟩ (masked (odPage 0x34)[11] rec) (touch q.session s) = (effNoSlots, none) := by
    have heff : writeEff (odPage 0x34)[11] (touch q.session s) = (effNoSlots, none) := if_neg (by rw [touch_eas, hrun]; decide)
    rw [valueEff, heff]
  have hexec := exec_write_accepted (c := .dwellRuleWrite q row rec) rfl h hd (by decide)
    ((commitWrite_at_once hd rfl hat).trans (storedChange_of_stored rfl _ _))
  have heffect : takeEffect 0x3420 1 row (masked (odPage 0x34)[11] rec) (touch q.session s) =
      resetRule row (odPut 0x3420 1 row (masked (odPage 0x34)[11] rec) (touch q.session s)) := rfl
  rw [heffect] at hexec
  refine commits_of_afterWrite hexec (fun p hp => ?_) ⟨?_, ?_⟩
  · simp only [List.mem_cons, List.not_mem_nil, or_false, not_or] at hp
    obtain ⟨hsrv, hhed, hod, hpri⟩ := hp
    have hrow : p.same s (odPut 0x3420 1 row (masked (odPage 0x34)[11] rec) (touch q.session s)) := by
      cases p with
      | srv => exact absurd rfl hsrv
      | od => exact absurd rfl hod
      | _ => rfl
    exact Part.same_trans (Part.same_trans hrow (resetRule_same hpri ..)) (stale_same hhed _)
  · rw [odGet_afterWrite]
    have hod := resetRule_same (p := .od) (by decide) row (odPut 0x3420 1 row (masked (odPage 0x34)[11] rec) (touch q.session s))
    exact (congrArg (fun o => sget odDefault o (odKey 0x3420 1 row)) hod).trans (sget_sset_self ..)
  · rw [afterWrite_pri]
    have hpri := congrArg State.pri (resetRule_setSrv (touch q.session s).srv (touch q.session s).out row
      (odPut 0x3420 1 row (masked (odPage 0x34)[11] rec) s))
    exact hpri

end Dwell

/-! ### Handovers (R352, R353) -/

theorem exec_hrHandoverWrite {region : Nat} (h : WriteAccepted q ⟨0x7030, 1, 0⟩ 3 (beOct 2 region) u s) (hfit : region < 0xFFFF) :
    exec (.hrHandoverWrite q region) s = .next (afterWrite q s (sendShadows region (sendSnapshot region (handoverStatus 1 0 0
      { touch q.session s with hed := { s.hed with
          withdrawn := none, handing := some { target := region, touched := regRows s } } })), effA effNone)) := by
  have hno : beNat (beOct 2 region) = region := (beNat_beOct 2 region).trans (Nat.mod_eq_of_lt (by omega))
  refine exec_write_owned_unstored rfl h odFind_handover (by decide) (by decide) ?_
  refine (congrArg (fun n => some (handoverCommit n (touch q.session s))) hno).trans (congrArg some ?_)
  exact if_neg (by omega)

theorem commits_handoverCancel (h : WriteAccepted q ⟨0x7030, 1, 0⟩ 3 (beOct 2 0xFFFF) u s) :
    Commits q (.hrHandoverCancel q) effNone [.hed, .od] s (fun r => r.hed = { s.hed with handing := none } ∧
      odGet r 0x7030 2 = beOct 1 4 ++ beOct 2 stAborted ++ beOct 5 0) := by
  have hexec := exec_write_owned_unstored (c := .hrHandoverCancel q) rfl h odFind_handover (by decide) (by decide) rfl
  refine commits_of_afterWrite hexec (fun p hp => ?_) ⟨?_, ?_⟩
  · cases p with
    | srv | hed | od => exact absurd (by decide) hp
    | _ => rfl
  · rw [afterWrite_hed]; rfl
  · rw [odGet_afterWrite]; exact odGet_odPut_self { touch q.session s with hed := { s.hed with handing := none } } ..

end Writes

/-- Settles O24: each write by its object's commit. -/
theorem airAndNodeWritesCommit : Obligations.AirAndNodeWritesCommit := by
  unfold Obligations.AirAndNodeWritesCommit
  refine ⟨?map, ?register, ?deregister, ?rejoin, ?capture, ?centre, ?dwell, ?handover, ?withdraw⟩
  case map =>
    intro q pan map u s h c first e
    refine ⟨fun hrun => ?_, fun hrun => ?_⟩
    · refine commits_of_afterWrite (exec_chMapWrite_of_running h hrun rfl rfl) (fun p hp => ?_) ⟨?_, ?_⟩
      · cases p with
        | srv | hed | eas | nod => exact absurd (by decide) hp
        | _ => rfl
      · rw [afterWrite_eas]; rfl
      · rw [afterWrite_srv_pend]; rfl
    · refine commits_of_afterWrite (exec_chMapWrite_of_no_slots h hrun) (fun p hp => ?_) ?_
      · cases p with
        | srv | hed | od => exact absurd (by decide) hp
        | _ => rfl
      · rw [odGet_afterWrite]; exact odGet_odPut_self (touch q.session s) ..
  case register =>
    intro q row reg v d u s h hd hv c t
    exact ⟨fun heui hne hpan hshort hclean hst => commits_registration_of_same h hd hv hne ⟨heui, hpan, hshort, hclean, hst⟩,
      fun t1 t2 e1 e2 x1 x2 hne hnew hentries h1 hx1 h2 hx2 => gives_registration_of_fresh h hd hv hne hnew hentries h1 hx1 h2 hx2,
      fun hrefused => exec_registration_of_refused (c := .nodeRegWrite q row reg) rfl h hd hv (registerNode_of_refused hrefused)⟩
  case deregister => exact fun q row u s h => commits_deregistration h
  case rejoin => exact fun q node u s h hfit => commits_rejoin h hfit
  case capture => exact fun q cfg v d u s h hd hv => commits_capture h hd hv
  case centre =>
    intro q tx hz u s h hfit
    split
    · next hrun => exact commits_centre_of_running h hrun
    · next hidle => exact commits_centre_of_idle h hfit hidle
  case dwell =>
    intro q row rec d u s h hd
    split
    · next hrun => exact commits_dwellRule_of_running h hd hrun
    · next hidle => exact commits_dwellRule_of_no_slots h hd (Bool.eq_false_iff.2 hidle)
  case handover => exact fun q region u s h hfit => exec_hrHandoverWrite h hfit
  case withdraw => exact fun q u s h => commits_handoverCancel h

end Sys2Proof.Machine
end

section
/-!
PROOFS. Accepted writes of the shaping, metering and static-table objects (R68, R299, R316, R320, R325, R499).
-/

namespace Sys2Proof.Machine

/-! The objects in the tables. -/

theorem odFind_dlProfile : odFind 0x6800 1 = some (odPage 0x68)[0] := rfl
theorem odFind_nodeDlProfile : odFind 0x6800 2 = some (odPage 0x68)[1] := rfl
theorem odFind_meter : odFind 0x6820 1 = some (odPage 0x68)[12] := rfl
theorem odFind_shaper : odFind 0x6810 2 = some (odPage 0x68)[6] := rfl
theorem odFind_macStatic : odFind 0x6410 4 = some (odPage 0x64)[7] := rfl
theorem odFind_ip6Static : odFind 0x6420 1 = some (odPage 0x64)[10] := rfl

section AtOnce

variable {q : OdapReq} {a : Addr} {ty : Nat} {v w : Octets} {u : Session} {s : State} {d : ObjDesc} {c : Instr}

/-- An accepted write of a STORED object that no owner commits, and that takes effect at once. -/
theorem exec_write_at_once {e : Nat} {f : State → State} (hc : exec c s = done s (odapWrite q a ty v s)) (h : WriteAccepted q a ty v u s)
    (hd : odFind a.idx a.sub = some d) (hw : masked d v = w) (hkind : d.ty ≠ .domain ∧ d.pers = .stored)
    (hown : ownerCommit u a w true (touch q.session s) = none) (hat : valueEff d a w (touch q.session s) = (e, none))
    (hf : takeEffect a.idx a.sub a.row w (touch q.session s) = f (odPut a.idx a.sub a.row w (touch q.session s))) :
    exec c s = .next (afterWrite q s (stale (f (odPut a.idx a.sub a.row w (touch q.session s))), effA e)) := by
  subst hw
  rw [← hf]
  exact exec_write_accepted hc h hd hkind.1 ((commitWrite_at_once hd hown hat).trans (storedChange_of_stored hkind.2 _ _))

/-- A write whose effect is on the Ridge's state commits as its row and that effect. -/
theorem commits_of_rid {e : Nat} {f : State → State} {g : Rid} {P : State → Prop}
    (hexec : exec c s = .next (afterWrite q s (stale (f (odPut a.idx a.sub a.row w (touch q.session s))), effA e)))
    (hf : f (odPut a.idx a.sub a.row w (touch q.session s)) = { odPut a.idx a.sub a.row w (touch q.session s) with rid := g })
    (hP : ∀ r : State, odGet r a.idx a.sub a.row = w → r.rid = g → P r) : Commits q c e [.hed, .od, .rid] s P := by
  rw [hf] at hexec
  refine commits_of_afterWrite hexec (fun p hp => ?_) (hP _ ?_ ?_)
  · cases p with
    | srv | hed | od | rid => exact absurd (by decide) hp
    | _ => rfl
  · rw [odGet_afterWrite]; exact sget_sset_self ..
  · rw [afterWrite_rid]; rfl

end AtOnce

section Writes

variable {q : OdapReq} {u : Session} {s : State}

/-! ### Profiles, meters and shapers (R316, R320, R325) -/

/-- A profile's row is none of the nodes' profiles. -/
theorem dlRow_odPut_profile {row : Nat} (hrow : row ≤ 15) (v : Octets) (t : State) (n : Nat) :
    dlRow (odPut 0x6800 1 row v t) n = dlRow t n :=
  congrArg beNat (odGet_odPut_ne t _ _ _ _ _ _ v (by unfold odKey; omega))

theorem commits_dlProfile {row : Nat} {rec : Octets} {d : ObjDesc} (h : WriteAccepted q ⟨0x6800, 1, row⟩ 0xE rec u s)
    (hd : odFind 0x6800 1 = some d) :
    Commits q (.dlProfileWrite q row rec) (effNow s) [.hed, .od, .rid] s (fun r => odGet r 0x6800 1 row = masked d rec ∧
      (∀ e, e ∈ r.rid.tokens ↔ e ∈ s.rid.tokens ∧ dlRow s e.1 ≠ row) ∧ r.rid.profAt = setAt s.rid.profAt row s.clk.elapsed) := by
  obtain rfl : (odPage 0x68)[0] = d := Option.some.inj hd
  have hexec := exec_write_at_once (c := .dlProfileWrite q row rec) (f := zeroProfile row) rfl h odFind_dlProfile rfl ⟨by decide, rfl⟩ rfl rfl rfl
  have hrow : row ≤ 15 := by
    have hex : (decide (0 ≤ row) && decide (row ≤ 15)) = true := rowExists_of_accepted h Nat.one_ne_zero odFind_dlProfile
    exact of_decide_eq_true (Bool.and_eq_true_iff.1 hex).2
  refine commits_of_rid hexec rfl fun r hod hrid => ⟨hod, fun e => ?_, ?_⟩
  · rw [hrid]
    refine List.mem_filter.trans (and_congr Iff.rfl ?_)
    rw [dlRow_odPut_profile hrow]
    exact bne_iff_ne
  · rw [hrid]; rfl

theorem commits_nodeDlProfile {node profile : Nat} (h : WriteAccepted q ⟨0x6800, 2, node⟩ 2 (beOct 1 profile) u s) :
    Commits q (.nodeDlProfileWrite q node profile) (effNow s) [.hed, .od, .rid] s (fun r => odGet r 0x6800 2 node = beOct 1 profile ∧
      r.rid = { s.rid with tokens := sinsert node (0, s.clk.elapsed) s.rid.tokens }) := by
  have hexec := exec_write_at_once (c := .nodeDlProfileWrite q node profile) (f := zeroTokens node) rfl h odFind_nodeDlProfile rfl
    ⟨by decide, rfl⟩ rfl rfl rfl
  exact commits_of_rid hexec rfl fun r hod hrid => ⟨hod, hrid⟩

theorem commits_meter {row : Nat} {rec : Octets} (h : WriteAccepted q ⟨0x6820, 1, row⟩ 0xE rec u s) :
    Commits q (.meterWrite q row rec) (effNow s) [.hed, .od, .rid] s (fun r => odGet r 0x6820 1 row = rec ∧
      r.rid = { s.rid with meters := serase row s.rid.meters }) := by
  have hexec := exec_write_at_once (c := .meterWrite q row rec) (f := meterRefill row) rfl h odFind_meter rfl ⟨by decide, rfl⟩ rfl rfl rfl
  exact commits_of_rid hexec rfl fun r hod hrid => ⟨hod, hrid⟩

theorem commits_shaper {row : Nat} {rec : Octets} (h : WriteAccepted q ⟨0x6810, 2, row⟩ 0xE rec u s) :
    Commits q (.shaperWrite q row rec) (effNow s) [.hed, .od, .rid] s (fun r => odGet r 0x6810 2 row = rec ∧ r.rid =
      { s.rid with ports := modAt (fun p => { p with shapers := setAt p.shapers (row % 8) (0, s.clk.elapsed) }) s.rid.ports (row / 8) }) := by
  have hexec := exec_write_at_once (c := .shaperWrite q row rec) (f := setShaper (row / 8) (row % 8) 0) rfl h odFind_shaper rfl
    ⟨by decide, rfl⟩ rfl rfl rfl
  exact commits_of_rid hexec rfl fun r hod hrid => ⟨hod, hrid⟩

/-! ### Static table rows (R299, R499) -/

section Static

variable {a : Addr} {v : Octets} {entry : Octets → TEntry} {t t0 : State}

/-- The state of the tables once the entry of a static row has gone, where its new value is of another. -/
def rowDropped (entry : Octets → TEntry) (a : Addr) (v : Octets) (t : State) : State :=
  if octet0 (odGet t a.idx a.sub a.row) = 1 ∧ ¬ (octet0 v = 1 ∧ (entry (odGet t a.idx a.sub a.row)).key = (entry v).key) then
    tableDelete (entry (odGet t a.idx a.sub a.row)).tag (entry (odGet t a.idx a.sub a.row)).key t
  else t

theorem rowDropped_tablesOnly (entry : Octets → TEntry) (a : Addr) (v : Octets) (t : State) : TablesOnly t (rowDropped entry a v t) := by
  unfold rowDropped
  split
  · exact tableDelete_tablesOnly ..
  · exact ⟨t.tre, rfl⟩

/-- A row without an entry is stored. -/
theorem staticCommit_of_none (hv : octet0 v ≠ 1) :
    staticCommit entry a v t = (odPut a.idx a.sub a.row v (rowDropped entry a v t), effA (effNow t)) := if_neg hv

/-- A row whose entry the table takes is stored. -/
theorem staticCommit_of_inserted {t1 : State} {x : Inserted} (hv : octet0 v = 1)
    (hins : tableInsert (entry v) (rowDropped entry a v t) = (t1, x)) (hx : x ≠ .tableFull) :
    staticCommit entry a v t = (odPut a.idx a.sub a.row v t1, effA (effNow t)) := by
  refine (if_pos hv).trans ?_
  change (match tableInsert (entry v) (rowDropped entry a v t) with
    | (_, .tableFull) => (bump 0x6400 3 0 t, errA stTableFull)
    | (s2, _) => (odPut a.idx a.sub a.row v s2, effA (effNow t))) = _
  rw [hins]
  cases x with
  | tableFull => exact absurd rfl hx
  | _ => rfl

/-- A row whose entry the table refuses is counted, and the tables keep what they held. -/
theorem staticCommit_of_full {t1 : State} (hv : octet0 v = 1) (hins : tableInsert (entry v) (rowDropped entry a v t) = (t1, .tableFull)) :
    staticCommit entry a v t = (bump 0x6400 3 0 t, errA stTableFull) := by
  refine (if_pos hv).trans ?_
  change (match tableInsert (entry v) (rowDropped entry a v t) with
    | (_, .tableFull) => (bump 0x6400 3 0 t, errA stTableFull)
    | (s2, _) => (odPut a.idx a.sub a.row v s2, effA (effNow t))) = _
  rw [hins]

/-- The object of a static table, and the entry that a row of it makes. -/
def staticAddr (ip6 : Bool) (row : Nat) : Addr := if ip6 then ⟨0x6420, 1, row⟩ else ⟨0x6410, 4, row⟩

def staticEntry (ip6 : Bool) : Octets → TEntry := if ip6 then ip6StaticEntry else macStaticEntry

variable {ip6 : Bool} {row : Nat} {rec : Octets} {d : ObjDesc}

theorem static_object (hd : odFind (staticAddr ip6 row).idx (staticAddr ip6 row).sub = some d) : d.ty ≠ .domain ∧ d.pers = .stored := by
  cases ip6 with
  | false =>
    obtain rfl : (odPage 0x64)[7] = d := Option.some.inj (odFind_macStatic.symm.trans hd)
    exact ⟨by decide, rfl⟩
  | true =>
    obtain rfl : (odPage 0x64)[10] = d := Option.some.inj (odFind_ip6Static.symm.trans hd)
    exact ⟨by decide, rfl⟩

theorem ownerCommit_static (ip6 : Bool) (row : Nat) (u : Session) (v : Octets) (t : State) :
    ownerCommit u (staticAddr ip6 row) v true t = some (staticCommit (staticEntry ip6) (staticAddr ip6 row) v t) := by
  cases ip6 with
  | false => rfl
  | true => rfl

theorem exec_static (ip6 : Bool) (row : Nat) (q : OdapReq) (rec : Octets) (s : State) :
    exec (.staticTableWrite q ip6 row rec) s = done s (odapWrite q (staticAddr ip6 row) 0xE rec s) := by
  cases ip6 with
  | false => rfl
  | true => rfl

variable (h : WriteAccepted q (staticAddr ip6 row) 0xE rec u s)
  (hd : odFind (staticAddr ip6 row).idx (staticAddr ip6 row).sub = some d) (hv : v = masked d rec)
include h hd hv

/-- A static row that is stored commits as the row and the tables. -/
theorem commits_static {t2 : State}
    (hcommit : staticCommit (staticEntry ip6) (staticAddr ip6 row) v (touch q.session s) =
      (odPut (staticAddr ip6 row).idx (staticAddr ip6 row).sub (staticAddr ip6 row).row v t2, effA (effNow (touch q.session s))))
    (ht : TablesOnly (touch q.session s) t2) :
    Commits q (.staticTableWrite q ip6 row rec) (effNow s) [.hed, .od, .tre] s (fun r =>
      odGet r (staticAddr ip6 row).idx (staticAddr ip6 row).sub (staticAddr ip6 row).row = v ∧ r.tre = t2.tre) := by
  subst hv
  obtain ⟨hdom, hstored⟩ := static_object hd
  have hexec := exec_write_owned_stored (exec_static ip6 row q rec s) h hd hdom hstored
    ((ownerCommit_static ..).trans (congrArg some hcommit))
  obtain ⟨x, rfl⟩ := ht
  refine commits_of_afterWrite hexec (fun p hp => ?_) ⟨?_, ?_⟩
  · cases p with
    | srv | hed | od | tre => exact absurd (by decide) hp
    | _ => rfl
  · rw [odGet_afterWrite]; exact sget_sset_self ..
  · rw [afterWrite_tre]; rfl

/-- A static row whose entry finds no room is refused. -/
theorem exec_static_of_full {t1 : State} (hone : octet0 v = 1)
    (hins : tableInsert (staticEntry ip6 v) (rowDropped (staticEntry ip6) (staticAddr ip6 row) v (touch q.session s)) = (t1, .tableFull)) :
    exec (.staticTableWrite q ip6 row rec) s =
      .next (afterWrite q s (bump 0x6400 3 0 (touch q.session s), errA stTableFull)) := by
  subst hv
  exact exec_write_accepted (exec_static ip6 row q rec s) h hd (static_object hd).1
    ((commitWrite_of_owner hd ((ownerCommit_static ..).trans (congrArg some (staticCommit_of_full hone hins)))).trans
      (storedChange_of_error _ _ rfl))

end Static

end Writes

/-- Settles O26: each write by its object's commit. -/
theorem networkWritesTakeEffect : Obligations.NetworkWritesTakeEffect := by
  unfold Obligations.NetworkWritesTakeEffect
  refine ⟨fun q row rec d u s h hd => commits_dlProfile h hd, fun q node profile u s h => commits_nodeDlProfile h,
    fun q row rec u s h => commits_meter h, fun q row rec u s h => commits_shaper h, ?_⟩
  intro q ip6 row rec v d u s a entry c old t t0 h hd hv
  have hrow : a.row = row := by
    cases ip6 with
    | false => rfl
    | true => rfl
  have ht0 : t0 = rowDropped (staticEntry ip6) (staticAddr ip6 row) v t := by
    change _ = rowDropped entry a v t
    unfold rowDropped
    rw [hrow]
    rfl
  have hdropped : TablesOnly t t0 := ht0 ▸ rowDropped_tablesOnly ..
  refine ⟨fun hnone => ?_, fun t1 x hone hins hx => ?_, fun t1 hone hins => ?_⟩
  · rw [← hrow]
    exact commits_static h hd hv (ht0 ▸ staticCommit_of_none hnone) hdropped
  · rw [← hrow]
    exact commits_static h hd hv (staticCommit_of_inserted hone (ht0 ▸ hins) hx) (hdropped.trans (tableInsert_tablesOnly hins hx))
  · exact exec_static_of_full h hd hv hone (ht0 ▸ hins)

end Sys2Proof.Machine
end

section
/-!
PROOFS. What the transactions, Gesso's services, the timers, the tables and the ports answer when they run (R84, R87, R89, R141, R180,
R190, R195, R294, R340, R347, R366, R403).
-/

namespace Sys2Proof.Machine

variable {s : State}

/-! ### The trial and the capture (R180, R403) -/

theorem execFwTrialTimer_of_trial {t p : Nat} (hsince : s.fw.trialSince = some t) (hpend : (bootRec s).pending = some p)
    (hrun : trialRuns s = true) (hauto : odNat s 0x8810 3 = 1) (hmode : 3 ≤ s.ctl.mode.code) :
    execFwTrialTimer s = done s (confirmBank p (advanceElapsed (t + odNat s 0x8810 4 * secCycles) s)) := by
  simp only [execFwTrialTimer, hsince, hpend]
  exact if_pos ⟨hrun, hauto, hmode⟩

theorem execCaptureStart_of_due (harmed : s.pal.capState = 1) (hmode : s.ctl.mode = .m4) (hdue : odField s 0x3300 1 0 18 5 ≤ s.eas.asn) :
    execCaptureStart s = done s (startCapture s) := if_pos ⟨harmed, hmode, hdue⟩

theorem execCaptureStop_of_running (hrun : s.pal.capState = 2) {n : Nat} (hn : n = max 1 (captureSources s.pal.capCfg).length) :
    execCaptureStop s = done s (endCapture 3
      (advanceElapsed (s.pal.capFrom + (captureLimit s.pal.capCfg + n - 1) / n * capturePeriod s.pal.capCfg) s)) := by
  subst hn
  exact if_pos hrun

/-! ### Gesso's services (R366) -/

section Gesso

variable {g : GessoReq} {i : Octets}

/-- An accepted call of a service whose answer fits is answered with it. -/
theorem gessoServe_of_fit {service st : Nat} {callers : List Nat} {f : Octets → State → State × Nat × Octets} {t : State} {o : Octets}
    (hup : gessoUp s = true) (hin : bufferOk g.inOff g.inLen = true) (hout : bufferOk g.outOff g.outCap = true)
    (hcaller : callers.contains g.caller = true) (hf : f (memRead s (0x20000000 + g.inOff) g.inLen) s = (t, st, o)) (hfit : o.length ≤ g.outCap) :
    gessoServe service callers g f s = gessoRespond service g st o t := by
  simp only [gessoServe, hup, hcaller, hin, hout, hf, Nat.not_lt.2 hfit, not_true_eq_false, or_self, if_false]

theorem keyOp_seal {tagOk : Bool} (hfault : keyOpFault g.caller g.handle s = 0) (hop : fieldNat i 0 1 = 1) :
    keyOp g tagOk i s = (countUse g.handle s, stOk,
      padTo ((i.drop 1).length + 16) (Config.crypto "AES-GCM seal" 0 [keyValue s g.handle, i.drop 1])) := by
  have hknown : ¬ (1 = 0 ∨ 3 < 1) := by decide
  simp only [keyOp, hop, hknown, hfault, ne_eq, not_true_eq_false, if_false, if_true]

/-- A key whose import is not refused is imported, whether or not its wrapping key then wants a change. -/
theorem importKey_status {toNode : Bool} {row role : Nat} {blob : Octets} {tagOk : Bool} (h : importFault toNode row role blob tagOk s = none) :
    (importKey toNode row role blob tagOk s).2.1 = stOk ∨ (importKey toNode row role blob tagOk s).2.1 = stKeyChangeRequired := by
  simp only [importKey, h]
  split
  · split
    · exact .inr rfl
    · exact .inl rfl
  · split
    · exact .inr rfl
    · exact .inl rfl

theorem signData_of_allowed {pre : String} (hpre : g.caller = 4 ∨ pre = "FL96-EXPORT" ∨ pre = "FL96-APP") (hkeys : keysAllowed s = true) :
    signData g.caller pre true i s = (s, stOk, identitySign pre i s) := by
  have hgrant : ¬ ((g.caller = 2 ∧ pre ≠ "FL96-EXPORT" ∧ pre ≠ "FL96-APP") ∨ ¬ keysAllowed s = true) := by
    rintro (⟨hcaller, hexport, happ⟩ | hnone)
    · rcases hpre with h4 | h | h
      · omega
      · exact hexport h
      · exact happ h
    · exact hnone hkeys
  exact (if_neg hgrant).trans (if_neg (by decide))

theorem serveLifeCycle_of_pass {sigOk : Bool} (h : firstFailure (lcChecks 8 i sigOk s) = none) :
    serveLifeCycle sigOk i s = (lifeCycle (fieldNat i 0 1) s, stOk, []) := by
  simp only [serveLifeCycle, h]

theorem fwControl_of_activate {op : Nat} (hop : op < 3) (h : fwActivateFault op s = 0) : fwControl op s = (fwActivate op s, stOk, []) := by
  have hknown : ¬ 4 < op := by omega
  simp only [fwControl, hknown, hop, h, if_true, if_false]

theorem laneBind_of_key {h pan : Nat} {k : KeySlot} (hne : h ≠ 0xFFFF) (huse : useFault s h 0 = 0) (hkey : keyOf s h = some k) :
    laneBind h pan s = ({ s with sec := { s.sec with lanes := setAt s.sec.lanes k.pan (some h) } }, stOk, []) := by
  simp only [laneBind, hne, huse, hkey, if_false]

end Gesso

/-! ### Calibrations, pre-distortion and dwell accounts (R190, R195) -/

theorem execCalItemComplete_of_plausible {item path us : Nat} {seen : ItemSeen} (hrun : (calItem s item path).running = true)
    (hus : us = (calItem s item path).startUs + itemUs s item path) (hok : plausible item path seen = true) {t : State}
    (ht : t = endRequest item path true (itemResult item path true (advanceNs ((startNs s s.eas.asn).toNat + us * 1000) s))) :
    execCalItemComplete item path seen s = done s ((synthPaths (pathSynth path)).foldl (fun s p => startNext t.eas.asn p us s) t) := by
  subst hus ht
  simp only [execCalItemComplete, hrun, hok, not_true_eq_false, if_false]

theorem execDpdUpdate_of_captured {k : Nat} {err : Int} {re im : List Int} (hk : k < 8) (hon : dpdOn s 0 = true)
    (hcal : (s.pri.fbCal[0]?).getD false = true) (huse : dpdInUse s 0 = k) (hfull : odNat s 0x3410 4 ≤ (dpdSet s k).captured)
    {coef : List (Int × Int)} (hcoef : coef = halfStep (dpdSet s k).coef (freeCoefs s.free)) {c : Nat}
    (hc : c = clipsOf (dpdSet s k).coef [] (re.zip im)) {s1 : State}
    (hs1 : s1 = { s with free := s.free + 32, pri := { s.pri with clips := modAt (· + c) s.pri.clips 0 } }) :
    execDpdUpdate k err re im s = done s (if coefOk coef = true ∧ 10000 * c ≤ (re.zip im).length
      then modDpd k (fun d => { d with next := some coef, check := some (d.coef, err), captured := 0, nmse := err }) s1
      else dpdReject 0 k err s1) := by
  have hband : (if k = 8 then 1 else 0) = 0 := if_neg (by omega)
  have hgo : ¬ (9 ≤ k ∨ ¬ dpdOn s 0 = true ∨ ¬ (s.pri.fbCal[0]?).getD false = true ∨ dpdInUse s 0 ≠ k ∨
      (dpdSet s k).captured < odNat s 0x3410 4) := by
    rintro (h | h | h | h | h)
    · omega
    · exact h hon
    · exact h hcal
    · exact h huse
    · omega
  subst hcoef hc hs1
  simp only [execDpdUpdate, hband]
  rw [if_neg hgo]
  split
  · next hbad => exact congrArg (done s) (if_neg fun h => hbad.elim (fun hno => hno h.1) (fun hlt => absurd h.2 (Nat.not_le.2 hlt))).symm
  · next hgood =>
    obtain ⟨hok, hfew⟩ := not_or.1 hgood
    exact congrArg (done s) (if_pos ⟨Decidable.not_not.1 hok, Nat.not_lt.1 hfew⟩).symm

theorem execDwellBucketAdvance_of_min {t : Nat}
    (h : (s.pri.dwell.map (fun a => (bucketAt s a.rule s.clk.elapsed + 1) * bucketCycles s a.rule)).min? = some t) :
    execDwellBucketAdvance s = done s (pruneAccs (advanceElapsed t s)) := by
  simp only [execDwellBucketAdvance, h]

/-! ### The Hedgerow's timers (R340, R347) -/

section Hedgerow

variable (hrun : hrRuns s = true)
include hrun

theorem execHelloTimer_of_home (hhome : s.hed.home ≠ 0xFFFF) :
    execHelloTimer s = done s (sendHeartbeat (advanceElapsed (s.hed.helloAt + helloCycles s) s)) := if_pos ⟨hrun, hhome⟩

theorem execLsaRefreshTimer_of_home (hhome : s.hed.home ≠ 0xFFFF) :
    execLsaRefreshTimer s = done s (originateLsa (advanceElapsed (s.hed.lsaAt + odNat s 0x7001 7 * secCycles) s)) := if_pos ⟨hrun, hhome⟩

/-- A neighbour that falls silent is suspected; where no region is mirrored that is all. -/
theorem execSuspectTimeout_of_heard {addr : Nat} {x : HrAdj} {s1 : State} (hadj : hrAdjOf s addr = some x) (hx : x.suspect = false)
    (hs1 : s1 = advanceElapsed (x.lastHb + 7 * helloCycles s / 2) s) (hmirrors : s1.hed.mirrors = []) :
    execSuspectTimeout addr s = done s (afterChange { s1 with hed := { s1.hed with adj := putAdj { x with suspect := true } s1.hed.adj } }) := by
  subst hs1
  simp only [execSuspectTimeout, hadj, hx, hrun, hmirrors, not_true_eq_false, Bool.false_eq_true, or_self, if_false, List.find?_nil]

theorem execIsolationTimeout_of_set (htimer : odNat s 0x7001 4 ≠ 0) (hin : s.hed.isolated = false) {s1 s2 : State}
    (hs1 : s1 = advanceElapsed (s.hed.heardAt + odNat s 0x7001 4 * msCycles) s)
    (hs2 : s2 = { s1 with hed := { s1.hed with isolated := true } }) :
    execIsolationTimeout s = done s (speak (if s2.hed.spare.isSome ∧ s2.hed.held ≠ [] then isolate s2 else s2)) := by
  subst hs1 hs2
  simp only [execIsolationTimeout, htimer, hin, hrun, not_true_eq_false, Bool.false_eq_true, or_self, if_false]

theorem execClaimTimer_of_third {addr : Nat} (hclaim : s.hed.claim = some (addr, 3)) :
    execClaimTimer s = done s (claimDone addr (advanceElapsed (s.hed.claimAt + secCycles) s)) := by
  simp only [execClaimTimer, hclaim, hrun, not_true_eq_false, if_false, OfNat.ofNat_ne_zero, Nat.le_refl, if_true]

end Hedgerow

theorem execLsaAgeExpiry_of_held {origin : Nat} {l : LsaRec} {s1 : State} (hfind : s.hed.lsdb.find? (fun l => l.origin == origin) = some l)
    (hs1 : s1 = advanceElapsed (l.at_ + 3 * odNat s 0x7001 7 * secCycles) s) :
    execLsaAgeExpiry origin s =
      done s (afterChange { s1 with hed := { s1.hed with lsdb := s1.hed.lsdb.filter (fun l => l.origin != origin) } }) := by
  subst hs1
  simp only [execLsaAgeExpiry, hfind]

theorem execAddressListenEnd_of_free {t a : Nat} {s1 : State} (hlisten : s.hed.listenUntil = some t) (hs1 : s1 = advanceElapsed t s)
    (hfree : (List.range 4096).find?
      (fun a => !(s1.hed.claimsHeard ++ s1.hed.lsdb.flatMap (fun l => l.origin :: l.held.map (·.1))).contains a) = some a) :
    execAddressListenEnd s = done s (odPut 0x7000 2 0 (beOct 2 a)
      { s1 with hed := { s1.hed with listenUntil := none, claimsHeard := [], home := a, claim := some (a, 0) } }) := by
  subst hs1
  simp only [execAddressListenEnd, hlisten, hfree]

theorem execTakeoverEffective_of_idle {i : Incoming} (hin : s.hed.incoming = some i) (hkind : i.kind < 2) (hidle : s.eas.running = false) :
    execTakeoverEffective s = done s (regionEffective i s) := by
  simp only [execTakeoverEffective, hin]
  exact if_pos ⟨hkind, .inr (.inl (by rw [hidle]; decide))⟩

theorem execMirrorDeltaSend_of_served (hpeer : s.hed.spare.isSome = true ∨ s.hed.handing.isSome = true) (hrun : s.eas.running = true)
    (hemits : s.ctl.mode.emits = true) (hin : s.hed.incoming = none) {wait b f : Nat}
    (hwait : wait = (odNat s 0x6000 2 + 2) * slotNs (curEpoch s).code) (hb : b = (nowNs s - wait) / 25600000000)
    (hf : f = (if nowNs s ≤ b * 25600000000 + wait + 1000000000 then b else b + 1)) :
    execMirrorDeltaSend s = done s (sendDeltas (f - 1) (advanceNs (f * 25600000000 + wait) s)) := by
  subst hwait hb hf
  refine if_neg ?_
  rintro ((⟨hspare, hhanding⟩ | h | h | h) : _ ∨ _ ∨ _ ∨ _)
  · rw [Option.isNone_iff_eq_none] at hspare hhanding
    rw [hspare, hhanding] at hpeer
    exact hpeer.elim nofun nofun
  · exact h hrun
  · exact h hemits
  · rw [hin] at h; cases h

section Handover

variable {h : Handing} {e : Nat} (hhand : s.hed.handing = some h) (heff : h.eff = some e)
include hhand heff

theorem execHandoverQuiesce_of_heard {x : HrAdj} {s1 : State} (hq : h.quiesced = false) (hat : atSlot s (e - handSlots s) = true)
    (hs1 : s1 = advanceToSlot (e - handSlots s) s) (hadj : hrAdjOf s1 h.target = some x) (hx : x.suspect = false) :
    execHandoverQuiesce s = done s { s1 with hed := { s1.hed with handing := some { h with quiesced := true } } } := by
  subst hs1
  simp only [execHandoverQuiesce, hhand, heff, hq, hat, hadj, hx, Option.map_some, Option.getD_some, not_true_eq_false, Bool.false_eq_true,
    or_self, if_false]

theorem execFinalDeltaSend_of_quiesced {s1 s2 : State} (hq : h.quiesced = true) (hfinal : h.finalSent = false)
    (hat : atSlot s (e - 4) = true) (hs1 : s1 = advanceToSlot (e - 4) s)
    (hs2 : s2 = sendDelta h.target (sfIndex s1 (e - 1)) true (gackTailOf e s1) h.touched s1) :
    execFinalDeltaSend s = done s { s2 with hed := { s2.hed with handing := some { h with finalSent := true, touched := [] } } } := by
  subst hs1 hs2
  simp only [execFinalDeltaSend, hhand, heff, hq, hfinal, hat, not_true_eq_false, Bool.false_eq_true, or_self, if_false]

theorem execHandoverEffective_of_own (hin : s.hed.incoming = none) (hat : atSlot s e = true) :
    execHandoverEffective s = done s (handOver h e s) := by
  simp only [execHandoverEffective, hin, hhand, Option.bind_some, heff, Option.map_some, hat, if_true]

end Handover

theorem execShadowWaitExpiry_of_waiting {n f : Nat} {s1 : State} (hwait : s.hed.shadowWait.find? (fun w => w.1 == n) = some (n, f))
    (hs1 : s1 = advanceNs (sfStart (f + 2)) s) :
    execShadowWaitExpiry n s = done s (hrLog 8 (servedRegion s1).1 (servedRegion s1).2
      { s1 with hed := { s1.hed with shadowWait := s1.hed.shadowWait.filter (fun w => w.1 != n) } }) := by
  subst hs1
  simp only [execShadowWaitExpiry, hwait]

/-! ### The tables (R294) -/

theorem lookupPast_of_no_bad (t : Tre) (tag : Nat) (key : Octets) : (lookupPast t tag key []).2 = [] := by
  simp only [lookupPast, badIn_nil]
  split
  · rfl
  · split
    · rfl
    · rfl

theorem execTableLookup_of_clean {tag : Nat} {key : Octets} (hbad : s.tre.bad = []) :
    execTableLookup tag key [] s = done s (emit (.lookup (lookup s.tre tag key)) s) := by
  have hkept : keepBad [] s = s := by
    simp only [keepBad, List.filter_nil, List.append_nil]
  simp only [execTableLookup, lookup, hbad, List.append_nil, lookupPast_of_no_bad, List.foldl_nil, hkept]

theorem execScrubBucket_of_quiet {b : Nat} (hrun : trellisRuns s = true) (hat : s.tre.scrubAt = (0, b)) (hring : s.tre.ring = [])
    (hmore : (scrubNext 0 b).1 ≠ 3) : execScrubBucket false s =
      done s (let s1 := scrubCompare 0 b false s; { s1 with tre := { s1.tre with scrubAt := scrubNext 0 b } }) := by
  rw [execScrubBucket_of_walk false hrun hat (by decide)]
  simp only [hring, List.any_nil, hmore, false_and, Bool.false_eq_true, if_false, Nat.zero_ne_one]

/-- With nothing waiting for room, a notice's digest goes to the shadow and the ring moves on. -/
theorem ringAdvance_of_cons_empty {arr b d seq : Nat} {l : List (Nat × Nat × Nat × Nat)} (hring : s.tre.ring = (arr, b, d, seq) :: l)
    (hwait : s.tre.waiting = []) : ringAdvance s = { s with tre := { s.tre with
      ring := l, ap := (s.tre.ap + 1) % 510, shadow := sset emptyDigest s.tre.shadow (arr * 2 ^ 17 + b) d } } := by
  rw [ringAdvance_of_cons hring, hwait]
  rfl

/-! ### The clock and its ports (R141) -/

section Working

variable (hwork : s.ctl.mode.working = true)
include hwork

theorem ne_of_working : s.ctl.mode ≠ .m0 ∧ s.ctl.mode ≠ .m1 := by
  refine ⟨fun h => ?_, fun h => ?_⟩
  · rw [h] at hwork; cases hwork
  · rw [h] at hwork; cases hwork

theorem execPpsInEdge_of_source {jitter : Int} (hsource : odNat s 0x2001 1 = 1) :
    execPpsInEdge jitter s = done s (ppsEdge ((nowNs s : Int) + clampInt (-4) 4 jitter - odInt s 0x2020 4) s) :=
  if_pos ⟨.inl hsource, ne_of_working hwork⟩

theorem execPpsOutSecond_of_working : execPpsOutSecond s =
    done s (ppsPulse (nowSecs s + 1) (advanceNs (((nowSecs s + 1) * 1000000000 : Int) - odInt s 0x2020 3).toNat s)) :=
  if_neg (not_or.2 (ne_of_working hwork))

theorem execPtpMessageTimer_of_announce {port : Nat} (hwarm : s.shd.warm = none) (hactive : portActive s port = true)
    (hmaster : (portOf s port).portState = 6) :
    execPtpMessageTimer port 2 s = done s (emit (.announce port (portOf s port).seq (announced s))
      (modPort port (fun p => { p with seq := (p.seq + 1) % 65536 }) s)) := by
  obtain ⟨hm0, hm1⟩ := ne_of_working hwork
  simp only [execPtpMessageTimer, hm0, hm1, hwarm, hactive, hmaster, Option.isSome_none, Bool.false_eq_true, not_true_eq_false, or_self,
    OfNat.ofNat_ne_zero, OfNat.ofNat_ne_one, false_and, and_self, if_false, if_true]

end Working

theorem execSourceTimeout_of_measured {t : Nat} (h : s.clk.lastMeas = some t) :
    execSourceTimeout s = done s (sourceLost (advanceElapsed (t + odNat s 0x2001 7 * msCycles) s)) := by
  simp only [execSourceTimeout, h]

/-- Settles O60: each command under its own conditions. -/
theorem commandsRunToCompletion : Obligations.CommandsRunToCompletion := by
  unfold Obligations.CommandsRunToCompletion
  refine ⟨?txn, fun t p s => execFwTrialTimer_of_trial, ?gesso, ?radio, ?timers, ?handovers, ?tables, ?ports⟩
  case txn =>
    intro q u s h t ht
    refine ⟨exec_txnBegin_of_room h ht, fun x hx => exec_txnAbort_of_open h ht hx, fun authOk x e t1 hx he hre hset hall a ha => ?_⟩
    subst he
    exact exec_txnCommit_of_ok authOk h ht hx hre hset hall ha
  case gesso =>
    intro g s hup hin hout i hi
    subst hi
    refine ⟨fun hcaller => ?_, fun pan k hcaller hne huse hkey => ?_⟩
    · have hknown : [2, 4].contains g.caller = true := by
        rcases hcaller with h2 | h4
        · rw [h2]; rfl
        · rw [h4]; rfl
      refine ⟨fun tagOk hfault hop o ho hfit => ?_, fun toNode row tagOk hfault r hr => ⟨?_, ?_⟩, fun pre hpre hkeys hfit => ?_,
        fun hroot hfit => ?_, fun sigOk hpass => ?_, fun op hop hfault => ?_⟩
      · subst ho
        exact congrArg (done s) (gessoServe_of_fit hup hin hout hknown (keyOp_seal hfault hop) hfit)
      · subst hr
        exact importKey_status hfault
      · subst hr
        exact congrArg (done s) (gessoServe_of_fit hup hin hout hknown rfl (Nat.zero_le _))
      · exact congrArg (done s) (gessoServe_of_fit hup hin hout hknown (signData_of_allowed hpre hkeys) hfit)
      · exact congrArg (done s) (gessoServe_of_fit hup hin hout hknown (if_pos hroot) hfit)
      · exact congrArg (done s) (gessoServe_of_fit hup hin hout hknown (serveLifeCycle_of_pass hpass) (Nat.zero_le _))
      · exact congrArg (done s) (gessoServe_of_fit hup hin hout hknown (fwControl_of_activate hop hfault) (Nat.zero_le _))
    · have hknown : [3].contains g.caller = true := by rw [hcaller]; rfl
      exact congrArg (done s) (gessoServe_of_fit hup hin hout hknown (laneBind_of_key hne huse hkey) (Nat.zero_le _))
  case radio =>
    exact fun s => ⟨execCaptureStart_of_due, fun hrun n => execCaptureStop_of_running hrun,
      fun item path seen us hrun hus hok t => execCalItemComplete_of_plausible hrun hus hok,
      fun k err re im hk hon hcal huse hfull coef hcoef c hc s1 => execDpdUpdate_of_captured hk hon hcal huse hfull hcoef hc,
      fun t => execDwellBucketAdvance_of_min⟩
  case timers =>
    exact fun s hrun hhome => ⟨execHelloTimer_of_home hrun hhome, execLsaRefreshTimer_of_home hrun hhome,
      fun addr x hadj hx s1 => execSuspectTimeout_of_heard hrun hadj hx,
      fun htimer hin s1 hs1 s2 => execIsolationTimeout_of_set hrun htimer hin hs1,
      fun addr => execClaimTimer_of_third hrun⟩
  case handovers =>
    exact fun s => ⟨fun origin l hfind s1 => execLsaAgeExpiry_of_held hfind, fun t a hlisten s1 => execAddressListenEnd_of_free hlisten,
      fun i => execTakeoverEffective_of_idle,
      fun hpeer hrun hemits hin wait hwait b hb f => execMirrorDeltaSend_of_served hpeer hrun hemits hin hwait hb,
      fun h e hhand heff => ⟨fun x hq hat s1 => execHandoverQuiesce_of_heard hhand heff hq hat,
        fun hq hfinal hat s1 hs1 s2 => execFinalDeltaSend_of_quiesced hhand heff hq hfinal hat hs1,
        execHandoverEffective_of_own hhand heff⟩,
      fun n f hwait s1 => execShadowWaitExpiry_of_waiting hwait⟩
  case tables =>
    intro tag key s hrun htag htag' hkey hwait
    refine ⟨fun flags value nxt e he => ?_, execTableDelete_of_runs key hrun htag htag', execTableLookup_of_clean,
      fun b => execScrubBucket_of_quiet hrun, fun arr b d seq l hring hon => ?_⟩
    · subst he
      exact execTableInsert_of_runs flags value nxt hrun hkey
    · exact (execDigestRingAdvance_of_canvas hon).trans (congrArg (done s) (ringAdvance_of_cons_empty hring hwait))
  case ports =>
    intro port s hwork
    refine ⟨execEgressSelect_of_live, execEthFrameReceived_of_live, fun hport hrun g hg s1 hs1 => ?_,
      fun cls f l rate need hqueue hrate hneed hpos hshort hburst => ?_, execDlQueueFromCanvas_node, fun jitter => execPpsInEdge_of_source hwork,
      execPpsOutSecond_of_working hwork, fun t => execSourceTimeout_of_measured, rfl, execPtpMessageTimer_of_announce hwork⟩
    · subst hg hs1
      exact execGateEntryBoundary_of_runs hport hrun
    · subst hrate hneed
      exact execShaperTokensRefilled_of_short hqueue hpos hshort hburst

end Sys2Proof.Machine
end

section
/-!
PROOFS. When a step of the clock is applied and what it leaves, and what a measurement leaves of a valid clock (R98, R99, R101, R106,
R107, R109).
-/

namespace Sys2Proof.Machine

variable {s : State}

/-! ### Pulses and steps (R106, R109) -/

theorem Part.same_withClk {p : Part} (hp : p ≠ .clk) (c : Clk) (s : State) : p.same s { s with clk := c } := by
  cases p with
  | clk => exact absurd rfl hp
  | _ => rfl

/-- A second has a pulse, which goes out and is marked, or none. -/
theorem ppsPulse_eq_or_eq (sec : Nat) (s : State) :
    ppsPulse sec s =
      emit (.ppsPulse sec (odNat s 0x2020 2)) { s with clk := { s.clk with ppsMarked := ppsMark sec s.clk.ppsMarked } } ∨
    ppsPulse sec s = s :=
  ite_eq_or_eq ..

theorem emit_same (p : Part) (o : Output) (s : State) : p.same s (emit o s) := by
  cases p with
  | _ => rfl

/-- A pulse of PPS_OUT is of the clock's own records. -/
theorem ppsPulse_same {p : Part} (hp : p ≠ .clk) (sec : Nat) (s : State) : p.same s (ppsPulse sec s) := by
  rcases ppsPulse_eq_or_eq sec s with heq | heq
  · rw [heq]; exact Part.same_trans (Part.same_withClk hp _ s) (emit_same ..)
  · rw [heq]; exact Part.same_withClk hp s.clk s

theorem ppsPulse_clk (sec : Nat) (s : State) : ∃ l, (ppsPulse sec s).clk = { s.clk with ppsMarked := l } := by
  rcases ppsPulse_eq_or_eq sec s with heq | heq
  · rw [heq]; exact ⟨_, rfl⟩
  · rw [heq]; exact ⟨_, rfl⟩

/-- A step of the clock moves its reading and clears its history. -/
theorem stepClock_clk (d : Int) (s : State) :
    ∃ l, (stepClock d s).clk = { s.clk with now := ((s.clk.now : Int) + d * nsUnit).toNat, hist := [], ppsMarked := l } := by
  unfold stepClock
  dsimp only
  split
  · exact ppsPulse_clk ..
  · exact ⟨_, rfl⟩

theorem stepClock_same {p : Part} (hp : p ≠ .clk) (d : Int) (s : State) : p.same s (stepClock d s) := by
  unfold stepClock
  dsimp only
  split
  · exact Part.same_trans (Part.same_withClk hp _ s) (ppsPulse_same hp ..)
  · exact Part.same_withClk hp _ s

/-- A step that is applied moves the reading, and neither pends nor is requested any more. -/
theorem applyStep_clk (d : Int) (s : State) : ∃ l, (applyStep d s).clk = { s.clk with
    now := ((s.clk.now : Int) + d * nsUnit).toNat, hist := [], ppsMarked := l,
    state := if s.clk.state = .stepHeld then .locked else s.clk.state, stepPending := false, stepReq := none, okRun := 0 } := by
  obtain ⟨l, hl⟩ := stepClock_clk d s
  refine ⟨l, ?_⟩
  simp only [applyStep, stepApplied, hl]

theorem applyStep_nod (d : Int) (s : State) : (applyStep d s).nod = { s.nod with
    recs := s.nod.recs.map (fun p => (p.1, { p.2 with stepAdd := p.2.stepAdd + (d.natAbs + 999) / 1000 })) } := by
  have hnod : (stepClock d s).nod = s.nod := stepClock_same (p := .nod) (by decide) d s
  simp only [applyStep, stepApplied, hnod]

/-- A step is of the clock and of the nodes' uncertainties alone. -/
theorem applyStep_same {p : Part} (hclk : p ≠ .clk) (hnod : p ≠ .nod) (d : Int) (s : State) : p.same s (applyStep d s) := by
  have hstep := stepClock_same hclk d s
  cases p with
  | clk => exact absurd rfl hclk
  | nod => exact absurd rfl hnod
  | _ => exact hstep

/-! The instant of a fixed step, by its size. -/

variable {d : Int} {e : Nat}

theorem stepAtInstant_of_back (hd : d < 0) : stepAtInstant d e s = applyStep d (advanceNs (startNs s e).toNat s) := if_pos hd

theorem stepAtInstant_of_fit (hd : 0 ≤ d) (hfit : d ≤ (slotNs (epochFor s (e - 1)).code : Int) - 200000) :
    stepAtInstant d e s = applyStep d (advanceNs (startNs s e - d).toNat s) :=
  (if_neg (Int.not_lt.2 hd)).trans (if_pos hfit)

theorem stepAtInstant_of_long (hd : 0 ≤ d) (hlong : (slotNs (epochFor s (e - 1)).code : Int) - 200000 < d) :
    stepAtInstant d e s = passOver e (applyStep d (advanceNs (startNs s (e - 1) + 200000).toNat s)) :=
  (if_neg (Int.not_lt.2 hd)).trans (if_neg (Int.not_le.2 hlong))

/-- Settles O31: the instant by the three sizes, and what a step that is applied leaves. -/
theorem stepIsAppliedByItsSize : Obligations.StepIsAppliedByItsSize := by
  unfold Obligations.StepIsAppliedByItsSize
  intro d e s
  obtain ⟨l, hclk⟩ := applyStep_clk d s
  refine ⟨stepAtInstant_of_back, stepAtInstant_of_fit, stepAtInstant_of_long, ?_, ?_, ?_, ?_, ?_, ?_⟩
  · rw [hclk]
  · rw [hclk]
  · rw [hclk]
  · rw [applyStep_nod]
  · exact applyStep_same (p := .mem) (by decide) (by decide) d s
  · exact applyStep_same (p := .od) (by decide) (by decide) d s

/-! ### Measurements (R98, R99, R107) -/

/-- The clock as a measurement finds it: it reads the same, is as valid as it was, and has the offset measured. -/
structure Measured (off : Int) (s t : State) : Prop where
  now : t.clk.now = s.clk.now
  offset : t.clk.offset = off
  valid : t.clk.valid = s.clk.valid
  mem : t.mem = s.mem
  ctl : t.ctl = s.ctl

variable {off : Int} {t : State}

theorem Measured.withState (h : Measured off s t) (st : ClkState) : Measured off s { t with clk := { t.clk with state := st } } :=
  ⟨h.now, h.offset, h.valid, h.mem, h.ctl⟩

theorem holdStep_clk (off : Int) (t : State) : (holdStep off t).clk = { t.clk with stepPending := true, stepAmount := off, okRun := 0 } := by
  unfold holdStep
  dsimp only
  split
  · rfl
  · rfl

/-- A step that is held is logged, and moves nothing. -/
theorem Measured.holdStep (h : Measured off s t) (o : Int) : Measured off s (holdStep o t) := by
  have hrest : (Machine.holdStep o t).mem = t.mem ∧ (Machine.holdStep o t).ctl = t.ctl := by
    unfold Machine.holdStep
    dsimp only
    split
    · exact ⟨rfl, rfl⟩
    · exact ⟨rfl, rfl⟩
  have hclk := holdStep_clk o t
  exact ⟨hclk ▸ h.now, hclk ▸ h.offset, hclk ▸ h.valid, hrest.1.trans h.mem, hrest.2.trans h.ctl⟩

theorem Measured.okStep (h : Measured off s t) (o : Int) : Measured off s (okStep o t) := by
  unfold Machine.okStep
  split
  · exact ⟨h.now, h.offset, h.valid, h.mem, h.ctl⟩
  · exact h

/-- Slewing sets rates, and moves nothing. -/
theorem Measured.slew (h : Measured off s t) : Measured off s (slew t) := ⟨h.now, h.offset, h.valid, h.mem, h.ctl⟩

/-- A measurement is noted. -/
def noted (off : Int) (s : State) : State :=
  { s with clk := { s.clk with
    offset := off, lastMeas := some s.clk.elapsed, sourceLost := false, hist := (off.natAbs :: s.clk.hist).take 16 } }

theorem noted_measured (off : Int) (s : State) : Measured off s (noted off s) := ⟨rfl, rfl, rfl, rfl, rfl⟩

/-- A measurement is noted, and the clock goes to a state at a rate correction, with a step pending or not. -/
def notedIn (st : ClkState) (rate : Int) (pend : Bool) (off : Int) (s : State) : State :=
  { noted off s with clk := { (noted off s).clk with state := st, rateCorr := rate, stepPending := pend } }

theorem notedIn_measured (st : ClkState) (rate : Int) (pend : Bool) (off : Int) (s : State) : Measured off s (notedIn st rate pend off s) :=
  ⟨rfl, rfl, rfl, rfl, rfl⟩

/-- Above STEP_THRESHOLD a locked clock, or one in holdover or held already, holds the step (R107). -/
theorem steer_of_big (hinv : s.clk.state ≠ .invalid) (hacq : s.clk.state ≠ .acquiring) (hbig : stepThreshold s < off.natAbs) :
    ∃ rate, steer off s = holdStep off (notedIn .stepHeld rate s.clk.stepPending off s) := by
  cases hst : s.clk.state with
  | invalid => exact absurd hst hinv
  | acquiring => exact absurd hst hacq
  | locked => exact ⟨s.clk.freqEst, by simp only [steer, hst, hbig, decide_true, if_true]; rfl⟩
  | holdover => exact ⟨s.clk.rateCorr, by simp only [steer, hst, hbig, decide_true, if_true]; rfl⟩
  | stepHeld =>
    refine ⟨s.clk.rateCorr, ?_⟩
    simp only [steer, notedIn, noted, hst, hbig, decide_true, if_true]

/-- At or below it a locked clock, or one in holdover, is slewed and locked (R99, R107). -/
theorem steer_of_small (hst : s.clk.state = .locked ∨ s.clk.state = .holdover) (hsmall : off.natAbs ≤ stepThreshold s) :
    ∃ pend, steer off s = slew (notedIn .locked s.clk.rateCorr pend off s) := by
  have hbig : ¬ stepThreshold s < off.natAbs := Nat.not_lt.2 hsmall
  rcases hst with hst | hst
  · refine ⟨s.clk.stepPending, ?_⟩
    simp only [steer, notedIn, noted, hst, hbig, decide_false, Bool.false_eq_true, if_false]
  · exact ⟨false, by simp only [steer, hst, hbig, decide_false, Bool.false_eq_true, if_false]; rfl⟩

/-- At or below it a clock whose step is held waits on, or is slewed and locked (R107). -/
theorem steer_of_held (hst : s.clk.state = .stepHeld) (hsmall : off.natAbs ≤ stepThreshold s) :
    steer off s = okStep off (noted off s) ∨
      steer off s = slew { okStep off (noted off s) with clk := { (okStep off (noted off s)).clk with state := .locked } } := by
  have hbig : ¬ stepThreshold s < off.natAbs := Nat.not_lt.2 hsmall
  simp only [steer, noted, hst, hbig, decide_false, Bool.false_eq_true, if_false]
  split
  · exact .inl rfl
  · exact .inr rfl

theorem locked_or_holdover (hinv : s.clk.state ≠ .invalid) (hacq : s.clk.state ≠ .acquiring) (hheld : s.clk.state ≠ .stepHeld) :
    s.clk.state = .locked ∨ s.clk.state = .holdover := by
  cases hst : s.clk.state with
  | locked => exact .inl rfl
  | holdover => exact .inr rfl
  | _ => contradiction

/-- In LOCKED, HOLDOVER and STEP_HELD a measurement leaves the reading as it is (R107). -/
theorem steer_measured (hinv : s.clk.state ≠ .invalid) (hacq : s.clk.state ≠ .acquiring) (off : Int) : Measured off s (steer off s) := by
  by_cases hbig : stepThreshold s < off.natAbs
  · obtain ⟨rate, heq⟩ := steer_of_big hinv hacq hbig
    exact heq ▸ (notedIn_measured ..).holdStep off
  · have hsmall := Nat.not_lt.1 hbig
    by_cases hheld : s.clk.state = .stepHeld
    · have hok := (noted_measured off s).okStep off
      rcases steer_of_held hheld hsmall with heq | heq
      · exact heq ▸ hok
      · exact heq ▸ (hok.withState .locked).slew
    · obtain ⟨pend, heq⟩ := steer_of_small (locked_or_holdover hinv hacq hheld) hsmall
      exact heq ▸ (notedIn_measured ..).slew

theorem measure_of_servo (h : servoRuns s = true) (off : Int) : measure off s = steer off s := if_pos h

/-- Settles O32: what `steer` does above the threshold and at or below it, in the three states that have a valid reading. -/
theorem measurementsNeverStepAValidClock : Obligations.MeasurementsNeverStepAValidClock := by
  unfold Obligations.MeasurementsNeverStepAValidClock
  refine ⟨fun off s hstop => if_neg (Bool.eq_false_iff.1 hstop), fun off s hrun hinv hacq => ?_⟩
  rw [measure_of_servo hrun]
  obtain ⟨hnow, hoffset, hvalid, hmem, hctl⟩ := steer_measured hinv hacq off
  refine ⟨hnow, hoffset, hvalid, fun hbig => ?_, fun hsmall hheld => ?_, hmem, hctl⟩
  · obtain ⟨rate, heq⟩ := steer_of_big hinv hacq hbig
    rw [heq, holdStep_clk]
    exact ⟨rfl, rfl, rfl⟩
  · obtain ⟨pend, heq⟩ := steer_of_small (locked_or_holdover hinv hacq hheld) hsmall
    rw [heq]
    rfl

end Sys2Proof.Machine
end

section
/-!
PROOFS. The IEEE 1588 messages and timers, the pulse-per-second commands, and the loss of the source (R97 to R99, R101 to R106).
-/

namespace Sys2Proof.Machine

variable {m : PtpMsg} {s : State}

/-! ### Ports -/

theorem portOf_modPort_self {port : Nat} (hport : port < s.clk.ports.length) (f : PtpPort → PtpPort) :
    portOf (modPort port f s) port = f (portOf s port) := by
  simp only [portOf, modPort, getElem?_modAt, if_true, List.getElem?_eq_getElem hport, Option.map_some, Option.getD_some]

/-- An Announce of another clock, within 254 steps, is at its port under its sender (R102). -/
theorem noteAnnounce_foreign (hother : m.source / 65536 ≠ clockIdentity s) (hsteps : m.steps < 255) (hport : m.port < s.clk.ports.length) :
    ∃ f ∈ (portOf (noteAnnounce m s) m.port).foreigns, f.source = m.source ∧ f.ds = announceDs m ∧ f.last = s.clk.elapsed := by
  have hnote : ¬ (m.source / 65536 = clockIdentity s ∨ 255 ≤ m.steps) := not_or.2 ⟨hother, Nat.not_le.2 hsteps⟩
  rw [noteAnnounce, if_neg hnote, portOf_modPort_self hport]
  exact ⟨_, List.mem_append_right _ (List.mem_singleton.2 rfl), rfl, rfl, rfl⟩

/-! ### Messages (R97, R98, R102 to R104) -/

section Messages

variable (h0 : s.ctl.mode ≠ .m0) (h1 : s.ctl.mode ≠ .m1) (hwarm : s.shd.warm = none)
include h0 h1 hwarm

theorem ptpAccept_of_runs (mech : Nat) (f : State → State) : ptpAccept m mech f s =
    if ptpRefused m mech s then { s with clk := { s.clk with ptpDiscarded := s.clk.ptpDiscarded + 1 } } else f s :=
  if_neg (by simp only [h0, h1, hwarm, Option.isSome_none, Bool.false_eq_true, or_self, not_false_eq_true])

/-- A refused message is discarded and counted, whatever it would do. -/
theorem done_ptpAccept_of_refused {mech : Nat} (href : ptpRefused m mech s = true) (f : State → State) :
    done s (ptpAccept m mech f s) = .next (conclude s { s with clk := { s.clk with ptpDiscarded := s.clk.ptpDiscarded + 1 } }) := by
  rw [ptpAccept_of_runs h0 h1 hwarm, if_pos href]
  rfl

/-- Any other has its effect. -/
theorem done_ptpAccept_of_passed {mech : Nat} (hpass : ptpRefused m mech s = false) {f : State → State} {t : State} (hf : f s = t) :
    done s (ptpAccept m mech f s) = .next (conclude s t) := by
  rw [ptpAccept_of_runs h0 h1 hwarm, if_neg (Bool.eq_false_iff.1 hpass), hf]
  rfl

theorem execSync_of_oneStep (hpass : ptpRefused m 2 s = false) (hlisten : ptpListens m s = true) (hstep : m.twoStep = false) :
    execSync m s = .next (conclude s (ptpOffset m (rxStamp m s) s)) :=
  done_ptpAccept_of_passed h0 h1 hwarm hpass ((if_pos hlisten).trans (if_neg (Bool.eq_false_iff.1 hstep)))

theorem execSync_of_twoStep (hpass : ptpRefused m 2 s = false) (hlisten : ptpListens m s = true) (hstep : m.twoStep = true) :
    execSync m s = .next (conclude s (modPort m.port (fun p => { p with syncWait := some (m.seq, rxStamp m s - m.corr) }) s)) :=
  done_ptpAccept_of_passed h0 h1 hwarm hpass ((if_pos hlisten).trans (if_pos hstep))

theorem execFollowUp_of_waiting {t2 : Int} (hpass : ptpRefused m 2 s = false) (hwait : (portOf s m.port).syncWait = some (m.seq, t2))
    (hlisten : ptpListens m s = true) : execFollowUp m s = .next (conclude s (ptpOffset m t2 s)) :=
  done_ptpAccept_of_passed h0 h1 hwarm hpass (by simp only [hwait, hlisten, and_self, if_true])

theorem execDelayReq_of_master (hpass : ptpRefused m 0 s = false) (hmaster : (portOf s m.port).portState = 6) :
    execDelayReq m s = .next (conclude s { s with out := s.out ++ [.ptp m.port 9 m.seq (rxStamp m s)] }) :=
  done_ptpAccept_of_passed h0 h1 hwarm hpass (if_pos hmaster)

theorem execDelayResp_of_sent {t1 t2 t3 : Int} (hpass : ptpRefused m 0 s = false) (hsent : (portOf s m.port).reqSent = some (m.seq, t3))
    (hsync : (portOf s m.port).lastSync = some (t1, t2)) (hus : m.forUs = true) (hlisten : ptpListens m s = true) :
    execDelayResp m s = .next (conclude s (modPort m.port (fun p =>
      { p with reqSent := none, delay := some (((t2 - t1) + (m.origin - m.corr - t3)) / 2) }) s)) :=
  done_ptpAccept_of_passed h0 h1 hwarm hpass (by simp only [hsent, hsync, hus, hlisten, and_self, if_true])

theorem execPdelayReq_of_passed (hpass : ptpRefused m 1 s = false) : execPdelayReq m s = .next (conclude s
    { s with out := s.out ++ [.ptp m.port 3 m.seq (rxStamp m s)] ++ [.ptp m.port 10 m.seq (txStamp m.port s)] }) :=
  done_ptpAccept_of_passed h0 h1 hwarm hpass rfl

theorem execPdelayResp_of_oneStep {t1 : Int} (hpass : ptpRefused m 1 s = false) (hsent : (portOf s m.port).reqSent = some (m.seq, t1))
    (hus : m.forUs = true) (hstep : m.twoStep = false) :
    execPdelayResp m s = .next (conclude s (modPort m.port (fun p =>
      { p with reqSent := none, delay := some ((rxStamp m s - t1 - m.corr) / 2) }) s)) :=
  done_ptpAccept_of_passed h0 h1 hwarm hpass (by simp only [hsent, hus, hstep, and_self, if_true, Bool.false_eq_true, if_false])

theorem execPdelayResp_of_twoStep {t1 : Int} (hpass : ptpRefused m 1 s = false) (hsent : (portOf s m.port).reqSent = some (m.seq, t1))
    (hus : m.forUs = true) (hstep : m.twoStep = true) :
    execPdelayResp m s = .next (conclude s (modPort m.port (fun p =>
      { p with reqSent := none, pdelayWait := some (m.seq, m.origin - m.corr, rxStamp m s - t1) }) s)) :=
  done_ptpAccept_of_passed h0 h1 hwarm hpass (by simp only [hsent, hus, hstep, and_self, if_true])

theorem execPdelayRespFollowUp_of_waiting {t2 turn : Int} (hpass : ptpRefused m 1 s = false)
    (hwait : (portOf s m.port).pdelayWait = some (m.seq, t2, turn)) (hus : m.forUs = true) :
    execPdelayRespFollowUp m s = .next (conclude s (modPort m.port (fun p =>
      { p with pdelayWait := none, delay := some ((turn - (m.origin + m.corr - t2)) / 2) }) s)) :=
  done_ptpAccept_of_passed h0 h1 hwarm hpass (by simp only [hwait, hus, and_self, if_true])

theorem execAnnounce_of_passed (hpass : ptpRefused m 2 s = false) :
    execAnnounce m s = .next (conclude s (decideStates none (noteAnnounce m s))) :=
  done_ptpAccept_of_passed h0 h1 hwarm hpass rfl

end Messages

/-- Settles O33: a refused message is counted, and each other has its effect where its exchange is under way. -/
theorem ptpMessagesRun : Obligations.PtpMessagesRun := by
  unfold Obligations.PtpMessagesRun
  intro m s h0 h1 hwarm
  refine ⟨fun href c hc => ?either, fun href c hc => ?request, fun href c hc => ?peer, execSync_of_oneStep h0 h1 hwarm,
    execSync_of_twoStep h0 h1 hwarm, fun t2 => execFollowUp_of_waiting h0 h1 hwarm, execDelayReq_of_master h0 h1 hwarm,
    fun t1 t2 t3 => execDelayResp_of_sent h0 h1 hwarm, execPdelayReq_of_passed h0 h1 hwarm,
    fun t1 => execPdelayResp_of_oneStep h0 h1 hwarm, fun t1 => execPdelayResp_of_twoStep h0 h1 hwarm,
    fun t2 turn => execPdelayRespFollowUp_of_waiting h0 h1 hwarm, execAnnounce_of_passed h0 h1 hwarm, noteAnnounce_foreign⟩
  case either =>
    simp only [List.mem_cons, List.not_mem_nil, or_false] at hc
    rcases hc with rfl | rfl | rfl <;> exact done_ptpAccept_of_refused h0 h1 hwarm href _
  case request =>
    simp only [List.mem_cons, List.not_mem_nil, or_false] at hc
    rcases hc with rfl | rfl <;> exact done_ptpAccept_of_refused h0 h1 hwarm href _
  case peer =>
    simp only [List.mem_cons, List.not_mem_nil, or_false] at hc
    rcases hc with rfl | rfl | rfl <;> exact done_ptpAccept_of_refused h0 h1 hwarm href _

/-! ### Pulses and the loss of the source (R98, R99, R101, R105, R106) -/

theorem execPpsInEdge_of_selected {jitter : Int} (hsource : odNat s 0x2001 1 = 1 ∨ odNat s 0x2001 1 = 2) (h0 : s.ctl.mode ≠ .m0)
    (h1 : s.ctl.mode ≠ .m1) :
    execPpsInEdge jitter s = done s (ppsEdge ((nowNs s : Int) + clampInt (-4) 4 jitter - odInt s 0x2020 4) s) :=
  if_pos ⟨hsource, h0, h1⟩

theorem execPpsOutSecond_of_powered (h0 : s.ctl.mode ≠ .m0) (h1 : s.ctl.mode ≠ .m1) : execPpsOutSecond s =
    done s (ppsPulse (nowSecs s + 1) (advanceNs (((nowSecs s + 1) * 1000000000 : Int) - odInt s 0x2020 3).toNat s)) :=
  if_neg (not_or.2 ⟨h0, h1⟩)

/-- A clock in LOCKED or STEP_HELD that loses its source holds over (R99, R101). -/
theorem sourceLost_of_held (hst : s.clk.state = .locked ∨ s.clk.state = .stepHeld) :
    sourceLost s = { s with clk := { s.clk with
      sourceLost := true, state := .holdover, stepPending := false, okRun := 0, holdErr := estError s, holdSince := s.clk.elapsed
      rateCorr := if servoRuns s then s.clk.freqEst else s.clk.rateCorr } } := by
  rcases hst with hst | hst
  · simp only [sourceLost, hst]
  · simp only [sourceLost, hst]

/-- Losing the source is marked, and moves neither VALID nor the reading. -/
theorem sourceLost_keeps (s : State) :
    (sourceLost s).clk.sourceLost = true ∧ (sourceLost s).clk.valid = s.clk.valid ∧ (sourceLost s).clk.now = s.clk.now := by
  unfold sourceLost
  dsimp only
  split
  · exact ⟨rfl, rfl, rfl⟩
  · exact ⟨rfl, rfl, rfl⟩
  · exact ⟨rfl, rfl, rfl⟩

/-! ### Timers (R102) -/

theorem loseMaster_of_best {port i : Nat} {f : Foreign} (hbest : portBest s port = some (i, f)) :
    loseMaster port s = modPort port (fun p => { p with foreigns := p.foreigns.filter (fun x => x.source != f.source) }) s := by
  simp only [loseMaster, hbest]

/-- A port's sequence number steps with every message that its timers send. -/
def stepSeq (port : Nat) (s : State) : State := modPort port (fun p => { p with seq := (p.seq + 1) % 65536 }) s

section Timers

variable {port : Nat} (h0 : s.ctl.mode ≠ .m0) (h1 : s.ctl.mode ≠ .m1) (hwarm : s.shd.warm = none) (hactive : portActive s port = true)
include h0 h1 hwarm hactive

/-- Where the clock runs at an active port, a timer sends by its kind. -/
theorem timer_runs_of_active : ¬ (s.ctl.mode = .m0 ∨ s.ctl.mode = .m1 ∨ s.shd.warm.isSome ∨ ¬ portActive s port) := by
  simp only [h0, h1, hwarm, hactive, Option.isSome_none, Bool.false_eq_true, not_true_eq_false, or_self, not_false_eq_true]

/-- A master's Sync, with its Follow_Up unless it is one-step. -/
theorem execPtpMessageTimer_of_sync (hmaster : (portOf s port).portState = 6) : execPtpMessageTimer port 0 s =
    let sync := emit (.ptp port 0 (portOf s port).seq (txStamp port s)) (stepSeq port s)
    done s (if odNat s 0x2010 6 = 1 then sync else emit (.ptp port 8 (portOf s port).seq (txStamp port s)) sync) :=
  (if_neg (timer_runs_of_active h0 h1 hwarm hactive)).trans (if_pos ⟨rfl, hmaster⟩)

/-- The delay request of the mechanism in use: a slave's, or any port's to its peer. -/
theorem execPtpMessageTimer_of_request
    (hreq : odNat s 0x2010 5 = 1 ∨ (portOf s port).portState = 8 ∨ (portOf s port).portState = 9) :
    execPtpMessageTimer port 1 s = done s (modPort port (fun q => { q with reqSent := some ((portOf s port).seq, txStamp port s) })
      (emit (.ptp port (if odNat s 0x2010 5 = 1 then 2 else 1) (portOf s port).seq (txStamp port s)) (stepSeq port s))) :=
  (if_neg (timer_runs_of_active h0 h1 hwarm hactive)).trans ((if_neg fun h => absurd h.1 (by decide)).trans (if_pos ⟨rfl, hreq⟩))

theorem execPtpMessageTimer_of_announcement (hmaster : (portOf s port).portState = 6) : execPtpMessageTimer port 2 s =
    done s (emit (.announce port (portOf s port).seq (announced s)) (stepSeq port s)) :=
  (if_neg (timer_runs_of_active h0 h1 hwarm hactive)).trans ((if_neg fun h => absurd h.1 (by decide)).trans
    ((if_neg fun h => absurd h.1 (by decide)).trans (if_pos ⟨rfl, hmaster⟩)))

end Timers

/-- Settles O34: the pulse-per-second commands, the loss of the source, and the IEEE 1588 timers by their kinds. -/
theorem clockTimersRun : Obligations.ClockTimersRun := by
  unfold Obligations.ClockTimersRun
  refine ⟨fun jitter s => execPpsInEdge_of_selected, fun s => execPpsOutSecond_of_powered, fun t s => execSourceTimeout_of_measured,
    fun s => ⟨fun hst => ?held, sourceLost_keeps s⟩, fun port s => rfl, fun port s i f => loseMaster_of_best,
    fun port s h0 h1 hwarm hactive => ⟨fun hmaster hone => ?oneStep, fun hmaster htwo => ?twoStep,
      execPtpMessageTimer_of_request h0 h1 hwarm hactive, execPtpMessageTimer_of_announcement h0 h1 hwarm hactive⟩⟩
  case held =>
    rw [sourceLost_of_held hst]
    exact ⟨rfl, rfl, rfl, rfl⟩
  case oneStep => exact (execPtpMessageTimer_of_sync h0 h1 hwarm hactive hmaster).trans (congrArg (done s) (if_pos hone))
  case twoStep => exact (execPtpMessageTimer_of_sync h0 h1 hwarm hactive hmaster).trans (congrArg (done s) (if_neg htwo))

end Sys2Proof.Machine
end

section
/-!
PROOFS. Accepted writes of the timebase objects: STEP_APPLY, TIME_SET, TIME_SOURCE and ASN_EPOCH (R68, R99, R100, R105, R108, R111, R115).
-/

namespace Sys2Proof.Machine

variable {q : OdapReq} {u : Session} {s : State}

/-! The objects in the tables. -/

theorem odFind_timeSource : odFind 0x2001 1 = some (odPage 0x20)[6] := rfl
theorem odFind_stepApply : odFind 0x2002 2 = some (odPage 0x20)[14] := rfl
theorem odFind_timeSet : odFind 0x2002 3 = some (odPage 0x20)[15] := rfl
theorem odFind_asnEpoch : odFind 0x2100 1 = some (odPage 0x21)[0] := rfl

@[simp] theorem afterWrite_clk (q : OdapReq) (s : State) (r : State × Answer) : (afterWrite q s r).clk = r.1.clk := by
  simp only [afterWrite, conclude_clk, respond_clk]

@[simp] theorem stale_clk (s : State) : (stale s).clk = s.clk := rfl

/-! ### The epoch record (Table 05-5) -/

/-- A field that a number which fits it was written to reads as the number. -/
theorem fieldNat_append_beOct (a : Octets) {n x : Nat} (hfit : x < 256 ^ n) (b : Octets) :
    fieldNat (a ++ (beOct n x ++ b)) a.length n = x := by
  rw [fieldNat, List.drop_left, List.take_left' (beOct_length n x), beNat_beOct, Nat.mod_eq_of_lt hfit]

/-- An epoch whose numbers fit their fields is what its record spells. -/
theorem decodeEpoch_encodeEpoch {e : Epoch} (hasn : e.asn0 < 2 ^ 40) (hsecs : e.secs < 2 ^ 48) (hnanos : e.nanos < 2 ^ 32)
    (hcode : e.code < 2 ^ 8) : decodeEpoch (encodeEpoch e) = e := by
  have hasn0 : fieldNat (encodeEpoch e) 0 5 = e.asn0 := by
    simpa [encodeEpoch] using fieldNat_append_beOct [] (n := 5) hasn (beOct 6 e.secs ++ beOct 4 e.nanos ++ beOct 1 e.code)
  have hseconds : fieldNat (encodeEpoch e) 5 6 = e.secs := by
    simpa [encodeEpoch] using fieldNat_append_beOct (beOct 5 e.asn0) (n := 6) hsecs (beOct 4 e.nanos ++ beOct 1 e.code)
  have hnano : fieldNat (encodeEpoch e) 11 4 = e.nanos := by
    simpa [encodeEpoch] using fieldNat_append_beOct (beOct 5 e.asn0 ++ beOct 6 e.secs) (n := 4) hnanos (beOct 1 e.code)
  have hslot : fieldNat (encodeEpoch e) 15 1 = e.code := by
    simpa [encodeEpoch] using fieldNat_append_beOct (beOct 5 e.asn0 ++ beOct 6 e.secs ++ beOct 4 e.nanos) (n := 1) hcode []
  rw [decodeEpoch, hasn0, hseconds, hnano, hslot]

/-! ### STEP_APPLY (R108) -/

theorem exec_stepApply {c : Instr} {v : Nat} {r : State × Answer} (hc : exec c s = done s (odapWrite q ⟨0x2002, 2, 0⟩ 2 [BitVec.ofNat 8 v] s))
    (h : WriteAccepted q ⟨0x2002, 2, 0⟩ 2 [BitVec.ofNat 8 v] u s) (hv : v < 256)
    (hr : commitStepApply v (touch q.session s) = r) : exec c s = .next (afterWrite q s r) := by
  have hno : beNat [BitVec.ofNat 8 v] = v := (beNat_beOct 1 v).trans (Nat.mod_eq_of_lt hv)
  refine exec_write_owned_unstored hc h odFind_stepApply (by decide) (by decide) ?_
  exact (congrArg (fun n => some (commitStepApply n (touch q.session s))) hno).trans (congrArg some hr)

theorem commitStepApply_request_of_running (hreq : s.clk.stepReq = none) (hpend : stepPendingNow s = true) (hrun : s.eas.running = true) :
    commitStepApply 1 s = ({ s with clk := { s.clk with stepReq := some { slot := nextSuperframeE s } } }, effA (nextSuperframeE s)) := by
  simp only [commitStepApply, hreq, hpend, hrun, and_self, if_true]

theorem commitStepApply_request_of_no_slots (hreq : s.clk.stepReq = none) (hpend : stepPendingNow s = true) (hrun : s.eas.running = false) :
    commitStepApply 1 s = (applyStep s.clk.stepAmount s, effA effNoSlots) := by
  simp only [commitStepApply, hreq, hpend, hrun, and_self, if_true, Bool.false_eq_true, if_false]

theorem commitStepApply_abort_of_open {p : StepReq} (hreq : s.clk.stepReq = some p) (hopen : p.fixed = none) :
    commitStepApply 0 s = ({ s with clk := { s.clk with stepReq := none } }, effA p.slot) := by
  simp only [commitStepApply, hreq, hopen, zero_ne_one, if_false]

theorem commitStepApply_abort_of_fixed {p : StepReq} {d : Int} (hreq : s.clk.stepReq = some p) (hfixed : p.fixed = some d) :
    commitStepApply 0 s = (s, errA stTooLate) := by
  simp only [commitStepApply, hreq, hfixed, zero_ne_one, if_false]

/-- A write whose effect is on the clock alone commits as that. -/
theorem commits_of_clk {c : Instr} {e : Nat} {k : Clk}
    (hexec : exec c s = .next (afterWrite q s ({ touch q.session s with clk := k }, effA e))) :
    Commits q c e [.clk] s (fun r => r.clk = k) := by
  refine commits_of_afterWrite hexec (fun p hp => ?_) ?_
  · cases p with
    | srv | clk => exact absurd (by decide) hp
    | _ => rfl
  · rw [afterWrite_clk]

section StepApply

variable (h : WriteAccepted q ⟨0x2002, 2, 0⟩ 2 [1] u s) (hreq : s.clk.stepReq = none) (hpend : stepPendingNow s = true)
include h hreq hpend

theorem commits_stepRequest_of_running (hrun : s.eas.running = true) :
    Commits q (.stepApplyRequest q) (nextSuperframeE s) [.clk] s (fun r =>
      r.clk = { s.clk with stepReq := some { slot := nextSuperframeE s } }) :=
  commits_of_clk (exec_stepApply (v := 1) rfl h (by decide)
    (commitStepApply_request_of_running (s := touch q.session s) hreq hpend hrun))

theorem commits_stepRequest_of_no_slots (hrun : s.eas.running = false) :
    Commits q (.stepApplyRequest q) effNoSlots [.clk, .nod] s (fun r =>
      r.clk.now = ((s.clk.now : Int) + s.clk.stepAmount * nsUnit).toNat ∧ r.clk.stepPending = false ∧ r.clk.hist = []) := by
  have hexec := exec_stepApply (v := 1) (c := .stepApplyRequest q) rfl h (by decide)
    (commitStepApply_request_of_no_slots (s := touch q.session s) hreq hpend hrun)
  refine commits_of_afterWrite hexec (fun p hp => ?_) ?_
  · simp only [List.mem_cons, List.not_mem_nil, or_false, not_or] at hp
    obtain ⟨hsrv, hclk, hnod⟩ := hp
    have htouch : p.same s (touch q.session s) := by
      cases p with
      | srv => exact absurd rfl hsrv
      | _ => rfl
    exact Part.same_trans htouch (applyStep_same hclk hnod ..)
  · obtain ⟨l, hclk⟩ := applyStep_clk (touch q.session s).clk.stepAmount (touch q.session s)
    rw [afterWrite_clk, hclk]
    exact ⟨rfl, rfl, rfl⟩

end StepApply

theorem commits_stepAbort {p : StepReq} (h : WriteAccepted q ⟨0x2002, 2, 0⟩ 2 [0] u s) (hreq : s.clk.stepReq = some p)
    (hopen : p.fixed = none) : Commits q (.stepApplyAbort q) p.slot [.clk] s (fun r => r.clk = { s.clk with stepReq := none }) :=
  commits_of_clk (exec_stepApply (v := 0) rfl h (by decide) (commitStepApply_abort_of_open (s := touch q.session s) hreq hopen))

theorem refuses_stepAbort {p : StepReq} {d : Int} (h : WriteAccepted q ⟨0x2002, 2, 0⟩ 2 [0] u s) (hreq : s.clk.stepReq = some p)
    (hfixed : p.fixed = some d) : Refuses q (.stepApplyAbort q) (errA stTooLate) s :=
  refuses_of_afterWrite (exec_stepApply (v := 0) rfl h (by decide) (commitStepApply_abort_of_fixed (s := touch q.session s) hreq hfixed))

/-! ### TIME_SET (R105) -/

section TimeSet

variable {x : Nat} (h : WriteAccepted q ⟨0x2002, 3, 0⟩ 5 (beOct 8 x) u s) (hfit : x < 2 ^ 64)
include h hfit

theorem exec_timeSetWrite {r : State × Answer} (hr : commitTimeSet x (touch q.session s) = r) :
    exec (.timeSetWrite q x) s = .next (afterWrite q s r) := by
  have hno : beNat (beOct 8 x) = x := (beNat_beOct 8 x).trans (Nat.mod_eq_of_lt hfit)
  refine exec_write_owned_unstored rfl h odFind_timeSet (by decide) (by decide) ?_
  exact (congrArg (fun n => some (commitTimeSet n (touch q.session s))) hno).trans (congrArg some hr)

theorem commits_timeSet (hmay : s.clk.valid = false ∨ x = nowSecs s + 1) :
    Commits q (.timeSetWrite q x) (effNow s) [.clk] s (fun r => r.clk = { s.clk with timeSet := some x }) := by
  refine commits_of_clk (exec_timeSetWrite h hfit (if_neg fun hrefused => ?_))
  obtain ⟨hvalid, hdiffers⟩ := hrefused
  rcases hmay with hinvalid | hsame
  · exact absurd (hinvalid.symm.trans hvalid) (by decide)
  · exact hdiffers hsame

theorem refuses_timeSet (hnot : ¬ (s.clk.valid = false ∨ x = nowSecs s + 1)) : Refuses q (.timeSetWrite q x) (errA stStepRefused) s := by
  obtain ⟨hvalid, hdiffers⟩ := not_or.1 hnot
  exact refuses_of_afterWrite (exec_timeSetWrite h hfit (if_pos ⟨Bool.not_eq_false _ ▸ hvalid, hdiffers⟩))

end TimeSet

/-! ### TIME_SOURCE and ASN_EPOCH (R99, R100, R111, R115) -/

theorem odGet_congr {t : State} (h : t.od = s.od) (i b r : Nat) : odGet t i b r = odGet s i b r := by rw [odGet, h, odGet]

/-- Settling the slots, or what waits for them, is of the mode and of the slots alone. -/
theorem settleSlots_same {p : Part} (hctl : p ≠ .ctl) (heas : p ≠ .eas) (s : State) : p.same s (settleSlots s) := by
  cases p with
  | ctl => exact absurd rfl hctl
  | eas => exact absurd rfl heas
  | _ => simp [Part.same]

theorem settleWaiting_same {p : Part} (hctl : p ≠ .ctl) (s : State) : p.same s (settleWaiting s) := by
  cases p with
  | ctl => exact absurd rfl hctl
  | _ => simp [Part.same]

theorem unsettle_same {p : Part} (hctl : p ≠ .ctl) (s : State) : p.same s (unsettle s) := by
  cases p with
  | ctl => exact absurd rfl hctl
  | _ => simp [Part.same]

theorem stopSlots_same {p : Part} (heas : p ≠ .eas) (s : State) : p.same s (stopSlots s) := by
  cases p with
  | eas => exact absurd rfl heas
  | _ => rfl

/-- A clock that starts over is INVALID without VALID, with no history and no step pending (R99, R100). -/
theorem clockInvalid_clk (s : State) : (clockInvalid s).clk = { s.clk with
    state := .invalid, valid := false, goodRun := 0, okRun := 0, stepPending := false, hist := [], ppsEdges := [],
    ppsHeld := [], sourceLost := false } := settleSlots_clk _

theorem clockInvalid_same {p : Part} (hclk : p ≠ .clk) (hctl : p ≠ .ctl) (heas : p ≠ .eas) (s : State) : p.same s (clockInvalid s) :=
  Part.same_trans (Part.same_withClk hclk _ s) (settleSlots_same hctl heas _)

theorem clockInvalid_od (s : State) : (clockInvalid s).od = s.od := settleSlots_od _

theorem commits_timeSource {x : Nat} (h : WriteAccepted q ⟨0x2001, 1, 0⟩ 2 (beOct 1 x) u s) :
    Commits q (.timeSourceWrite q x) (effNow s) [.hed, .clk, .od, .ctl, .eas] s (fun r => r.clk.state = .invalid ∧ r.clk.valid = false ∧
      r.clk.stepPending = false ∧ r.clk.hist = [] ∧ r.clk.now = s.clk.now ∧ odGet r 0x2001 1 = beOct 1 x) := by
  have hexec := exec_write_at_once (c := .timeSourceWrite q x) (f := clockInvalid) rfl h odFind_timeSource rfl ⟨by decide, rfl⟩ rfl rfl rfl
  refine commits_of_afterWrite hexec (fun p hp => ?_) ?_
  · simp only [List.mem_cons, List.not_mem_nil, or_false, not_or] at hp
    obtain ⟨hsrv, hhed, hclk, hod, hctl, heas⟩ := hp
    have hrow : p.same s (odPut 0x2001 1 0 (beOct 1 x) (touch q.session s)) := by
      cases p with
      | srv => exact absurd rfl hsrv
      | od => exact absurd rfl hod
      | _ => rfl
    exact Part.same_trans (Part.same_trans hrow (clockInvalid_same hclk hctl heas _)) (stale_same hhed _)
  · rw [afterWrite_clk, odGet_afterWrite, stale_clk, clockInvalid_clk]
    exact ⟨rfl, rfl, rfl, rfl, rfl, (odGet_congr (clockInvalid_od _) ..).trans (odGet_odPut_self ..)⟩

/-- The slots of the epoch that comes into force are taken up anew. -/
def takeUpEpoch (t : State) : State := settleWaiting (settleSlots (stopSlots (unsettle t)))

theorem takeUpEpoch_same {p : Part} (hctl : p ≠ .ctl) (heas : p ≠ .eas) (t : State) : p.same t (takeUpEpoch t) :=
  Part.same_trans (Part.same_trans (unsettle_same hctl t) (stopSlots_same heas _))
    (Part.same_trans (settleSlots_same hctl heas _) (settleWaiting_same hctl _))

theorem takeUpEpoch_clk (t : State) : (takeUpEpoch t).clk = t.clk := takeUpEpoch_same (p := .clk) (by decide) (by decide) t
theorem takeUpEpoch_od (t : State) : (takeUpEpoch t).od = t.od := takeUpEpoch_same (p := .od) (by decide) (by decide) t

theorem commits_asnEpoch {e : Epoch} (h : WriteAccepted q ⟨0x2100, 1, 0⟩ 0xE (encodeEpoch e) u s)
    (hspells : decodeEpoch (encodeEpoch e) = e) :
    Commits q (.asnEpochWrite q e) (effNow s) [.hed, .clk, .od, .ctl, .eas] s (fun r => curEpoch r = e ∧ r.clk.now = s.clk.now ∧
      r.clk.oldEpochs = (if curEpoch s = {} then s.clk.oldEpochs else (curEpoch s :: s.clk.oldEpochs).take 3)) := by
  have hown : ownerCommit u ⟨0x2100, 1, 0⟩ (masked (odPage 0x21)[0] (encodeEpoch e)) true (touch q.session s) =
      some (takeUpEpoch (adoptEpoch e (touch q.session s)), effA (effNow s)) :=
    congrArg (fun x => some (takeUpEpoch (adoptEpoch x (touch q.session s)), effA (effNow s))) hspells
  have hexec := exec_write_owned_stored (c := .asnEpochWrite q e) rfl h odFind_asnEpoch (by decide) rfl hown
  refine commits_of_afterWrite hexec (fun p hp => ?_) ⟨?_, ?_⟩
  · simp only [List.mem_cons, List.not_mem_nil, or_false, not_or] at hp
    obtain ⟨hsrv, hhed, hclk, hod, hctl, heas⟩ := hp
    have hadopt : p.same s (adoptEpoch e (touch q.session s)) := by
      cases p with
      | srv => exact absurd rfl hsrv
      | clk => exact absurd rfl hclk
      | od => exact absurd rfl hod
      | _ => rfl
    exact Part.same_trans (Part.same_trans hadopt (takeUpEpoch_same hctl heas _)) (stale_same hhed _)
  · rw [curEpoch, odGet_afterWrite]
    exact (congrArg decodeEpoch ((odGet_congr (takeUpEpoch_od _) ..).trans (odGet_odPut_self ..))).trans hspells
  · rw [afterWrite_clk, stale_clk, takeUpEpoch_clk]
    exact ⟨rfl, rfl⟩

/-- Settles O23: each write by its object's commit. -/
theorem timebaseWritesCommit : Obligations.TimebaseWritesCommit := by
  unfold Obligations.TimebaseWritesCommit
  refine ⟨?request, ?abort, ?timeSet, fun q u x s h => commits_timeSource h, ?epoch⟩
  case request =>
    exact fun q u s h hreq hpend => ⟨commits_stepRequest_of_running h hreq hpend, commits_stepRequest_of_no_slots h hreq hpend⟩
  case abort =>
    intro q u p s h hreq
    split
    · next hopen => exact commits_stepAbort h hreq hopen
    · next hfixed =>
      obtain ⟨d, hd⟩ := Option.ne_none_iff_exists'.1 hfixed
      exact refuses_stepAbort h hreq hd
  case timeSet =>
    intro q u x s h hfit
    split
    · next hmay => exact commits_timeSet h hfit hmay
    · next hnot => exact refuses_timeSet h hfit hnot
  case epoch =>
    exact fun q u e s h hasn hsecs hnanos hcode => commits_asnEpoch h (decodeEpoch_encodeEpoch hasn hsecs hnanos hcode)

end Sys2Proof.Machine
end

section
/-!
PROOFS. What an engine's test and its internal fault leave, and what a measured block gives its path (R136, R154 to R157, R172, R250).
-/

namespace Sys2Proof.Machine

/-! ### The capacity and the pairs (R154 to R156) -/

theorem noteCapacity_of_lost {a b : State} (hold : needed a ≤ healthyCount a) (hnew : healthyCount b < needed b) :
    noteCapacity a b = logEvent 0x29 2 (beOct 1 (healthyCount b)) b := if_pos ⟨hold, hnew⟩

/-- Outside the pairs of M6 REACH an engine receives for itself. -/
theorem holderEngine_of_single {s : State} (i : Nat) (h : pairsMode s = false) : holderEngine s i = i := by
  simp only [holderEngine, h, Bool.false_eq_true, if_false]

/-- Of a pair the even engine holds the reception. -/
theorem holderEngine_of_pair {s : State} (i : Nat) (h : pairsMode s = true) : holderEngine s i = i - i % 2 := by
  simp only [holderEngine, h, if_true]
  omega

/-! ### The self-test and the internal fault (R155 to R157, R250) -/

section EngineTests

variable {s : State} {i : Nat}

/-- A pass is recorded at the running ASN; where it ends a repair, its second step is logged as done. -/
theorem execEngineSelfTestComplete_of_pass (hst : (engine s i).st = .test) {s1 : State}
    (hs1 : s1 = endRequest 6 i true (odPut 0x3100 4 i (beOct 8 s.eas.asn) (modEngine i (fun e => { e with fails := 0, retest := false }) s))) :
    execEngineSelfTestComplete i true s = done s (if (engine s i).retest then logStep fnEngine i 2 0 s1 else s1) := by
  subst hs1
  simp only [execEngineSelfTestComplete, hst, ne_eq, not_true_eq_false, if_false, if_true]

/-- A failure that is the first re-initialises the engine for another test. -/
theorem execEngineSelfTestComplete_of_first_failure (hst : (engine s i).st = .test) (hfails : (engine s i).fails = 0)
    (hretest : (engine s i).retest = false) :
    execEngineSelfTestComplete i false s =
      done s (noteCapacity s (countStep fnEngine 2 (modEngine i (fun e => { e with fails := 1, retest := true }) s))) := by
  simp only [execEngineSelfTestComplete, hst, hfails, hretest, ne_eq, not_true_eq_false, Bool.false_eq_true, not_false_eq_true, and_self,
    if_false, if_true]

/-- A failure after another, or after the re-initialisation, marks the engine FAULTY. -/
theorem execEngineSelfTestComplete_of_second_failure (hst : (engine s i).st = .test)
    (hsecond : (engine s i).fails ≠ 0 ∨ (engine s i).retest = true) {s1 : State}
    (hs1 : s1 = endRequest 6 i false (logEvent 0x28 2 (beOct 1 i) (modEngine i (fun _ => { st := .faulty, fails := 2 }) s) fnEngine i)) :
    execEngineSelfTestComplete i false s = done s (noteCapacity s s1) := by
  subst hs1
  have hnotFirst : ¬ ((engine s i).fails = 0 ∧ ¬ (engine s i).retest = true) :=
    fun ⟨hfails, hretest⟩ => hsecond.elim (fun h => h hfails) hretest
  simp only [execEngineSelfTestComplete, hst, hnotFirst, ne_eq, not_true_eq_false, Bool.false_eq_true, if_false]

/-- A fault of an engine in service ends the reception it has a part in and takes it out of service for a test. -/
theorem execEngineInternalFault_of_in_service (hoff : (engine s i).st ≠ .off) (htest : (engine s i).st ≠ .test)
    (hfaulty : (engine s i).st ≠ .faulty) :
    execEngineInternalFault i s = done s (noteCapacity s (countStep fnEngine 2 (modEngine i (fun e => { e with leaving := true, retest := true })
      (if (engine s (holderEngine s i)).receiving then abandon (holderEngine s i) 6 s else s)))) := by
  simp only [execEngineInternalFault, hoff, htest, hfaulty, or_self, if_false]

end EngineTests

/-! ### The measured block (R136, R172) -/

section Blocks

variable {s : State} {p : Nat} (peak : Int) (clipped : Bool) (powers : List (Nat × Int)) (knife : List (Nat × List KnifeSample))

theorem execMeasurementBlockEnd_of_measured (hp : p < 4) (hmeasured : blockMeasured s p = true) {v : Int}
    (hv : v = if clipped then fullScale (p / 2) (((rxPath s p).gain).getD (odNat s (bandIdx (p / 2) 0x3020) 6)) + 6 * 256 else peak)
    {s1 : State} (hs1 : s1 = { s with rf := { s.rf with paths := modAt (fun x => { x with peaks := (v :: x.peaks).take 64 }) s.rf.paths p } }) :
    execMeasurementBlockEnd p peak clipped ⟨powers, knife⟩ s =
      done s (powers.foldl (fun s x => takeBin p x s) (if clipped then bump (bandIdx (p / 2) 0x3050) 4 (p % 2) s1 else s1)) := by
  subst hv hs1
  simp only [execMeasurementBlockEnd, Nat.not_le.2 hp, hmeasured, not_true_eq_false, if_false]

/-- A block in which the band transmits from the other aerial trains the canceller's taps of the bins received. -/
theorem execMeasurementBlockEnd_of_transmitting {k : Nat} (hp : p < 4) (hmeasured : blockMeasured s p = false)
    (hset : knifeSet s (p / 2) = some k) (haerial : aerialOn s (p / 2) (p % 2) = true) :
    execMeasurementBlockEnd p peak clipped ⟨powers, knife⟩ s = done s (knife.foldl (fun s x => knifeBin p k x s) s) := by
  simp only [execMeasurementBlockEnd, knifeBlock, Nat.not_le.2 hp, hmeasured, hset, haerial, Bool.false_eq_true, not_false_eq_true, if_false,
    if_true]

end Blocks

/-- Settles O37: the outcomes of a self-test, the internal fault, and the two kinds of block, each by its command's lemma. -/
theorem enginesAreTestedAndMeasured : Obligations.EnginesAreTestedAndMeasured := by
  unfold Obligations.EnginesAreTestedAndMeasured
  refine ⟨?pass, ?firstFailure, ?secondFailure, ?capacity, ?internalFault, ?holder, ?measured, ?transmitting⟩
  case pass => exact fun i s hst s1 => execEngineSelfTestComplete_of_pass hst
  case firstFailure => exact fun i s => execEngineSelfTestComplete_of_first_failure
  case secondFailure => exact fun i s hst hsecond s1 => execEngineSelfTestComplete_of_second_failure hst hsecond
  case capacity => exact fun a b => noteCapacity_of_lost
  case internalFault => exact fun i s => execEngineInternalFault_of_in_service
  case holder => exact fun i s => ⟨holderEngine_of_single i, holderEngine_of_pair i⟩
  case measured =>
    exact fun p peak clipped powers knife s hp hmeasured s1 => execMeasurementBlockEnd_of_measured peak clipped powers knife hp hmeasured rfl
  case transmitting => exact fun p peak clipped powers knife k s => execMeasurementBlockEnd_of_transmitting peak clipped powers knife

end Sys2Proof.Machine
end

section
/-!
PROOFS. What a carrier's ramp and end, and a synthesiser's loss of lock and its attempts to lock again leave (R129 to R134, R195, R196).
-/

namespace Sys2Proof.Machine

variable {s : State}

/-! ### The carrier (R129, R134) -/

section Carriers

variable {idx : Nat} {c : Carrier} (hcarrier : s.eas.active.tx[idx]? = some c)
include hcarrier

theorem execCarrierRampStart_of_locked (hstage : c.stage = 0) (hlocked : (synth s (txSynth c.band)).locked = true) {s1 : State}
    (hs1 : s1 = advanceNs ((startNs s s.eas.asn).toNat + c.tc * 1000) s) :
    execCarrierRampStart idx s = done s (modCarrier idx (fun c => { c with stage := 1 }) s1) := by
  subst hs1
  simp only [execCarrierRampStart, hcarrier, hstage, hlocked, ne_eq, not_true_eq_false, if_false, if_true]

/-- A carrier whose synthesiser is late at its ramp is dropped, and the drop counted twice: in the statistics and for the band. -/
theorem execCarrierRampStart_of_late (hstage : c.stage = 0) (hlate : (synth s (txSynth c.band)).locked = false) {s1 s2 : State}
    (hs1 : s1 = advanceNs ((startNs s s.eas.asn).toNat + c.tc * 1000) s)
    (hs2 : s2 = bump (bandIdx c.band 0x3050) 1 0 (dropCarrier c (modCarrier idx (fun c => { c with stage := 3 }) s1))) :
    execCarrierRampStart idx s = done s { s2 with rf := { s2.rf with lateDrops := modAt (· + 1) s2.rf.lateDrops c.band } } := by
  subst hs1 hs2
  simp only [execCarrierRampStart, hcarrier, hstage, hlate, ne_eq, not_true_eq_false, Bool.false_eq_true, if_false]

theorem execBurstEnd_of_started (hstage : c.stage = 1) {s1 : State}
    (hs1 : s1 = modCarrier idx (fun c => { c with stage := 2 }) (advanceNs ((startNs s s.eas.asn).toNat + c.te * 1000) s)) :
    execBurstEnd idx s = done s (emitted c s1) := by
  subst hs1
  simp only [execBurstEnd, hcarrier, hstage, ne_eq, not_true_eq_false, if_false]

end Carriers

/-! ### The synthesiser's lock (R130 to R132) -/

section Synthesisers

variable {y : Nat} (hy : y < 4)
include hy

theorem execSynthLockLoss_of_locked (hlocked : (synth s y).locked = true) {s1 : State}
    (hs1 : s1 = logEvent 0x20 2 (beOct 1 y) (modSynth y (fun z => { z with locked := false, attempts := 1 }) s)) :
    execSynthLockLoss y s = done s (if y % 2 = 1 then cutCarriers (y / 2) s1 else cutReceptions (y / 2) s1) := by
  subst hs1
  simp only [execSynthLockLoss, Nat.not_le.2 hy, hlocked, not_true_eq_false, or_self, if_false]

section Relock

variable (hunlocked : (synth s y).locked = false) (hsome : 0 < (synth s y).attempts) (hfew : (synth s y).attempts < 4) {s1 : State}
  (hs1 : s1 = advanceNs (nowNs s + (if (synth s y).attempts < 3 then 80000 else 1200000)) s)
include hunlocked hsome hfew hs1

/-- An attempt that locks ends the search; the third one is a calibration, and leaves its entry. -/
theorem execSynthRelockAttemptEnd_of_lock : execSynthRelockAttemptEnd y true s =
    done s (modSynth y (fun z => { z with locked := true, attempts := 0 })
      (if (synth s y).attempts = 3 then calibrate y (synth s y).centre s1 else s1)) := by
  subst hs1
  simp only [execSynthRelockAttemptEnd, Nat.not_le.2 hy, hunlocked, hsome.ne', Nat.not_le.2 hfew, Bool.false_eq_true, or_self, if_false, if_true]

/-- An attempt that fails is counted; where it was the calibration, the synthesiser's paths fault. -/
theorem execSynthRelockAttemptEnd_of_failure {s2 : State} (hs2 : s2 = modSynth y (fun z => { z with attempts := z.attempts + 1 }) s1) :
    execSynthRelockAttemptEnd y false s =
      done s (if (synth s y).attempts < 3 then s2 else (synthPaths y).foldl (fun s p => fault fnRfPath p s) s2) := by
  subst hs1 hs2
  simp only [execSynthRelockAttemptEnd, Nat.not_le.2 hy, hunlocked, hsome.ne', Nat.not_le.2 hfew, Bool.false_eq_true, or_self, if_false]

end Relock

end Synthesisers

/-- Settles O38: the carrier's ramp and end and the synthesiser's events, each by its command's lemma. -/
theorem carriersAndSynthesisersRun : Obligations.CarriersAndSynthesisersRun := by
  unfold Obligations.CarriersAndSynthesisersRun
  refine ⟨?rampStart, ?burstEnd, ?lockLoss, ?relock⟩
  case rampStart =>
    exact fun idx c s hcarrier hstage s1 hs1 => ⟨fun hlocked => execCarrierRampStart_of_locked hcarrier hstage hlocked hs1,
      fun hlate s2 hs2 => execCarrierRampStart_of_late hcarrier hstage hlate hs1 hs2⟩
  case burstEnd => exact fun idx c s hcarrier hstage s1 => execBurstEnd_of_started hcarrier hstage
  case lockLoss => exact fun y s hy hlocked s1 => execSynthLockLoss_of_locked hy hlocked
  case relock =>
    intro y s hy hunlocked hsome hfew z s1 hs1 s2 hs2
    have hfailure := execSynthRelockAttemptEnd_of_failure hy hunlocked hsome hfew hs1 hs2
    refine ⟨execSynthRelockAttemptEnd_of_lock hy hunlocked hsome hfew hs1, fun hlt => ?_, fun hlast => ?_⟩
    · rwa [if_pos hlt] at hfailure
    · rwa [if_neg hlast.not_lt] at hfailure

end Sys2Proof.Machine
end

section
/-!
PROOFS. What a calibration item, a pre-distortion update and a dwell bucket's advance leave (R138, R141, R188, R190, R191, R195, R197).
-/

namespace Sys2Proof.Machine

variable {s : State}

/-! ### Calibration items (R195, R197) -/

/-- FB_CAL of a transmit path needs its coupled level within -35 to -5 dBm, in 1/256 dB. -/
theorem plausible_fbCal {path : Nat} (ok : Bool) (level : Int) (hpath : path < 3) :
    plausible 4 path ⟨ok, level⟩ = (ok && decide (-35 * 256 ≤ level ∧ level ≤ -5 * 256)) := by
  simp [plausible, Nat.not_le.2 hpath]

/-- Every other item is as plausible as its measurement found it. -/
theorem plausible_of_no_level {item path : Nat} (seen : ItemSeen) (h : item ≠ 4 ∨ 3 ≤ path) : plausible item path seen = seen.ok := by
  rcases h with hitem | hpath
  · simp [plausible, hitem]
  · simp [plausible, hpath]

/-- A plausible result clears the count of failures, dates the item and has the item's effect. -/
theorem itemResult_plausible (item path : Nat) (s : State) : itemResult item path true s = itemEffect item path
    (odPut (bandIdx (path / 3) 0x3040) 1 (item - 1) (beOct 8 s.eas.asn) (setItem { calItem s item path with
      running := false, fails := 0, lastAt := some s.clk.elapsed, lastTemp := dieTempQ s (pathSensor path) } s)) := by
  simp only [itemResult, if_true]

section Implausible

variable {item path : Nat} {ran : CalItem} (hran : ran = { calItem s item path with
  running := false, lastAt := some s.clk.elapsed, lastTemp := dieTempQ s (pathSensor path) })
include hran

theorem itemResult_implausible (hfew : (calItem s item path).fails < 2) : itemResult item path false s =
    logEvent 0x21 2 [BitVec.ofNat 8 item, BitVec.ofNat 8 path] (setItem { ran with fails := (calItem s item path).fails + 1 } s) := by
  subst hran
  have hnot : ¬ 3 ≤ (calItem s item path).fails + 1 := by omega
  simp only [itemResult, hnot, Bool.false_eq_true, if_false]

theorem itemResult_third_implausible (htwo : (calItem s item path).fails = 2) : itemResult item path false s =
    fault fnRfPath path (setItem { ran with fails := 0 }
      (logEvent 0x21 2 [BitVec.ofNat 8 item, BitVec.ofNat 8 path] (setItem { ran with fails := 3 } s))) := by
  subst hran
  simp only [itemResult, htwo, Nat.reduceAdd, Nat.le_refl, Bool.false_eq_true, if_false, if_true]

end Implausible

/-- A running item ends at its own time, answers its request, and the paths of its synthesiser take their next items. -/
theorem execCalItemComplete_of_running {item path us : Nat} {seen : ItemSeen} {ok : Bool} {s0 t : State}
    (hrun : (calItem s item path).running = true) (hus : us = (calItem s item path).startUs + itemUs s item path)
    (hs0 : s0 = advanceNs ((startNs s s.eas.asn).toNat + us * 1000) s) (hok : ok = plausible item path seen)
    (ht : t = endRequest item path ok (itemResult item path ok s0)) :
    execCalItemComplete item path seen s = done s ((synthPaths (pathSynth path)).foldl (fun s p => startNext t.eas.asn p us s) t) := by
  subst hus hs0 hok ht
  simp only [execCalItemComplete, hrun, not_true_eq_false, if_false]

/-! ### Pre-distortion (R190, R191) -/

/-- The update of the set in use, with its samples captured: taken over for the next slot start where coefficients and clipped samples
are in bounds, else rejected. -/
theorem execDpdUpdate_of_in_use {k band clipped : Nat} {err : Int} {re im : List Int} {coef : List (Int × Int)} {s1 : State} (hk : k < 9)
    (hband : band = if k = 8 then 1 else 0) (hcoef : coef = halfStep (dpdSet s k).coef (freeCoefs s.free))
    (hclipped : clipped = clipsOf (dpdSet s k).coef [] (re.zip im))
    (hs1 : s1 = { s with free := s.free + 32, pri := { s.pri with clips := modAt (· + clipped) s.pri.clips band } })
    (hon : dpdOn s band = true) (hcal : (s.pri.fbCal[band]?).getD false = true) (huse : dpdInUse s band = k)
    (hfull : odNat s 0x3410 4 ≤ (dpdSet s k).captured) :
    execDpdUpdate k err re im s = done s (if coefOk coef = true ∧ 10000 * clipped ≤ (re.zip im).length
      then modDpd k (fun d => { d with next := some coef, check := some (d.coef, err), captured := 0, nmse := err }) s1
      else dpdReject band k err s1) := by
  have hbounds : (¬ coefOk coef = true ∨ (re.zip im).length < 10000 * clipped) ↔
      ¬ (coefOk coef = true ∧ 10000 * clipped ≤ (re.zip im).length) := by
    rw [not_and_or, Nat.not_le]
  subst hs1
  simp only [execDpdUpdate, ← hband, ← hcoef, ← hclipped, Nat.not_le.2 hk, hon, hcal, huse, Nat.not_lt.2 hfull, hbounds, ne_eq,
    not_true_eq_false, or_self, if_false, ite_not, apply_ite (done s)]

/-! ### Dwell accounts (R188) -/

/-- Pruning keeps of an account the charges of the last 64 buckets. -/
theorem charge_recent_of_mem_pruneAccs {a : DwellAcc} (ha : a ∈ (pruneAccs s).pri.dwell) {x : Nat × Nat} (hx : x ∈ a.charges) :
    bucketAt s a.rule s.clk.elapsed ≤ x.1 + 64 := by
  obtain ⟨b, -, rfl⟩ := List.mem_map.1 (List.mem_of_mem_filter ha)
  exact of_decide_eq_true (List.mem_filter.1 hx).2

/-- Settles O39: calibration items by `itemResult`'s three outcomes, the rest each by its command's lemma. -/
theorem calibrationAndDwellRun : Obligations.CalibrationAndDwellRun := by
  unfold Obligations.CalibrationAndDwellRun
  refine ⟨?complete, ?fbCal, ?otherItems, ?plausibleResult, ?implausibleResult, ?dpd, ?bucket, ?aged, ?captureStart, ?captureStop⟩
  case complete => exact fun item path seen s hrun us hus s0 hs0 ok hok t => execCalItemComplete_of_running hrun hus hs0 hok
  case fbCal => exact fun path ok level => plausible_fbCal ok level
  case otherItems => exact fun item path seen => plausible_of_no_level seen
  case plausibleResult => exact itemResult_plausible
  case implausibleResult => exact fun item path s => ⟨itemResult_implausible rfl, itemResult_third_implausible rfl⟩
  case dpd => exact fun k err re im s hk s1 => execDpdUpdate_of_in_use hk rfl rfl rfl
  case bucket => exact fun t s => execDwellBucketAdvance_of_min
  case aged => exact fun s a ha x => charge_recent_of_mem_pruneAccs ha
  case captureStart => exact fun s => execCaptureStart_of_due
  case captureStop => exact fun s hrun => execCaptureStop_of_running hrun rfl

end Sys2Proof.Machine
end

section
/-!
PROOFS. What an engine does from the header to the end of its reception (R157, R163, R165 to R171).
-/

namespace Sys2Proof.Machine

/-! ### What the end of a reception leaves of the engines (R157, R166) -/

theorem engine_eq_of_pal {s t : State} (i : Nat) (h : t.pal.engines = s.pal.engines) : engine t i = engine s i := by
  simp only [engine, h]

/-- An engine that the chip has is modified in its place. -/
theorem engine_modEngine_same {i : Nat} {s : State} (f : Engine → Engine) (hi : i < s.pal.engines.length) :
    engine (modEngine i f s) i = f (engine s i) := by
  simp only [engine, modEngine, getElem?_modAt, if_true, List.getElem?_eq_getElem hi, Option.map_some, Option.getD_some]

@[simp] theorem noteSfd_pal (c : RxCell) (ns : Nat) (seq : Option Nat) (s : State) : (noteSfd c ns seq s).pal = s.pal := by
  unfold noteSfd
  split <;> rfl

/-- The end of a reception is noted in the bins it held; the engines stay. -/
theorem noteReception_engines (i : Nat) (s : State) : (noteReception i s).pal.engines = s.pal.engines := by
  unfold noteReception
  split
  · rw [noteSfd_pal]
  · rfl

theorem engine_abandon_same {i : Nat} (reason : Nat) {s : State} (hi : i < s.pal.engines.length) :
    engine (abandon i reason s) i = { engine s i with
      st := if (engine s i).window then .search else .idle, frozen := false, watch := false, len := 0 } := by
  have hnoted := noteReception_engines i s
  rw [abandon, engine_eq_of_pal i (congrArg Pal.engines (bump_pal ..)), engine_modEngine_same _ (hnoted ▸ hi), engine_eq_of_pal i hnoted]

/-! ### The header, the fade and the watch (R165 to R167) -/

section Events

variable {s : State} {i : Nat} {c : RxCell} (hcell : engineCell s i = some c)
include hcell

section Header

variable {len : Nat} {fcs2 : Bool} (soft : SoftSeen) (hst : (engine s i).st = .header)
include hst

theorem execPhrDecoded_of_length (hmax : len ≤ (if (engine s i).coded then c.maxCoded else c.maxPlain)) (hmin : (if fcs2 then 2 else 4) ≤ len) :
    execPhrDecoded i len false fcs2 soft s = done s (modEngine i (fun e => { e with st := .payload, len := len, fcs2 := fcs2 }) s) := by
  simp only [execPhrDecoded, hcell, hst, Nat.not_lt.2 hmax, Nat.not_lt.2 hmin, ne_eq, not_true_eq_false, Bool.false_eq_true, or_self, if_false]

theorem execPhrDecoded_of_mode_switch : execPhrDecoded i len true fcs2 soft s = done s (abandon i 5 s) := by
  simp only [execPhrDecoded, hcell, hst, ne_eq, not_true_eq_false, if_false, if_true]

theorem execPhrDecoded_of_bad_length
    (hbad : (if (engine s i).coded then c.maxCoded else c.maxPlain) < len ∨ len < (if fcs2 then 2 else 4)) :
    execPhrDecoded i len false fcs2 soft s = done s (abandonSoft i 0 c len soft s) := by
  simp only [execPhrDecoded, hcell, hst, ne_eq, not_true_eq_false, Bool.false_eq_true, if_false]
  exact if_pos hbad

end Header

theorem execFadeAbandon_of_faded {powers : List Int} (soft : SoftSeen) (hst : (engine s i).st = .payload) (hlen : 32 ≤ powers.length)
    (hfaded : ∀ p ∈ powers.drop (powers.length - 32), p < channelFloor s c (engine s i).aerial + 256 * (cellProfile s c).fadeMargin) :
    execFadeAbandon i powers soft s = done s (abandonSoft i 1 c (engine s i).len soft s) := by
  simp only [execFadeAbandon, hcell]
  exact if_pos ⟨hst, hlen, List.all_eq_true.2 fun p hp => decide_eq_true (hfaded p hp)⟩

/-- A second frame that `watchTakes` lets in, on an engine that has not changed frames yet, replaces the first with its own aerial. -/
theorem execWatchTakeover_of_takes {w : WatchSeen} {bits ns : Nat} (powers : List (Int × Int)) {coded : Bool}
    (hreceiving : (engine s i).receiving = true) (hwatch : (engine s i).watch = false) (hwindow : (engine s i).window = true)
    (htakes : watchTakes s c (engine s i) w ns = true) (hmatch : sfdMatch (cellProfile s c) bits w.oqpskOk = some coded) :
    execWatchTakeover i w bits ns powers s = done s (bump 0x3110 1 2 (modEngine i (fun e => { trackGain powers e with
      st := .header, aerial := (keptAerial s c w.hold).1, cbar := (keptAerial s c w.hold).2.1
      single := (keptAerial s c w.hold).2.2, coded := coded, sfdNs := ns, frozen := true
      watch := true, len := 0, training := trainingAt s c.band ns })
        (advanceNs ((startNs s s.eas.asn).toNat + ns) s))) := by
  simp only [execWatchTakeover, hcell, hreceiving, hwatch, hwindow, htakes, hmatch, Bool.false_eq_true, not_false_eq_true, and_self, if_true]

/-! ### The frame's end (R168 to R170) -/

theorem execFrameEnd_of_payload {m : RxMeas} {f f1 : RxFrame} {ns : Nat} {crc : Bool} {s1 : State} (hst : (engine s i).st = .payload)
    (hf1 : f1 = measured s c (engine s i) m f)
    (hns : ns = (startNs s s.eas.asn).toNat + (engine s i).sfdNs +
      airNs (cellProfile s c).phy (payloadBits (cellProfile s c) (engine s i).coded (engine s i).len))
    (hcrc : crc = fcsPasses (engine s i).fcs2 f1.psdu)
    (hs1 : s1 = noteReception i (bump 0x3110 3 (if crc then 0 else 1) (advanceNs ns s))) :
    execFrameEnd i ⟨m, f⟩ s = done s (modEngine i (fun e => { e with
      st := if crc then .idle else if e.window then .search else .idle, frozen := false, watch := false }) (handOn i c f1 s1)) := by
  subst hs1 hcrc hns hf1
  simp only [execFrameEnd, hcell, hst, ne_eq, not_true_eq_false, if_false]

end Events

theorem watchTakes_of {s : State} {c : RxCell} {e : Engine} {w : WatchSeen} {ns : Nat}
    (hmetric : (cellProfile s c).pdThresh ≤ aerialMetric s c 0 w.a ∨ (cellProfile s c).pdThresh ≤ aerialMetric s c 1 w.b)
    (hstart : e.sfdNs ≤ w.detNs) (hbits : w.detNs + leastNs (cellProfile s c) ≤ ns) (hhold : holdSamples (cellProfile s c).phy ≤ w.hold.length)
    (hnear : ns ≤ e.sfdNs + airNs (cellProfile s c).phy 64)
    (hmargin : marginMet (keptAerial s c w.hold).2.1 e.cbar (cellProfile s c).watchMargin = true) : watchTakes s c e w ns = true := by
  simp only [watchTakes, holdOver, hmetric, hstart, hbits, hhold, hnear, hmargin, decide_true, Bool.and_self]

/-! ### Where a report goes (R168, R171) -/

section HandOn

variable {s : State} {i : Nat} {c : RxCell} {f : RxFrame}

/-- A frame whose CRC passes, of the unit's own cell and outside M4, is reported and waits for its lane. -/
theorem handOn_of_crc_passes (hcrc : fcsPasses (engine s i).fcs2 f.psdu = true) (hpartner : c.partner = false) (hmode : s.ctl.mode ≠ .m4) :
    handOn i c f s = { s with
      out := s.out ++ [.report (reportOct s i c f (engine s i).len true false) f.psdu]
      nod := { s.nod with mac := s.nod.mac ++ [macFrame s i c f] } } := by
  simp only [handOn, hcrc, hpartner, emit_ctl, hmode, not_true_eq_false, Bool.not_true, Bool.false_and, Bool.false_eq_true, if_false]
  rfl

/-- A frame whose CRC fails and whose soft values are not kept is reported only. -/
theorem handOn_of_crc_fails (hcrc : fcsPasses (engine s i).fcs2 f.psdu = false) (hsoft : keepsSoft s c (engine s i).coded = false) :
    handOn i c f s = { s with out := s.out ++ [.report (reportOct s i c f (engine s i).len false false) f.psdu] } := by
  simp only [handOn, hcrc, hsoft, emit, Bool.and_false, Bool.false_eq_true, not_false_eq_true, if_true, if_false]

end HandOn

/-- Settles O36: the header, the fade, the watch and the frame's end each by its command's lemma, and the engine that `abandon` leaves. -/
theorem receptionEnds : Obligations.ReceptionEnds := by
  unfold Obligations.ReceptionEnds
  intro i c s hcell
  refine ⟨?length, ?modeSwitch, ?badLength, ?fade, ?watch, ?frameEnd, ?abandoned⟩
  case length => exact fun len fcs2 soft => execPhrDecoded_of_length hcell soft
  case modeSwitch => exact fun len fcs2 soft => execPhrDecoded_of_mode_switch hcell soft
  case badLength => exact fun len fcs2 soft => execPhrDecoded_of_bad_length hcell soft
  case fade => exact fun powers soft => execFadeAbandon_of_faded hcell soft
  case watch =>
    intro w bits ns powers coded hreceiving hwatch hwindow hmetric hstart hbits hhold hnear hmargin
    exact execWatchTakeover_of_takes hcell powers hreceiving hwatch hwindow (watchTakes_of hmetric hstart hbits hhold hnear hmargin)
  case frameEnd =>
    intro m f hst f1 hf1 ns hns crc hcrc s1 hs1
    have hengine : engine s1 i = engine s i := by
      rw [hs1]
      exact engine_eq_of_pal i ((noteReception_engines _ _).trans (congrArg Pal.engines ((bump_pal ..).trans (advanceNs_pal ..))))
    refine ⟨execFrameEnd_of_payload hcell hst hf1 hns hcrc hs1, fun hpass hpartner hmode => ?_, fun hfail hsoft => ?_⟩
    · rw [handOn_of_crc_passes (by rw [hengine, ← hcrc, hpass]) hpartner hmode, macFrame, hengine]
    · rw [handOn_of_crc_fails (by rw [hengine, ← hcrc, hfail]) (by rw [hengine, hsoft]), hengine]
  case abandoned =>
    intro reason hi t
    have hengine : engine t i = _ := engine_abandon_same reason hi
    rw [hengine]
    exact ⟨rfl, rfl, rfl, rfl⟩

end Sys2Proof.Machine
end

section
/-!
PROOFS. The watchdogs and faults of Shed's ladder, its retries and its log, the sensors, and what the firmware's own checks find (R399 to R426).
-/

namespace Sys2Proof.Machine

variable {s : State}

/-! ### What a fault does first (R421) -/

section Fault

variable {fn inst : Nat} (htaken : faultTaken s fn inst = true)
include htaken

theorem fault_of_no_retry (hnone : hasL1 fn = false ∨ recCfg s fn 0 1 = 0) : fault fn inst s = ladder fn inst s := by
  have hl2 : ¬ (hasL1 fn = true ∧ 0 < recCfg s fn 0 1) := fun ⟨hl1, htries⟩ =>
    hnone.elim (fun h => absurd (h.symm.trans hl1) (by decide)) fun h => absurd h htries.ne'
  exact (if_pos htaken).trans (if_neg hl2)

theorem fault_of_retries (hl1 : hasL1 fn = true) (htries : 0 < recCfg s fn 0 1) :
    fault fn inst s = countStep fn 1 { s with shd := { s.shd with
      l1 := s.shd.l1 ++ [(fn, inst, recCfg s fn 0 1, s.clk.elapsed + recCfg s fn 1 2 * msCycles)] } } :=
  (if_pos htaken).trans (if_pos ⟨hl1, htries⟩)

end Fault

/-! ### The detectors (Table 17-5, R232, R408, R420) -/

theorem execEaselWatchdogExpiry_of_preparing (hnext : s.eas.next.isSome = true) :
    execEaselWatchdogExpiry s = done s (fault fnEasel 0 s) := if_pos hnext

theorem execEaselOverrunLimit_of_four (hfour : 4 ≤ s.eas.overruns) :
    execEaselOverrunLimit s = done s (fault fnEasel 0 { s with eas := { s.eas with overruns := 0 } }) := if_pos hfour

theorem execCanvasCoreWatchdogExpiry_of_on (core : Nat) (hon : domainOn s 4 = true) :
    execCanvasCoreWatchdogExpiry core s = done s (fault fnCore core s) := if_pos hon

theorem execGessoWatchdogExpiry_of_on (hon : domainOn s 2 = true) :
    execGessoWatchdogExpiry s = done s (fault fnGesso 0 s) := if_pos hon

theorem execOperationOverdue_of_lane {fn : Nat} (hfn : fn ∈ [fnTrellis, fnRiddle, fnGlaze]) (hon : domainOn s 3 = true) :
    execOperationOverdue fn s = done s (fault fn 0 s) := by
  simp only [List.mem_cons, List.not_mem_nil, or_false] at hfn
  exact if_pos ⟨hon, hfn.imp_right (Or.imp_right Or.inl)⟩

theorem execOperationOverdue_of_cipher (hon : domainOn s 3 = true) (hcmd : s.sec.cipher.cmd.isSome = true) :
    execOperationOverdue fnCipher s = done s (fault fnCipher 0 s) := if_pos ⟨hon, .inr (.inr (.inr ⟨rfl, hcmd⟩))⟩

theorem execStorePoisonBurst_of_on (hon : domainOn s 5 = true) :
    execStorePoisonBurst s = done s (fault fnStore 0 s) := if_pos hon

theorem execDomainExcursion_of_outside {domain mv : Nat} (hdomain : 2 ≤ domain) (hon : domainOn s domain = true)
    (hout : mv < (domainWindow domain).1 ∨ (domainWindow domain).2 < mv) :
    execDomainExcursion domain mv s =
      done s (fault fnDomain domain (logEvent 0x0B 2 (beOct 1 domain ++ beOct 2 mv) s fnDomain domain)) :=
  if_pos ⟨hdomain, hon, hout⟩

/-! ### Retries and the end of step L2 (R419, R420) -/

section Retry

variable {fn inst tries due : Nat} (hfind : s.shd.l1.find? (fun x => x.1 == fn && x.2.1 == inst) = some (fn, inst, tries, due))
  {s1 : State} (hs1 : s1 = advanceElapsed due s)
include hfind hs1

theorem execL1RetryTimer_of_pass :
    execL1RetryTimer fn inst true s = done s (logStep fn inst 1 0
      { s1 with shd := { s1.shd with l1 := s1.shd.l1.filter (fun y => !(y.1 == fn && y.2.1 == inst)) } }) := by
  simp only [execL1RetryTimer, hfind, hs1, if_true]

/-- A retry that fails while others are left takes one of them and waits again. -/
theorem execL1RetryTimer_of_more (hmore : 1 < tries) :
    execL1RetryTimer fn inst false s = done s { s1 with shd := { s1.shd with
      l1 := s1.shd.l1.filter (fun y => !(y.1 == fn && y.2.1 == inst)) ++
        [(fn, inst, tries - 1, s1.clk.elapsed + recCfg s fn 1 2 * msCycles)] } } := by
  simp only [execL1RetryTimer, hfind, hs1, hmore, Bool.false_eq_true, if_false, if_true]

/-- The last retry that fails goes on to the ladder. -/
theorem execL1RetryTimer_of_last (hlast : tries ≤ 1) :
    execL1RetryTimer fn inst false s = done s (ladder fn inst
      { s1 with shd := { s1.shd with l1 := s1.shd.l1.filter (fun y => !(y.1 == fn && y.2.1 == inst)) } }) := by
  simp only [execL1RetryTimer, hfind, hs1, Nat.not_lt.2 hlast, Bool.false_eq_true, if_false]

end Retry

theorem execL2Complete_of_under_way {fn inst since : Nat} {s1 : State}
    (hfind : s.shd.l2.find? (fun x => x.1 == fn && x.2.1 == inst) = some (fn, inst, since))
    (hs1 : s1 = advanceElapsed (since + l2BoundMs fn * msCycles) s) :
    execL2Complete fn inst s = done s (logStep fn inst 2 0 (l2End fn inst
      { s1 with shd := { s1.shd with l2 := s1.shd.l2.filter (fun y => !(y.1 == fn && y.2.1 == inst)) } })) := by
  simp only [execL2Complete, hfind, hs1]

/-! ### The log's copies (R413) -/

theorem execLogPersistTimer_of_powered (hmode : s.ctl.mode ≠ .m0) : execLogPersistTimer s = done s (persistAll s) := if_neg hmode

theorem execLogEntryCopy_of_powered (hmode : s.ctl.mode ≠ .m0) :
    execLogEntryCopy s = done s (persistWhere (fun e => decide (odNat s 0x9100 4 ≤ e.sev)) s) := if_neg hmode

theorem persisted_of_mem_persistAll {e : LogEntry} (he : e ∈ (persistAll s).shd.ring) : e.persisted = true := by
  rw [persistAll_ring] at he
  obtain ⟨e0, -, rfl⟩ := List.mem_map.1 he
  rfl

/-! ### The sensors (R407 to R409): what a sample can touch -/

theorem putRows_eq (idx sub n : Nat) (vs : List Octets) (s : State) : ∃ d, putRows idx sub n vs s = { s with od := d } := by
  unfold putRows
  generalize List.range (min n vs.length) = l
  induction l generalizing s with
  | nil => exact ⟨s.od, rfl⟩
  | cons i l ih => exact ih (odPut idx sub i ((vs[i]?).getD []) s)

theorem thermalLog_eq (ts : List Int) (s : State) : ∃ x : Shd, thermalLog ts s = { s with shd := x } ∧ x.temps = s.shd.temps := by
  unfold thermalLog
  dsimp only
  repeat' split
  all_goals exact ⟨_, rfl, rfl⟩

/-- The release of a unit held by heat begins at most a boot. -/
theorem thermalRelease_eq (s : State) :
    ∃ (x : Shd) (c : Ctl), thermalRelease s = { s with shd := x, ctl := c } ∧ x.temps = s.shd.temps := by
  unfold thermalRelease
  dsimp only
  repeat' split
  all_goals exact ⟨_, _, rfl, rfl⟩

/-- The two together: what the new readings of a sample bring about leaves the readings themselves. -/
theorem thermalRelease_thermalLog_eq (ts : List Int) (s : State) :
    ∃ (x : Shd) (c : Ctl), thermalRelease (thermalLog ts s) = { s with shd := x, ctl := c } ∧ x.temps = s.shd.temps := by
  obtain ⟨x, hlog, hx⟩ := thermalLog_eq ts s
  obtain ⟨y, c, hrelease, hy⟩ := thermalRelease_eq { s with shd := x }
  exact ⟨y, c, by rw [hlog, hrelease], hy.trans hx⟩

/-- A sample leaves its readings, and touches besides them only Shed, the mode's control and the objects. -/
theorem execSensorSample_of_powered {temps : List Int} (volts currents : List Nat) (pdet : List Int) (hmode : s.ctl.mode ≠ .m0)
    (hlen : temps.length = 8) : ∃ (x : Shd) (c : Ctl) (d : List (Nat × Octets)),
      execSensorSample temps volts currents pdet s = done s { s with shd := x, ctl := c, od := d } ∧ x.temps = temps := by
  have hread : ¬ (s.ctl.mode = .m0 ∨ temps.length ≠ 8) := not_or.2 ⟨hmode, not_not.2 hlen⟩
  obtain ⟨d1, hd1⟩ := putRows_eq 0x9000 1 8 (temps.map (beInt 2)) s
  obtain ⟨d2, hd2⟩ := putRows_eq 0x9000 3 12 (volts.map (beOct 2)) { s with od := d1 }
  obtain ⟨d3, hd3⟩ := putRows_eq 0x9000 4 12 (currents.map (beOct 2)) { s with od := d2 }
  obtain ⟨d4, hd4⟩ := putRows_eq 0x9000 5 2 (pdet.map (beInt 2)) { s with od := d3 }
  let s2 := odPut 0x9000 2 0 (beInt 2 (tjOf temps)) { s with od := d4 }
  obtain ⟨x, c, heffect, hx⟩ := thermalRelease_thermalLog_eq temps (takePdet pdet { s2 with shd := { s2.shd with temps := temps } })
  refine ⟨x, c, s2.od, ?_, hx⟩
  unfold execSensorSample
  rw [if_neg hread]
  dsimp only
  rw [hd1, hd2, hd3, hd4]
  exact congrArg (done s) heffect

/-! ### Shed's own watchdog (R406) -/

section ShedWatchdog

variable (hmode : s.ctl.mode ≠ .m0) {s1 s2 : State}
  (hs1 : s1 = { s with shd := { s.shd with dogAt := some s.clk.elapsed, dogCount := dogExpiries s } })
  (hs2 : s2 = logEvent 0x06 2 (beOct 1 (dogExpiries s)) (cipherLost 3 (releaseReceiver 4 (resetReceivers [4] s1))))
include hmode hs1 hs2

/-- An expiry that is the only one within 60 s restarts Shed, whose image passes its digest. -/
theorem execShedWatchdogExpiry_of_first (hfew : dogExpiries s < 2) : execShedWatchdogExpiry true s = done s s2 := by
  subst hs1 hs2
  exact (if_neg hmode).trans (if_pos (.inr (.inl ⟨rfl, hfew⟩)))

/-- Shed with an image that fails its digest cycles the unit's power, unless it runs its boot ROM or a cycle is under way. -/
theorem execShedWatchdogExpiry_of_bad_digest (hrom : s.shd.bootRom = false) (hcycle : s.shd.cycleUntil = none) :
    execShedWatchdogExpiry false s = done s (powerCycle 0 0 4 (recordL4 s2)) := by
  subst hs1 hs2
  have hcycles : ¬ (s.shd.bootRom = true ∨ (false = true ∧ dogExpiries s < 2) ∨ s.shd.cycleUntil.isSome = true) := by
    simp only [hrom, hcycle, Option.isSome_none, Bool.false_eq_true, false_and, or_self, not_false_eq_true]
  exact (if_neg hmode).trans (if_neg hcycles)

end ShedWatchdog

/-! ### Pages and patches of the running image (R399, R400) -/

section Pages

variable {part page b : Nat} (hrun : s.fw.running = some b) (hpart : part = 2 ∨ part = 7)

include hrun in
theorem execFlashPageFetch_of_good (hgood : pageGood s b part page = true) : execFlashPageFetch part page true s = done s s := by
  simp only [execFlashPageFetch, hrun, hgood, and_self, or_true, if_true]

include hrun hpart in
/-- A page that fails its check is a bus error and a fault of a core, which one is free. -/
theorem execFlashPageFetch_of_bad {ok : Bool} (hbad : ok = false ∨ pageGood s b part page = false) :
    execFlashPageFetch part page ok s = done s (fault fnCore ((takeFree s).1 % 4)
      (pageFault 2 (0x60100000 + 0x1000000 * b + partField (manifest s b) part 8 4 + 4096 * page) part page (takeFree s).2)) := by
  have hchecked : ¬ ((part ≠ 2 ∧ part ≠ 7) ∨ (ok = true ∧ pageGood s b part page = true)) := by
    rintro (⟨h2, h7⟩ | ⟨hok, hgood⟩)
    · exact hpart.elim h2 h7
    · simp only [hok, hgood, Bool.true_eq_false, or_self] at hbad
  simp only [execFlashPageFetch, hrun]
  exact if_neg hchecked

end Pages

theorem execPatchTrap_of_counted {entry : Nat} (hentry : entry < 64) (htraps : trapsOf s entry < 2) (hrun : s.eas.running = true) :
    execPatchTrap entry s = done s (logEvent 0x14 2 (beOct 1 entry) { s with
      eas := { s.eas with trapped := s.eas.trapped || s.eas.next != s.eas.commitMark }
      fw := { s.fw with traps := sinsert entry (trapsOf s entry + 1) s.fw.traps } }) :=
  if_neg (not_or.2 ⟨Nat.not_le.2 hentry, not_or.2 ⟨Nat.not_le.2 htraps, not_not.2 hrun⟩⟩)

/-- Settles O54, clause by clause from what each command does where its premise stands. -/
theorem faultsClimbTheLadder : Obligations.FaultsClimbTheLadder := by
  unfold Obligations.FaultsClimbTheLadder
  refine ⟨?detectors, ?retry, ?l2End, ?log, ?sensors, ?shedWatchdog, ?pages, ?patch⟩
  case detectors =>
    exact fun s => ⟨execEaselWatchdogExpiry_of_preparing, execEaselOverrunLimit_of_four, execCanvasCoreWatchdogExpiry_of_on,
      execGessoWatchdogExpiry_of_on, fun fn => execOperationOverdue_of_lane, execOperationOverdue_of_cipher,
      fun fn inst => fault_of_no_retry, fun fn inst => fault_of_retries, execStorePoisonBurst_of_on,
      fun domain mv => execDomainExcursion_of_outside⟩
  case retry =>
    intro fn inst tries due ok s hfind s1 hs1 rest
    refine ⟨?_, ?_, ?_⟩
    · rintro rfl
      exact execL1RetryTimer_of_pass hfind hs1
    · rintro rfl
      exact execL1RetryTimer_of_more hfind hs1
    · rintro rfl
      exact execL1RetryTimer_of_last hfind hs1
  case l2End => exact fun fn inst since s hfind s1 => execL2Complete_of_under_way hfind
  case log =>
    exact fun s hmode => ⟨execLogPersistTimer_of_powered hmode, execLogEntryCopy_of_powered hmode, fun e => persisted_of_mem_persistAll⟩
  case sensors =>
    intro temps volts currents pdet s hmode hlen
    obtain ⟨x, c, d, hexec, hx⟩ := execSensorSample_of_powered volts currents pdet hmode hlen
    exact ⟨_, hexec, by simp only [conclude_shd, hx], by simp only [conclude_mem], by simp only [conclude_sec]⟩
  case shedWatchdog =>
    exact fun s hmode s1 hs1 s2 hs2 =>
      ⟨execShedWatchdogExpiry_of_first hmode hs1 hs2, execShedWatchdogExpiry_of_bad_digest hmode hs1 hs2⟩
  case pages => exact fun part page b s hrun hpart => ⟨execFlashPageFetch_of_good hrun, fun ok => execFlashPageFetch_of_bad hrun hpart⟩
  case patch => exact fun entry s => execPatchTrap_of_counted

end Sys2Proof.Machine
end

section
/-!
PROOFS. Glaze: its lists, the messages of its partners, requests, decisions and what is discarded (R271 to R285).
-/

namespace Sys2Proof.Machine

variable {s s1 : State}

/-! ### Messages that pass the checks of R337 -/

section Messages

variable {e : Env}

theorem hrReceive_of_accepted {type : Nat} (f : State → State) (hok : envCheck type e s = (s1, .accepted)) : hrReceive type e f s = f s1 := by
  simp only [hrReceive, hok]

theorem execGlazeList_of_in_time {p : ListPart} (hok : envCheck 0x40 e s = (s1, .accepted))
    (hactive : s1.gla.active.any (fun x => x.1 == e.src) = true) (hpart : p.part < p.parts) (htime : nowNs s1 + 500000000 ≤ sfStart p.sf) :
    execGlazeList e p s = done s (takePart e.src p s1) :=
  congrArg (done s) ((hrReceive_of_accepted _ hok).trans (if_pos ⟨hactive, hpart, htime⟩))

theorem execGlazeFrame_of_accepted (f : GlazeFrame) (hok : envCheck 0x41 e s = (s1, .accepted)) :
    execGlazeFrame e f s = done s (partnerFrame e.src f.asn f.entry f.stamp { f.rx with rssi := f.rssi, lq := f.lq, psdu := f.psdu } s1) :=
  congrArg (done s) (hrReceive_of_accepted _ hok)

section Requests

variable {a : Nat} (reqSeq : Nat) (entries : List Nat) (hok : envCheck 0x42 e s = (s1, .accepted))
include hok

/-- Where the owner's epoch gives the slot's end, the answers wait until 500 µs after it. -/
theorem execGlazeReq_of_known_start {t : Int} (hstart : ownerStart s1 e.src (a + 1) = some t) :
    execGlazeReq e a reqSeq entries s = done s (entries.foldl (answerEntry e.src a reqSeq) (advanceNs (t + 500000).toNat s1)) := by
  simp only [execGlazeReq, hrReceive_of_accepted _ hok, hstart]

theorem execGlazeReq_of_unknown_start (hstart : ownerStart s1 e.src (a + 1) = none) :
    execGlazeReq e a reqSeq entries s = done s (entries.foldl (answerEntry e.src a reqSeq) s1) := by
  simp only [execGlazeReq, hrReceive_of_accepted _ hok, hstart]

end Requests

theorem execGlazeAns_of_accepted (a reqSeq entry kind seg nseg : Nat) (data : Octets) (rx : RxFrame)
    (hok : envCheck 0x43 e s = (s1, .accepted)) :
    execGlazeAns e a reqSeq entry kind seg nseg data rx s = done s (takeAns e.src a reqSeq entry kind seg nseg data rx s1) :=
  congrArg (done s) (hrReceive_of_accepted _ hok)

end Messages

/-! ### Listen lists (R271, R272) -/

/-- Of the active partners, those that no list of the superframe at boundary `b` was sent to. -/
def unsentPeers (s : State) (b : Nat) : List Nat :=
  (s.gla.active.map (·.1)).filter (fun p => !s.gla.sent.any (fun l => l.peer == p && l.sf == sfIndex s b))

theorem execGlazeListSend_of_due {b : Nat} (hrun : s.eas.running = true) (hb : b = firstBoundaryAt s (nowNs s + 2000000000))
    (hoffers : offersRx s b = true) (hpeers : unsentPeers s b ≠ []) (hs1 : s1 = advanceNs (startNs s b - 3000000000).toNat s) :
    execGlazeListSend s = done s ((unsentPeers s b).foldl (sendList b (listEntries s1 b)) s1) := by
  subst hb hs1
  exact if_neg (not_or.2 ⟨not_not.2 hrun, not_or.2 ⟨not_not.2 hoffers, hpeers⟩⟩)

section Deadline

variable {owner sf : Nat} (hactive : s.gla.active.any (fun x => x.1 == owner) = true) (htime : nowNs s < sfStart sf)
  (hnew : s.gla.adopted.any (fun l => l.peer == owner && l.sf == sf) = false)
  (hs1 : s1 = advanceNs ((sfStart sf : Int) - 500000000).toNat s)
  {rest : List ListenList} (hrest : rest = s1.gla.coming.filter (fun l => !(l.peer == owner && decide (l.sf ≤ sf))))
include hactive htime hnew hs1 hrest

theorem execGlazeListDeadline_of_complete {l : ListenList}
    (hfind : s1.gla.coming.find? (fun l => l.peer == owner && l.sf == sf) = some l) (hall : l.got.length = l.parts) :
    execGlazeListDeadline owner sf s = done s (noteEpoch owner l.epoch
      { s1 with gla := { s1.gla with coming := rest, adopted := s1.gla.adopted ++ [l] } }) := by
  simp only [execGlazeListDeadline, hactive, Nat.not_le.2 htime, hnew, ← hs1, hfind, hall, hrest, not_true_eq_false, Bool.false_eq_true,
    or_self, if_true, if_false]

theorem execGlazeListDeadline_of_incomplete {l : ListenList}
    (hfind : s1.gla.coming.find? (fun l => l.peer == owner && l.sf == sf) = some l) (hmissing : l.got.length ≠ l.parts) :
    execGlazeListDeadline owner sf s = done s (glazeCount 13 { s1 with gla := { s1.gla with coming := rest } }) := by
  simp only [execGlazeListDeadline, hactive, Nat.not_le.2 htime, hnew, ← hs1, hfind, hmissing, hrest, not_true_eq_false, Bool.false_eq_true,
    or_self, if_false]

theorem execGlazeListDeadline_of_absent (hfind : s1.gla.coming.find? (fun l => l.peer == owner && l.sf == sf) = none) :
    execGlazeListDeadline owner sf s = done s (glazeCount 13 { s1 with gla := { s1.gla with coming := rest } }) := by
  simp only [execGlazeListDeadline, hactive, Nat.not_le.2 htime, hnew, ← hs1, hfind, hrest, not_true_eq_false, Bool.false_eq_true,
    or_self, if_false]

end Deadline

/-! ### Requests, and the end of the retention (R280, R282) -/

/-- The partners that are asked about slot `a`, each with the entries of its list that are still open. -/
def askedEntries (s : State) (a : Nat) : List (Nat × List ListenEntry) :=
  ((askedPartners s a).map (fun p => (p, openEntries s a p))).filter (fun x => x.2 != [])

theorem execGlazeReqSend_of_due {a : Nat} (hrun : s.eas.running = true) (hasn : s.eas.asn = a + 1)
    (htime : nowNs s ≤ startNs s (a + 1) + 1000000) (hnew : s.gla.decs.any (fun d => d.asn == a) = false) :
    execGlazeReqSend a s = done s ((askedEntries s a).foldl (fun s x => requestFrom a x.1 (x.2.length) (x.2.map (·.num)) s)
      ((newDecisions s a (askedEntries s a)).foldl holdNode
        { s with gla := { s.gla with decs := s.gla.decs ++ newDecisions s a (askedEntries s a) } })) :=
  if_neg (not_or.2 ⟨not_not.2 hrun, not_or.2 ⟨not_not.2 hasn, not_or.2 ⟨Int.not_lt.2 htime, Bool.eq_false_iff.1 hnew⟩⟩⟩)

theorem execGlazeReqTimeout_of_tries_left {partner reqSeq : Nat} {r : GlazeReqSt}
    (hfind : s.gla.reqs.find? (fun r => r.partner == partner && r.seq == reqSeq) = some r) (hleft : r.tries < 3)
    (hs1 : s1 = advanceElapsed (r.at_ + odNat s 0x6000 4 * msCycles) s) {r1 : GlazeReqSt}
    (hr1 : r1 = { r with tries := r.tries + 1, at_ := s1.clk.elapsed }) :
    execGlazeReqTimeout partner reqSeq s = done s (sendReq r1 { s1 with gla := { s1.gla with
      reqs := s1.gla.reqs.map (fun x => if x.partner == partner && x.seq == reqSeq then r1 else x) } }) := by
  simp only [execGlazeReqTimeout, hfind, Nat.not_le.2 hleft, if_false, hr1, hs1]

theorem execGlazeRetentionExpiry_of_open {a : Nat} {s2 : State}
    (hopen : s.gla.decs.any (fun d => d.asn == a) = true ∨ s.gla.reqs.any (fun r => r.asn == a) = true)
    (hs1 : s1 = advanceNs (startNs s (a + odNat s 0x6000 2)).toNat s)
    (hs2 : s2 = ((s1.gla.reqs.filter (fun r => r.asn == a)).flatMap (·.awaited)).foldl (fun s _ => glazeCount 7 s) s1) :
    execGlazeRetentionExpiry a s = done s { s2 with gla := { s2.gla with
      reqs := s2.gla.reqs.filter (fun r => r.asn != a)
      expired := s2.gla.expired.filter (fun r => decide (a ≤ r.asn + 64)) ++ s1.gla.reqs.filter (fun r => r.asn == a)
      decs := s2.gla.decs.map (fun d => if d.asn == a then { d with ready := true } else d) } } := by
  subst hs2 hs1
  exact if_pos hopen

/-! ### The decision (R283, R284) -/

section Decision

variable {a n : Nat} {d : GlazeDec} (hdec : decOf s a n = some d) (hready : d.ready = true)
  (hs1 : s1 = (List.range (d.records.length - (usableRecords s d.records).length)).foldl (fun s _ => glazeCount 8 s) s)
include hdec hready hs1

theorem execGlazeDecision_of_no_frame : execGlazeDecision a n none s = done s (failDecision a n s1) := by
  simp only [execGlazeDecision, hdec, hready, not_true_eq_false, if_false, hs1]

variable {f : RxFrame}

theorem execGlazeDecision_of_recovered (htwo : 2 ≤ (usableRecords s d.records).length)
    (hrec : recoverable s d (combine (usableRecords s d.records)).length f = true) :
    execGlazeDecision a n (some f) s = done s (takeGlazeFrame n 9 (glazeUl s1 true a d.row n (referenceStamp d.records) f) s1) := by
  simp only [execGlazeDecision, hdec, hready, not_true_eq_false, if_false, hs1, htwo, hrec, and_self, if_true]

theorem execGlazeDecision_of_unrecovered
    (hbad : (usableRecords s d.records).length < 2 ∨ recoverable s d (combine (usableRecords s d.records)).length f = false) :
    execGlazeDecision a n (some f) s = done s (failDecision a n s1) := by
  have hfails : ¬ (2 ≤ (usableRecords s d.records).length ∧ recoverable s d (combine (usableRecords s d.records)).length f = true) :=
    not_and_or.2 (hbad.imp Nat.not_le.2 Bool.eq_false_iff.1)
  simp only [execGlazeDecision, hdec, hready, not_true_eq_false, if_false, hs1, hfails]

end Decision

/-! ### What is discarded (R275) -/

theorem execGlazeRecordDiscard_of_kept {owner a : Nat}
    (hkept : s.gla.recs.any (fun r => r.owner == owner && r.asn == a) = true ∨ s.gla.frames.any (fun g => g.owner == owner && g.asn == a) = true)
    (hs1 : s1 = advanceNs (discardNs s owner a) s) :
    execGlazeRecordDiscard owner a s = done s { s1 with gla := { s1.gla with
      recs := s1.gla.recs.filter (fun r => !(r.owner == owner && r.asn == a))
      frames := s1.gla.frames.filter (fun g => !(g.owner == owner && g.asn == a)) } } := by
  subst hs1
  exact if_pos hkept

/-- Settles O57, clause by clause from what each command does where its premise stands. -/
theorem glazeRuns : Obligations.GlazeRuns := by
  unfold Obligations.GlazeRuns
  refine ⟨?listSend, ?messages, ?deadline, ?reqSend, ?reqTimeout, ?retention, ?decision, ?discard⟩
  case listSend => exact fun s hrun b hb hoffers hpeers s1 hs1 => execGlazeListSend_of_due hrun hb hoffers hpeers hs1
  case messages =>
    exact fun e s s1 => ⟨fun p => execGlazeList_of_in_time, execGlazeFrame_of_accepted, fun a reqSeq entries hok =>
      ⟨fun t => execGlazeReq_of_known_start reqSeq entries hok, execGlazeReq_of_unknown_start reqSeq entries hok⟩, execGlazeAns_of_accepted⟩
  case deadline =>
    exact fun owner sf s hactive htime hnew s1 hs1 rest hrest =>
      ⟨fun l => execGlazeListDeadline_of_complete hactive htime hnew hs1 hrest,
        fun l => execGlazeListDeadline_of_incomplete hactive htime hnew hs1 hrest,
        execGlazeListDeadline_of_absent hactive htime hnew hs1 hrest⟩
  case reqSend => exact fun a s => execGlazeReqSend_of_due
  case reqTimeout => exact fun partner reqSeq r s hfind hleft s1 hs1 => execGlazeReqTimeout_of_tries_left hfind hleft hs1 rfl
  case retention => exact fun a s hopen s1 hs1 s2 hs2 => execGlazeRetentionExpiry_of_open hopen hs1 hs2
  case decision =>
    exact fun a n d s hdec hready s1 hs1 => ⟨execGlazeDecision_of_no_frame hdec hready hs1,
      fun f => execGlazeDecision_of_recovered hdec hready hs1, fun f => execGlazeDecision_of_unrecovered hdec hready hs1⟩
  case discard => exact fun owner a s hkept s1 hs1 => execGlazeRecordDiscard_of_kept hkept hs1

end Sys2Proof.Machine
end

section
/-!
PROOFS. The digest of a bucket: the CRC-16 that the model takes an octet at a time is the register taken bit by bit (R309).
-/

namespace Sys2Proof.Machine

/-! ### The register, bit by bit -/

/-- One message bit enters the CRC-16 register of R309. -/
def crc16Step (r : BitVec 16) (b : Bool) : BitVec 16 :=
  if r.getLsbD 15 != b then (r <<< 1) ^^^ 0x1021#16 else r <<< 1

/-- The first `n` bits of a word, most significant first. -/
def topBits : Nat → BitVec 16 → List Bool
  | 0, _ => []
  | n + 1, w => w.getLsbD 15 :: topBits n (w <<< 1)

/-- The bits of an octet, most significant first. -/
def octetBits (b : Byte) : List Bool := [7, 6, 5, 4, 3, 2, 1, 0].map (fun k => b.getLsbD k)

/-- An octet stands above eight zero bits when it is added to the register. -/
theorem ofNat_toNat_mul_256 (b : Byte) : BitVec.ofNat 16 (b.toNat * 256) = b.setWidth 16 <<< 8 := by
  apply BitVec.eq_of_toNat_eq
  simp [Nat.shiftLeft_eq]

theorem topBits_octet (b : Byte) : topBits 8 (b.setWidth 16 <<< 8) = octetBits b := by
  simp [topBits, octetBits]

/-- A step on the sum of register and message takes the message's top bit; its other bits move up beside the register. -/
theorem crc16_shift_xor (r w : BitVec 16) :
    ((r ^^^ w) <<< 1) ^^^ (if (r ^^^ w).getLsbD 15 then 0x1021#16 else 0#16) = crc16Step r (w.getLsbD 15) ^^^ (w <<< 1) := by
  rw [BitVec.getLsbD_xor, BitVec.shiftLeft_xor_distrib, crc16Step]
  split
  · rw [BitVec.xor_assoc, BitVec.xor_assoc, BitVec.xor_comm (w <<< 1)]
  · rw [BitVec.xor_zero]

/-- Message bits may be added all at once or each as it enters: the register differs by the bits that have not yet entered. -/
theorem crc16Bits_xor (n : Nat) (r w : BitVec 16) :
    crc16Bits n (r ^^^ w) = (topBits n w).foldl crc16Step r ^^^ (w <<< n) := by
  induction n generalizing r w with
  | zero => simp [crc16Bits, topBits]
  | succ n ih =>
    rw [crc16Bits, crc16_shift_xor, ih, topBits, List.foldl_cons, ← BitVec.shiftLeft_add, Nat.add_comm 1 n]

theorem crc16Bits_octet (r : BitVec 16) (b : Byte) :
    crc16Bits 8 (r ^^^ BitVec.ofNat 16 (b.toNat * 256)) = (octetBits b).foldl crc16Step r := by
  have hgone : b.setWidth 16 <<< 8 <<< 8 = 0#16 := by
    rw [← BitVec.shiftLeft_add, BitVec.shiftLeft_eq_zero (by decide)]
  rw [ofNat_toNat_mul_256, crc16Bits_xor, topBits_octet, hgone, BitVec.xor_zero]

theorem crc16_eq_foldl_bits (o : Octets) : crc16 o = ((o.flatMap octetBits).foldl crc16Step 0xFFFF#16).toNat := by
  simp only [crc16, crc16Bits_octet, List.foldl_flatMap]

/-! ### The octets of a bucket -/

@[simp] theorem leOct_length (n v : Nat) : (leOct n v).length = n := by
  induction n generalizing v with
  | zero => rfl
  | succ n ih => simp [leOct, ih]

/-- An entry fills 32 octets (Table 12-2). -/
@[simp] theorem entryOctets_length (e : TEntry) : (entryOctets e).length = 32 := by
  simp [entryOctets, padTo]

theorem bucketDigest_eq (t : Tre) (arr b : Nat) : bucketDigest t arr b =
    crc16 (entryOctets (slotGet t arr b 0) ++ entryOctets (slotGet t arr b 1) ++
      entryOctets (slotGet t arr b 2) ++ entryOctets (slotGet t arr b 3)) := by
  simp [bucketDigest, List.range_succ]

/-- Settles O42, from the octet step taken bit by bit and the octets of the four entries. -/
theorem bucketDigestIsCrc16 : Obligations.BucketDigestIsCrc16 := by
  unfold Obligations.BucketDigestIsCrc16
  refine ⟨?bitwise, ?bucket, ?checkValue⟩
  case bitwise => exact crc16_eq_foldl_bits
  case bucket => exact fun t arr b => ⟨bucketDigest_eq t arr b, fun k _ => entryOctets_length (slotGet t arr b k)⟩
  case checkValue => decide +kernel

end Sys2Proof.Machine
end

section
/-!
PROOFS. The Hedgerow's timers and the moves of a region, where the lemmas about completion do not say it already: silence and claims (R334, R335,
R339), a region that takes effect (R347, R351, R352), and a handover whose target is gone (R354).
-/

namespace Sys2Proof.Machine

variable {s : State}

/-! ### Silence and claims (R334, R339) -/

section Timers

variable (hrun : hrRuns s = true)
include hrun

/-- A neighbour that falls silent is suspected; where the unit mirrors no region of that neighbour, that is all. -/
theorem execSuspectTimeout_of_unmirrored {addr : Nat} {x : HrAdj} {s1 s2 : State} (hadj : hrAdjOf s addr = some x) (hx : x.suspect = false)
    (hs1 : s1 = advanceElapsed (x.lastHb + 7 * helloCycles s / 2) s)
    (hs2 : s2 = { s1 with hed := { s1.hed with adj := putAdj { x with suspect := true } s1.hed.adj } })
    (hmirror : s2.hed.mirrors.find? (fun m => m.holder == addr && s2.hed.mirroring.contains m.region) = none) :
    execSuspectTimeout addr s = done s (afterChange s2) := by
  subst hs1 hs2
  simp only [execSuspectTimeout, hadj, hx, hrun, hmirror, not_true_eq_false, Bool.false_eq_true, or_self, if_false]

variable {addr n : Nat} {s1 : State} (hclaim : s.hed.claim = some (addr, n))
  (hs1 : s1 = if n = 0 then s else advanceElapsed (s.hed.claimAt + secCycles) s)
include hclaim hs1

theorem execClaimTimer_of_three_le (hn : 3 ≤ n) : execClaimTimer s = done s (claimDone addr s1) := by
  subst hs1
  simp only [execClaimTimer, hclaim, hrun, hn, not_true_eq_false, if_false, if_true]

theorem execClaimTimer_of_lt_three (hn : n < 3) {s2 : State}
    (hs2 : s2 = (hrAround s1).foldl (fun t d => hrSendTo 0x03 d.1 addr (homeEpoch t) .own d.2 none (nowNs t)
      (beOct 2 addr ++ beOct 4 (homeEpoch t)) t) s1) :
    execClaimTimer s = done s { s2 with hed := { s2.hed with claim := some (addr, n + 1), claimAt := s2.clk.elapsed } } := by
  subst hs1 hs2
  simp only [execClaimTimer, hclaim, hrun, Nat.not_le.2 hn, not_true_eq_false, if_false]

end Timers

/-! ### A region on its way takes effect (R347, R351, R352) -/

section Arrival

variable {i : Incoming} (hin : s.hed.incoming = some i) (hready : i.adopted = true ∨ s.eas.running = false)
include hready

/-- A region that is adopted, or comes to a unit whose slots do not run, waits for no slot. -/
theorem due_of_ready : i.adopted = true ∨ ¬ s.eas.running = true ∨ incomingStart i s ≤ startNs s (s.eas.asn + 1) :=
  hready.imp_right (fun hidle => .inl (ne_true_of_eq_false hidle))

include hin

theorem execTakeoverEffective_of_ready (hkind : i.kind < 2) : execTakeoverEffective s = done s (regionEffective i s) := by
  simp only [execTakeoverEffective, hin]
  exact if_pos ⟨hkind, due_of_ready hready⟩

/-- A target that had the FINAL delta logs nothing. -/
theorem execHandoverEffective_of_final {m : Mirror} (hkind : i.kind = 2) (hmirror : mirrorOf s i.region = some m) (hfinal : m.final = true) :
    execHandoverEffective s = done s (regionEffective i s) := by
  simp only [execHandoverEffective, hin, hmirror, hfinal, Option.map_some, Option.getD_some, Bool.not_true, Bool.false_eq_true, if_false]
  exact if_pos ⟨hkind, due_of_ready hready⟩

end Arrival

/-! ### A handover whose target is gone (R354) -/

theorem execHandoverQuiesce_of_unknown {h : Handing} {e : Nat} {s1 : State} (hhand : s.hed.handing = some h) (heff : h.eff = some e)
    (hq : h.quiesced = false) (hat : atSlot s (e - handSlots s) = true) (hs1 : s1 = advanceToSlot (e - handSlots s) s)
    (hadj : hrAdjOf s1 h.target = none) : execHandoverQuiesce s = done s (speak (withdrawHandover h s1)) := by
  subst hs1
  simp only [execHandoverQuiesce, hhand, heff, hq, hat, hadj, Option.map_none, Option.getD_none, not_true_eq_false, Bool.false_eq_true,
    or_self, if_false, if_true]

/-- Settles O59, clause by clause from what each timer and each move does where its premise stands. -/
theorem hedgerowTimersRun : Obligations.HedgerowTimersRun := by
  unfold Obligations.HedgerowTimersRun
  refine ⟨?timers, fun origin l s hfind s1 => execLsaAgeExpiry_of_held hfind, fun t a s hlisten s1 => execAddressListenEnd_of_free hlisten,
    ?arrival, ?handover, fun s hpeer hrun hemits hin wait hwait b hb f => execMirrorDeltaSend_of_served hpeer hrun hemits hin hwait hb,
    fun n f s hwait s1 => execShadowWaitExpiry_of_waiting hwait⟩
  case timers =>
    exact fun s hrun => ⟨fun hhome => ⟨execHelloTimer_of_home hrun hhome, execLsaRefreshTimer_of_home hrun hhome⟩,
      fun addr x hadj hx s1 hs1 s2 => execSuspectTimeout_of_unmirrored hrun hadj hx hs1,
      fun htimer hin _ s1 hs1 s2 => execIsolationTimeout_of_set hrun htimer hin hs1,
      fun addr n hclaim s1 hs1 => ⟨execClaimTimer_of_three_le hrun hclaim hs1, fun hn s2 => execClaimTimer_of_lt_three hrun hclaim hs1 hn⟩⟩
  case arrival =>
    exact fun i s hin hready => ⟨execTakeoverEffective_of_ready hin hready, fun m => execHandoverEffective_of_final hin hready⟩
  case handover =>
    exact fun h e s hhand heff => ⟨
      fun hq hat s1 hs1 => ⟨fun x => execHandoverQuiesce_of_heard hhand heff hq hat hs1, execHandoverQuiesce_of_unknown hhand heff hq hat hs1⟩,
      fun hq hfinal hat s1 hs1 s2 => execFinalDeltaSend_of_quiesced hhand heff hq hfinal hat hs1,
      execHandoverEffective_of_own hhand heff⟩

end Sys2Proof.Machine
end

section
/-!
PROOFS. What every step holds: the front command runs or a cycle passes, every command completes, and reset meets the invariants (R53, R95, R97).
-/

namespace Sys2Proof.Machine

/-! ### What a step takes -/

theorem step_cons (c : Instr) (rest : List Instr) (s : State) : step { s with pending := c :: rest } = exec c { s with pending := rest } := rfl

theorem step_of_empty {s : State} (h : s.pending = []) : step s = idle s := by simp only [step, h]

/-- Settles O1: the queue's rest is what waited. -/
theorem stepTakesFrontCommand : Obligations.StepTakesFrontCommand := fun c s => step_cons c s.pending s

/-- Settles O2: with nothing waiting the unit idles. -/
theorem emptyQueueIdles : Obligations.EmptyQueueIdles := fun _ hempty => step_of_empty hempty

/-- Settles O3: every command concludes an effect, and concluding keeps the queue. -/
theorem everyCommandCompletes : Obligations.EveryCommandCompletes := by
  unfold Obligations.EveryCommandCompletes
  intro c s
  obtain ⟨t, ht⟩ := exec_concludes c s
  exact ⟨conclude s t, ht, conclude_pending s t⟩

/-! ### Reset -/

/-- A chip holds what it holds. -/
theorem FusesAtLeast.refl (c : Chip) : FusesAtLeast c c :=
  ⟨rfl, rfl, rfl, rfl, rfl, rfl, rfl, Nat.and_self _, rfl, fun _ => Nat.le_refl _, rfl, fun _ => ⟨id, id⟩⟩

/-- Settles O5: the queue and the object store of reset are empty, and its memory is canonical by `wf_reset`. -/
theorem resetMeetsInvariants : Obligations.ResetMeetsInvariants :=
  ⟨.refl _, fun _ hc => absurd hc List.not_mem_nil, ⟨wf_reset, rfl⟩, rfl⟩

end Sys2Proof.Machine
end

section
/-!
PROOFS. The calendar: the trim of its pulses, and the step that OW_SET asks for as it reaches the countdown channels (R471, R472, R475, R477).
-/

namespace Sys2Proof.Machine

/-! ### What a channel's firing leaves -/

@[simp] theorem wake_mode (uart : Bool) (s : State) : (wake uart s).ctl.mode = s.ctl.mode := by
  unfold wake; split <;> rfl

@[simp] theorem alarmFired_mode (ch : Nat) (step : Bool) (s : State) : (alarmFired ch step s).ctl.mode = s.ctl.mode := by
  unfold alarmFired
  split
  · rfl
  · rw [wake_mode, logEvent_ctl]

/-- A channel that fires: FIRED is set and it is disarmed; in M0 it waits for Shed (R476, R477). -/
def firedChannel (step unserved : Bool) (c : Countdown) : Countdown :=
  { c with mode := 0, count := 0, fired := true, step := c.step || step, waiting := unserved }

theorem fireChannel_pwr (ch : Nat) (step : Bool) (s : State) :
    (fireChannel ch step s).pwr = { s.pwr with cd := modAt (firedChannel step (s.ctl.mode == .m0)) s.pwr.cd ch } := alarmFired_pwr ..

theorem fireChannel_mode (ch : Nat) (step : Bool) (s : State) : (fireChannel ch step s).ctl.mode = s.ctl.mode := alarmFired_mode ..

/-- A channel that has been changed in its place reads the change, and every other reads as before. -/
theorem channelOf_modAt {s t : State} {f : Countdown → Countdown} {n : Nat} (h : t.pwr.cd = modAt f s.pwr.cd n) (ch : Nat) :
    channelOf t ch = if ch = n ∧ ch < s.pwr.cd.length then f (channelOf s ch) else channelOf s ch := by
  simp only [channelOf, h, getElem?_modAt]
  by_cases hch : ch = n
  · by_cases hlt : ch < s.pwr.cd.length
    · simp [hch, hch ▸ hlt]
    · simp [hch, hch ▸ hlt]
  · simp [hch]

/-- A channel that is armed is one of the channels there are. -/
theorem channel_exists_of_armed {s : State} {ch : Nat} (h : (channelOf s ch).mode ≠ 0) : ch < s.pwr.cd.length := by
  by_contra hge
  exact h (by simp only [channelOf, List.getElem?_eq_none (Nat.not_lt.1 hge)]; rfl)

/-! ### A step of the calendar (R477) -/

/-- A channel at a step: a CALENDAR channel whose target is reached or passed fires with STEP, and any other is left. -/
def steppedChannel (old new : Nat) (unserved : Bool) (c : Countdown) : Countdown :=
  if c.mode = 2 ∧ old < new ∧ secsTo old c.target ≤ new - old then firedChannel true unserved c else c

theorem channelStep_mode (ch old new : Nat) (s : State) : (channelStep ch old new s).ctl.mode = s.ctl.mode := by
  unfold channelStep
  dsimp only
  split
  · exact fireChannel_mode ..
  · rfl

/-- A step changes the supplies in its channel alone. -/
theorem channelStep_pwr (ch old new : Nat) (s : State) : ∃ l, (channelStep ch old new s).pwr = { s.pwr with cd := l } := by
  unfold channelStep
  dsimp only
  split
  · exact ⟨_, fireChannel_pwr ..⟩
  · exact ⟨s.pwr.cd, rfl⟩

theorem channelOf_channelStep (n ch old new : Nat) (s : State) : channelOf (channelStep n old new s) ch =
    if ch = n then steppedChannel old new (s.ctl.mode == .m0) (channelOf s ch) else channelOf s ch := by
  unfold channelStep steppedChannel
  dsimp only
  split
  next hreach =>
    have hin : n < s.pwr.cd.length := channel_exists_of_armed (by rw [hreach.1]; decide)
    rw [channelOf_modAt (congrArg Pwr.cd (fireChannel_pwr ..))]
    by_cases hch : ch = n
    · subst hch
      simp [hin, hreach]
    · simp [hch]
  next hnot =>
    by_cases hch : ch = n
    · subst hch
      simp [hnot]
    · simp [hch]

/-- The calendar reads the stepped count, and Shed has logged the step where it runs (R475). -/
def stepped (secs sub : Nat) (s : State) : State :=
  let s1 := { s with pwr := { s.pwr with secs := secs, sub := sub, setDue := false, trimRef := none } }
  if s.ctl.mode = .m0 then s1
  else logEvent 0x67 2 (beInt 4 (((secs : Int) - s.pwr.secs) * 1000 + ((sub : Int) - s.pwr.sub) * 1000 / 32768)) s1

theorem owStep_eq (secs sub : Nat) (s : State) :
    owStep secs sub s = channelStep 1 s.pwr.secs secs (channelStep 0 s.pwr.secs secs (stepped secs sub s)) := rfl

theorem stepped_pwr (secs sub : Nat) (s : State) :
    (stepped secs sub s).pwr = { s.pwr with secs := secs, sub := sub, setDue := false, trimRef := none } := by
  unfold stepped; split <;> rfl

theorem stepped_ctl (secs sub : Nat) (s : State) : (stepped secs sub s).ctl = s.ctl := by
  unfold stepped; split <;> rfl

theorem channelOf_stepped (secs sub ch : Nat) (s : State) : channelOf (stepped secs sub s) ch = channelOf s ch := by
  simp only [channelOf, stepped_pwr]

/-- A step leaves the count it sets, and changes at most the channels besides. -/
theorem owStep_pwr (secs sub : Nat) (s : State) :
    ∃ l, (owStep secs sub s).pwr = { s.pwr with secs := secs, sub := sub, setDue := false, trimRef := none, cd := l } := by
  obtain ⟨l0, h0⟩ := channelStep_pwr 0 s.pwr.secs secs (stepped secs sub s)
  obtain ⟨l1, h1⟩ := channelStep_pwr 1 s.pwr.secs secs (channelStep 0 s.pwr.secs secs (stepped secs sub s))
  exact ⟨l1, by rw [owStep_eq, h1, h0, stepped_pwr]⟩

/-- Both channels meet a step as they stood before it. -/
theorem channelOf_owStep {ch : Nat} (hch : ch < 2) (secs sub : Nat) (s : State) :
    channelOf (owStep secs sub s) ch = steppedChannel s.pwr.secs secs (s.ctl.mode == .m0) (channelOf s ch) := by
  rw [owStep_eq, channelOf_channelStep, channelOf_channelStep, channelStep_mode, channelOf_stepped, stepped_ctl]
  obtain rfl | rfl : ch = 0 ∨ ch = 1 := by omega
  · rfl
  · rfl

theorem channelRemaining_of_calendar {s : State} {ch : Nat} (h : (channelOf s ch).mode = 2) :
    channelRemaining s ch = secsTo s.pwr.secs (channelOf s ch).target := by
  simp [channelRemaining, h]

theorem secsTo_of_le {a b : Nat} (hab : a ≤ b) (hb : b < 2 ^ 32) : secsTo a b = b - a := by
  unfold secsTo; omega

/-- A step back lengthens what remains of a CALENDAR channel by what it steps. -/
theorem channelRemaining_owStep_back {secs sub ch : Nat} {s : State} (hmode : (channelOf s ch).mode = 2) (hback : secs ≤ s.pwr.secs)
    (hsame : channelOf (owStep secs sub s) ch = channelOf s ch) (hahead : s.pwr.secs < (channelOf s ch).target)
    (hfit : (channelOf s ch).target < 2 ^ 32) :
    channelRemaining (owStep secs sub s) ch = channelRemaining s ch + (s.pwr.secs - secs) := by
  obtain ⟨l, hl⟩ := owStep_pwr secs sub s
  have hsecs : (owStep secs sub s).pwr.secs = secs := by rw [hl]
  rw [channelRemaining_of_calendar (hsame ▸ hmode), channelRemaining_of_calendar hmode, hsame, hsecs,
    secsTo_of_le (by omega) hfit, secsTo_of_le (by omega) hfit]
  omega

/-- Settles O49: of each channel by whether the step reaches its target. -/
theorem calendarStepNeverSkipsAnAlarm : Obligations.CalendarStepNeverSkipsAnAlarm := by
  unfold Obligations.CalendarStepNeverSkipsAnAlarm
  intro secs sub ch s hch
  rw [channelOf_owStep hch]
  refine ⟨fun hmode hlt hreach => ?reached, fun hmode hback => ?back, fun _ _ hshort => ?short, fun hmode => ?other⟩
  case reached =>
    rw [steppedChannel, if_pos ⟨hmode, hlt, hreach⟩]
    simp [firedChannel]
  case back =>
    have hsame : steppedChannel s.pwr.secs secs (s.ctl.mode == .m0) (channelOf s ch) = channelOf s ch :=
      if_neg fun ⟨_, hlt, _⟩ => Nat.not_lt.2 hback hlt
    exact ⟨hsame, channelRemaining_owStep_back hmode hback ((channelOf_owStep hch ..).trans hsame)⟩
  case short => exact if_neg fun ⟨_, _, hreach⟩ => Nat.not_lt.2 hreach hshort
  case other => exact if_neg fun ⟨hcalendar, _, _⟩ => hmode hcalendar

/-! ### A pulse of the crystal (R471, R472, R475) -/

/-- The window as a pulse leaves it: at its end the new trim is taken. -/
def windowPulse (s : State) : State :=
  if s.pwr.window + 1 = 2 ^ 20 then { s with pwr := { s.pwr with window := 0, trim := s.pwr.trimNext } }
  else { s with pwr := { s.pwr with window := s.pwr.window + 1 } }

/-- A pulse by the trimmed pulses it counts as. -/
def countPulse (n : Nat) (s : State) : State := if n = 0 then s else if n = 1 then owTrimmed s else owTrimmed (owTrimmed s)

theorem windowPulse_pwr (s : State) : ∃ w t, (windowPulse s).pwr = { s.pwr with window := w, trim := t } := by
  unfold windowPulse
  split
  · exact ⟨_, _, rfl⟩
  · exact ⟨_, s.pwr.trim, rfl⟩

theorem windowPulse_ctl (s : State) : (windowPulse s).ctl = s.ctl := by
  unfold windowPulse; split <;> rfl

theorem windowPulse_shd (s : State) : (windowPulse s).shd = s.shd := by
  unfold windowPulse; split <;> rfl

theorem owPulse_eq (s : State) : owPulse s =
    if (windowPulse s).pwr.setDue then owStep (windowPulse s).pwr.setSecs (windowPulse s).pwr.setSub (windowPulse s)
    else countPulse (trimmedPulses s.pwr.trim (s.pwr.window + 1)) (windowPulse s) := rfl

theorem owPulse_of_due {s : State} (h : s.pwr.setDue = true) : owPulse s = owStep s.pwr.setSecs s.pwr.setSub (windowPulse s) := by
  obtain ⟨w, t, hpwr⟩ := windowPulse_pwr s
  rw [owPulse_eq, hpwr]
  exact if_pos h

theorem owPulse_of_not_due {s : State} (h : s.pwr.setDue = false) :
    owPulse s = countPulse (trimmedPulses s.pwr.trim (s.pwr.window + 1)) (windowPulse s) := by
  obtain ⟨w, t, hpwr⟩ := windowPulse_pwr s
  rw [owPulse_eq, hpwr]
  exact if_neg (by simp [h])

/-- What a pulse leaves of the window and its trim, a trimmed pulse leaves so. -/
theorem channelSecond_window (ch : Nat) (s : State) :
    (channelSecond ch s).pwr.window = s.pwr.window ∧ (channelSecond ch s).pwr.trim = s.pwr.trim := by
  unfold channelSecond
  dsimp only
  repeat' split
  all_goals simp only [fireChannel_pwr, and_self]

theorem owTrimmed_window (s : State) : (owTrimmed s).pwr.window = s.pwr.window ∧ (owTrimmed s).pwr.trim = s.pwr.trim := by
  unfold owTrimmed
  split
  · exact ⟨rfl, rfl⟩
  · simp only [channelSecond_window, and_self]

theorem countPulse_window (n : Nat) (s : State) : (countPulse n s).pwr.window = s.pwr.window ∧ (countPulse n s).pwr.trim = s.pwr.trim := by
  unfold countPulse
  split
  · exact ⟨rfl, rfl⟩
  · split
    · exact owTrimmed_window s
    · simp only [owTrimmed_window, and_self]

/-! ### OW_SET (R475) -/

theorem asOwMaster_of_true {ok : Bool} (h : ok = true) (master addr : Nat) (f : State → State) (s : State) :
    asOwMaster ok master addr f s = f s := if_pos h

theorem owMaster_of {master : Nat} (h : master = 1 ∨ master = 4) : owMaster master = true := by
  obtain rfl | rfl := h
  · rfl
  · rfl

/-- The state whose channels a pulse's step reaches, before the step is logged. -/
def setApplied (s : State) : State :=
  { windowPulse s with pwr := { (windowPulse s).pwr with secs := s.pwr.setSecs, sub := s.pwr.setSub, setDue := false, trimRef := none } }

theorem owPulse_steps {s : State} (h : s.pwr.setDue = true) :
    owPulse s = channelStep 1 s.pwr.secs s.pwr.setSecs (channelStep 0 s.pwr.secs s.pwr.setSecs (if s.ctl.mode = .m0 then setApplied s else
      logEvent 0x67 2 (beInt 4 (((s.pwr.setSecs : Int) - s.pwr.secs) * 1000 + ((s.pwr.setSub : Int) - s.pwr.sub) * 1000 / 32768))
        (setApplied s))) := by
  obtain ⟨w, t, hpwr⟩ := windowPulse_pwr s
  rw [owPulse_of_due h, owStep_eq]
  simp only [stepped, setApplied, windowPulse_ctl, hpwr]

/-- Settles O48: the write makes the step due, and the pulse takes it. -/
theorem calendarStepIsAppliedAtThePulse : Obligations.CalendarStepIsAppliedAtThePulse := by
  unfold Obligations.CalendarStepIsAppliedAtThePulse
  refine ⟨fun master s hmaster => ?write, fun s hdue => ?pulse⟩
  case write => exact congrArg (fun t => Host.Outcome.next (conclude s t)) (asOwMaster_of_true (owMaster_of hmaster) ..)
  case pulse =>
    obtain ⟨l, hl⟩ := owStep_pwr s.pwr.setSecs s.pwr.setSub (windowPulse s)
    have hpwr := owPulse_of_due hdue ▸ hl
    exact ⟨congrArg Pwr.secs hpwr, congrArg Pwr.sub hpwr, congrArg Pwr.setDue hpwr, setApplied s, windowPulse_shd s, rfl, rfl,
      owPulse_steps hdue⟩

/-! ### The pulses of a window (R472) -/

/-- The pulses that a trim's magnitude has added or removed after `k` of a window: one in each `2 ^ 20 / |trim|`. -/
def trimSteps (trim : Int) (k : Nat) : Nat := min (k / (2 ^ 20 / trim.natAbs)) trim.natAbs

/-- A pulse takes a step of the trim where it completes a stretch, as long as any is left. -/
theorem trimSteps_succ (trim : Int) (k : Nat) : trimSteps trim (k + 1) = trimSteps trim k +
    if (k + 1) % (2 ^ 20 / trim.natAbs) = 0 ∧ (k + 1) / (2 ^ 20 / trim.natAbs) ≤ trim.natAbs then 1 else 0 := by
  unfold trimSteps
  generalize 2 ^ 20 / trim.natAbs = p
  by_cases hstretch : p ∣ k + 1
  · simp only [Nat.succ_div, hstretch, if_true, Nat.mod_eq_zero_of_dvd hstretch, true_and]
    split <;> omega
  · simp only [Nat.succ_div, hstretch, if_false, ← Nat.dvd_iff_mod_eq_zero, false_and, Nat.add_zero]

/-- A pulse counts as one and the step of the trim that it takes. -/
theorem trimmedPulses_eq (trim : Int) (k : Nat) :
    (trimmedPulses trim (k + 1) : Int) = 1 + trim.sign * (trimSteps trim (k + 1) - trimSteps trim k) := by
  rw [trimSteps_succ]
  unfold trimmedPulses
  dsimp only
  obtain hneg | rfl | hpos := Int.lt_trichotomy trim 0
  · rw [if_neg (by omega), Int.sign_eq_neg_one_of_neg hneg, if_neg (Int.not_lt.2 hneg.le)]
    split <;> simp
  · simp
  · rw [if_neg (by omega), Int.sign_eq_one_of_pos hpos, if_pos hpos]
    split <;> simp

/-- After `n` pulses of a window the steps due by then have been added to them, or removed. -/
theorem sum_trimmedPulses (trim : Int) (n : Nat) :
    (((List.range n).map (fun k => trimmedPulses trim (k + 1))).sum : Int) = n + trim.sign * trimSteps trim n := by
  induction n with
  | zero => simp [trimSteps]
  | succ n ih =>
    rw [List.range_succ, List.map_append, List.sum_append, Nat.cast_add, ih]
    simp only [List.map_cons, List.map_nil, List.sum_singleton, trimmedPulses_eq]
    push_cast
    ring

/-- A whole window has every step of its trim. -/
theorem trimSteps_window {trim : Int} (h : trim.natAbs ≤ 511) : trimSteps trim (2 ^ 20) = trim.natAbs := by
  obtain h0 | hpos := Nat.eq_zero_or_pos trim.natAbs
  · simp [trimSteps, h0]
  · have hstretch : 0 < 2 ^ 20 / trim.natAbs := Nat.div_pos (by omega) hpos
    exact min_eq_right ((Nat.le_div_iff_mul_le hstretch).2 (Nat.mul_div_le ..))

theorem writeTrim_of_refused {value : Nat} (h : value % 1024 = 0x200) (s : State) : writeTrim value s = s := if_pos h

theorem writeTrim_of_taken {value : Nat} (h : value % 1024 ≠ 0x200) (s : State) : writeTrim value s = { s with pwr := { s.pwr with
    trimNext := if value % 1024 < 512 then (value % 1024 : Int) else (value % 1024 : Int) - 1024 } } := by
  refine (if_neg h).trans ?_
  simp only [modPwr, Nat.cast_ofNat, Int.natCast_mod]

theorem exec_owTrimWrite {master : Nat} (h : master = 1 ∨ master = 4) (value : Nat) (s : State) :
    exec (.owTrimWrite master value) s = .next (conclude s (writeTrim value s)) :=
  congrArg (fun t => Host.Outcome.next (conclude s t)) (asOwMaster_of_true (owMaster_of h) ..)

/-- A pulse that steps nothing leaves the window's trim as its own counting does. -/
theorem owPulse_window {s : State} (h : s.pwr.setDue = false) :
    (owPulse s).pwr.window = (windowPulse s).pwr.window ∧ (owPulse s).pwr.trim = (windowPulse s).pwr.trim := by
  rw [owPulse_of_not_due h]
  exact countPulse_window ..

/-- Settles O50: the steps of a whole window, the window's end, and the write by its value. -/
theorem trimAddsItsPulses : Obligations.TrimAddsItsPulses := by
  unfold Obligations.TrimAddsItsPulses
  refine ⟨fun trim hfit => ?sum, fun s hdue hend => ?ends, fun s hdue hwithin => ?within, fun master value s hmaster => ?write⟩
  case sum =>
    rw [sum_trimmedPulses, trimSteps_window hfit, Int.sign_mul_natAbs]
    rfl
  case ends =>
    have hwindow : windowPulse s = _ := if_pos hend
    obtain ⟨hw, ht⟩ := owPulse_window hdue
    rw [hwindow] at hw ht
    exact ⟨hw, ht⟩
  case within =>
    have hwindow : windowPulse s = _ := if_neg hwithin
    obtain ⟨-, ht⟩ := owPulse_window hdue
    rw [hwindow] at ht
    exact ht
  case write =>
    rw [exec_owTrimWrite hmaster]
    exact ⟨fun h => by rw [writeTrim_of_refused h], fun h => by rw [writeTrim_of_taken h]⟩

end Sys2Proof.Machine
end

section
/-!
PROOFS. What accepted writes and reads of Overwinter's registers leave, and the firing of a countdown channel (R363, R470, R474, R476, R481).
-/

namespace Sys2Proof.Machine

/-! ### The seal and the nonce (R363, R470) -/

theorem makeSeal_of_powered {s : State} (h : owPowered s = true) : makeSeal s = { s with pwr := { s.pwr with sealed := true } } := if_pos h

/-! ### The clock's shadows (R474) -/

section Shadow

variable {master reg : Nat} {s : State} {x : OwShadow}

theorem settleShadow_of_none (h : owShadow s master = none) : settleShadow master s = s := by
  simp only [settleShadow, h]

theorem settleShadow_of_held (h : owShadow s master = some x) (hin : s.clk.elapsed < x.at_ + msCycles) : settleShadow master s = s := by
  simp only [settleShadow, h]
  exact if_neg (Nat.not_le.2 hin)

/-- A read of one of four registers whose shadow is released reads it now, and cannot be the last. -/
theorem not_all_read_of_first (h : reg < 4) : (setAt [false, false, false, false] reg true).all id = false := by
  match reg, h with
  | 0, _ | 1, _ | 2, _ | 3, _ => rfl

/-- A read of a clock register answers a value of the shadow and notes it, the shadow being as the read leaves it. -/
def clockRead (master reg : Nat) (x : OwShadow) (s : State) : State :=
  { noteCapture master (0x4E000000 + 4 * reg) ((x.vals[reg]?).getD 0) (setShadow master
      (if (setAt x.read reg true).all id then none else some { x with read := setAt x.read reg true }) s) with
    out := s.out ++ [.word master ((x.vals[reg]?).getD 0)] }

theorem readClock_of_free (h : owShadow s master = none) : readClock master reg s =
    clockRead master reg { vals := owClockRegs s, read := [false, false, false, false], at_ := s.clk.elapsed } s := by
  simp only [readClock, settleShadow_of_none h, h, Option.getD_none]
  rfl

theorem readClock_of_held (h : owShadow s master = some x) (hin : s.clk.elapsed < x.at_ + msCycles) :
    readClock master reg s = clockRead master reg x s := by
  simp only [readClock, settleShadow_of_held h hin, h, Option.getD_some]
  rfl

variable (hmaster : master = 1 ∨ master = 4)
include hmaster

theorem exec_owClockShadowRead (hreg : reg < 4) :
    exec (.owClockShadowRead master reg) s = .next (conclude s (readClock master reg s)) := by
  have hread : execOwClockShadowRead master reg s = _ := if_neg (Nat.not_le.2 hreg)
  exact hread.trans (congrArg (done s) (asOwMaster_of_true (owMaster_of hmaster) ..))

theorem exec_owShadowTimeout (h : owShadow s master = some x) :
    exec (.owShadowTimeout master) s = .next (conclude s (settleShadow master (advanceElapsed (x.at_ + msCycles) s))) := by
  change execOwShadowTimeout master s = _
  simp only [execOwShadowTimeout, owMaster_of hmaster, h]
  rfl

/-! ### The channels and the feed's marks (R476, R481) -/

theorem exec_countdownArm {ch : Nat} (hch : ch < 2) (value : Nat) : exec (.countdownArm master ch value) s = .next (conclude s
    (armChannel ch (value / 2 ^ 30 % 4) (value % 2 ^ 24) (bit value 28) (bit value 29) s)) := by
  have harm : execCountdownArm master ch value s = _ := if_neg (Nat.not_le.2 hch)
  exact harm.trans (congrArg (done s) (asOwMaster_of_true (owMaster_of hmaster) ..))

theorem exec_owFeedWrite (value : Nat) : exec (.owFeedWrite master value) s = .next (conclude s (writeFeed value s)) :=
  congrArg (done s) (asOwMaster_of_true (owMaster_of hmaster) ..)

end Shadow

section Channel

variable {ch mode count : Nat} {s : State}

theorem exec_countdownFire (hmode : (channelOf s ch).mode ≠ 0) (hpowered : owPowered s = true) :
    exec (.countdownFire ch) s = .next (conclude s
      (runToFire ch ((channelRemaining s ch + 1) * 32768 + (channelRemaining s ch + 1) * 32768 / 1024) s)) :=
  if_neg (not_or.2 ⟨hmode, fun hnot => hnot hpowered⟩)

/-- A channel armed with no flag to clear. -/
theorem channelOf_armChannel (hlow : 1 ≤ mode) (hhigh : mode ≤ 2) (hcount : 0 < count) (hch : ch < s.pwr.cd.length) :
    channelOf (armChannel ch mode count false false s) ch =
      { channelOf s ch with mode := mode, count := count, target := (s.pwr.secs + count) % 2 ^ 32 } := by
  have hset : ¬ mode = 0 := by omega
  have harm : ¬ (3 ≤ mode ∨ count = 0) := by omega
  unfold armChannel
  rw [channelOf_modAt rfl, if_pos ⟨rfl, hch⟩]
  simp only [hset, harm, if_false, Bool.not_false, Bool.and_true]

end Channel

/-- Settles O51, clause by clause from what each register's command does for a master it admits. -/
theorem overwinterRegistersRun : Obligations.OverwinterRegistersRun := by
  unfold Obligations.OverwinterRegistersRun
  refine ⟨fun s hpowered => ?makeSeal, fun nonce s => rfl, fun master s hmaster => ⟨?first, ?later, ?timeout, ?arm, ?feed⟩,
    fun ch s hmode hpowered => exec_countdownFire hmode hpowered, ?armed⟩
  case makeSeal => exact congrArg (done s) (makeSeal_of_powered hpowered)
  case first =>
    intro reg hreg hfree v hv
    subst hv
    rw [exec_owClockShadowRead hmaster hreg, readClock_of_free hfree, clockRead, not_all_read_of_first hreg]
    rfl
  case later =>
    intro reg x hreg hheld hin v hv
    subst hv
    rw [exec_owClockShadowRead hmaster hreg, readClock_of_held hheld hin]
    rfl
  case timeout => exact fun x hheld => exec_owShadowTimeout hmaster hheld
  case arm => exact fun ch value hch => exec_countdownArm hmaster hch value
  case feed => exact fun value => exec_owFeedWrite hmaster value
  case armed =>
    intro ch mode count s hlow hhigh hcount hch
    rw [channelOf_armChannel hlow hhigh hcount hch]
    exact ⟨rfl, rfl, rfl, rfl, rfl⟩

end Sys2Proof.Machine
end

section
/-!
PROOFS. What a push, a pop, a level and a doorbell of the mailboxes leave (R77, R385, R441 to R447).
-/

namespace Sys2Proof.Machine

variable {snd rcv : Nat} {s : State}

/-! ### A push (R442, R443, R445) -/

/-- A channel takes words: it is there, neither end is in reset, and no flush waits to be seen (R443, R449, R451). -/
def ChanOpen (snd rcv : Nat) (s : State) : Prop := chanExists s snd rcv = true ∧ (page s snd).inReset = false ∧
  (page s rcv).inReset = false ∧ (chan s snd rcv).txAborted = false ∧ (chan s snd rcv).peerReset = false

/-- The register of the low half, which no test of a push reads. -/
def withLow (snd rcv x : Nat) (s : State) : State := modChan snd rcv (fun c => { c with low := x }) s

theorem ChanOpen.withLow (h : ChanOpen snd rcv s) (x : Nat) : ChanOpen snd rcv (withLow snd rcv x s) := by
  obtain ⟨hthere, hsnd, hrcv, habort, hreset⟩ := h
  have hchan : (chan (Machine.withLow snd rcv x s) snd rcv).txAborted = (chan s snd rcv).txAborted ∧
      (chan (Machine.withLow snd rcv x s) snd rcv).peerReset = (chan s snd rcv).peerReset := by
    simp only [chan, Machine.withLow, modChan, getElem?_modAt, if_true]
    cases s.host.chans[chanNo snd rcv]? with
    | none => exact ⟨rfl, rfl⟩
    | some c => exact ⟨rfl, rfl⟩
  exact ⟨hthere, hsnd, hrcv, hchan.1.trans habort, hchan.2.trans hreset⟩

/-- An open channel's word is not discarded for the state of its ends. -/
theorem ChanOpen.not_discarded (h : ChanOpen snd rcv s) : ¬ (¬ chanExists s snd rcv = true ∨ (page s snd).inReset = true ∨
    (page s rcv).inReset = true ∨ (chan s snd rcv).txAborted = true ∨ (chan s snd rcv).peerReset = true) := by
  obtain ⟨hthere, hsnd, hrcv, habort, hreset⟩ := h
  simp [hthere, hsnd, hrcv, habort, hreset]

theorem push_of_credit (h : ChanOpen snd rcv s) (hcredit : 0 < (chan s snd rcv).credits) (w : Nat) (last : Bool) {s1 : State}
    (hs1 : s1 = modChan snd rcv (fun c => { c with fifo := c.fifo ++ [(w, last)], credits := c.credits - 1 }) s) :
    push snd rcv w last s =
      if levelCount (chan s snd rcv) < (chan s snd rcv).level ∧ (chan s snd rcv).level ≤ levelCount (chan s1 snd rcv)
      then setDoorbell rcv (2 ^ snd) s1 else s1 := by
  subst hs1
  exact (if_neg h.not_discarded).trans (if_neg hcredit.ne')

theorem push_of_no_credit (h : ChanOpen snd rcv s) (hcredit : (chan s snd rcv).credits = 0) (w : Nat) (last : Bool) :
    push snd rcv w last s =
      bumpField 0xA500 1 (5 * snd + rcv) 0 4 (modChan snd rcv (fun c => { c with overrun := true }) s) :=
  (if_neg h.not_discarded).trans (if_pos hcredit)

/-- The state from which a write's word is pushed, and the word: a wide write brings its own low half (R442). -/
def pushFrom (snd rcv : Nat) (wide : Bool) (v : Nat) (s : State) : State :=
  if wide then withLow snd rcv (v % 2 ^ 32) s else s

def pushedWord (snd rcv : Nat) (wide : Bool) (v : Nat) (s : State) : Nat :=
  if wide then v % 2 ^ 64 else v % 2 ^ 32 * 2 ^ 32 + (chan s snd rcv).low

theorem pushWrite_eq (wide : Bool) (v : Nat) (last : Bool) : pushWrite snd rcv wide v last s =
    push snd rcv (pushedWord snd rcv wide v s) last (pushFrom snd rcv wide v s) := by
  cases wide with
  | false => rfl
  | true => rfl

theorem ChanOpen.pushFrom (h : ChanOpen snd rcv s) (wide : Bool) (v : Nat) : ChanOpen snd rcv (pushFrom snd rcv wide v s) := by
  cases wide with
  | false => exact h
  | true => exact h.withLow _

/-- Each of the two commands pushes its word, and the last word of a message to Gesso asks for its service (R385). -/
theorem exec_push {c : Instr} {wide last : Bool} {v : Nat}
    (hc : (c, last) ∈ [(Instr.mailboxPush snd rcv wide v, false), (.mailboxPushEnd snd rcv wide v, true)]) {t : State}
    (ht : push snd rcv (pushedWord snd rcv wide v s) last (pushFrom snd rcv wide v s) = t) :
    exec c s = .next (conclude s (if last ∧ rcv = 1 then refuseService snd t else t)) := by
  rw [← pushWrite_eq] at ht
  simp only [List.mem_cons, Prod.mk.injEq, List.not_mem_nil, or_false] at hc
  obtain ⟨rfl, rfl⟩ | ⟨rfl, rfl⟩ := hc
  · rw [if_neg (by simp), ← ht]
    rfl
  · simp only [true_and, ← ht]
    rfl

/-! ### A pop (R77, R444) -/

section Pop

variable (hthere : chanExists s snd rcv = true) (hrcv : (page s rcv).inReset = false)
include hthere hrcv

theorem exec_mailboxPop : exec (.mailboxPop rcv snd) s = .next (conclude s (afterPop rcv snd (chan s snd rcv) (popWord rcv snd s))) :=
  if_neg (by simp [hthere, hrcv])

theorem exec_mailboxPop_of_word {w : Nat × Bool} {l : List (Nat × Bool)} (hfifo : (chan s snd rcv).fifo = w :: l) {s1 : State}
    (hs1 : s1 = emit (.word rcv (w.1 % 2 ^ 32)) (modChan snd rcv (fun c => { c with
      fifo := l, last := w.1, lastEnd := w.2, credits := if c.txAborted then c.credits else min 8 (c.credits + 1) }) s)) :
    exec (.mailboxPop rcv snd) s = .next (conclude s
      (if w.2 = true ∧ snd = 0 ∧ rcv = pcieServer s1 ∧ (chan s snd rcv).lastEnd = false
        then takeDescriptor rcv (chan s snd rcv).last w.1 s1 else s1)) := by
  have hpop : popWord rcv snd s = s1 := by simp only [popWord, hfifo, hs1]
  rw [exec_mailboxPop hthere hrcv, hpop]
  obtain ⟨word, last⟩ := w
  cases last with
  | false => simp only [afterPop, hfifo, Bool.false_eq_true, false_and, if_false]
  | true => simp only [afterPop, hfifo, Bool.not_eq_true, true_and]

theorem exec_mailboxPop_of_empty (hfifo : (chan s snd rcv).fifo = []) :
    exec (.mailboxPop rcv snd) s = .next (conclude s (emit (.word rcv ((chan s snd rcv).last % 2 ^ 32))
      (bumpField 0xA500 1 (5 * snd + rcv) 4 4 (modChan snd rcv (fun c => { c with underrun := true }) s)))) := by
  rw [exec_mailboxPop hthere hrcv]
  simp only [afterPop, popWord, hfifo]
  rfl

/-! ### Doorbells and levels (R445, R446, R447) -/

theorem exec_dbRingWrite (v : Nat) : exec (.dbRingWrite snd rcv v) s = .next (conclude s (setDoorbell rcv (v &&& 0x7FFFFF00) s)) :=
  congrArg (done s) (if_pos ⟨hthere, by simp [hrcv]⟩)

end Pop

/-- A receiver other than HOST has its bits cleared or its mask written, and no MSI-X vector. -/
theorem exec_doorbellWrite (hlt : rcv < 5) (hne : rcv ≠ 0) (hrcv : (page s rcv).inReset = false) (toMask : Bool) (v : Nat) :
    exec (.doorbellWrite rcv toMask v) s = .next (conclude s (modPage rcv (fun p =>
      if toMask then { p with mask := v % 2 ^ 32 } else { p with doorbell := clearBits p.doorbell (v &&& 0xFFFFFF1F) }) s)) := by
  have hlive : execDoorbellWrite rcv toMask v s = _ := if_pos ⟨hlt, .inl hne, by simp [hrcv]⟩
  exact hlive.trans (congrArg (done s) (if_neg fun hhost => hne hhost.1))

theorem exec_rxLevelWrite (hthere : chanExists s snd rcv = true) (v : Nat) :
    exec (.rxLevelWrite rcv snd v) s = .next (conclude s (rxLevel rcv snd v s)) := if_pos hthere

/-- Settles O46: the pushes by their credits, the pops by the FIFO, and the registers each by its command's lemma. -/
theorem mailboxesRun : Obligations.MailboxesRun := by
  unfold Obligations.MailboxesRun
  intro snd rcv s hthere
  refine ⟨fun hsnd hrcv habort hreset => ?push, fun hrcv => ⟨?word, ?empty, ?ring, ?doorbell⟩, fun v => ?level⟩
  case push =>
    intro v c wide last hc w asked s0 hs0 s1 hs1
    obtain rfl : s0 = pushFrom snd rcv wide v s := hs0
    have hopen : ChanOpen snd rcv (pushFrom snd rcv wide v s) := ChanOpen.pushFrom ⟨hthere, hsnd, hrcv, habort, hreset⟩ wide v
    exact ⟨fun hcredit => exec_push hc (push_of_credit hopen hcredit w last hs1),
      fun hcredit => exec_push hc (push_of_no_credit hopen hcredit w last)⟩
  case word => exact fun w l hfifo s1 hs1 => exec_mailboxPop_of_word hthere hrcv hfifo hs1
  case empty => exact exec_mailboxPop_of_empty hthere hrcv
  case ring => exact exec_dbRingWrite hthere hrcv
  case doorbell => exact fun v toMask hlt hne => exec_doorbellWrite hlt hne hrcv toMask v
  case level =>
    refine ⟨_, exec_rxLevelWrite hthere v, ?_, ?_⟩
    · rw [conclude_host]; rfl
    · rw [conclude_host]; rfl

end Sys2Proof.Machine
end

section
/-!
PROOFS. What the shared cipher engine's registers and events leave (R376, R378 to R381).
-/

namespace Sys2Proof.Machine

variable {master : Nat} {s : State}

/-! ### What a store of a master's octets leaves (R26) -/

theorem accessViolation_sec (master a : Nat) (s : State) : (accessViolation master a s).sec = s.sec :=
  accessViolation_same (p := .sec) (by decide) master a s

/-- An octet goes to a node's record, to a Trellis shadow, nowhere, or to memory. -/
theorem storeSet_sec (a : Nat) (b : Byte) (s : State) : (storeSet a b s).sec = s.sec := by
  simp only [storeSet, apply_ite State.sec, modNode, modTre, setNode_sec, memSet_sec, ite_self]

theorem busStore_sec (master a : Nat) (o : Octets) (s : State) : (busStore master a o s).sec = s.sec := by
  unfold busStore
  split
  · exact foldl_keeps State.sec _ (fun t x => storeSet_sec _ _ t) _ s
  · exact accessViolation_sec ..

theorem zeroOutput_sec (s : State) : (zeroOutput s).sec = s.sec := busStore_sec ..

theorem cipherStore_sec (a : Nat) (o : Octets) (s : State) : (cipherStore a o s).sec = s.sec := busStore_sec ..

/-! ### The lock (R378, R379) -/

theorem asOwner_of_owner (hruns : cipherRuns s = true) (hmaster : cipherOwner master ≠ 0) (howner : s.sec.cipher.owner = cipherOwner master)
    (addr : Nat) (f : State → State) : asOwner master addr f s = f s :=
  (if_neg (by simp [hruns])).trans (if_neg (by simp [hmaster, howner]))

theorem exec_cipherLockRead_of_free (hruns : cipherRuns s = true) (hmaster : cipherOwner master ≠ 0) (hfree : s.sec.cipher.owner = 0) :
    exec (.cipherLockRead master) s = .next (conclude s (emit (.word master (2 ^ 31 + cipherOwner master))
      (modCipher (fun c => { c with owner := cipherOwner master, idleSince := s.clk.elapsed }) s))) :=
  (if_neg (by simp [hruns])).trans (if_pos ⟨hmaster, hfree⟩)

theorem exec_cipherLockRelease_of_owner (hruns : cipherRuns s = true) (hmaster : cipherOwner master ≠ 0)
    (howner : s.sec.cipher.owner = cipherOwner master) :
    exec (.cipherLockRelease master) s = .next (conclude s (cipherRelease s)) := if_pos ⟨hruns, hmaster, howner⟩

theorem cipherForce_of_held (hheld : s.sec.cipher.owner ≠ 0) :
    cipherForce s = cipherRelease (secCount 7 (logEvent 0x42 1 (beOct 1 s.sec.cipher.owner) s)) := if_neg hheld

theorem exec_cipherLockIdleExpiry_of_idle (hheld : s.sec.cipher.owner ≠ 0) (hidle : s.sec.cipher.cmd = none) {t : State}
    (ht : t = advanceElapsed (s.sec.cipher.idleSince + msCycles) s) : exec .cipherLockIdleExpiry s =
      .next (conclude s (cipherRelease (secCount 7 (logEvent 0x42 1 (beOct 1 t.sec.cipher.owner) t)))) := by
  have hforce : cipherForce t = _ := cipherForce_of_held (by rw [ht, advanceElapsed_sec]; exact hheld)
  rw [← hforce, ht]
  exact if_pos ⟨hheld, hidle⟩

theorem cipherAbort_of_idle (hidle : s.sec.cipher.cmd = none) : cipherAbort s = s := by simp only [cipherAbort, hidle]

/-- A free lock holds no key and no command, and is Gesso's where Gesso waits. -/
theorem cipherFree_cipher (s : State) : (cipherFree s).sec.cipher = { s.sec.cipher with
    key := none, cmd := none, owner := if s.sec.cipher.gessoWait then 1 else 0, gessoWait := false, idleSince := s.clk.elapsed } := rfl

/-! ### The key and the command (R376, R379 to R381) -/

section Key

variable {h : Nat} {k : KeySlot} (hkey : keyOf s h = some k) (hlife : keysAllowed s = true) (htamper : tamperHolds s = false)
  (huse : usable k 2 = true) (hmay : bit k.masters (masterBit s.sec.cipher.owner) = true) (hlimit : k.uses < 2 ^ k.hard)

include hkey hlife htamper huse hmay hlimit in
theorem cipherKey_of_usable : cipherKey h s = modCipher (fun c => { c with key := some h, st := 0, keyChange := softPassed s h }) s := by
  simp only [cipherKey, hkey, hlife, htamper, huse, hmay, not_true_eq_false, Bool.false_eq_true, or_self, if_false]
  exact if_neg (Nat.not_le.2 hlimit)

include hkey hlimit in
theorem cipherStart_of_loaded {cmd : Nat} (hidle : s.sec.cipher.cmd = none) (hwait : s.sec.cipher.gessoWait = false)
    (hloaded : s.sec.cipher.key = some h) (hformat : cipherFormat (cmd % 16) s.sec.cipher.regs = false) :
    cipherStart cmd s = modCipher (fun c => { c with st := 1, tooLate := false, cmd := some (cmd % 16, bit cmd 4, cmd / 64 % 4, bit cmd 8)
                                                     keyChange := softPassed (countUse h s) h }) (countUse h s) := by
  simp only [cipherStart, hidle, hwait, hloaded, hkey, hformat, Option.isSome_none, Bool.false_eq_true, false_and, if_false]
  exact if_neg (Nat.not_le.2 hlimit)

end Key

theorem cipherAbortWrite_of_running {mode tagLen : Nat} {decrypt auto : Bool} (hcmd : s.sec.cipher.cmd = some (mode, decrypt, tagLen, auto)) :
    cipherAbortWrite s = cipherEnd auto
      (modCipher (fun c => { c with cmd := none, st := 4, idleSince := s.clk.elapsed }) (zeroOutput s)) := by
  simp only [cipherAbortWrite, cipherAbort, hcmd, Option.isSome_some, if_true]

/-! ### The end of a command (R380, R381) -/

/-- The command in progress is over. -/
def cipherIdle (now : Nat) (s : State) : State := modCipher (fun c => { c with cmd := none, idleSince := now }) s

/-- A tag that fails zeroes the output. -/
def tagFailed (s : State) : State := secCount 5 (modCipher (fun c => { c with st := 3 }) (zeroOutput s))

/-- The output, and the tag where one is generated, are written. -/
def outputWritten (mode : Nat) (decrypt : Bool) (tagLen h : Nat) (input : List Octets) (s : State) : State :=
  let o := cipherOutput mode decrypt h input s
  let s2 := cipherStore (cipherReg s 1) o s
  modCipher (fun c => { c with st := 2 }) (if 3 ≤ mode ∧ ¬ decrypt then
    cipherStore (cipherReg s 6) (padTo (tagOctets tagLen) (Config.crypto "AES tag" mode (keyValue s h :: o :: input))) s2 else s2)

/-- What a command leaves whose ranges its owner may read: a store that its owner may not make ends it in FORMAT (R378). -/
def commandResult (mode : Nat) (decrypt : Bool) (tagLen h : Nat) (authOk : Bool) (s : State) : State :=
  let m := ownerMaster s.sec.cipher.owner
  if decrypt ∧ 3 ≤ mode ∧ ¬ authOk then tagFailed s
  else if ¬ mayWrite s m (cipherReg s 1) (cipherReg s 2) then
    modCipher (fun c => { c with st := 8 }) (accessViolation m (cipherReg s 1) s)
  else outputWritten mode decrypt tagLen h (cipherInput (cipherReads mode decrypt tagLen s) s).1 s

theorem tagFailed_cipher (s : State) : (tagFailed s).sec.cipher = { s.sec.cipher with st := 3 } := by
  simp only [tagFailed, secCount, bump_sec, modCipher, zeroOutput_sec]

theorem tagFailed_mem (s : State) : (tagFailed s).mem = (zeroOutput s).mem := by
  rw [tagFailed, secCount, bump_mem, modCipher_mem]

theorem outputWritten_cipher (mode : Nat) (decrypt : Bool) (tagLen h : Nat) (input : List Octets) (s : State) :
    (outputWritten mode decrypt tagLen h input s).sec.cipher = { s.sec.cipher with st := 2 } := by
  simp only [outputWritten, modCipher]
  split
  · simp only [cipherStore_sec]
  · simp only [cipherStore_sec]

/-- A command's result changes STATE alone of the engine. -/
theorem commandResult_cipher (mode : Nat) (decrypt : Bool) (tagLen h : Nat) (authOk : Bool) (s : State) :
    ∃ st, (commandResult mode decrypt tagLen h authOk s).sec.cipher = { s.sec.cipher with st := st } := by
  unfold commandResult
  dsimp only
  split
  · exact ⟨3, tagFailed_cipher s⟩
  · split
    · exact ⟨8, by simp only [modCipher, accessViolation_sec]⟩
    · exact ⟨2, outputWritten_cipher ..⟩

/-- A command that leaves the lock with its owner frees nothing. -/
theorem cipherEnd_of_kept (hwait : s.sec.cipher.gessoWait = false) : cipherEnd false s = s := if_neg (by simp [hwait])

theorem cipherComplete_of_read {mode tagLen h : Nat} {decrypt : Bool} (authOk : Bool)
    (hcmd : s.sec.cipher.cmd = some (mode, decrypt, tagLen, false)) (hkey : s.sec.cipher.key = some h)
    (hwait : s.sec.cipher.gessoWait = false) (hread : (cipherInput (cipherReads mode decrypt tagLen s) s).2 = none) :
    cipherComplete authOk s = cipherIdle s.clk.elapsed (commandResult mode decrypt tagLen h authOk s) := by
  obtain ⟨st, hst⟩ := commandResult_cipher mode decrypt tagLen h authOk s
  simp only [cipherComplete, hcmd, hkey, hread]
  exact cipherEnd_of_kept (s := cipherIdle s.clk.elapsed (commandResult mode decrypt tagLen h authOk s))
    ((congrArg Cipher.gessoWait hst).trans hwait)

/-- Settles O47: each register by its owner's access, and a completed command by what its result leaves of STATE and memory. -/
theorem cipherEngineRuns : Obligations.CipherEngineRuns := by
  unfold Obligations.CipherEngineRuns
  intro master s hruns c
  refine ⟨exec_cipherLockRead_of_free hruns, fun hmaster howner => ⟨?release, ?key, ?start, ?abort⟩, ?loaded,
    fun hheld hidle t => exec_cipherLockIdleExpiry_of_idle hheld hidle, ?complete, ?free⟩
  case release => exact exec_cipherLockRelease_of_owner hruns hmaster howner
  case key => exact fun handle => congrArg (done s) (asOwner_of_owner hruns hmaster howner ..)
  case start => exact fun cmd => congrArg (done s) (asOwner_of_owner hruns hmaster howner ..)
  case abort =>
    exact fun mode decrypt tagLen auto hcmd =>
      congrArg (done s) ((asOwner_of_owner hruns hmaster howner ..).trans (cipherAbortWrite_of_running hcmd))
  case loaded =>
    exact fun h k hkey hlife htamper huse hmay hlimit => ⟨cipherKey_of_usable hkey hlife htamper huse hmay hlimit,
      fun cmd hidle hwait hloaded hformat => cipherStart_of_loaded hkey hlimit hidle hwait hloaded hformat⟩
  case complete =>
    intro mode decrypt tagLen auto h authOk hcmd hkey
    refine ⟨rfl, fun hauto hwait hread => ?_⟩
    subst hauto
    rw [cipherComplete_of_read authOk hcmd hkey hwait hread]
    refine ⟨rfl, fun hdecrypt hmode hauth => ?failed, fun hpass hmay => ?passed⟩
    case failed =>
      have hresult : commandResult mode decrypt tagLen h authOk s = tagFailed s := if_pos ⟨hdecrypt, hmode, by simp [hauth]⟩
      rw [hresult]
      exact ⟨congrArg Cipher.st (tagFailed_cipher s), tagFailed_mem s⟩
    case passed =>
      have hcond : ¬ (decrypt = true ∧ 3 ≤ mode ∧ ¬ authOk = true) := by
        rintro ⟨hdecrypt, hmode, hauth⟩
        rcases hpass with hencrypt | hplain | hok
        · exact absurd (hencrypt.symm.trans hdecrypt) (by decide)
        · omega
        · exact hauth hok
      have hresult : commandResult mode decrypt tagLen h authOk s = outputWritten .. :=
        (if_neg hcond).trans (if_neg fun hnot => hnot hmay)
      rw [hresult]
      exact congrArg Cipher.st (outputWritten_cipher mode decrypt tagLen h (cipherInput (cipherReads mode decrypt tagLen s) s).1 s)
  case free =>
    intro hidle
    rw [cipherRelease, cipherAbort_of_idle hidle]
    exact ⟨rfl, rfl, rfl, fun hwait => if_neg (ne_true_of_eq_false hwait)⟩

end Sys2Proof.Machine
end

section
/-!
PROOFS. What accepted writes of the feed and tamper objects leave (R465, R468, R479, R480).
-/

namespace Sys2Proof.Machine

variable {q : OdapReq} {u : Session} {s : State}

/-! ### A write that its owner commits at once -/

section OwnedAtOnce

variable {a : Addr} {ty : Nat} {v : Octets} {d : ObjDesc} {c : Instr} {f : State → State}

/-- An accepted write of an object that is not STORED, and that its owner commits at once. -/
theorem exec_owned_at_once (hc : exec c s = done s (odapWrite q a ty v s)) (h : WriteAccepted q a ty v u s)
    (hd : odFind a.idx a.sub = some d) (hkind : d.ty ≠ .domain ∧ d.pers ≠ .stored)
    (ho : ownerCommit u a (masked d v) true (touch q.session s) = some (atOnce f (touch q.session s))) :
    exec c s = .next (afterWrite q s (f (touch q.session s), effA (effNow s))) :=
  exec_write_owned_unstored hc h hd hkind.1 hkind.2 ho

end OwnedAtOnce

@[simp] theorem afterWrite_pwr (q : OdapReq) (s : State) (r : State × Answer) : (afterWrite q s r).pwr = r.1.pwr := by
  simp only [afterWrite, conclude_pwr, respond_pwr]

/-- A number of one octet reads back from the octet it was written to. -/
theorem beNat_beOct_one {n : Nat} (hfit : n < 256) : beNat (beOct 1 n) = n := (beNat_beOct 1 n).trans (Nat.mod_eq_of_lt hfit)

/-! The objects in the tables. -/

theorem odFind_feedSwitch : odFind 0xB010 3 = some (odPage 0xB0)[3] := rfl
theorem odFind_feedClear : odFind 0xB010 4 = some (odPage 0xB0)[4] := rfl
theorem odFind_tamperCfg : odFind 0xB200 1 = some (odPage 0xB2)[0] := rfl
theorem odFind_tamperClear : odFind 0xB200 3 = some (odPage 0xB2)[2] := rfl

/-- A write whose effect is on the supplies alone commits as that. -/
theorem commits_of_pwr {c : Instr} {e : Nat} {x : Pwr}
    (hexec : exec c s = .next (afterWrite q s ({ touch q.session s with pwr := x }, effA e))) :
    Commits q c e [.pwr] s (fun r => r.pwr = x) := by
  refine commits_of_afterWrite hexec (fun p hp => ?_) (afterWrite_pwr ..)
  cases p with
  | srv | pwr => exact absurd (by decide) hp
  | _ => rfl

/-! ### FEED_SWITCH and FEED_CLEAR (R465, R468) -/

section Train

variable {train : Nat} (hfit : train < 256)
include hfit

theorem commits_feedSwitch (h : WriteAccepted q ⟨0xB010, 3, 0⟩ 2 (beOct 1 train) u s) :
    Commits q (.feedSwitchWrite q train) (effNow s) [.pwr, .shd] s (fun r => r.pwr.train = train ∧
      r.pwr.deviated = setAt s.pwr.deviated train false ∧ r.pwr.gapEnd = some (s.clk.elapsed + 8400) ∧ r.pwr.failed = s.pwr.failed ∧
      r.shd = (logEvent 0x64 2 (beOct 1 train) s).shd) := by
  have hexec := exec_owned_at_once (c := .feedSwitchWrite q train) (f := feedSwitch train) rfl h odFind_feedSwitch (by decide)
    (congrArg (fun n => some (atOnce (feedSwitch n) (touch q.session s))) (beNat_beOct_one hfit))
  refine commits_of_afterWrite hexec (fun p hp => ?_) ?_
  · cases p with
    | srv | pwr | shd => exact absurd (by decide) hp
    | _ => rfl
  · rw [afterWrite_pwr, afterWrite_shd]
    exact ⟨rfl, rfl, rfl, rfl, rfl⟩

theorem commits_feedClear (h : WriteAccepted q ⟨0xB010, 4, 0⟩ 2 (beOct 1 train) u s) :
    Commits q (.feedClearWrite q train) (effNow s) [.pwr] s (fun r => r.pwr = { s.pwr with
      deviated := setAt s.pwr.deviated train false, failed := setAt s.pwr.failed train false }) :=
  commits_of_pwr (exec_owned_at_once (c := .feedClearWrite q train) (f := feedClear train) rfl h odFind_feedClear (by decide)
    (congrArg (fun n => some (atOnce (feedClear n) (touch q.session s))) (beNat_beOct_one hfit)))

end Train

/-! ### TAMPER_CFG and TAMPER_CLEAR (R479, R480) -/

theorem commits_tamperCfg {input : Nat} {cfg v : Octets} {d : ObjDesc} (h : WriteAccepted q ⟨0xB200, 1, input⟩ 0xE cfg u s)
    (hd : odFind 0xB200 1 = some d) (hv : v = masked d cfg) :
    Commits q (.tamperCfgWrite q input cfg) (effNow s) [.hed, .od, .pwr] s (fun r => odGet r 0xB200 1 input = v ∧
      r.pwr = { s.pwr with tamper := modAt (fun x =>
        { x with cfg := tamperBits v, active := x.active && armed { x with cfg := tamperBits v } }) s.pwr.tamper input }) := by
  obtain rfl : (odPage 0xB2)[0] = d := Option.some.inj (odFind_tamperCfg.symm.trans hd)
  have hexec := exec_write_at_once (c := .tamperCfgWrite q input cfg) (f := copyTamper input v) rfl h odFind_tamperCfg hv.symm
    ⟨by decide, rfl⟩ rfl rfl rfl
  refine commits_of_afterWrite hexec (fun p hp => ?_) ⟨?_, ?_⟩
  · cases p with
    | srv | hed | od | pwr => exact absurd (by decide) hp
    | _ => rfl
  · rw [odGet_afterWrite]; exact odGet_odPut_self ..
  · rw [afterWrite_pwr]; rfl

theorem commits_tamperClear (h : WriteAccepted q ⟨0xB200, 3, 0⟩ 2 [1] u s) :
    Commits q (.tamperClearWrite q) (effNow s) [.pwr] s (fun r => r.pwr = { s.pwr with tamper := s.pwr.tamper.map (fun x =>
      { x with latched := false, count := 0, secs := 0, sub := 0 }) }) :=
  commits_of_pwr (exec_owned_at_once (c := .tamperClearWrite q) (f := clearTamper) rfl h odFind_tamperClear (by decide) rfl)

/-- Settles O27: each write by its object's commit. -/
theorem feedAndTamperWritesCommit : Obligations.FeedAndTamperWritesCommit := by
  unfold Obligations.FeedAndTamperWritesCommit
  exact ⟨fun q train u s h hfit => commits_feedSwitch hfit h, fun q train u s h hfit => commits_feedClear hfit h,
    fun q input cfg v d u s h hd hv => commits_tamperCfg h hd hv, fun q u s h => commits_tamperClear h⟩

end Sys2Proof.Machine
end

section
/-!
PROOFS. What accepted writes of the key, firmware, attestation, calibration and recovery objects leave (R368, R393, R396, R397, R403,
R416 to R418, R421, R425).
-/

namespace Sys2Proof.Machine

variable {q : OdapReq} {u : Session} {s : State}

@[simp] theorem afterWrite_sec (q : OdapReq) (s : State) (r : State × Answer) : (afterWrite q s r).sec = r.1.sec := by
  simp only [afterWrite, conclude_sec, respond_sec]

@[simp] theorem afterWrite_fw (q : OdapReq) (s : State) (r : State × Answer) : (afterWrite q s r).fw = r.1.fw := by
  simp only [afterWrite, conclude_fw, respond_fw]

@[simp] theorem afterWrite_chip (q : OdapReq) (s : State) (r : State × Answer) : (afterWrite q s r).chip = burn s.chip r.1.chip := by
  simp only [afterWrite, conclude_chip, respond_chip]

/-! What an effect leaves alone. -/

theorem Part.same_refl (p : Part) (s : State) : p.same s s := by cases p <;> rfl

theorem Part.same_withFw {p : Part} (hp : p ≠ .fw) (x : Fw) (s : State) : p.same s { s with fw := x } := by
  cases p with
  | fw => exact absurd rfl hp
  | _ => rfl

theorem Part.same_withShd {p : Part} (hp : p ≠ .shd) (x : Shd) (s : State) : p.same s { s with shd := x } := by
  cases p with
  | shd => exact absurd rfl hp
  | _ => rfl

theorem Part.same_withCtl {p : Part} (hp : p ≠ .ctl) (x : Ctl) (s : State) : p.same s { s with ctl := x } := by
  cases p with
  | ctl => exact absurd rfl hp
  | _ => rfl

/-- What an effect leaves alone of the state that its message touched, it leaves alone of the state before the message. -/
theorem same_of_touched {id : Nat} {t : State} {ps : List Part} (h : ∀ p, p ∉ Part.srv :: ps → p.same (touch id s) t) :
    ∀ p, p ∉ Part.srv :: ps → p.same s t := fun p hp =>
  Part.same_trans (touch_same (fun hs => hp (hs ▸ List.mem_cons_self)) id s) (h p hp)

/-! The objects in the tables. -/

theorem odFind_keyDestroy : odFind 0x8010 3 = some (odPage 0x80)[7] := rfl
theorem odFind_fwActivate : odFind 0x8810 1 = some (odPage 0x88)[5] := rfl
theorem odFind_fwConfirm : odFind 0x8810 2 = some (odPage 0x88)[6] := rfl
theorem odFind_attestChallenge : odFind 0x8830 1 = some (odPage 0x88)[11] := rfl
theorem odFind_calibRequest : odFind 0x9200 1 = some (odPage 0x92)[0] := rfl
theorem odFind_calibCancel : odFind 0x9200 3 = some (odPage 0x92)[2] := rfl
theorem odFind_recoverRequest : odFind 0x9400 4 = some (odPage 0x94)[3] := rfl
theorem odFind_recoveryRelease : odFind 0x9400 7 = some (odPage 0x94)[6] := rfl

/-! ### KEY_DESTROY (R358, R368) -/

theorem slotAt_destroyKey (handle k : Nat) (t : State) : slotAt (destroyKey handle t) k =
    if handle % 512 = k then { gen := ((slotAt t (handle % 512)).gen + 1) % 127 } else slotAt t k :=
  slotAt_freeSlot (handle % 512) k t

theorem commits_keyDestroy {handle : Nat} (h : WriteAccepted q ⟨0x8010, 3, 0⟩ 3 (beOct 2 handle) u s) (hfit : handle < 2 ^ 16) :
    Commits q (.keyDestroyWrite q handle) (effNow s) [.sec] s (fun r =>
      slotAt r (handle % 512) = { gen := ((slotAt s (handle % 512)).gen + 1) % 127 } ∧
      r.sec.storeSlots = serase (handle % 512) s.sec.storeSlots ∧ ∀ n, n ≠ handle % 512 → slotAt r n = slotAt s n) := by
  have hno : beNat (beOct 2 handle) = handle := (beNat_beOct 2 handle).trans (Nat.mod_eq_of_lt hfit)
  have hexec := exec_owned_at_once (c := .keyDestroyWrite q handle) (f := destroyKey handle) rfl h odFind_keyDestroy (by decide)
    (congrArg (fun n => some (atOnce (destroyKey n) (touch q.session s))) hno)
  refine commits_of_afterWrite hexec (fun p hp => ?_) ⟨?_, ?_, fun n hn => ?_⟩
  · cases p with
    | srv | sec => exact absurd (by decide) hp
    | _ => rfl
  · rw [slotAt_congr (afterWrite_sec ..), slotAt_destroyKey, if_pos rfl]; rfl
  · rw [afterWrite_sec]; rfl
  · rw [slotAt_congr (afterWrite_sec ..), slotAt_destroyKey, if_neg hn.symm]; rfl

/-! ### The boot-control record (R393) -/

theorem bootRec_congr {t : State} (h : t.fw = s.fw) : bootRec t = bootRec s := by rw [bootRec, h, bootRec]

theorem bootRec_afterWrite (q : OdapReq) (s : State) (r : State × Answer) : bootRec (afterWrite q s r) = bootRec r.1 :=
  bootRec_congr (afterWrite_fw ..)

/-- The copy that a write leaves has the higher SEQ, so the record read next is the one written. -/
theorem bootRec_writeRec (f : BootRec → BootRec) (s : State) :
    bootRec (writeRec f s) = { f (bootRec s) with seq := (bootRec s).seq + 1 } := by
  cases ha : s.fw.copyA with
  | none =>
    cases hb : s.fw.copyB with
    | none => simp [bootRec, writeRec, newestIsA, ha, hb]
    | some b => simp [bootRec, writeRec, newestIsA, ha, hb]
  | some a =>
    cases hb : s.fw.copyB with
    | none => simp [bootRec, writeRec, newestIsA, ha, hb]
    | some b =>
      by_cases hle : b.seq ≤ a.seq
      · simp [bootRec, writeRec, newestIsA, ha, hb, hle]
      · simp [bootRec, writeRec, newestIsA, ha, hb, hle]

/-- A write of the record touches its two copies alone. -/
theorem writeRec_copies (f : BootRec → BootRec) (s : State) :
    ∃ x y, writeRec f s = { s with fw := { s.fw with copyA := x, copyB := y } } := by
  unfold writeRec
  dsimp only
  split
  · exact ⟨s.fw.copyA, _, rfl⟩
  · exact ⟨_, s.fw.copyB, rfl⟩

theorem writeRec_same {p : Part} (hfw : p ≠ .fw) (f : BootRec → BootRec) (s : State) : p.same s (writeRec f s) := by
  obtain ⟨x, y, h⟩ := writeRec_copies f s
  exact h ▸ Part.same_withFw hfw _ s

theorem writeRec_fw_rejected (f : BootRec → BootRec) (s : State) : (writeRec f s).fw.rejected = s.fw.rejected := by
  obtain ⟨x, y, h⟩ := writeRec_copies f s
  rw [h]

theorem writeRec_fw_trialSince (f : BootRec → BootRec) (s : State) : (writeRec f s).fw.trialSince = s.fw.trialSince := by
  obtain ⟨x, y, h⟩ := writeRec_copies f s
  rw [h]

theorem manifest_writeRec (f : BootRec → BootRec) (s : State) (b : Nat) : manifest (writeRec f s) b = manifest s b := by
  obtain ⟨x, y, h⟩ := writeRec_copies f s
  rw [h]
  rfl

/-! ### A reset that Gesso requests (R394, R397) -/

theorem demand_same {p : Part} (hshd : p ≠ .shd) (d : DueStep) (s : State) : p.same s (demand d s) := by
  unfold demand
  split
  · exact Part.same_withShd hshd _ s
  · exact p.same_refl s

theorem demand_of_unmerged {d : DueStep} (h : unmerged d.step s = true) : demand d s = { s with shd := { s.shd with due := some d } } :=
  if_pos h

/-- With no step due or under way none is merged. -/
theorem unmerged_of_idle (step : Nat) (hdue : s.shd.due = none) (hcycle : s.shd.cycleUntil = none) (hwarm : s.shd.warm = none) :
    unmerged step s = true := by
  simp [unmerged, hdue, hcycle, hwarm]

theorem dropChange_same {p : Part} (hshd : p ≠ .shd) (hctl : p ≠ .ctl) (reason : Nat) (s : State) : p.same s (dropChange reason s) := by
  unfold dropChange
  split
  · exact Part.same_trans (Part.same_withCtl hctl _ s) (Part.same_withShd hshd _ _)
  · exact p.same_refl s

theorem endService_same {p : Part} (hctl : p ≠ .ctl) (m : Mode) (s : State) : p.same s (endService m s).1 :=
  Part.same_withCtl hctl _ s

theorem requestColdBoot_same {p : Part} (hshd : p ≠ .shd) (hctl : p ≠ .ctl) (s : State) : p.same s (requestColdBoot s) := by
  unfold requestColdBoot
  split
  · exact Part.same_trans (Part.same_trans (dropChange_same hshd hctl 1 s) (endService_same hctl _ _)) (demand_same hshd _ _)
  · exact demand_same hshd _ s

/-- A reset is demanded of Shed, after a final superframe that the mode announces. -/
theorem requestReset_same {p : Part} (hshd : p ≠ .shd) (hctl : p ≠ .ctl) (b : Nat) (s : State) : p.same s (requestReset b s) := by
  unfold requestReset
  split
  · exact demand_same hshd _ s
  · exact requestColdBoot_same hshd hctl s

theorem requestReset_fw (b : Nat) (s : State) : (requestReset b s).fw = s.fw :=
  requestReset_same (p := .fw) (by decide) (by decide) b s

theorem bootRec_requestReset (b : Nat) (s : State) : bootRec (requestReset b s) = bootRec s := bootRec_congr (requestReset_fw b s)

section Idle

variable {b : Nat} (hdue : s.shd.due = none) (hcycle : s.shd.cycleUntil = none) (hwarm : s.shd.warm = none)
include hdue hcycle hwarm

theorem requestReset_due_of_warmOk (hok : warmOk (manifest s b) = true) :
    (requestReset b s).shd.due = some ⟨3, fnGesso, 0, 6, s.clk.elapsed⟩ := by
  rw [requestReset, if_pos hok, demand_of_unmerged (unmerged_of_idle _ hdue hcycle hwarm)]

theorem requestReset_due_of_silent (hcold : warmOk (manifest s b) = false) (hsilent : s.ctl.mode.emits = false) :
    (requestReset b s).shd.due = some ⟨4, fnGesso, 0, 6, s.clk.elapsed⟩ := by
  rw [requestReset, hcold, if_neg Bool.false_ne_true, requestColdBoot, hsilent, if_neg Bool.false_ne_true,
    demand_of_unmerged (unmerged_of_idle _ hdue hcycle hwarm)]

end Idle

/-! ### FW_ACTIVATE (R397) -/

theorem bootRec_markPending (s : State) : bootRec (markPending s) =
    { bootRec s with pending := some (idleBank s), pendDigest := shake (manifest s (idleBank s)), seq := (bootRec s).seq + 1 } :=
  bootRec_writeRec (fun r => { r with pending := some (idleBank s), pendDigest := shake (manifest s (idleBank s)) }) s

theorem markPending_rejected (s : State) : (markPending s).fw.rejected = setAt s.fw.rejected (idleBank s) false :=
  congrArg (setAt · (idleBank s) false) (writeRec_fw_rejected _ s)

theorem manifest_markPending (s : State) (b : Nat) : manifest (markPending s) b = manifest s b := manifest_writeRec _ s b

theorem markPending_same {p : Part} (hfw : p ≠ .fw) (s : State) : p.same s (markPending s) :=
  Part.same_trans (writeRec_same hfw (fun r =>
    { r with pending := some (idleBank s), pendDigest := shake (manifest s (idleBank s)) }) s) (Part.same_withFw hfw _ _)

theorem commits_fwActivateCancel (h : WriteAccepted q ⟨0x8810, 1, 0⟩ 2 [0] u s) :
    Commits q (.fwActivateCancel q) (effNow s) [.fw] s (fun r =>
      bootRec r = { bootRec s with pending := none, pendDigest := [], seq := (bootRec s).seq + 1 }) := by
  have hexec := exec_owned_at_once (c := .fwActivateCancel q) (f := writeRec fun r => { r with pending := none, pendDigest := [] }) rfl h
    odFind_fwActivate (by decide) rfl
  refine commits_of_afterWrite hexec (same_of_touched (id := q.session) fun p hp => ?_) ?_
  · exact writeRec_same (fun hfw => hp (by simp [hfw])) _ _
  · exact (bootRec_afterWrite ..).trans (bootRec_writeRec _ (touch q.session s))

theorem commits_fwActivateMark (h : WriteAccepted q ⟨0x8810, 1, 0⟩ 2 [1] u s) :
    Commits q (.fwActivateMark q) (effNow s) [.fw] s (fun r =>
      bootRec r = { bootRec s with
        pending := some (idleBank s), pendDigest := shake (manifest s (idleBank s)), seq := (bootRec s).seq + 1 } ∧
      r.fw.rejected = setAt s.fw.rejected (idleBank s) false) := by
  have hexec := exec_owned_at_once (c := .fwActivateMark q) (f := markPending) rfl h odFind_fwActivate (by decide) rfl
  refine commits_of_afterWrite hexec (same_of_touched (id := q.session) fun p hp => ?_) ⟨?_, ?_⟩
  · exact markPending_same (fun hfw => hp (by simp [hfw])) _
  · exact (bootRec_afterWrite ..).trans (bootRec_markPending _)
  · rw [afterWrite_fw]
    exact markPending_rejected _

theorem fwActivate_reset (t : State) : fwActivate 2 t = requestReset (idleBank t) (markPending t) := rfl

theorem commits_fwActivateReset (h : WriteAccepted q ⟨0x8810, 1, 0⟩ 2 [2] u s) :
    Commits q (.fwActivateReset q) (effNow s) [.fw, .shd, .ctl] s (fun r =>
      (bootRec r).pending = some (idleBank s) ∧
      (warmOk (manifest s (idleBank s)) = true → s.shd.due = none → s.shd.cycleUntil = none → s.shd.warm = none →
        r.shd.due = some ⟨3, fnGesso, 0, 6, s.clk.elapsed⟩) ∧
      (warmOk (manifest s (idleBank s)) = false → s.ctl.mode.emits = false → s.shd.due = none → s.shd.cycleUntil = none →
        s.shd.warm = none → r.shd.due = some ⟨4, fnGesso, 0, 6, s.clk.elapsed⟩)) := by
  have hshd : (markPending (touch q.session s)).shd = s.shd := markPending_same (p := .shd) (by decide) (touch q.session s)
  have hctl : (markPending (touch q.session s)).ctl = s.ctl := markPending_same (p := .ctl) (by decide) (touch q.session s)
  have hclk : (markPending (touch q.session s)).clk = s.clk := markPending_same (p := .clk) (by decide) (touch q.session s)
  have hset : manifest (markPending (touch q.session s)) (idleBank s) = manifest s (idleBank s) := manifest_markPending (touch q.session s) _
  have hexec := exec_owned_at_once (c := .fwActivateReset q) (f := fwActivate 2) rfl h odFind_fwActivate (by decide) rfl
  rw [fwActivate_reset] at hexec
  refine commits_of_afterWrite hexec (same_of_touched (id := q.session) fun p hp => ?_)
    ⟨?_, fun hok hdue hcycle hwarm => ?_, fun hcold hsilent hdue hcycle hwarm => ?_⟩
  · simp only [List.mem_cons, List.not_mem_nil, or_false, not_or] at hp
    obtain ⟨-, hfw, hpshd, hpctl⟩ := hp
    exact Part.same_trans (markPending_same hfw _) (requestReset_same hpshd hpctl _ _)
  · rw [bootRec_afterWrite, bootRec_requestReset, bootRec_markPending]
    rfl
  · rw [afterWrite_shd, ← hclk]
    exact requestReset_due_of_warmOk (hshd ▸ hdue) (hshd ▸ hcycle) (hshd ▸ hwarm) (hset.symm ▸ hok)
  · rw [afterWrite_shd, ← hclk]
    exact requestReset_due_of_silent (hshd ▸ hdue) (hshd ▸ hcycle) (hshd ▸ hwarm) (hset.symm ▸ hcold) (hctl ▸ hsilent)

/-! ### FW_CONFIRM (R396) -/

/-- A bank's record as confirmed, its fuses still to be raised. -/
def confirmedAwaitingFuses (b : Nat) (s : State) : State :=
  let s1 := writeRec (fun r => { r with
    confirmed := b, trial := false, pending := none, raise := true, confDigest := shake (manifest s b), pendDigest := [] }) s
  { s1 with fw := { s1.fw with trialSince := none, rejected := setAt s1.fw.rejected b false } }

theorem bootRec_confirmedAwaitingFuses (b : Nat) (s : State) : bootRec (confirmedAwaitingFuses b s) = { bootRec s with
    confirmed := b, trial := false, pending := none, raise := true, confDigest := shake (manifest s b), pendDigest := []
    seq := (bootRec s).seq + 1 } :=
  bootRec_writeRec (fun r => { r with
    confirmed := b, trial := false, pending := none, raise := true, confDigest := shake (manifest s b), pendDigest := [] }) s

theorem manifest_confirmedAwaitingFuses (b k : Nat) (s : State) : manifest (confirmedAwaitingFuses b s) k = manifest s k :=
  manifest_writeRec _ s k

theorem confirmedAwaitingFuses_same {p : Part} (hfw : p ≠ .fw) (b : Nat) (s : State) : p.same s (confirmedAwaitingFuses b s) :=
  Part.same_trans (writeRec_same hfw (fun r => { r with
    confirmed := b, trial := false, pending := none, raise := true, confDigest := shake (manifest s b), pendDigest := [] }) s)
    (Part.same_withFw hfw _ _)

/-- A bank's confirmation raises its fuses in the same act, since its record has RAISE. -/
theorem confirmBank_eq (b : Nat) (s : State) : confirmBank b s = writeRec (fun r => { r with raise := false })
    { confirmedAwaitingFuses b s with chip := blowFuses (manifest s b) s.chip } := by
  have hrec := bootRec_confirmedAwaitingFuses b s
  have hchip : (confirmedAwaitingFuses b s).chip = s.chip := confirmedAwaitingFuses_same (p := .chip) (by decide) b s
  change raiseFuses (confirmedAwaitingFuses b s) = _
  rw [raiseFuses, hrec, if_pos rfl, manifest_confirmedAwaitingFuses, hchip]

theorem bootRec_confirmBank (b : Nat) (s : State) : bootRec (confirmBank b s) = { bootRec s with
    confirmed := b, trial := false, pending := none, raise := false, confDigest := shake (manifest s b), pendDigest := []
    seq := (bootRec s).seq + 2 } := by
  have hrec : bootRec { confirmedAwaitingFuses b s with chip := blowFuses (manifest s b) s.chip } = _ := bootRec_confirmedAwaitingFuses b s
  rw [confirmBank_eq, bootRec_writeRec, hrec]

theorem confirmBank_chip (b : Nat) (s : State) : (confirmBank b s).chip = blowFuses (manifest s b) s.chip := by
  rw [confirmBank_eq]
  exact writeRec_same (p := .chip) (by decide) _ _

theorem confirmBank_trialSince (b : Nat) (s : State) : (confirmBank b s).fw.trialSince = none := by
  rw [confirmBank_eq, writeRec_fw_trialSince]
  rfl

theorem confirmBank_same {p : Part} (hfw : p ≠ .fw) (hchip : p ≠ .chip) (b : Nat) (s : State) : p.same s (confirmBank b s) := by
  rw [confirmBank_eq]
  refine Part.same_trans (Part.same_trans (confirmedAwaitingFuses_same hfw b s) ?_) (writeRec_same hfw _ _)
  cases p with
  | chip => exact absurd rfl hchip
  | _ => rfl

theorem bootRec_rejectBank (b : Nat) (s : State) : bootRec (rejectBank b s) = { bootRec s with
    rejDigest := (bootRec s).pendDigest, pendDigest := [], pending := none, trial := false, seq := (bootRec s).seq + 1 } :=
  bootRec_writeRec (fun r => { r with rejDigest := r.pendDigest, pendDigest := [], pending := none, trial := false }) s

theorem rejectBank_rejected (b : Nat) (s : State) : (rejectBank b s).fw.rejected = setAt s.fw.rejected b true :=
  congrArg (setAt · b true) (writeRec_fw_rejected _ s)

theorem rejectBank_same {p : Part} (hfw : p ≠ .fw) (b : Nat) (s : State) : p.same s (rejectBank b s) :=
  Part.same_trans (writeRec_same hfw (fun r =>
    { r with rejDigest := r.pendDigest, pendDigest := [], pending := none, trial := false }) s) (Part.same_withFw hfw _ _)

section Confirm

variable {b : Nat} (hpend : (bootRec s).pending = some b)
include hpend

theorem fwConfirm_confirm : fwConfirm 1 s = confirmBank b s := by simp only [fwConfirm, hpend, if_true]

theorem fwConfirm_reject : fwConfirm 0 s = requestReset b (rejectBank b s) := by
  simp only [fwConfirm, hpend, zero_ne_one, if_false]

theorem commits_fwConfirm (h : WriteAccepted q ⟨0x8810, 2, 0⟩ 2 [1] u s) :
    Commits q (.fwConfirm q) (effNow s) [.fw, .chip] s (fun r => (bootRec r).confirmed = b ∧ (bootRec r).pending = none ∧
      (bootRec r).trial = false ∧ (bootRec r).raise = false ∧ (bootRec r).confDigest = shake (manifest s b) ∧ r.fw.trialSince = none ∧
      r.chip = burn s.chip (blowFuses (manifest s b) s.chip)) := by
  have hexec := exec_owned_at_once (c := .fwConfirm q) (f := fwConfirm 1) rfl h odFind_fwConfirm (by decide) rfl
  rw [fwConfirm_confirm (s := touch q.session s) hpend] at hexec
  refine commits_of_afterWrite hexec (same_of_touched (id := q.session) fun p hp => ?_) ?_
  · simp only [List.mem_cons, List.not_mem_nil, or_false, not_or] at hp
    obtain ⟨-, hfw, hchip⟩ := hp
    exact confirmBank_same hfw hchip b _
  · rw [bootRec_afterWrite, bootRec_confirmBank, afterWrite_fw, confirmBank_trialSince, afterWrite_chip, confirmBank_chip]
    exact ⟨rfl, rfl, rfl, rfl, rfl, rfl, rfl⟩

theorem commits_fwReject (h : WriteAccepted q ⟨0x8810, 2, 0⟩ 2 [0] u s) :
    Commits q (.fwReject q) (effNow s) [.fw, .shd, .ctl] s (fun r => (bootRec r).pending = none ∧ (bootRec r).trial = false ∧
      (bootRec r).rejDigest = (bootRec s).pendDigest ∧ (bootRec r).confirmed = (bootRec s).confirmed ∧
      r.fw.rejected = setAt s.fw.rejected b true) := by
  have hexec := exec_owned_at_once (c := .fwReject q) (f := fwConfirm 0) rfl h odFind_fwConfirm (by decide) rfl
  rw [fwConfirm_reject (s := touch q.session s) hpend] at hexec
  refine commits_of_afterWrite hexec (same_of_touched (id := q.session) fun p hp => ?_) ?_
  · simp only [List.mem_cons, List.not_mem_nil, or_false, not_or] at hp
    obtain ⟨-, hfw, hshd, hctl⟩ := hp
    exact Part.same_trans (rejectBank_same hfw b _) (requestReset_same hshd hctl b _)
  · rw [bootRec_afterWrite, bootRec_requestReset, bootRec_rejectBank, afterWrite_fw, requestReset_fw, rejectBank_rejected]
    exact ⟨rfl, rfl, rfl, rfl, rfl⟩

end Confirm

/-! ### ATTEST_CHALLENGE (R403) -/

theorem commits_attestChallenge {challenge : Octets} (h : WriteAccepted q ⟨0x8830, 1, 0⟩ 0xD challenge u s) :
    Commits q (.attestChallengeWrite q challenge) (effNow s) [.fw] s (fun r => r.fw = { s.fw with
      report := attestBody challenge s ++ identitySign "FL96-ATTEST" (attestBody challenge s) s, formedAt := some s.clk.elapsed }) := by
  have hexec := exec_owned_at_once (c := .attestChallengeWrite q challenge) (f := formReport challenge) rfl h odFind_attestChallenge
    (by decide) rfl
  refine commits_of_afterWrite hexec (same_of_touched (id := q.session) fun p hp => ?_) ?_
  · exact Part.same_withFw (fun hfw => hp (by simp [hfw])) _ _
  · rw [afterWrite_fw]; rfl

/-! ### CALIB_REQUEST and CALIB_CANCEL (R416 to R418) -/

/-- Opportunities are not of the server. -/
theorem opportunity_touch (id item target : Nat) (force : Bool) (s : State) :
    opportunity (touch id s) item target force = opportunity s item target force := rfl

/-- A request of an item, as its record spells it. -/
def calibRecord (item target : Nat) (force : Bool) : Octets := beOct 1 item ++ beOct 1 target ++ [if force then 1 else 0, 0]

/-- The request that an opportunity is found for. -/
def calibAsked (item target : Nat) (force : Bool) (a : Nat) (s : State) : CalReq :=
  { item := item, target := target, force := force, st := 1, order := s.shd.calOrder, asn := a }

/-- A request is queued, with its notice in force where it has FORCE. -/
def calibQueued (item target : Nat) (force : Bool) (a : Nat) (s : State) : State :=
  { s with
    shd := { s.shd with cal := setAt s.shd.cal (calRow s) (calibAsked item target force a s), calOrder := s.shd.calOrder + 1 }
    eas := if force then { s.eas with notices := noticesInForce s ++
      [{ first := a, slots := 1, paths := noticePaths item target, calRow := calRow s }] } else s.eas }

/-- The mask of CALIB_REQUEST keeps the item, the target and FORCE. -/
theorem masked_calibRecord (item target : Nat) (force : Bool) :
    masked (odPage 0x92)[0] (calibRecord item target force) = calibRecord item target force := by
  have hkept (x : BitVec 8) : x &&& 255#8 = x := BitVec.and_allOnes
  cases force with
  | false => simp [masked, calibRecord, odPage, odTable92, beOct, hkept]
  | true => simp [masked, calibRecord, odPage, odTable92, beOct, hkept]

section Request

variable {item target : Nat} {force : Bool} (hitem : item < 256) (htarget : target < 256)
include hitem htarget

theorem fields_calibRecord : fieldNat (calibRecord item target force) 0 1 = item ∧ fieldNat (calibRecord item target force) 1 1 = target ∧
    bit (fieldNat (calibRecord item target force) 2 1) 0 = force := by
  refine ⟨fieldNat_append_beOct [] (n := 1) hitem _, ?_, ?_⟩
  · exact fieldNat_append_beOct (beOct 1 item) (n := 1) htarget [if force then 1 else 0, 0]
  · have hflags := fieldNat_append_beOct (beOct 1 item ++ beOct 1 target) (n := 1) (x := if force then 1 else 0) (by split <;> omega) [0]
    cases force with
    | false => exact congrArg (bit · 0) hflags
    | true => exact congrArg (bit · 0) hflags

theorem calibCommit_of_opportunity {a : Nat} (hroom : calibFull s force = false) (hopp : opportunity s item target force = some a) :
    calibCommit (calibRecord item target force) s = (calibQueued item target force a s, effA a) := by
  obtain ⟨hi, ht, hf⟩ := fields_calibRecord (force := force) hitem htarget
  simp only [calibCommit, hi, ht, hf, hroom, hopp, Bool.false_eq_true, if_false]
  cases force with
  | false => rfl
  | true => rfl

theorem calibCommit_of_none (hnone : calibFull s force = true ∨ opportunity s item target force = none) :
    ∃ r, calibCommit (calibRecord item target force) s = (logCal r 2 s, errA stBusy) := by
  obtain ⟨hi, ht, hf⟩ := fields_calibRecord (force := force) hitem htarget
  have hopp : (if calibFull s force = true then none else opportunity s item target force) = none := by
    split
    · rfl
    · next hroom => exact hnone.resolve_left hroom
  refine ⟨{ item := item, target := target, force := force, st := 1, order := s.shd.calOrder }, ?_⟩
  simp only [calibCommit, hi, ht, hf, hopp]

end Request

/-- The command that asks for a calibration, with or without FORCE. -/
def calibCommand (q : OdapReq) (item target : Nat) (force : Bool) : Instr :=
  if force then .calibRequestForce q item target else .calibRequestWrite q item target

theorem exec_calibCommand (q : OdapReq) (item target : Nat) (force : Bool) (s : State) : exec (calibCommand q item target force) s =
    done s (odapWrite q ⟨0x9200, 1, 0⟩ 0xE (calibRecord item target force) s) := by
  cases force with
  | false => rfl
  | true => rfl

/-- A request's queueing is Shed's and, with FORCE, of the notices. -/
theorem calibQueued_same {p : Part} (hshd : p ≠ .shd) (heas : p ≠ .eas) (item target : Nat) (force : Bool) (a : Nat) (s : State) :
    p.same s (calibQueued item target force a s) := by
  cases p with
  | shd => exact absurd rfl hshd
  | eas => exact absurd rfl heas
  | _ => rfl

section Calibration

variable {item target : Nat} {force : Bool} (h : WriteAccepted q ⟨0x9200, 1, 0⟩ 0xE (calibRecord item target force) u s)
include h

theorem exec_calibRequest {r : State × Answer} (hr : calibCommit (calibRecord item target force) (touch q.session s) = r) :
    exec (calibCommand q item target force) s = .next (afterWrite q s r) := by
  refine exec_write_owned_unstored (exec_calibCommand q item target force s) h odFind_calibRequest (by decide) (by decide) ?_
  rw [masked_calibRecord, ← hr]
  rfl

variable (hitem : item < 256) (htarget : target < 256)
include hitem htarget

theorem commits_calibRequest {a : Nat} (hroom : calibFull s force = false) (hopp : opportunity s item target force = some a) :
    Commits q (calibCommand q item target force) a [.shd, .eas] s (fun r => r.shd = { s.shd with
        cal := setAt s.shd.cal (calRow s) { item := item, target := target, force := force, st := 1, order := s.shd.calOrder, asn := a }
        calOrder := s.shd.calOrder + 1 } ∧
      r.eas = if force then { s.eas with notices := noticesInForce s ++
        [{ first := a, slots := 1, paths := noticePaths item target, calRow := calRow s }] } else s.eas) := by
  have hexec := exec_calibRequest h (calibCommit_of_opportunity (s := touch q.session s) hitem htarget hroom
    ((opportunity_touch ..).trans hopp))
  refine commits_of_afterWrite hexec (same_of_touched (id := q.session) fun p hp => ?_) ?_
  · simp only [List.mem_cons, List.not_mem_nil, or_false, not_or] at hp
    obtain ⟨-, hshd, heas⟩ := hp
    exact calibQueued_same hshd heas ..
  · rw [afterWrite_shd, afterWrite_eas]
    exact ⟨rfl, rfl⟩

theorem refuses_calibRequest (hnone : calibFull s force = true ∨ opportunity s item target force = none) :
    Gives (exec (calibCommand q item target force) s) (fun r =>
      Answers q 2 (errA stBusy) r ∧ OnlyChanges [.srv, .shd] s r ∧ r.shd.cal = s.shd.cal) := by
  obtain ⟨x, hbusy⟩ := calibCommit_of_none (s := touch q.session s) hitem htarget (hnone.imp_right (opportunity_touch ..).trans)
  refine ⟨_, exec_calibRequest h hbusy, answers_afterWrite (errA_ne_owedA stBusy 0),
    onlyChanges_afterWrite (same_of_touched (id := q.session) fun p hp => ?_), ?_⟩
  · exact Part.same_withShd (fun hshd => hp (by simp [hshd])) _ _
  · rw [afterWrite_shd]; rfl

end Calibration

theorem abortCal_of_row {row : Nat} {x : CalReq} (outcome : Nat) (hrow : s.shd.cal[row]? = some x) :
    abortCal row outcome s = logCal x outcome { s with
      shd := { s.shd with cal := modAt (fun x => { x with st := 4 }) s.shd.cal row }
      eas := { s.eas with notices := s.eas.notices.filter (fun n => !(x.force && n.calRow == row && n.first == x.asn)) } } := by
  simp only [abortCal, hrow]

theorem commits_calibCancel {row : Nat} {x : CalReq} (h : WriteAccepted q ⟨0x9200, 3, 0⟩ 2 (beOct 1 row) u s) (hfit : row < 256)
    (hrow : s.shd.cal[row]? = some x) : Commits q (.calibCancelWrite q row) (effNow s) [.shd, .eas] s (fun r =>
      r.shd.cal = modAt (fun x => { x with st := 4 }) s.shd.cal row) := by
  have hexec := exec_owned_at_once (c := .calibCancelWrite q row) (f := abortCal row 3) rfl h odFind_calibCancel (by decide)
    (congrArg (fun n => some (atOnce (abortCal n 3) (touch q.session s))) (beNat_beOct_one hfit))
  rw [abortCal_of_row (s := touch q.session s) 3 hrow] at hexec
  refine commits_of_afterWrite hexec (fun p hp => ?_) ?_
  · cases p with
    | srv | shd | eas => exact absurd (by decide) hp
    | _ => rfl
  · rw [afterWrite_shd]; rfl

/-! ### RECOVER_REQUEST and RECOVERY_RELEASE (R421, R425) -/

/-- A step asked for, as its record spells it. -/
def recoverRecord (fn inst step : Nat) : Octets := beOct 1 fn ++ beOct 1 inst ++ beOct 1 step

/-- An accepted RECOVER_REQUEST. -/
theorem exec_recoverRequest {fn inst step : Nat} (h : WriteAccepted q ⟨0x9400, 4, 0⟩ 0xE (recoverRecord fn inst step) u s) :
    exec (.recoverRequestWrite q fn inst step) s =
      .next (afterWrite q s (recoverRequest (recoverRecord fn inst step) (touch q.session s), effA (effNow s))) :=
  exec_owned_at_once (f := recoverRequest (recoverRecord fn inst step)) rfl h odFind_recoverRequest (by decide) rfl

section Recover

variable {fn inst step : Nat} (hfn : fn < 256) (hinst : inst < 256) (hstep : step < 256)
include hfn hinst hstep

theorem fields_recoverRecord : fieldNat (recoverRecord fn inst step) 0 1 = fn ∧ fieldNat (recoverRecord fn inst step) 1 1 = inst ∧
    fieldNat (recoverRecord fn inst step) 2 1 = step := by
  refine ⟨fieldNat_append_beOct [] (n := 1) hfn _, fieldNat_append_beOct (beOct 1 fn) (n := 1) hinst (beOct 1 step), ?_⟩
  exact fieldNat_append_beOct (beOct 1 fn ++ beOct 1 inst) (n := 1) hstep []

theorem recoverRequest_of_record : recoverRequest (recoverRecord fn inst step) s =
    if step = 2 then (if inL2 s fn inst then s else doL2 fn inst s)
    else demand ⟨step, fn, inst, 6, s.clk.elapsed + 10 * msCycles⟩ s := by
  obtain ⟨hf, hi, hs⟩ := fields_recoverRecord hfn hinst hstep
  simp only [recoverRequest, hf, hi, hs]

variable (h : WriteAccepted q ⟨0x9400, 4, 0⟩ 0xE (recoverRecord fn inst step) u s)
include h

theorem commits_recoverStep (hnot : step ≠ 2) (hdue : s.shd.due = none) (hcycle : s.shd.cycleUntil = none) (hwarm : s.shd.warm = none) :
    Commits q (.recoverRequestWrite q fn inst step) (effNow s) [.shd] s (fun r =>
      r.shd = { s.shd with due := some ⟨step, fn, inst, 6, s.clk.elapsed + 10 * msCycles⟩ }) := by
  have hexec := exec_recoverRequest h
  rw [recoverRequest_of_record hfn hinst hstep, if_neg hnot,
    demand_of_unmerged (unmerged_of_idle (s := touch q.session s) step hdue hcycle hwarm)] at hexec
  refine commits_of_afterWrite hexec (same_of_touched (id := q.session) fun p hp => ?_) ?_
  · exact Part.same_withShd (fun hshd => hp (by simp [hshd])) _ _
  · rw [afterWrite_shd]; rfl

theorem exec_recoverL2 (hl2 : step = 2) (hout : inL2 s fn inst = false) : exec (.recoverRequestWrite q fn inst step) s =
    .next (afterWrite q s (doL2 fn inst (touch q.session s), effA (effNow s))) := by
  have hidle : inL2 (touch q.session s) fn inst = false := hout
  rw [exec_recoverRequest h, recoverRequest_of_record hfn hinst hstep, if_pos hl2, hidle, if_neg Bool.false_ne_true]

theorem commits_recoverL2_again (hl2 : step = 2) (hin : inL2 s fn inst = true) :
    Commits q (.recoverRequestWrite q fn inst step) (effNow s) [] s (fun _ => True) := by
  have hunder : inL2 (touch q.session s) fn inst = true := hin
  have hexec := exec_recoverRequest h
  rw [recoverRequest_of_record hfn hinst hstep, if_pos hl2, if_pos hunder] at hexec
  exact commits_of_afterWrite hexec (same_of_touched (id := q.session) fun p _ => p.same_refl _) trivial

end Recover

theorem commits_recoveryRelease (h : WriteAccepted q ⟨0x9400, 7, 0⟩ 2 [1] u s) :
    Commits q (.recoveryReleaseWrite q) (effNow s) [.shd, .pwr] s (fun r =>
      r.shd = { s.shd with halted := false, l3Hist := [], faulted := [] } ∧
      r.pwr = { s.pwr with backup := s.pwr.backup.take 56 ++ List.replicate 8 0 }) := by
  have hexec := exec_owned_at_once (c := .recoveryReleaseWrite q) (f := recoveryRelease) rfl h odFind_recoveryRelease (by decide) rfl
  refine commits_of_afterWrite hexec (fun p hp => ?_) ?_
  · cases p with
    | srv | shd | pwr => exact absurd (by decide) hp
    | _ => rfl
  · rw [afterWrite_shd, afterWrite_pwr]
    exact ⟨rfl, rfl⟩

/-- Settles O25: each write by its object's commit. -/
theorem securityAndFirmwareWritesCommit : Obligations.SecurityAndFirmwareWritesCommit := by
  unfold Obligations.SecurityAndFirmwareWritesCommit
  refine ⟨fun q handle u s h hfit => commits_keyDestroy h hfit, fun q u s h => commits_fwActivateCancel h,
    fun q u s h => commits_fwActivateMark h, fun q u s h => commits_fwActivateReset h, fun q u b s h hpend => commits_fwConfirm hpend h,
    fun q u b s h hpend => commits_fwReject hpend h, fun q challenge u s h => commits_attestChallenge h, ?calibration,
    fun q row x u s h hfit hrow => commits_calibCancel h hfit hrow, ?recovery, fun q u s h => commits_recoveryRelease h⟩
  case calibration =>
    intro q item target force u s hitem htarget h
    exact ⟨fun a hroom hopp => commits_calibRequest h hitem htarget hroom hopp, fun hnone => refuses_calibRequest h hitem htarget hnone⟩
  case recovery =>
    intro q fn inst step u s hfn hinst hstep h
    exact ⟨fun hnot hdue hcycle hwarm => commits_recoverStep hfn hinst hstep h hnot hdue hcycle hwarm,
      fun hl2 hout => exec_recoverL2 hfn hinst hstep h hl2 hout, fun hl2 hin => commits_recoverL2_again hfn hinst hstep h hl2 hin⟩

end Sys2Proof.Machine
end
